-- ==== Sys2Proof/Word.lean ====
section
/-! DEFINITION. The word types and the plainest arithmetic on them: bytes, little-endian values (R10), bit ranges,
and free-running 32-bit counts (R144). -/

namespace Sys2Proof

/-- One byte. -/
abbrev Byte := BitVec 8

/-- A 32-bit register of BAR0. -/
abbrev Reg := BitVec 32

/-- A 64-byte work descriptor or admin command, byte 0 in bits [7:0] (R10). -/
abbrev Raw := BitVec 512

/-- Bits [lo + w - 1 : lo] of `n`. -/
def bits (n lo w : Nat) : Nat := (n >>> lo) % 2 ^ w

/-- `n` with bits [lo + w - 1 : lo] replaced by the low `w` bits of `v`. -/
def putBits (n lo w v : Nat) : Nat :=
  n - (bits n lo w) * 2 ^ lo + (v % 2 ^ w) * 2 ^ lo

/-- Bit `i` of `n`. -/
def bitAt (n i : Nat) : Bool := n.testBit i

/-- 1 for true. -/
def b2n (b : Bool) : Nat := if b then 1 else 0

/-- The little-endian value of a list of bytes (R10). -/
def leNat : List Byte → Nat
  | [] => 0
  | b :: t => b.toNat + 256 * leNat t

/-- `k` bytes of `n`, lowest address first (R10). -/
def leBytes : Nat → Nat → List Byte
  | 0, _ => []
  | k + 1, n => BitVec.ofNat 8 n :: leBytes k (n / 256)

/-- The little-endian value of `n` bytes at offset `off` of a list. -/
def leAt (l : List Byte) (off n : Nat) : Nat := leNat ((l.drop off).take n)

/-- `k` zero bytes. -/
def zeros (k : Nat) : List Byte := List.replicate k 0

/-- Difference of two free-running 32-bit counts (R144). -/
def sub32 (a b : Nat) : Nat := (a + 2 ^ 32 - b % 2 ^ 32) % 2 ^ 32

/-- Sum on a free-running 32-bit count (R144). -/
def add32 (a b : Nat) : Nat := (a + b) % 2 ^ 32

/-- A count that saturates at `mx` (R135). -/
def satAdd (mx a b : Nat) : Nat := min mx (a + b)

/-- Bits [lo + w - 1 : lo] of a 64-byte descriptor or command. -/
def Raw.field (r : Raw) (lo w : Nat) : Nat := bits r.toNat lo w

/-- The 64 bytes of a descriptor or command. -/
def Raw.bytes (r : Raw) : List Byte := leBytes 64 r.toNat

/-- A descriptor or command from its bytes. -/
def Raw.ofBytes (l : List Byte) : Raw := BitVec.ofNat 512 (leNat l)

/-- Digit `k` (0 to 3) of a packed coordinate (R5). -/
def digit (c k : Nat) : Nat := bits c (5 * k) 5

/-- A packed coordinate with digit `k` replaced (R5). -/
def setDigit (c k x : Nat) : Nat := putBits c (5 * k) 5 x

/-- The null coordinate (R74). -/
def nullCoord : Nat := 0xFFFFF

/-- A 64-bit value read as two's complement. -/
def toInt64 (n : Nat) : Int := if n % 2 ^ 64 < 2 ^ 63 then (n % 2 ^ 64 : Nat) else (n % 2 ^ 64 : Nat) - (2 : Int) ^ 64

/-- An integer held in 32 bits, two's complement. -/
def ofInt32 (i : Int) : Nat := (i % (2 : Int) ^ 32).toNat

end Sys2Proof
end

