-- ==== Sys2Proof/Syntax.lean ====
section
/-! DEFINITION. The commands of the block: one constructor of `Instr` for each row of spec/opcode_table.json, and the
data that the commands carry (accesses, packets, flits, frames, admin commands). -/

namespace Sys2Proof

/-- How a read that the device made of host memory ended (R55, R376, R171): with data, or with Unsupported Request,
Completer Abort, poisoned data or a completion timeout. -/
inductive ReadStatus where
  | ok | ur | ca | poison | timeout
  deriving DecidableEq, Repr

/-- A BAR0 write: the function, the byte offset in its BAR0, the access size in bytes, the data (byte 0 in bits [7:0])
and the byte enables (bit i for byte i of the access) (R122, R123). -/
structure RegAcc where
  func : Nat
  off : Nat
  size : Nat
  value : Nat
  be : Nat
  deriving DecidableEq, Repr

/-- A BAR2 write: the function, the byte offset in its BAR2, the length in bytes, the data (byte 0 in bits [7:0]) and
the byte enables (R113, R114). -/
structure Bar2Write where
  func : Nat
  off : Nat
  len : Nat
  value : Nat
  be : Nat
  deriving DecidableEq, Repr

/-- Where a host read goes: BAR0, BAR2 or configuration space. -/
inductive ReadSpace where
  | bar0 | bar2 | config
  deriving DecidableEq, Repr

/-- A host read: its space, the function, the byte offset, the size in bytes and the byte enables (R122, R123, R665). -/
structure HostRead where
  space : ReadSpace
  func : Nat
  off : Nat
  size : Nat
  be : Nat
  deriving DecidableEq, Repr

/-- An admin command as the admin engine holds it: the function whose queue gave it and its 64 bytes (R177). -/
structure AdminCmd where
  func : Nat
  raw : Raw
  deriving DecidableEq, Repr

/-- A request identity (R89), or a message identity (R255). -/
structure ReqId where
  src : Nat
  tag : Nat
  epoch : Nat
  deriving DecidableEq, Repr

/-- A fabric packet: its header fields (R514), its extension of 8 × EXTLEN bytes (R516) and its payload (R513).
`sentAgo` holds SENT_AGO in a request and RESIDENCE in a response. -/
structure Pkt where
  dest : Nat := 0
  src : Nat := 0
  ptype : Nat := 0
  tclass : Nat := 0
  divert : Bool := false
  hops : Nat := 0
  redir : Bool := false
  attempt : Nat := 0
  tag : Nat := 0
  epoch : Nat := 0
  via : Nat := 0
  plabel : Nat := 0
  sentAgo : Nat := 0
  age : Nat := 0
  txtime : Nat := 0
  status : Nat := 0
  sub : Nat := 0
  vc : Nat := 0
  ext : List Byte := []
  payload : List Byte := []
  deriving DecidableEq, Repr

/-- A request packet at the target: the packet, whether it is served locally under R81, the tick of its receipt at the
local port (R228), the port it arrived on, how the reads of host memory for its access end, and the engine that serves it. -/
structure Req where
  pkt : Pkt
  loc : Bool := false
  rx : Nat := 0
  port : Nat := 0
  rd : ReadStatus := .ok
  eng : Nat := 0
  deriving DecidableEq, Repr

/-- A link flit (R488): the header fields, the CRC among them (R490), the 56-byte body, and the parity bits of its two
blocks of 256 bits (R480). -/
structure Flit where
  kind : Nat := 0
  vc : Nat := 0
  sop : Bool := false
  eop : Bool := false
  abort : Bool := false
  ackv : Bool := false
  seq : Nat := 0
  ackseq : Nat := 0
  crvc : Nat := 0
  crcum : Nat := 0
  body : List Byte := []
  crc : Nat := 0
  par0 : Bool := false
  par1 : Bool := false
  deriving DecidableEq, Repr

/-- A flit as it was received: with the lane that brought it, and the symbols corrected in its codeword where this is the first flit of that
codeword to be handled (R505). -/
structure RxFlit extends Flit where
  lane : Nat := 0
  corr : Nat := 0
  deriving DecidableEq, Repr

/-- A flit that fails R493 as it was received: the logical lane that brought it, whether its codeword was uncorrectable,
whether it is the first flit of that codeword to be handled (a codeword is one error event, R503), the bits received, and the symbols
corrected in the codeword, as for `RxFlit`. -/
structure BadFlit where
  lane : Nat := 0
  cw : Bool := true
  first : Bool := true
  fl : Flit := {}
  corr : Nat := 0
  deriving DecidableEq, Repr

/-- A mirror record (R528): its RTYPE and the bytes after its 4-byte header. -/
structure MRec where
  rtype : Nat
  body : List Byte
  deriving DecidableEq, Repr

/-- The parameters of a TWIN_CONFIG and the registers that both devices of a pair must agree on (R533). -/
structure TwinParams where
  coord : Nat := 0xFFFFF
  hostmode : Nat := 0
  wqBase : Nat := 0
  wqCount : Nat := 0
  cqBase : Nat := 0
  cqCount : Nat := 0
  eqBase : Nat := 0
  eqCount : Nat := 0
  mapBase : Nat := 0
  mapCount : Nat := 0
  leaseDur : Nat := 0
  ovfDur : Nat := 0
  hbMiss : Nat := 0
  guardT : Nat := 0
  fenceWin : Nat := 0
  deriving DecidableEq, Repr

/-- A mirror frame (R525): the header, the records of a RECORD frame or the heartbeat body, its CRC, the lane that a CRC failure is charged to (R524), and, with a heartbeat, the parameters of the TWIN_CONFIG that
the twin has issued, if any (R533: the spec names no frame that carries them). -/
structure MFrame where
  kind : Nat := 0
  seq : Nat := 0
  ackseq : Nat := 0
  ackv : Bool := false
  recs : List MRec := []
  hb : List Byte := []
  crc : Nat := 0
  lane : Nat := 0
  cfg : Option TwinParams := none
  deriving DecidableEq, Repr

/-- The fields of a site record or a boot settings record that the device uses (R588, R590). `ports` lists
(port, RTE_PORT value), `pmap` lists (offset, RTE_PMAP value), and `regs` lists (BAR0 offset, boot value). -/
structure SiteRec where
  subVendor : Nat := 0
  subId : Nat := 0
  winCap : Nat := 0
  coord : Nat := 0xFFFFF
  shape : Nat := 0x01010101
  ports : List (Nat × Nat) := []
  pmap : List (Nat × Nat) := []
  presets : List Nat := []
  regs : List (Nat × Nat) := []
  deriving DecidableEq, Repr

/-- What the steward finds in one flash slot: whether an image is there and verifies under R622, the key slot it
names, its version in the form of GEN_FWVER, and its site record (R589). -/
structure ImageSlot where
  present : Bool
  valid : Bool
  keySlot : Nat
  version : Nat
  site : SiteRec
  deriving DecidableEq, Repr

/-- What the steward finds at boot: the two flash slots, and for each copy of the boot settings in the nonvolatile store whether its signature
verifies (R588, R589, R622). -/
structure BootMedia where
  slotA : ImageSlot
  slotB : ImageSlot
  copy0 : Bool
  copy1 : Bool
  deriving DecidableEq, Repr

/-- An error in state of the device: the piece of critical state that holds an uncorrectable error (R583), the GDDR7 channel whose error
correction corrects one or fails to at an address (R135, R595), the engine and the local store word that fail parity (R595), the crossbar
buffer word of a packet that waits at an input, by its place there, or that is queued for a channel of an output port (R501). -/
inductive CritState where
  | queueContext (q : Nat) (copyBad : Bool)
  | xltEntry (key : Nat)
  | walkEntry (key : Nat)
  | ringRoute (stop dst : Nat)
  | rtePort (p : Nat)
  | rtePmap (i : Nat)
  | pisteEntry (port label : Nat)
  | lockWord (al : Bool) (i : Nat)
  | memCorrected (k : Nat)
  | memUe (k addr : Nat)
  | engParity (engine word : Nat)
  | xbarIn (port vc idx : Nat)
  | xbarOut (port vc idx : Nat)
  deriving DecidableEq, Repr

/-- A flit of a service ring as it reaches its destination stop (R52, R53): the three copies of the source and the destination
stop in its header, and its eight words of 64 bits with their check bytes. -/
structure RingFlit where
  srcs : Nat × Nat × Nat
  dsts : Nat × Nat × Nat
  words : List (BitVec 64 × BitVec 8)
  deriving DecidableEq, Repr

/-- The transaction that an uncorrectable ring flit belonged to (R55): a read or a write of the Global Window, the queued
operation of a request tag, the read of a descriptor, the read of the payload of the descriptor that a turn stands at, state of a
table unit, or none that software sees. -/
inductive RingVictim where
  | window (id : Nat)
  | operation (tag : Nat)
  | fetch (q cnt : Nat)
  | payload (q : Nat)
  | walk (w : Nat)
  | access (t : Nat)
  | critical (c : CritState)
  | none
  deriving DecidableEq, Repr

/-- A PCIe configuration write that changes a control of the device or clears an AER status bit (R102, R121, R377), or the
interrupt enable of the CXL mailbox (R119). -/
inductive CfgWrite where
  | atomicOpEnable (on : Bool)
  | aerClear (bits : Nat)
  | barBase (func bar base : Nat)
  | msixVectorMask (func vector : Nat) (masked : Bool)
  | msixFunctionMask (func : Nat) (masked : Bool)
  | vfDisable
  | cxlMailIrq (on : Bool)
  deriving DecidableEq, Repr

/-- The commands: one constructor for each row of the opcode table. -/
inductive Instr where
  /-- REG_WRITE (R129): A BAR0 write, at the normal offset or at a SET, CLR or TGL alias, to a register that has no row of its own updates each field according to its access code. -/
  | regWrite (a : RegAcc)
  /-- TAIL_DOORBELL (R150): A BAR2 tail doorbell is checked for staleness and range; if it passes, the tail is recorded and the queue joins its home run list. -/
  | tailDoorbell (w : Bar2Write) (stores : List Host.Cell)
  /-- HEAD_DOORBELL (R164): A completion or event queue head doorbell records HEAD and ARM, freeing room for held completions and events. -/
  | headDoorbell (w : Bar2Write)
  /-- KEY_RIGHTS_WRITE (R361): A BAR2 write to a work queue's key-rights register sets the protection-key rights for descriptors issued later. -/
  | keyRightsWrite (w : Bar2Write)
  /-- ADMIN_TAIL_DOORBELL (R179): A write to QMG_AQTAIL makes admin commands available; the admin engine fetches and takes them in ring order. -/
  | adminTailDoorbell (f tail : Nat) (stores : List Host.Cell) (rd : ReadStatus)
  /-- ADMIN_HEAD_DOORBELL (R164): A write to QMG_AQHEAD records the admin completion head and frees room in the completion ring. -/
  | adminHeadDoorbell (f head : Nat)
  /-- ADMIN_QUEUE_ENABLE (R191): Setting QMG_AQCFG.EN to 1 zeroes the admin counts, tail and head. -/
  | adminQueueEnable (f : Nat)
  /-- ADMIN_QUEUE_DISABLE (R191): Clearing QMG_AQCFG.EN stops fetching after the command in progress. -/
  | adminQueueDisable (f : Nat)
  /-- FENCE_READ (R314): A read of GWN_FENCE(d) waits until every earlier write in window d has been answered or has passed its budget. The row also carries every other read of the host, which waits for nothing. -/
  | fenceRead (a : HostRead)
  /-- WINDOW_ENABLE (R289): A write that sets GWN_WCFG(d).EN is checked against its decoder and map range, then enables the window or is dropped. -/
  | windowEnable (d glog2 : Nat)
  /-- NCC_ENABLE (R333): Setting NCC_CFG.EN starts initialisation of the near-cache frames. -/
  | nccEnable
  /-- NCC_DISABLE (R333): Clearing NCC_CFG.EN invalidates every frame at once. -/
  | nccDisable
  /-- NCC_INIT_DONE (R333): When frame initialisation ends, with DSTATE and TIME both 1, GEN_READY.NCC is set. -/
  | nccInitDone
  /-- XLT_DISABLE (R336): Clearing XLT_CTL.EN discards every cached translation. -/
  | xltDisable
  /-- XLT_EXCL_WRITE (R373): Any write to an XLT_EXCL register discards every entry of both translation caches. -/
  | xltExclWrite (n i v : Nat)
  /-- TIME_STEP (R565): Writing TIM_CTL.STEP on the grandmaster leaves LOCKED, sets fabric time from TIM_SET and increments ERA. -/
  | timeStep
  /-- STANDBY (R569): Writing PWR_CTL.STANDBY with a wake source enabled enters the safe state on the way to Standby. -/
  | standby
  /-- AVS_ENABLE (R575): Writing PWR_CTL.AVSEN starts or restarts the VCORE adaptation loop. -/
  | avsEnable
  /-- WATCHDOG_KICK (R579): Writing 0x5A5A to RST_WDKICK restarts the watchdog period. -/
  | watchdogKick (v : Nat)
  /-- BLOCK_RESET_CLUSTER (R580): RST_BLKCMD code 0x00-0x11 starts a block reset of one engine cluster. -/
  | blockResetCluster (c : Nat) (force : Bool)
  /-- BLOCK_RESET_QUEUE_MANAGER (R580): RST_BLKCMD code 0x20 starts a block reset of the queue manager. -/
  | blockResetQueueManager (force : Bool)
  /-- BLOCK_RESET_TRANSLATION_UNIT (R580): RST_BLKCMD code 0x21 starts a block reset of the translation unit. -/
  | blockResetTranslationUnit (force : Bool)
  /-- BLOCK_RESET_LOCK_UNIT (R580): RST_BLKCMD code 0x22 starts a block reset of the lock unit. -/
  | blockResetLockUnit (force : Bool)
  /-- BLOCK_RESET_COLLECTIVE_UNIT (R580): RST_BLKCMD code 0x23 starts a block reset of the collective unit. -/
  | blockResetCollectiveUnit (force : Bool)
  /-- BLOCK_RESET_MIRROR_UNIT (R580): RST_BLKCMD code 0x24 starts a block reset of the mirror unit. -/
  | blockResetMirrorUnit (force : Bool)
  /-- BLOCK_RESET_NEAR_CACHE (R580): RST_BLKCMD code 0x25 starts a block reset of the near-cache. -/
  | blockResetNearCache (force : Bool)
  /-- BLOCK_RESET_STEWARD (R580): RST_BLKCMD code 0x26 starts a block reset of the steward. -/
  | blockResetSteward (force : Bool)
  /-- BLOCK_RESET_GDDR7_CONTROLLER (R580): RST_BLKCMD code 0x30-0x37 starts a block reset of one GDDR7 controller. -/
  | blockResetGddr7Controller (k : Nat) (force : Bool)
  /-- BLOCK_RESET_LANE_BLOCK (R580): RST_BLKCMD code 0x40-0x48 starts a block reset of one lane block. -/
  | blockResetLaneBlock (b : Nat) (force : Bool)
  /-- BLOCK_IDLE (R580): A block asked to go idle reaches idle and is reset, with its registers returned under R663. -/
  | blockIdle (code : Nat)
  /-- BLOCK_IDLE_TIMEOUT (R581): The idle wait passes RST_IDLETO; the device latches IDLETO, reports the fault and resets the block. -/
  | blockIdleTimeout (code : Nat)
  /-- MIR_LINK_ENABLE (R524): Setting MIR_CTL.LINKEN starts mirror link training in SEND. -/
  | mirLinkEnable
  /-- UNPAIR (R532): MIR_CTL.UNPAIR sends an UNPAIR frame if the link is up, discards the shadows and returns to UNPAIRED. -/
  | unpair
  /-- RELEASE (R549): MIR_CTL.RELEASE in SOLO clears the alias, discards its tables and sends ALIAS clears. -/
  | release
  /-- HANDOVER (R538): MIR_CTL.HANDOVER in PAIRED makes the device fence itself and send HANDOVER frames. -/
  | handover
  /-- PMU_START (R614): PMU_CTL.START sets EN in every group with SYNC 1, at one instant. -/
  | pmuStart
  /-- PMU_STOP (R614): PMU_CTL.STOP clears EN in every group with SYNC 1, at one instant. -/
  | pmuStop
  /-- PMU_LOAD (R618): PMU_GCTL.LOAD loads every counter of the group from RLD, zeroes the fixed counter and ends the freeze. -/
  | pmuLoad (g : Nat)
  /-- PMU_TAG_SEED (R620): A write to PMU_TAGSEED reloads the tagging LFSR. -/
  | pmuTagSeed (v : Nat)
  /-- NEWCHAL (R624): SEC_CTL.NEWCHAL fills SEC_CHAL with a new debug challenge. -/
  | newchal
  /-- UNLOCK (R625): SEC_CTL.UNLOCK verifies SEC_RESP; on success the device enters the safe state, discards its keys and opens JTAG. -/
  | unlock
  /-- FLOOR (R623): SEC_CTL.FLOOR burns the running image's version into the fused minimum. -/
  | floor
  /-- REVOKE (R623): A SEC_CTL.REVOKE bit revokes one signing key slot by fuse. -/
  | revoke (mask : Nat)
  /-- FUSE_WRITE_DONE (R623): An irreversible fuse write completes and FUSEBUSY clears. -/
  | fuseWriteDone
  /-- FAULT_INJECT (R595): A write to FLT_INJ at its normal offset injects a fault event of the given source and kind. -/
  | faultInject (v : Nat)
  /-- SAFE_STATE_CLEAR (R610): Clearing FLT_SAFE.LATCH with its cause gone makes the device leave the safe state in order. -/
  | safeStateClear
  /-- PORT_ENABLE (R482): Setting RTE_PORT(p).EN, once the lane block is ready and R77 holds, starts training the port in DETECT. -/
  | portEnable (p width dim dg : Nat)
  /-- PORT_DISABLE (R482): Clearing RTE_PORT(p).EN stops the lanes and returns the port to OFF. -/
  | portDisable (p : Nat)
  /-- CXL_IDENTIFY_MEMORY_DEVICE (R100): The CXL mailbox command Identify Memory Device returns the device identity. -/
  | cxlIdentifyMemoryDevice
  /-- CXL_GET_SUPPORTED_LOGS (R100): The CXL mailbox command Get Supported Logs returns the logs the device supports. -/
  | cxlGetSupportedLogs
  /-- CXL_GET_LOG (R100): The CXL mailbox command Get Log returns the Command Effects Log. -/
  | cxlGetLog (uuid offset length : Nat)
  /-- CXL_GET_EVENT_RECORDS (R100): The CXL mailbox command Get Event Records returns CXL event records. -/
  | cxlGetEventRecords (log : Nat)
  /-- CXL_CLEAR_EVENT_RECORDS (R100): The CXL mailbox command Clear Event Records clears CXL event records. -/
  | cxlClearEventRecords (log : Nat) (handles : List Nat)
  /-- CXL_GET_HEALTH_INFO (R100): The CXL mailbox command Get Health Info returns health information. -/
  | cxlGetHealthInfo
  /-- CXL_GET_TIMESTAMP (R553): The CXL mailbox command Get Timestamp returns fabric time. -/
  | cxlGetTimestamp
  /-- CXL_SET_TIMESTAMP (R553): The CXL mailbox command Set Timestamp steps fabric time on the grandmaster and is accepted without effect elsewhere. -/
  | cxlSetTimestamp (v : Nat)
  /-- CXL_UNSUPPORTED_COMMAND (R101): Any other mailbox command is answered with the return code Unsupported. -/
  | cxlUnsupportedCommand (op : Nat)
  /-- HDM_DECODER_COMMIT (R118): Software commits an HDM decoder; a bad size or interleave fails and sets Error Not Committed. -/
  | hdmDecoderCommit (d base size ways : Nat)
  /-- CXL_MEM_READ (R298): A CXL.mem read of one line is translated by the window map and served from the near-cache or by a fabric read. -/
  | cxlMemRead (mid hpa : Nat)
  /-- CXL_MEM_WRITE (R308): A CXL.mem write is coalesced per lease block and sent to the home, completing per STRICT or FAST mode. -/
  | cxlMemWrite (mid hpa : Nat) (data : List Byte) (mask : Nat)
  /-- MSIX_UNMASK (R121): Clearing a mask sends any pending MSI-X message of that vector. -/
  | msixUnmask (f v : Nat)
  /-- HOST_LINK_UP (R103): The host link reaches DL_Active; HIF is set if rate and width meet the minimum, otherwise BELOWMIN latches. -/
  | hostLinkUp (rate width : Nat) (flit cxlmem : Bool)
  /-- L0P_WIDTH_CHANGE (R104): An L0p width change reduces bandwidth and leaves GEN_READY.HIF unchanged. -/
  | l0pWidthChange (width : Nat)
  /-- DL_DOWN (R105): The host link leaving DL_Active resets the PF and all VFs, as a hot reset does. -/
  | dlDown
  /-- HOT_RESET (R577): A PCIe hot reset performs a host reset: device-state tables cleared, epoch incremented, host-facing registers reset. -/
  | hotReset
  /-- PERST_ASSERT (R577): Asserting PERST# causes a full reset, or keeps the device in Standby. -/
  | perstAssert
  /-- PERST_DEASSERT (R590): Deasserting PERST# starts bring-up, or wakes the device from Standby when PERSTEN is 1. -/
  | perstDeassert
  /-- FLR_PF (R577): An FLR of the PF performs a host reset, leaving the HDM decoders as they are. -/
  | flrPf
  /-- FLR_VF (R176): An FLR of a VF disables its queues without completions, revokes its regions and sends an owner-reset notice. -/
  | flrVf (f : Nat)
  /-- VF_ENABLE (R110): Setting VF Enable locks the VF allotments and quotas. -/
  | vfEnable (n : Nat)
  /-- POWER_ON_RESET (R636): VAON rising, or staying below 0.70 V for 1 us, causes a power-on reset of everything. -/
  | powerOnReset
  /-- WATCHDOG_EXPIRE (R579): The watchdog period passes without a kick and a full reset follows. -/
  | watchdogExpire
  /-- STEWARD_BOOT (R589): The steward verifies both flash slots, runs the valid one with the higher version, loads the epoch and writes the boot values. -/
  | stewardBoot (b : BootMedia)
  /-- NV_WRITE_DONE (R586): A nonvolatile write pulse ends, and any reset held back by it takes effect. -/
  | nvWriteDone
  /-- CTXPOOL_READY (R68): The on-chip context pool is cleared and GEN_READY.CTXPOOL is set. -/
  | ctxpoolReady
  /-- CLUSTER_SELFTEST_DONE (R67): An engine cluster ends self-test and sets its CLUSTER bit, or latches STFLT. -/
  | clusterSelftestDone (c : Nat) (pass : Bool)
  /-- MEM_TRAIN_DONE (R66): A GDDR7 channel ends training; it sets its MEMCH bit or reports a training failure. -/
  | memTrainDone (k : Nat) (pass : Bool)
  /-- DSTATE_READY (R65): With all eight channels ready, the key loaded and the tables cleared, GEN_READY.DSTATE is set and the suppression start recorded. -/
  | dstateReady
  /-- LB_CALIBRATION_DONE (R477): A lane block completes calibration and sets its LB bit. -/
  | lbCalibrationDone (b : Nat) (pass : Bool)
  /-- TURN (R38): An engine takes a work queue from its run list, takes the context lock and issues descriptors in ring order until the turn ends. -/
  | turn (e : Nat)
  /-- STEAL (R42): An idle engine takes the tail entry of a victim's run list and runs the whole turn. -/
  | steal (e : Nat) (rd : ReadStatus)
  /-- TARGET_TURN (R673): An engine serves up to 16 requests or accesses of a target context or internal window queue. -/
  | targetTurn (e : Nat) (rd : ReadStatus)
  /-- DESCRIPTOR_FETCH_DONE (R156): A descriptor read returns; the entry is issuable when its MARK matches, and is fetched again otherwise. -/
  | descriptorFetchDone (q cnt : Nat) (rd : ReadStatus)
  /-- PAYLOAD_READ_DONE (R350): A payload or operand read from host memory returns and its packets are sent, or the descriptor completes LOCAL_DMA. -/
  | payloadReadDone (q : Nat) (rd : ReadStatus)
  /-- NOP (R157): A NOP descriptor completes at once. -/
  | nop (q : Nat) (d : Raw)
  /-- PUT (R192): A PUT descriptor is cut at 512 B offsets into request packets sent to the target. -/
  | put (q : Nat) (d : Raw)
  /-- GET (R193): A GET descriptor is cut at 4 KiB offsets into request packets. -/
  | get (q : Nat) (d : Raw)
  /-- SEND (R253): A SEND descriptor is cut into 512 B message packets, all sent in index order. -/
  | send (q : Nat) (d : Raw)
  /-- RECV (R263): A RECV is placed on the posted-receive list, searching the unexpected list first. -/
  | recv (q : Nat) (d : Raw)
  /-- FADD64 (R197): A 64-bit fetch-add request is sent to the home word. -/
  | fadd64 (q : Nat) (d : Raw)
  /-- SWAP64 (R197): A 64-bit swap request is sent to the home word. -/
  | swap64 (q : Nat) (d : Raw)
  /-- CAS64 (R197): A 64-bit compare-swap request is sent to the home word. -/
  | cas64 (q : Nat) (d : Raw)
  /-- FADD128 (R197): A 128-bit fetch-add request is sent to the home word. -/
  | fadd128 (q : Nat) (d : Raw)
  /-- SWAP128 (R197): A 128-bit swap request is sent to the home word. -/
  | swap128 (q : Nat) (d : Raw)
  /-- CAS128 (R197): A 128-bit compare-swap request, with its swap value read from LADDR, is sent to the home word. -/
  | cas128 (q : Nat) (d : Raw)
  /-- CFADD64 (R404): A combining fetch-add joins its counter context's batch, or goes straight to its home. -/
  | cfadd64 (q : Nat) (d : Raw)
  /-- COLL_REDUCE (R389): A reduction contribution is handed to the member's own collective context. -/
  | collReduce (q : Nat) (d : Raw)
  /-- COLL_VOTE (R389): A vote contribution is handed to the member's own collective context. -/
  | collVote (q : Nat) (d : Raw)
  /-- COLL_BARRIER (R389): An empty barrier contribution is handed to the member's own collective context. -/
  | collBarrier (q : Nat) (d : Raw)
  /-- LOCK_ACQUIRE (R421): An acquire creates a waiting record and sends a LOCKOP ACQUIRE to the home. -/
  | lockAcquire (q : Nat) (d : Raw)
  /-- LOCK_TRY (R420): A LOCKOP TRY is sent to the lock's home. -/
  | lockTry (q : Nat) (d : Raw)
  /-- LOCK_RELEASE (R420): A LOCKOP RELEASE is sent to the lock's home. -/
  | lockRelease (q : Nat) (d : Raw)
  /-- SHAPER_REFILL (R186): At each 1,024-tick boundary every shaper's credit refills, waiting queues return to their run lists and a sample is taken. -/
  | shaperRefill
  /-- CONFIG_WQ (R183): Admin command that writes a work queue context. -/
  | configWq (c : AdminCmd)
  /-- ENABLE_WQ (R171): Admin command that makes a configured DISABLED queue ACTIVE. -/
  | enableWq (c : AdminCmd)
  /-- DISABLE_WQ (R171): Admin command that moves a queue to DRAINING at the turn boundary, cancelling unmatched receives. -/
  | disableWq (c : AdminCmd)
  /-- DRAIN_COMPLETE (R171): The last issued entry of a DRAINING queue completes; the queue becomes DISABLED and DISABLE_WQ completes. -/
  | drainComplete (q : Nat)
  /-- RESET_WQ (R171): Admin command that returns an ERROR queue to DISABLED. -/
  | resetWq (c : AdminCmd)
  /-- SUSPEND_WQ (R171): Admin command that moves an ACTIVE queue to SUSPENDED at the turn boundary. -/
  | suspendWq (c : AdminCmd)
  /-- RESUME_WQ (R171): Admin command that makes a SUSPENDED queue ACTIVE again. -/
  | resumeWq (c : AdminCmd)
  /-- QUERY_WQ (R185): Admin command that returns a queue's published head and state. -/
  | queryWq (c : AdminCmd)
  /-- SET_SHAPER (R188): Admin command that sets new shaper RATE and BURST, effective at the next refill. -/
  | setShaper (c : AdminCmd)
  /-- CONFIG_CQ (R183): Admin command that configures a completion queue. -/
  | configCq (c : AdminCmd)
  /-- CONFIG_EQ (R183): Admin command that configures an event queue. -/
  | configEq (c : AdminCmd)
  /-- SET_VF_ALLOT (R184): Admin command that sets a VF's queue ranges and region quota. -/
  | setVfAllot (c : AdminCmd)
  /-- REGISTER_REGION (R205): Admin command that makes a FREE region descriptor VALID. -/
  | registerRegion (c : AdminCmd)
  /-- REVOKE_REGION (R215): Admin command that moves a region to REVOKING and records its in-flight count. -/
  | revokeRegion (c : AdminCmd)
  /-- REVOKE_COMPLETE (R217): In-flight packets finish, leases are freed and the flush is done; GEN increments, the region becomes FREE and the completion is written. -/
  | revokeComplete (idx : Nat)
  /-- QUERY_REGION (R208): Admin command that returns a region's state and can dump its descriptor. -/
  | queryRegion (c : AdminCmd)
  /-- MAP_WINDOW (R295): Admin command that writes window-map entries from a host array. -/
  | mapWindow (c : AdminCmd) (rd : ReadStatus)
  /-- UNMAP_WINDOW (R297): Admin command that invalidates a range of window-map entries. -/
  | unmapWindow (c : AdminCmd)
  /-- UNMAP_WINDOW_COMPLETE (R297): Every access that used the old entries is settled and UNMAP_WINDOW completes. -/
  | unmapWindowComplete (first : Nat)
  /-- INVALIDATE_XLT (R367): Admin command that discards the covered translation-cache entries. -/
  | invalidateXlt (c : AdminCmd)
  /-- INVALIDATE_XLT_COMPLETE (R369): Accesses and walks using the covered entries finish and the invalidation completes. -/
  | invalidateXltComplete (id : Nat)
  /-- COLL_SETUP (R384): Admin command that has the steward derive the tree and set up a collective context. -/
  | collSetup (c : AdminCmd) (rd : ReadStatus)
  /-- COLL_SETUP_COMPLETE (R384): The steward finishes the setup; the context becomes SET and the command completes. -/
  | collSetupComplete (k : Nat)
  /-- COLL_TEARDOWN (R386): Admin command that ends pending instances with MEMBER_LOST and moves the context to TEARDOWN. -/
  | collTeardown (c : AdminCmd)
  /-- COLL_TEARDOWN_COMPLETE (R386): The last forwarded request settles; the context becomes FREE. -/
  | collTeardownComplete (k : Nat)
  /-- PISTE_SETUP (R470): Admin command that reserves a share and sends a PSETUP along the piste path. -/
  | pisteSetup (c : AdminCmd)
  /-- PISTE_TEARDOWN (R476): Admin command that sends a teardown mark down the piste. -/
  | pisteTeardown (c : AdminCmd)
  /-- LOCK_CONFIG (R415): Admin command that enables or disables a range of lock words. -/
  | lockConfig (c : AdminCmd)
  /-- LOCK_FORCE_RELEASE (R416): Admin command that frees a HELD lock with FORCED set and passes it on. -/
  | lockForceRelease (c : AdminCmd)
  /-- TWIN_CONFIG (R533): Admin command that names the twin and mirrored ranges, starting pairing once both sides match. -/
  | twinConfig (c : AdminCmd)
  /-- PAIRING_COMPLETE (R534): Both COPYENDs are protected and applied; the device enters PAIRED and TWIN_CONFIG completes. -/
  | pairingComplete
  /-- TWIN_CONFIG_TIMEOUT (R533): No matching TWIN_CONFIG arrives within the limit, and the command completes TIMEOUT. -/
  | twinConfigTimeout
  /-- GET_LOG (R613): Admin command that copies fault log or history entries to host memory. -/
  | getLog (c : AdminCmd)
  /-- FW_UPDATE (R591): Admin command that verifies and writes a Damelm image or a boot settings record. -/
  | fwUpdate (c : AdminCmd) (rd : ReadStatus)
  /-- FW_UPDATE_COMPLETE (R592): The write is done; the command completes and the steward may restart on the new image. -/
  | fwUpdateComplete (sigOk writeOk : Bool) (version : Nat)
  /-- RETRANSMIT (R222): An attempt timer expires and the initiator resends an unanswered request with DIVERT set. -/
  | retransmit (tag : Nat)
  /-- UNKNOWN_OUTCOME (R224): A request is unanswered 2.0 ms after its first transmission, and its descriptor completes UNKNOWN_OUTCOME. -/
  | unknownOutcome (tag : Nat)
  /-- TAG_RELEASE (R233): A held request tag is freed at its release time, waking a request that waits for a tag. -/
  | tagRelease (tag : Nat)
  /-- DUP_ENTRY_EXPIRE (R229): A duplicate-suppression entry expires 2.0 ms after its first-transmission instant. -/
  | dupEntryExpire (id : ReqId)
  /-- CC_BASE_PERIOD (R240): At each 8 ms boundary a new BASE period begins for the congestion contexts. -/
  | ccBasePeriod
  /-- SEND_DEADLINE (R260): At S + 2.0 ms a SEND with unanswered or unsent packets completes with its status. -/
  | sendDeadline (q cnt : Nat)
  /-- REASSEMBLY_TIMEOUT (R278): A message incomplete at S + 2.0 ms is discarded, and a matched receive completes REASSEMBLY_TIMEOUT. -/
  | reassemblyTimeout (id : ReqId)
  /-- PUT_PACKET (R227): A PUT request packet passes the target checks and is written to host memory. -/
  | putPacket (r : Req)
  /-- GET_PACKET (R227): A GET request packet passes the target checks and is answered with data in 512 B responses. -/
  | getPacket (r : Req)
  /-- ATOMIC_PACKET (R198): An atomic request is checked, suppressed as a duplicate or performed indivisibly, and stored for suppression. -/
  | atomicPacket (r : Req)
  /-- SEND_PACKET (R273): A message packet is matched, joins its context, is placed or stored, or is answered BUSY. -/
  | sendPacket (r : Req)
  /-- WRD_PACKET (R316): A window read at the home is checked, possibly held, performed and granted a lease. -/
  | wrdPacket (r : Req)
  /-- WWR_PACKET (R312): A window write at the home is checked, recalls leases and is answered once visible. -/
  | wwrPacket (r : Req)
  /-- LINV_PACKET (R319): A holder receives a lease invalidation, invalidates the frame and acknowledges. -/
  | linvPacket (r : Req)
  /-- LOCKOP_ACQUIRE (R420): The home grants, queues or refuses an acquire under the lock state table. -/
  | lockopAcquire (r : Req)
  /-- LOCKOP_TRY (R420): The home grants a try at once or answers LOCK_BUSY. -/
  | lockopTry (r : Req)
  /-- LOCKOP_RELEASE (R420): The home releases the lock from its owner and passes it on, or answers LOCK_NOT_OWNER. -/
  | lockopRelease (r : Req)
  /-- LOCKOP_CANCEL (R429): The home removes the matching lift-line entry and answers SUCCESS. -/
  | lockopCancel (r : Req)
  /-- LOCKOP_PROBE (R429): The home answers a waiter's probe WAITING, GRANTING, NOT_WAITING or KEY_INVALID. -/
  | lockopProbe (r : Req)
  /-- LGRANT_PACKET (R423): A waiter answers a grant ACCEPTED or DECLINED and completes its acquire. -/
  | lgrantPacket (r : Req)
  /-- COLL_CONTRIBUTION (R395): A child's or orphan's contribution is combined and, when complete, sent upward or resolved at the root. -/
  | collContribution (r : Req)
  /-- COLL_RESULT (R396): A member receives a result, completes its descriptor and forwards the result to its children. -/
  | collResult (r : Req)
  /-- COLL_PROBE (R397): A collective probe is answered ALIVE, NOCTX or TARGET_NOT_READY. -/
  | collProbe (r : Req)
  /-- COLL_MERGED_REQUEST (R405): A merged counter request joins the batch, or is applied as one FADD64 at the root. -/
  | collMergedRequest (r : Req)
  /-- PMARK_PACKET (R476): A piste teardown mark frees transit entries and is answered by the destination. -/
  | pmarkPacket (r : Req)
  /-- RESP_PACKET (R246): A response reaches the initiator; it is matched to its tag, its data is placed and its descriptor may complete. -/
  | respPacket (p : Nat) (pkt : Pkt)
  /-- LINV_ACK (R317): An invalidation acknowledgement removes a holder and may make a waiting write visible. -/
  | linvAck (tag : Nat)
  /-- GRANT_ANSWER (R427): The home settles a grant from its ACCEPTED, DECLINED or other answer. -/
  | grantAnswer (tag status : Nat)
  /-- GRANT_TIMEOUT (R427): A grant unanswered after 2.0 ms leaves the lock HELD by the grantee and raises LOCK_GRANT_UNKNOWN. -/
  | grantTimeout (tag : Nat)
  /-- LOCK_PROBE_TIMER (R429): Every LCK_PROBEINT a waiting record sends a probe to the lock's home. -/
  | lockProbeTimer (rec : Nat)
  /-- WAITING_RECORD_EXPIRE (R422): An ACCEPTED waiting record is freed 10 ms after its grant. -/
  | waitingRecordExpire (rec : Nat)
  /-- COLL_PROBE_TIMER (R397): Every COL_PROBEINT a member probes a silent child or its parent. -/
  | collProbeTimer (k peer : Nat)
  /-- COUNTER_BATCH_SEND (R405): After COL_CWIN with no request in flight, the counter batch is sent as one merged request. -/
  | counterBatchSend (k : Nat)
  /-- CONSTITUENT_EXPIRE (R407): A constituent still waiting 1.5 ms after its instant is answered UNKNOWN_OUTCOME. -/
  | constituentExpire (k : Nat)
  /-- LEASE_EXPIRE (R317): Fabric time reaches LATEST + epsilon; a waiting write becomes visible or the lease entry is freed. -/
  | leaseExpire (al : Bool) (region block : Nat)
  /-- LEASE_START_WAIT_END (R325): The start wait of a coordinate ends, so its home may grant leases and make writes visible. -/
  | leaseStartWaitEnd (al : Bool)
  /-- WINDOW_BUDGET_EXPIRE (R327): A window access is unanswered at its budget: a read returns poison, and a write fails. -/
  | windowBudgetExpire (id : Nat)
  /-- WINDOW_SETTLE_EXPIRE (R328): 2.0 ms after a lost write, its lease block resumes issuing accesses in order. -/
  | windowSettleExpire (block : Nat)
  /-- TRANSIT_PACKET (R444): A packet at a device is routed by slalom, escape, detour or the approach rule, or is discarded. -/
  | transitPacket (p : Nat) (pkt : Pkt)
  /-- ESCWAIT_EXPIRE (R446): A head packet that has waited ESCWAIT without minimal credit moves to the escape channel. -/
  | escwaitExpire (p vc : Nat)
  /-- LNOTICE (R442): A line notice updates the line map unless its sequence number is stale. -/
  | lnotice (p : Nat) (pkt : Pkt)
  /-- LNOTICE_REFRESH (R443): Every 100,000 ticks, each device sends its full row on every up port. -/
  | lnoticeRefresh
  /-- PSETUP (R471): A transit device allocates an entry, reserves its share and forwards the piste setup. -/
  | psetup (p : Nat) (pkt : Pkt)
  /-- PCONFIRM (R471): A confirm passes back, recording labels; at the origin the piste becomes UP. -/
  | pconfirm (p : Nat) (pkt : Pkt)
  /-- PREJECT (R471): A reject passes back, freeing reservations; at the origin PISTE_SETUP fails. -/
  | preject (p : Nat) (pkt : Pkt)
  /-- PBREAK (R475): A break notice frees transit entries; at the origin the piste becomes BROKEN. -/
  | pbreak (p : Nat) (pkt : Pkt)
  /-- PISTE_SETUP_TIMEOUT (R470): No confirm or reject arrives within 10 ms, and PISTE_SETUP completes TIMEOUT. -/
  | pisteSetupTimeout (n : Nat)
  /-- PISTE_TEARDOWN_TIMEOUT (R476): Teardown gets no answer within 10 ms; it completes TIMEOUT and the piste becomes FREE. -/
  | pisteTeardownTimeout (n : Nat)
  /-- LPROBE (R430): A liveness probe is answered with LANSWER. -/
  | lprobe (p : Nat) (pkt : Pkt)
  /-- LANSWER (R432): An answer to a liveness probe or owner-reset notice stops its repeats. -/
  | lanswer (p : Nat) (pkt : Pkt)
  /-- ORESET (R432): A received owner-reset notice frees the sender's locks and lift-line entries once, and is answered. -/
  | oreset (p : Nat) (pkt : Pkt)
  /-- ORESET_REPEAT (R432): Every 10,000 ticks an unanswered owner-reset notice is sent again, up to 100,000 ticks. -/
  | oresetRepeat
  /-- LIVENESS_TIMEOUT (R430): A liveness probe is unanswered for LCK_DEADWIN, and the home declares the cell peer dead. -/
  | livenessTimeout (dg : Nat)
  /-- ALIAS (R543): An ALIAS packet sets or clears RTE_ALIAS, or marks the device ALIASED. -/
  | aliasPkt (p : Nat) (pkt : Pkt)
  /-- ALIAS_REPEAT (R542): The holder sends its ALIAS SET or clear announcements again on schedule. -/
  | aliasRepeat
  /-- ALIASED_TIMEOUT (R543): 3,000,000 ticks without a SET clear MIR_STAT.ALIASED. -/
  | aliasedTimeout
  /-- TRAINING_FRAME (R484): A received training frame carries tap requests and acknowledgements in EQ, and the identity word in IDENT. -/
  | trainingFrame (lane ctl ident : Nat)
  /-- SIGNAL_DETECT (R482): Signal is detected on all lanes of the port and equalisation begins. -/
  | signalDetect (p : Nat)
  /-- EQ_COMPLETE (R484): Both ends report RXDONE on every lane and the identity exchange begins. -/
  | eqComplete (p : Nat)
  /-- DESKEW_LOCK (R481): The lanes are aligned and in codeword lock, and an INIT flit is sent. -/
  | deskewLock (p : Nat)
  /-- INIT_FLIT (R489): A received INIT sets the peer's credit limits and the port comes UP. -/
  | initFlit (p : Nat) (fl : RxFlit)
  /-- EQ_TIMEOUT (R482): FLK_EQTO passes in EQ, TRAINFAIL latches and the port goes DOWN. -/
  | eqTimeout (p : Nat)
  /-- TRAIN_TIMEOUT (R669): 1,000,000 ticks in IDENT, DESKEW or LINKUP latch TRAINFAIL and take the port DOWN. -/
  | trainTimeout (p : Nat)
  /-- HOLDOFF_EXPIRE (R482): FLK_HOLDOFF passes in DOWN, and the port retrains on its configured lanes from DETECT. -/
  | holdoffExpire (p : Nat)
  /-- RETRAIN_FLIT (R508): A peer's RETRAIN makes this end apply the same spare or degrade remedy, or take the port DOWN. -/
  | retrainFlit (p : Nat) (fl : RxFlit)
  /-- RETRAIN_REPEAT (R508): The RETRAIN flit is sent again every 1,000 ticks until frames arrive on the new lane set. -/
  | retrainRepeat (p : Nat)
  /-- RETRAIN_COMPLETE (R509): The new lane set passes IDENT and locks; the port returns to UP and replays unacknowledged flits. -/
  | retrainComplete (p : Nat) (idents : List Nat)
  /-- RETRAIN_TIMEOUT (R482): FLK_RTRTO passes in RETRAIN and the link goes down. -/
  | retrainTimeout (p : Nat)
  /-- DATA_FLIT (R494): A DATA flit that passes its checks is accepted, dropped as a duplicate or NAKed; its ACK and credit fields are applied. -/
  | dataFlit (p : Nat) (fl : Flit) (lane corr : Nat)
  /-- IDLE_FLIT (R491): An IDLE flit delivers its acknowledgement and credit fields. -/
  | idleFlit (p : Nat) (fl : RxFlit)
  /-- NAK_FLIT (R498): A NAK makes the sender replay every unacknowledged flit from ACKSEQ + 1. -/
  | nakFlit (p : Nat) (fl : RxFlit)
  /-- BAD_FLIT (R493): A flit fails FEC, parity or CRC; it is discarded, counted as an error event and may trigger a NAK. -/
  | badFlit (p : Nat) (b : BadFlit)
  /-- REPLAY_TIMEOUT (R498): ACKSEQ does not advance for FLK_REPLAYTO, so the sender replays, or takes the port DOWN after REPLAYMAX. -/
  | replayTimeout (p : Nat)
  /-- NAK_HOLD_EXPIRE (R495): Half of FLK_REPLAYTO after a NAK, the receiver may send a NAK again. -/
  | nakHoldExpire (p : Nat)
  /-- ERROR_WINDOW (R503): A new lane error window begins at each multiple of FLK_ERRWIN. -/
  | errorWindow
  /-- LANE_SIGNAL_LOSS (R504): A lane loses signal or codeword lock for 1,000 ticks and becomes bad. -/
  | laneSignalLoss (lane : Nat)
  /-- TSX_SEND (R511): Every 1,024 ticks each live port sends a TSX flit with timestamps and time-domain fields. -/
  | tsxSend (p : Nat)
  /-- TSX_FLIT (R558): A received TSX updates the link delay, grandmaster choice and offset, correcting rate or stepping. -/
  | tsxFlit (p : Nat) (fl : RxFlit) (rxFrac : Nat)
  /-- NEIGHBOUR_TIME_STALE (R556): A neighbour's GMSEQ does not advance for 8,192 ticks, and its fields become unusable. -/
  | neighbourTimeStale (p : Nat)
  /-- REF_LOST (R642): REF25 has no edge for 200 ns; REFOK clears and LOCKED is left. -/
  | refLost
  /-- PPS_EDGE (R564): A rising 1PPS edge is timestamped, validated and used for rate correction. -/
  | ppsEdge
  /-- PPS_INPUT_LOST (R564): No 1PPS edge arrives within 1,000,100,000 ticks, and the input becomes invalid. -/
  | ppsInputLost
  /-- PPS_OUT_PULSE (R564): At each multiple of 10^9 ticks the 1PPS output rises, and it falls 100,000,000 ticks later. -/
  | ppsOutPulse
  /-- TIME_ALARM (R567): An armed alarm matches fabric time; FIRED latches, the event is raised and it may wake the device. -/
  | timeAlarm (n : Nat)
  /-- SIGNAL_DETECT_WAKE (R568): A selected lane shows signal for 10,000 ticks in Standby and the device wakes. -/
  | signalDetectWake (lane : Nat)
  /-- STANDBY_POWER_DOWN (R569): 1,000,000 ticks after Standby entry the device stops answering PCIe and powers down its domains. -/
  | standbyPowerDown
  /-- RAILEN_SEQUENCE (R637): Each 10 ms step raises or lowers the next RAILEN group in order. -/
  | railenSequence
  /-- PACE_WINDOW (R573): At the end of each 1,024-tick window PACE is reported and the VCORE loop requests a change. -/
  | paceWindow (readings : List Nat)
  /-- AVS_TRANSACTION_DONE (R575): An AVSBus transaction ends; three failures in a row stop the loop. -/
  | avsTransactionDone (ok : Bool) (mv : Nat)
  /-- JUNCTION_HOT (R655): The junction passes 110 C; PWR_FLT.HOT latches and a HOT fault is sent. -/
  | junctionHot (tj : Nat)
  /-- HOST_UNCORR (R595): An uncorrectable PCIe error is detected, latched and reported. -/
  | hostUncorr (status : Nat)
  /-- MIR_CLOCK_DETECT (R524): The forwarded clock is detected in SEND, and the lanes lock their sampling phase. -/
  | mirClockDetect
  /-- MIR_LANES_LOCKED (R524): All 16 mirror lanes lock, and comma search and deskew begin. -/
  | mirLanesLocked
  /-- MIR_COMMA_ALIGNED (R524): Commas are found and the lanes deskewed, and back-channel tuning begins. -/
  | mirCommaAligned
  /-- MIR_BACKCHANNEL_BLOCK (R524): A back-channel control block carries tap requests, status and RXDONE for a lane. -/
  | mirBackchannelBlock (b1 b2 b3 : Nat)
  /-- MIR_TUNE_DONE (R524): Both ends report RXDONE on every lane, and the mirror link becomes ACTIVE. -/
  | mirTuneDone
  /-- MIR_TRAIN_TIMEOUT (R524): Training does not finish within 100,000,000 ticks, and the mirror link goes DOWN. -/
  | mirTrainTimeout
  /-- MIR_DOWN_EXPIRE (R524): 1,000,000 ticks in DOWN return the mirror link to SEND on both halves. -/
  | mirDownExpire
  /-- RECORD (R528): A RECORD frame in sequence is applied to the shadow, and its ACKSEQ protects the sender's changes. -/
  | record (fr : MFrame)
  /-- MIR_NAK (R526): A mirror NAK makes the sender replay from ACKSEQ + 1. -/
  | mirNak (fr : MFrame)
  /-- MIR_IDLE (R526): An IDLE mirror frame delivers its ACKSEQ. -/
  | mirIdle (fr : MFrame)
  /-- MIR_REPLAY_TIMEOUT (R526): ACKSEQ does not advance for 2,000 ticks, so unacknowledged RECORD frames are replayed. -/
  | mirReplayTimeout
  /-- HEARTBEAT (R527): A received heartbeat refreshes GEN_READY.MIR and the twin's liveness. -/
  | heartbeat (fr : MFrame)
  /-- HEARTBEAT_SEND (R527): Every 10,000 ticks a HEARTBEAT frame is sent ahead of waiting records. -/
  | heartbeatSend
  /-- MIR_READY_TIMEOUT (R527): 30,000 ticks without a heartbeat clear GEN_READY.MIR. -/
  | mirReadyTimeout
  /-- UNPAIR_FRAME (R532): A received UNPAIR frame discards the shadows and returns the device to UNPAIRED. -/
  | unpairFrame (fr : MFrame)
  /-- HANDOVER_FRAME (R536): A received HANDOVER makes a PAIRED device declare its twin failed and take over. -/
  | handoverFrame (fr : MFrame)
  /-- TWIN_FAIL_DECLARE (R536): Heartbeats are missed and every d0 link of the twin has stayed down for GUARD; takeover steps 1-7 run. -/
  | twinFailDeclare
  /-- TAKEOVER_COMPLETE (R541): Step 8 of takeover raises TWIN_TAKEOVER and enters SOLO. -/
  | takeoverComplete
  /-- TWIN_ISOLATE (R537): Heartbeats are missed while the twin's d0 links are seen up; the device goes ISOLATED and stops mirroring. -/
  | twinIsolate
  /-- FENCE_WINDOW_EXPIRE (R538): No d0 port is UP for MIR_FENCEWIN, and the PAIRED device fences itself. -/
  | fenceWindowExpire
  /-- HANDOVER_REPEAT (R538): A fenced device sends HANDOVER every 1,000 ticks while the mirror link works. -/
  | handoverRepeat
  /-- FAULT_MESSAGE (R600): The collector counts a fault message against its source, chooses a reaction level and acts. -/
  | faultMessage
  /-- FAULT_WINDOW_END (R600): A source's counting window ends, and a severity not held by a latch lapses. -/
  | faultWindowEnd (slot : Nat)
  /-- FAULT_LOG_WRITE (R611): The steward writes a fault message to the retained log and may write a history row. -/
  | faultLogWrite
  /-- RING_FLIT_UE (R55): An uncorrectable ring flit is discarded, reported, and its transaction fails. -/
  | ringFlitUe (srcs dsts : Nat × Nat × Nat) (words : List (BitVec 64 × BitVec 8)) (acc : RingVictim)
  /-- CRIT_STATE_UE (R583): An uncorrectable error in critical state is handled per the critical-state table and reported. -/
  | critStateUe (c : CritState)
  /-- BW_WINDOW_END (R621): At each bandwidth window boundary, per-port rates are written. -/
  | bwWindowEnd
  /-- WALK_READ_DONE (R348): An ASID or page-table entry read returns, and the walk continues, ends in a leaf or fails. -/
  | walkReadDone (w : Nat) (rd : ReadStatus)
  /-- AD_CAS_DONE (R354): An accessed or dirty bit compare-and-swap returns; on success the access proceeds, otherwise it is retried or fails CASFAIL. -/
  | adCasDone (w : Nat) (rd : ReadStatus)
  /-- XLT_ENTRY_AGED (R365): A cached translation reaches XLT_TLIFE and is discarded. -/
  | xltEntryAged (k : Nat)
  /-- HOST_RESET_COMPLETE (R578): A host reset that kept the link in DL_Active ends, the steward has loaded the boot values, and GEN_READY.HIF returns to 1. -/
  | hostResetComplete
  /-- REFERENCE_PRESENT (R642): REF25 edges return, TIM_STAT.REFOK becomes 1, lane blocks may calibrate and the time domain may relock. -/
  | referencePresent
  /-- CONFIGURATION_WRITE (R102): A PCIe configuration write changes a control such as AtomicOp Requester Enable, or clears an AER status bit. -/
  | configurationWrite (c : CfgWrite)
  /-- JUNCTION_COOL (R655): The junction temperature falls below 105 C, so the cause of PWR_FLT.HOT is gone. -/
  | junctionCool (tj : Nat)
  /-- CDAT_DOE_REQUEST (R100): A DOE request in configuration space reads the CDAT structure. -/
  | cdatDoeRequest (handle : Nat)
  deriving DecidableEq, Repr

end Sys2Proof
end

