-- ==== Sys2Proof/WellFormed.lean ====
section
/-! DEFINITION. Which commands are well formed: every operand lies in the range that the spec gives its field. The
meanings are total and do not rely on it; the statements that need a range name the check. -/

namespace Sys2Proof

/-- A list of byte enables fits an access of `n` bytes. -/
def fits (n be value : Nat) : Bool := decide (be < 2 ^ n) && decide (value < 2 ^ (8 * n))

/-- A BAR0 write: a function number of R109, an offset in the 4 MiB of BAR0, and an access of 1 to 64 bytes. -/
def RegAcc.wf (a : RegAcc) : Bool :=
  decide (a.func < 64) && decide (a.off < 2 ^ 22) && decide (0 < a.size) && decide (a.size ≤ 64) && fits a.size a.be a.value

/-- A BAR2 write: a function number, an offset in the 8 MiB of BAR2, 1 to 64 bytes (R113). -/
def Bar2Write.wf (a : Bar2Write) : Bool :=
  decide (a.func < 64) && decide (a.off < 2 ^ 23) && decide (0 < a.len) && decide (a.len ≤ 64) && fits a.len a.be a.value

/-- An admin command comes from a function's queue and carries its opcode (R177). -/
def AdminCmd.wf (c : AdminCmd) (op : Nat) : Bool := decide (c.func < 64) && c.raw.field 0 8 == op

/-- A request identity (R89). -/
def ReqId.wf (i : ReqId) : Bool := decide (i.src < 2 ^ 20) && decide (i.tag < 2 ^ 17) && decide (i.epoch < 256)

/-- The header fields of a packet fit the bits of R514, the extension is a whole number of 8-byte words of at most 7
(EXTLEN has 3 bits), and the payload is at most 512 bytes (R513). -/
def Pkt.wf (p : Pkt) : Bool :=
  decide (p.dest < 2 ^ 20) && decide (p.src < 2 ^ 20) && decide (p.ptype < 256) && decide (p.tclass < 8) && decide (p.hops < 16) &&
  decide (p.attempt < 8) && decide (p.tag < 2 ^ 17) && decide (p.epoch < 256) && decide (p.via < 32) &&
  decide (p.plabel < 1024) && decide (p.sentAgo < 2 ^ 21) && decide (p.age < 2 ^ 20) && decide (p.txtime < 2 ^ 32) &&
  decide (p.status < 256) && decide (p.sub < 256) && decide (p.vc < 8) && decide (p.ext.length % 8 = 0) &&
  decide (p.ext.length ≤ 56) && decide (p.payload.length ≤ 512)

/-- A request's packet is well formed and it arrived on a fabric port, or is served locally. -/
def Req.wf (r : Req) : Bool := r.pkt.wf && (r.loc || decide (r.port < 72))

/-- A flit: the widths of R488 and a body of 56 bytes. -/
def Flit.wf (f : Flit) : Bool :=
  decide (f.kind < 8) && decide (f.vc < 8) && decide (f.seq < 4096) && decide (f.ackseq < 4096) && decide (f.crvc < 8) &&
  decide (f.crcum < 2048) && decide (f.crc < 2 ^ 16) && decide (f.body.length = 56)

/-- A mirror frame: the widths of R525. -/
def MFrame.wf (f : MFrame) : Bool :=
  decide (f.kind < 256) && decide (f.seq < 2 ^ 16) && decide (f.ackseq < 2 ^ 16) && decide (f.lane < 16)

/-- A work queue number (R35). -/
def wqWf (q : Nat) : Bool := decide (q < 262144)
/-- A descriptor count (R144). -/
def cntWf (c : Nat) : Bool := decide (c < 2 ^ 32)
/-- A request tag (R89). -/
def tagWf (t : Nat) : Bool := decide (t < 2 ^ 17)
/-- A fabric port (R482). -/
def portWf (p : Nat) : Bool := decide (p < 72)
/-- A fabric lane. -/
def laneWf (l : Nat) : Bool := decide (l < 72)
/-- An engine number (R35). -/
def engineWf (e : Nat) : Bool := decide (e < 288)
/-- The window capacity of a site record is a multiple of 256 MiB and at most 256 TiB (R117). -/
def siteWf (r : SiteRec) : Bool := r.winCap % 2 ^ 28 == 0 && decide (r.winCap ≤ 2 ^ 48)
/-- Bytes that the host stored lie in the 64-bit address space. -/
def storesWf (l : List Host.Cell) : Bool := l.all (fun c => decide (c.1 < 2 ^ 64))

/-- An error names a unit that exists: a GDDR7 channel 0 to 7, an engine 0 to 287, an input or output port of the crossbar. -/
def CritState.wf (c : CritState) : Bool :=
  match c with
  | .memCorrected k => decide (k < 8)
  | .memUe k a => decide (k < 8) && decide (a < 2 ^ 64)
  | .engParity e w => decide (e < 288) && decide (w < 2 ^ 64)
  | .xbarIn p v _ => decide (p ≤ 72) && decide (v < 8)
  | .xbarOut p v _ => decide (p ≤ 72) && decide (v < 8)
  | _ => true

/-- A command is well formed. -/
def Instr.wf : Instr → Bool
  | .regWrite a => a.wf
  | .tailDoorbell w st => w.wf && storesWf st
  | .headDoorbell w => w.wf
  | .keyRightsWrite w => w.wf
  | .adminTailDoorbell f t st _ => decide (f < 64) && cntWf t && storesWf st
  | .adminHeadDoorbell f h => decide (f < 64) && cntWf h
  | .adminQueueEnable f => decide (f < 64)
  | .adminQueueDisable f => decide (f < 64)
  | .fenceRead a => decide (a.func < 64) && decide (a.size ≤ 8)
  | .windowEnable d g => decide (d < 4) && decide (g < 64)
  | .xltExclWrite n i v => decide (n < 8) && decide (i < 4) && decide (v < 2 ^ 32)
  | .watchdogKick v => decide (v < 2 ^ 32)
  | .blockResetCluster c _ => decide (c < 18)
  | .blockResetGddr7Controller k _ => decide (k < 8)
  | .blockResetLaneBlock b _ => decide (b < 9)
  | .blockIdle c => decide (c < 256)
  | .blockIdleTimeout c => decide (c < 256)
  | .pmuLoad g => decide (g < 18)
  | .pmuTagSeed v => decide (v < 2 ^ 32)
  | .revoke m => decide (m < 16)
  | .faultInject v => decide (v < 2 ^ 32)
  | .portEnable p w d g => portWf p && decide (w < 8) && decide (d < 4) && decide (g < 32)
  | .portDisable p => portWf p
  | .cxlSetTimestamp v => decide (v < 2 ^ 64)
  | .hdmDecoderCommit d b sz _ => decide (d < 4) && decide (b < 2 ^ 64) && decide (sz < 2 ^ 64)
  | .cxlMemRead _ h => decide (h < 2 ^ 64) && decide (h % 64 = 0)
  | .cxlMemWrite _ h d m => decide (h < 2 ^ 64) && decide (h % 64 = 0) && decide (d.length = 64) && decide (m < 2 ^ 64)
  | .msixUnmask f v => decide (f < 64) && decide (v < if f = 0 then 2048 else 64)
  | .flrVf f => decide (0 < f) && decide (f < 64)
  | .vfEnable n => decide (0 < n) && decide (n < 64)
  | .clusterSelftestDone c _ => decide (c < 18)
  | .memTrainDone k _ => decide (k < 8)
  | .lbCalibrationDone b _ => decide (b < 9)
  | .turn e => engineWf e
  | .steal e _ => engineWf e
  | .targetTurn e _ => engineWf e
  | .descriptorFetchDone q c _ => wqWf q && cntWf c
  | .payloadReadDone q _ => wqWf q
  | .nop q _ => wqWf q
  | .put q _ => wqWf q
  | .get q _ => wqWf q
  | .send q _ => wqWf q
  | .recv q _ => wqWf q
  | .fadd64 q _ => wqWf q
  | .swap64 q _ => wqWf q
  | .cas64 q _ => wqWf q
  | .fadd128 q _ => wqWf q
  | .swap128 q _ => wqWf q
  | .cas128 q _ => wqWf q
  | .cfadd64 q _ => wqWf q
  | .collReduce q _ => wqWf q
  | .collVote q _ => wqWf q
  | .collBarrier q _ => wqWf q
  | .lockAcquire q _ => wqWf q
  | .lockTry q _ => wqWf q
  | .lockRelease q _ => wqWf q
  | .configWq c => c.wf 0x01
  | .enableWq c => c.wf 0x02
  | .disableWq c => c.wf 0x03
  | .drainComplete q => wqWf q
  | .resetWq c => c.wf 0x04
  | .suspendWq c => c.wf 0x05
  | .resumeWq c => c.wf 0x06
  | .queryWq c => c.wf 0x07
  | .setShaper c => c.wf 0x08
  | .configCq c => c.wf 0x09
  | .configEq c => c.wf 0x0A
  | .setVfAllot c => c.wf 0x10
  | .registerRegion c => c.wf 0x11
  | .revokeRegion c => c.wf 0x12
  | .revokeComplete i => decide (i < 2 ^ 25)
  | .queryRegion c => c.wf 0x13
  | .mapWindow c _ => c.wf 0x18
  | .unmapWindow c => c.wf 0x19
  | .invalidateXlt c => c.wf 0x20
  | .collSetup c _ => c.wf 0x28
  | .collSetupComplete k => decide (k < 4096)
  | .collTeardown c => c.wf 0x29
  | .collTeardownComplete k => decide (k < 4096)
  | .pisteSetup c => c.wf 0x30
  | .pisteTeardown c => c.wf 0x31
  | .lockConfig c => c.wf 0x38
  | .lockForceRelease c => c.wf 0x39
  | .twinConfig c => c.wf 0x40
  | .getLog c => c.wf 0x48
  | .fwUpdate c _ => c.wf 0x49
  | .retransmit t => tagWf t
  | .unknownOutcome t => tagWf t
  | .tagRelease t => tagWf t
  | .dupEntryExpire i => i.wf
  | .sendDeadline q c => wqWf q && cntWf c
  | .reassemblyTimeout i => i.wf
  | .putPacket r => r.wf
  | .getPacket r => r.wf
  | .atomicPacket r => r.wf
  | .sendPacket r => r.wf
  | .wrdPacket r => r.wf
  | .wwrPacket r => r.wf
  | .linvPacket r => r.wf
  | .lockopAcquire r => r.wf
  | .lockopTry r => r.wf
  | .lockopRelease r => r.wf
  | .lockopCancel r => r.wf
  | .lockopProbe r => r.wf
  | .lgrantPacket r => r.wf
  | .collContribution r => r.wf
  | .collResult r => r.wf
  | .collProbe r => r.wf
  | .collMergedRequest r => r.wf
  | .pmarkPacket r => r.wf
  | .respPacket p k => portWf p && k.wf
  | .linvAck t => tagWf t
  | .grantAnswer t st => tagWf t && decide (st < 256)
  | .grantTimeout t => tagWf t
  | .collProbeTimer k _ => decide (k < 4096)
  | .counterBatchSend k => decide (k < 4096)
  | .constituentExpire k => decide (k < 4096)
  | .leaseExpire _ r _ => decide (r < 2 ^ 24)
  | .transitPacket p k => portWf p && k.wf
  | .escwaitExpire p v => decide (p < 73) && decide (v < 8)
  | .lnotice p k => portWf p && k.wf
  | .psetup p k => portWf p && k.wf
  | .pconfirm p k => portWf p && k.wf
  | .preject p k => portWf p && k.wf
  | .pbreak p k => portWf p && k.wf
  | .pisteSetupTimeout n => decide (n < 1024)
  | .pisteTeardownTimeout n => decide (n < 1024)
  | .lprobe p k => portWf p && k.wf
  | .lanswer p k => portWf p && k.wf
  | .oreset p k => portWf p && k.wf
  | .livenessTimeout dg => decide (dg < 18)
  | .aliasPkt p k => portWf p && k.wf
  | .trainingFrame l c i => laneWf l && decide (c < 2 ^ 64) && decide (i < 2 ^ 64)
  | .signalDetect p => portWf p
  | .eqComplete p => portWf p
  | .deskewLock p => portWf p
  | .initFlit p f => portWf p && f.wf && laneWf f.lane
  | .eqTimeout p => portWf p
  | .trainTimeout p => portWf p
  | .holdoffExpire p => portWf p
  | .retrainFlit p f => portWf p && f.wf && laneWf f.lane
  | .retrainRepeat p => portWf p
  | .retrainComplete p _ => portWf p
  | .retrainTimeout p => portWf p
  | .dataFlit p f l _ => portWf p && f.wf && laneWf l
  | .idleFlit p f => portWf p && f.wf && laneWf f.lane
  | .nakFlit p f => portWf p && f.wf && laneWf f.lane
  | .badFlit p b => portWf p && laneWf b.lane && b.fl.wf
  | .replayTimeout p => portWf p
  | .nakHoldExpire p => portWf p
  | .laneSignalLoss l => laneWf l
  | .tsxSend p => portWf p
  | .tsxFlit p f _ => portWf p && f.wf && laneWf f.lane
  | .neighbourTimeStale p => portWf p
  | .timeAlarm n => decide (n < 4)
  | .signalDetectWake l => laneWf l
  | .paceWindow l => decide (l.length = 36) && l.all (fun r => decide (r < 65536))
  | .mirBackchannelBlock a b c => decide (a < 256) && decide (b < 256) && decide (c < 256)
  | .record f => f.wf
  | .mirNak f => f.wf
  | .mirIdle f => f.wf
  | .heartbeat f => f.wf
  | .unpairFrame f => f.wf
  | .handoverFrame f => f.wf
  | .faultWindowEnd k => decide (k < 548)
  | .cxlGetLog _ _ _ => true
  | .cxlGetEventRecords l => decide (l < 4)
  | .cxlClearEventRecords l _ => decide (l < 4)
  | .cxlUnsupportedCommand o => decide (o < 65536)
  | .nccEnable => true
  | .nccDisable => true
  | .nccInitDone => true
  | .xltDisable => true
  | .timeStep => true
  | .standby => true
  | .avsEnable => true
  | .blockResetQueueManager _ => true
  | .blockResetTranslationUnit _ => true
  | .blockResetLockUnit _ => true
  | .blockResetCollectiveUnit _ => true
  | .blockResetMirrorUnit _ => true
  | .blockResetNearCache _ => true
  | .blockResetSteward _ => true
  | .mirLinkEnable => true
  | .unpair => true
  | .release => true
  | .handover => true
  | .pmuStart => true
  | .pmuStop => true
  | .newchal => true
  | .unlock => true
  | .floor => true
  | .fuseWriteDone => true
  | .safeStateClear => true
  | .cxlIdentifyMemoryDevice => true
  | .cxlGetSupportedLogs => true
  | .cxlGetHealthInfo => true
  | .cxlGetTimestamp => true
  | .hostLinkUp _ _ _ _ => true
  | .l0pWidthChange _ => true
  | .dlDown => true
  | .hotReset => true
  | .perstAssert => true
  | .perstDeassert => true
  | .flrPf => true
  | .powerOnReset => true
  | .watchdogExpire => true
  | .stewardBoot b => siteWf b.slotA.site && siteWf b.slotB.site
  | .nvWriteDone => true
  | .ctxpoolReady => true
  | .dstateReady => true
  | .shaperRefill => true
  | .unmapWindowComplete _ => true
  | .invalidateXltComplete _ => true
  | .pairingComplete => true
  | .twinConfigTimeout => true
  | .fwUpdateComplete _ _ _ => true
  | .ccBasePeriod => true
  | .lockProbeTimer _ => true
  | .waitingRecordExpire _ => true
  | .leaseStartWaitEnd _ => true
  | .windowBudgetExpire _ => true
  | .windowSettleExpire _ => true
  | .lnoticeRefresh => true
  | .oresetRepeat => true
  | .aliasRepeat => true
  | .aliasedTimeout => true
  | .errorWindow => true
  | .refLost => true
  | .ppsEdge => true
  | .ppsInputLost => true
  | .ppsOutPulse => true
  | .standbyPowerDown => true
  | .railenSequence => true
  | .avsTransactionDone _ _ => true
  | .junctionHot _ => true
  | .hostUncorr _ => true
  | .mirClockDetect => true
  | .mirLanesLocked => true
  | .mirCommaAligned => true
  | .mirTuneDone => true
  | .mirTrainTimeout => true
  | .mirDownExpire => true
  | .mirReplayTimeout => true
  | .heartbeatSend => true
  | .mirReadyTimeout => true
  | .twinFailDeclare => true
  | .takeoverComplete => true
  | .twinIsolate => true
  | .fenceWindowExpire => true
  | .handoverRepeat => true
  | .faultMessage => true
  | .faultLogWrite => true
  | .ringFlitUe _ _ words v => decide (words.length = 8) && (match v with | .critical c => c.wf | _ => true)
  | .critStateUe c => c.wf
  | .bwWindowEnd => true
  | .walkReadDone _ _ => true
  | .adCasDone _ _ => true
  | .xltEntryAged _ => true
  | .hostResetComplete => true
  | .referencePresent => true
  | .configurationWrite _ => true
  | .junctionCool _ => true
  | .cdatDoeRequest _ => true

end Sys2Proof
end

