-- ==== Sys2Proof/Config.lean ====
section
/-! DEFINITION. The free values: what the spec leaves open although the device goes on. Each is an opaque constant with
no body, applied to a counter of the state (`State.free`) that the step advances, so that no proof can see its value. -/

namespace Sys2Proof.Config

/-- Which free request tag a new request takes (R667). -/
opaque tagChoice : Nat → Nat

/-- The set of the near-cache that a global block maps to (R305). -/
opaque nccSet : Nat → Nat

/-- Which frame of equal rank is replaced (R305). -/
opaque nccVictim : Nat → Nat

/-- The 32 random bytes of a debug challenge (R624). -/
opaque challenge : Nat → BitVec 256

/-- Whether the signature in SEC_RESP verifies (R625): of the challenge and the response. -/
opaque unlockOk : BitVec 384 → BitVec 768 → Bool

/-- The number of ticks by which a rate correction moves the reading of fabric time at a tick (R551, R558, R564). -/
opaque rateCorrection : Nat → Nat

/-- The quiet-NaN-free corners of fp64 arithmetic that IEEE 754 leaves to the implementation (R392): the sign and
payload of a NaN result of an addition. -/
opaque fpNaN : BitVec 64 → BitVec 64 → BitVec 64

/-- Bytes of a CXL mailbox or DOE response that the CXL specification fixes and this spec does not state (R100). -/
opaque cxlPayload : Nat → Nat → List (BitVec 8)

/-- A CXL mailbox return code that the CXL specification fixes and this spec does not state (R100). -/
opaque cxlCode : Nat → Nat → Nat

/-- A word of configuration space, of the MSI-X pending bits' neighbours or of the CXL registers that PCIe or CXL fixes and this spec
does not state: of the function, the offset and a number (R100). -/
opaque busWord : Nat → Nat → Nat → BitVec 32

/-- The free words between one capability structure of configuration space and the next: the places of the structures are not stated (R100). -/
opaque capGap : Nat → Nat

/-- Whether the loss of VAON during a nonvolatile write pulse leaves the row unreadable (R586). -/
opaque nvTorn : Nat → Bool

/-- Which port of a lane block the fault messages of a block reset of it name (R581): the spec gives a lane block no source. -/
opaque laneBlockSrc : Nat → Nat

/-- A number that a boot settings record names, by field, and a list of register values (R588): the spec gives the record's fields and
no layout of them. -/
opaque recordField : Nat → List (BitVec 8) → Nat
opaque recordList : Nat → List (BitVec 8) → List (Nat × Nat)

/-- How the read of a record in host memory that a command fetched from an admin ring names ends (R295, R384, R591). -/
opaque recordRead : Nat → Nat

/-- The fixed hash that spreads pairs of ring stops across the four rings (01, service rings), of the pair's key. -/
opaque ringHash : Nat → Nat

/-- The alternative ring and direction of a route table entry (01, service rings), of the pair's key. -/
opaque ringAlt : Nat → Nat

/-- How many packets beyond the first the buffer of the control stop holds (R461). -/
opaque ctlRoom : Nat

/-- How many responses beyond the first a device holds buffer space for (R462). -/
opaque respRoom : Nat

/-- The value that a route or state reading not fixed by the spec takes. -/
opaque openNat : Nat → Nat

end Sys2Proof.Config
end

