-- ==== Sys2Proof/Machine/RegTable.lean ====
section
/-! DEFINITION. The register map of BAR0 (17_register_map, R659): every register family with its offsets, its reset
value and the position, width and access code (R15) of every field, from the field tables of the chapters. -/

namespace Sys2Proof.Machine

/-- The register families of the register map. -/
inductive RegName where
  | GEN_ID | GEN_FWVER | GEN_READY | GEN_READYCL | GEN_COORD | GEN_ALIAS | GEN_SHAPE | GEN_EPOCH
  | HIF_LINKSTAT | HIF_STATUS | HIF_FLT | HIF_ACCCNT | HIF_ACCLOG0 | HIF_ACCLOG1 | HIF_ACCLOG2 | HIF_MEMSTAT
  | QMG_CTL | QMG_DBIGNORE | QMG_QERR0 | QMG_QERR1 | QMG_QERR2 | QMG_EVCNT | QMG_SMPSEL | QMG_SMP0 | QMG_SMP1 | QMG_SMP2 | QMG_SMP3 | QMG_AQSQLO | QMG_AQSQHI | QMG_AQCQLO | QMG_AQCQHI | QMG_AQCFG | QMG_AQTAIL | QMG_AQHEAD | QMG_AQSTAT | QMG_VFWQ | QMG_VFCQ | QMG_VFEQ | QMG_VFRGN
  | ENG_CTL | ENG_STAT | ENG_STEAL | ENG_STOLEN
  | XLT_CTL | XLT_ASIDLO | XLT_ASIDHI | XLT_TLIFE | XLT_STAT | XLT_FLT | XLT_HIT | XLT_MISS | XLT_WALKRD | XLT_ADCAS | XLT_AGED | XLT_FAULTS | XLT_FLTLOG0 | XLT_FLTLOG1 | XLT_FLTLOG2 | XLT_FLTLOG3 | XLT_EXCLBL | XLT_EXCLBH | XLT_EXCLLL | XLT_EXCLLH
  | GWN_BUDGET | GWN_WCFG | GWN_WMAP | GWN_FENCE | GWN_FLT | GWN_RDCNT | GWN_WRCNT | GWN_ERRCNT | GWN_ERRLOG0 | GWN_ERRLOG1 | GWN_ERRLOG2
  | NCC_CFG | NCC_LEASEDUR | NCC_OVFDUR | NCC_STAT | NCC_LTOCC | NCC_HIT | NCC_MISS | NCC_EXPMISS | NCC_INVRX | NCC_INVTX | NCC_EXPWAIT | NCC_NOLEASE | NCC_FLT
  | COL_PROBEINT | COL_CWIN | COL_STAT | COL_FLT | COL_INSTDONE | COL_LOSTCNT | COL_CONSTIT | COL_FWD | COL_CTXSEL | COL_CTX0 | COL_CTX1 | COL_CTX2
  | LCK_CTL | LCK_DEADWIN | LCK_PROBEINT | LCK_LLOCC | LCK_WROCC | LCK_FLT | LCK_GRANT | LCK_WAIT | LCK_DECLINE | LCK_ABANDON | LCK_FORCE | LCK_NOTOWNER | LCK_LOCKSEL | LCK_LOCK0 | LCK_LOCK1 | LCK_LOCK2 | LCK_LOCK3
  | RTE_CTL | RTE_PCAP | RTE_FLT | RTE_ESC | RTE_DET | RTE_UNROUTE | RTE_HOPLIM | RTE_REINJ | RTE_FWDDROP | RTE_PSTOFF | RTE_CCTARGETQ | RTE_CCAI | RTE_CCBETA | RTE_CCWMIN | RTE_CCWMAX | RTE_CCWINIT | RTE_PISTESEL | RTE_PISTE0 | RTE_PISTE1 | RTE_PISTE2 | RTE_PISTE3 | RTE_ALIAS | RTE_PMAP | RTE_PORT | RTE_LINE
  | FLK_CTL | FLK_REPLAYTO | FLK_ERRWIN | FLK_ERRTHR | FLK_EQTO | FLK_RTRTO | FLK_HOLDOFF | FLK_FLT | FLK_CRALLOC | FLK_LBSTAT | FLK_LANECTL | FLK_LANESTAT | FLK_LANEERR | FLK_LANEFEC | FLK_TAPS | FLK_PSTAT | FLK_PREPLAY | FLK_PERR | FLK_PLINK | FLK_PDELAY
  | MIR_CTL | MIR_STAT | MIR_HB | MIR_GUARD | MIR_FENCEWIN | MIR_FLT | MIR_TXREC | MIR_RXREC | MIR_REPLAY | MIR_HBLATE | MIR_LAG | MIR_WQBASE | MIR_WQCOUNT | MIR_CQR | MIR_EQR | MIR_MAPBASE | MIR_MAPCOUNT | MIR_LANE
  | TIM_CTL | TIM_CFG | TIM_STAT | TIM_GM | TIM_OFFSET | TIM_NOWLO | TIM_NOWHI | TIM_SETLO | TIM_SETHI | TIM_ALARM | TIM_ALMCTL | TIM_FLT | TIM_PPSERR | TIM_CNT
  | PWR_CTL | PWR_PACESET | PWR_PACE | PWR_SAMP | PWR_VCORE | PWR_VLIM | PWR_FLT | PWR_TEMP | PWR_WAKECFG | PWR_SDMASK | PWR_WAKE
  | RST_CAUSE | RST_BLKCMD | RST_BLKSTAT | RST_IDLETO | RST_WDCTL | RST_WDKICK | RST_FLT | RST_CRITCNT | RST_NVSTAT | RST_BOOT | RST_BKP
  | FLT_CTL | FLT_STAT | FLT_SAFE | FLT_LAST0 | FLT_LAST1 | FLT_LAST2 | FLT_LAST3 | FLT_LAST4 | FLT_MSGCNT | FLT_INJ | FLT_ESCCNT | FLT_SRCCFG | FLT_SRCSTAT | FLT_SRCCNT | FLT_SRCLAST
  | PMU_CTL | PMU_BWWIN | PMU_TAGCTL | PMU_TAGSEED | PMU_TAG0 | PMU_TAG1 | PMU_TAG2 | PMU_TAG3 | PMU_TAG4 | PMU_TAG5 | PMU_TAG6 | PMU_TAG7 | PMU_GCTL | PMU_GSTAT | PMU_FIXLO | PMU_FIXHI | PMU_ARBASELO | PMU_ARBASEHI | PMU_ARLIMLO | PMU_ARLIMHI | PMU_SMP0 | PMU_SMP1 | PMU_SMP2 | PMU_SMP3 | PMU_SMP4 | PMU_SMP5 | PMU_CNTLO | PMU_CNTHI | PMU_RLDLO | PMU_RLDHI | PMU_EVSEL | PMU_FILT | PMU_FQUEUE | PMU_FQMASK | PMU_OVFCNT | PMU_PBWTX | PMU_PBWRX | PMU_PUTIL
  | SEC_CTL | SEC_STAT | SEC_FLT | SEC_MINVER | SEC_KEYSTAT | SEC_DBGCNT | SEC_UID | SEC_CHAL | SEC_RESP
  deriving DecidableEq, Repr

/-- The access codes of R15. -/
inductive Access where
  | rw | ro | rl | lt | wo | ec
  deriving DecidableEq, Repr

/-- A register family: its first offset, `n1` instances `s1` bytes apart, each of `n2` sub-instances `s2` bytes apart,
and the reset value of each. -/
structure RegFam where
  name : RegName
  base : Nat
  n1 : Nat
  s1 : Nat
  n2 : Nat
  s2 : Nat
  reset : Nat
  deriving DecidableEq, Repr

/-- A field of a register: its lowest bit, its width and its access code. -/
structure RegField where
  lo : Nat
  w : Nat
  acc : Access
  deriving DecidableEq, Repr

/-- A named field of a register family. -/
structure Fld where
  reg : RegName
  lo : Nat
  w : Nat
  deriving DecidableEq, Repr

/-- The families of block GEN. -/
def famsGen : List RegFam :=
  [⟨.GEN_ID, 0x0, 1, 0x0, 1, 0x0, 0x907200b0⟩,
   ⟨.GEN_FWVER, 0x4, 1, 0x0, 1, 0x0, 0x0⟩,
   ⟨.GEN_READY, 0x8, 1, 0x0, 1, 0x0, 0x0⟩,
   ⟨.GEN_READYCL, 0xc, 1, 0x0, 1, 0x0, 0x0⟩,
   ⟨.GEN_COORD, 0x10, 1, 0x0, 1, 0x0, 0xfffff⟩,
   ⟨.GEN_ALIAS, 0x14, 1, 0x0, 1, 0x0, 0xfffff⟩,
   ⟨.GEN_SHAPE, 0x18, 1, 0x0, 1, 0x0, 0x1010101⟩,
   ⟨.GEN_EPOCH, 0x1c, 1, 0x0, 1, 0x0, 0x0⟩]

/-- The families of block HIF. -/
def famsHif : List RegFam :=
  [⟨.HIF_LINKSTAT, 0x1000, 1, 0x0, 1, 0x0, 0x0⟩,
   ⟨.HIF_STATUS, 0x1004, 1, 0x0, 1, 0x0, 0x0⟩,
   ⟨.HIF_FLT, 0x1008, 1, 0x0, 1, 0x0, 0x0⟩,
   ⟨.HIF_ACCCNT, 0x100c, 1, 0x0, 1, 0x0, 0x0⟩,
   ⟨.HIF_ACCLOG0, 0x1010, 1, 0x0, 1, 0x0, 0x0⟩,
   ⟨.HIF_ACCLOG1, 0x1014, 1, 0x0, 1, 0x0, 0x0⟩,
   ⟨.HIF_ACCLOG2, 0x1018, 1, 0x0, 1, 0x0, 0x0⟩,
   ⟨.HIF_MEMSTAT, 0x1040, 8, 0x4, 1, 0x0, 0x0⟩]

/-- The families of block QMG. -/
def famsQmg : List RegFam :=
  [⟨.QMG_CTL, 0x2000, 1, 0x0, 1, 0x0, 0x8⟩,
   ⟨.QMG_DBIGNORE, 0x2004, 1, 0x0, 1, 0x0, 0x0⟩,
   ⟨.QMG_QERR0, 0x2008, 1, 0x0, 1, 0x0, 0x0⟩,
   ⟨.QMG_QERR1, 0x200c, 1, 0x0, 1, 0x0, 0x0⟩,
   ⟨.QMG_QERR2, 0x2010, 1, 0x0, 1, 0x0, 0x0⟩,
   ⟨.QMG_EVCNT, 0x2014, 1, 0x0, 1, 0x0, 0x0⟩,
   ⟨.QMG_SMPSEL, 0x2018, 1, 0x0, 1, 0x0, 0x0⟩,
   ⟨.QMG_SMP0, 0x201c, 1, 0x0, 1, 0x0, 0x0⟩,
   ⟨.QMG_SMP1, 0x2020, 1, 0x0, 1, 0x0, 0x0⟩,
   ⟨.QMG_SMP2, 0x2024, 1, 0x0, 1, 0x0, 0x0⟩,
   ⟨.QMG_SMP3, 0x2028, 1, 0x0, 1, 0x0, 0x0⟩,
   ⟨.QMG_AQSQLO, 0x2040, 1, 0x0, 1, 0x0, 0x0⟩,
   ⟨.QMG_AQSQHI, 0x2044, 1, 0x0, 1, 0x0, 0x0⟩,
   ⟨.QMG_AQCQLO, 0x2048, 1, 0x0, 1, 0x0, 0x0⟩,
   ⟨.QMG_AQCQHI, 0x204c, 1, 0x0, 1, 0x0, 0x0⟩,
   ⟨.QMG_AQCFG, 0x2050, 1, 0x0, 1, 0x0, 0x1440⟩,
   ⟨.QMG_AQTAIL, 0x2054, 1, 0x0, 1, 0x0, 0x0⟩,
   ⟨.QMG_AQHEAD, 0x2058, 1, 0x0, 1, 0x0, 0x0⟩,
   ⟨.QMG_AQSTAT, 0x205c, 1, 0x0, 1, 0x0, 0x0⟩,
   ⟨.QMG_VFWQ, 0x2100, 64, 0x10, 1, 0x0, 0x0⟩,
   ⟨.QMG_VFCQ, 0x2104, 64, 0x10, 1, 0x0, 0x0⟩,
   ⟨.QMG_VFEQ, 0x2108, 64, 0x10, 1, 0x0, 0x0⟩,
   ⟨.QMG_VFRGN, 0x210c, 64, 0x10, 1, 0x0, 0x0⟩]

/-- The families of block ENG. -/
def famsEng : List RegFam :=
  [⟨.ENG_CTL, 0x3000, 18, 0x4, 1, 0x0, 0x21⟩,
   ⟨.ENG_STAT, 0x3048, 18, 0x4, 1, 0x0, 0x0⟩,
   ⟨.ENG_STEAL, 0x3100, 288, 0x4, 1, 0x0, 0x0⟩,
   ⟨.ENG_STOLEN, 0x3580, 288, 0x4, 1, 0x0, 0x0⟩]

/-- The families of block XLT. -/
def famsXlt : List RegFam :=
  [⟨.XLT_CTL, 0x4000, 1, 0x0, 1, 0x0, 0x2⟩,
   ⟨.XLT_ASIDLO, 0x4004, 1, 0x0, 1, 0x0, 0x0⟩,
   ⟨.XLT_ASIDHI, 0x4008, 1, 0x0, 1, 0x0, 0x0⟩,
   ⟨.XLT_TLIFE, 0x400c, 1, 0x0, 1, 0x0, 0xf4240⟩,
   ⟨.XLT_STAT, 0x4010, 1, 0x0, 1, 0x0, 0x0⟩,
   ⟨.XLT_FLT, 0x4014, 1, 0x0, 1, 0x0, 0x0⟩,
   ⟨.XLT_HIT, 0x4018, 1, 0x0, 1, 0x0, 0x0⟩,
   ⟨.XLT_MISS, 0x401c, 1, 0x0, 1, 0x0, 0x0⟩,
   ⟨.XLT_WALKRD, 0x4020, 1, 0x0, 1, 0x0, 0x0⟩,
   ⟨.XLT_ADCAS, 0x4024, 1, 0x0, 1, 0x0, 0x0⟩,
   ⟨.XLT_AGED, 0x4028, 1, 0x0, 1, 0x0, 0x0⟩,
   ⟨.XLT_FAULTS, 0x402c, 1, 0x0, 1, 0x0, 0x0⟩,
   ⟨.XLT_FLTLOG0, 0x4030, 1, 0x0, 1, 0x0, 0x0⟩,
   ⟨.XLT_FLTLOG1, 0x4034, 1, 0x0, 1, 0x0, 0x0⟩,
   ⟨.XLT_FLTLOG2, 0x4038, 1, 0x0, 1, 0x0, 0x0⟩,
   ⟨.XLT_FLTLOG3, 0x403c, 1, 0x0, 1, 0x0, 0x0⟩,
   ⟨.XLT_EXCLBL, 0x4040, 8, 0x10, 1, 0x0, 0x0⟩,
   ⟨.XLT_EXCLBH, 0x4044, 8, 0x10, 1, 0x0, 0x0⟩,
   ⟨.XLT_EXCLLL, 0x4048, 8, 0x10, 1, 0x0, 0x0⟩,
   ⟨.XLT_EXCLLH, 0x404c, 8, 0x10, 1, 0x0, 0x0⟩]

/-- The families of block GWN. -/
def famsGwn : List RegFam :=
  [⟨.GWN_BUDGET, 0x5000, 1, 0x0, 1, 0x0, 0xf4240⟩,
   ⟨.GWN_WCFG, 0x5010, 4, 0x4, 1, 0x0, 0x1500⟩,
   ⟨.GWN_WMAP, 0x5020, 4, 0x4, 1, 0x0, 0x0⟩,
   ⟨.GWN_FENCE, 0x5030, 4, 0x4, 1, 0x0, 0x0⟩,
   ⟨.GWN_FLT, 0x5040, 1, 0x0, 1, 0x0, 0x0⟩,
   ⟨.GWN_RDCNT, 0x5044, 1, 0x0, 1, 0x0, 0x0⟩,
   ⟨.GWN_WRCNT, 0x5048, 1, 0x0, 1, 0x0, 0x0⟩,
   ⟨.GWN_ERRCNT, 0x504c, 1, 0x0, 1, 0x0, 0x0⟩,
   ⟨.GWN_ERRLOG0, 0x5050, 1, 0x0, 1, 0x0, 0x0⟩,
   ⟨.GWN_ERRLOG1, 0x5054, 1, 0x0, 1, 0x0, 0x0⟩,
   ⟨.GWN_ERRLOG2, 0x5058, 1, 0x0, 1, 0x0, 0x0⟩]

/-- The families of block NCC. -/
def famsNcc : List RegFam :=
  [⟨.NCC_CFG, 0x6000, 1, 0x0, 1, 0x0, 0x1004⟩,
   ⟨.NCC_LEASEDUR, 0x6004, 1, 0x0, 1, 0x0, 0x4e20⟩,
   ⟨.NCC_OVFDUR, 0x6008, 1, 0x0, 1, 0x0, 0x4e20⟩,
   ⟨.NCC_STAT, 0x600c, 1, 0x0, 1, 0x0, 0x0⟩,
   ⟨.NCC_LTOCC, 0x6010, 1, 0x0, 1, 0x0, 0x0⟩,
   ⟨.NCC_HIT, 0x6014, 1, 0x0, 1, 0x0, 0x0⟩,
   ⟨.NCC_MISS, 0x6018, 1, 0x0, 1, 0x0, 0x0⟩,
   ⟨.NCC_EXPMISS, 0x601c, 1, 0x0, 1, 0x0, 0x0⟩,
   ⟨.NCC_INVRX, 0x6020, 1, 0x0, 1, 0x0, 0x0⟩,
   ⟨.NCC_INVTX, 0x6024, 1, 0x0, 1, 0x0, 0x0⟩,
   ⟨.NCC_EXPWAIT, 0x6028, 1, 0x0, 1, 0x0, 0x0⟩,
   ⟨.NCC_NOLEASE, 0x602c, 1, 0x0, 1, 0x0, 0x0⟩,
   ⟨.NCC_FLT, 0x6030, 1, 0x0, 1, 0x0, 0x0⟩]

/-- The families of block COL. -/
def famsCol : List RegFam :=
  [⟨.COL_PROBEINT, 0x7000, 1, 0x0, 1, 0x0, 0x186a0⟩,
   ⟨.COL_CWIN, 0x7004, 1, 0x0, 1, 0x0, 0x0⟩,
   ⟨.COL_STAT, 0x7008, 1, 0x0, 1, 0x0, 0x0⟩,
   ⟨.COL_FLT, 0x700c, 1, 0x0, 1, 0x0, 0x0⟩,
   ⟨.COL_INSTDONE, 0x7010, 1, 0x0, 1, 0x0, 0x0⟩,
   ⟨.COL_LOSTCNT, 0x7014, 1, 0x0, 1, 0x0, 0x0⟩,
   ⟨.COL_CONSTIT, 0x7018, 1, 0x0, 1, 0x0, 0x0⟩,
   ⟨.COL_FWD, 0x701c, 1, 0x0, 1, 0x0, 0x0⟩,
   ⟨.COL_CTXSEL, 0x7020, 1, 0x0, 1, 0x0, 0x0⟩,
   ⟨.COL_CTX0, 0x7024, 1, 0x0, 1, 0x0, 0x0⟩,
   ⟨.COL_CTX1, 0x7028, 1, 0x0, 1, 0x0, 0x0⟩,
   ⟨.COL_CTX2, 0x702c, 1, 0x0, 1, 0x0, 0x0⟩]

/-- The families of block LCK. -/
def famsLck : List RegFam :=
  [⟨.LCK_CTL, 0x8000, 1, 0x0, 1, 0x0, 0x1⟩,
   ⟨.LCK_DEADWIN, 0x8004, 1, 0x0, 1, 0x0, 0x30d40⟩,
   ⟨.LCK_PROBEINT, 0x8008, 1, 0x0, 1, 0x0, 0xf4240⟩,
   ⟨.LCK_LLOCC, 0x800c, 1, 0x0, 1, 0x0, 0x0⟩,
   ⟨.LCK_WROCC, 0x8010, 1, 0x0, 1, 0x0, 0x0⟩,
   ⟨.LCK_FLT, 0x8014, 1, 0x0, 1, 0x0, 0x0⟩,
   ⟨.LCK_GRANT, 0x8018, 1, 0x0, 1, 0x0, 0x0⟩,
   ⟨.LCK_WAIT, 0x801c, 1, 0x0, 1, 0x0, 0x0⟩,
   ⟨.LCK_DECLINE, 0x8020, 1, 0x0, 1, 0x0, 0x0⟩,
   ⟨.LCK_ABANDON, 0x8024, 1, 0x0, 1, 0x0, 0x0⟩,
   ⟨.LCK_FORCE, 0x8028, 1, 0x0, 1, 0x0, 0x0⟩,
   ⟨.LCK_NOTOWNER, 0x802c, 1, 0x0, 1, 0x0, 0x0⟩,
   ⟨.LCK_LOCKSEL, 0x8030, 1, 0x0, 1, 0x0, 0x0⟩,
   ⟨.LCK_LOCK0, 0x8034, 1, 0x0, 1, 0x0, 0x0⟩,
   ⟨.LCK_LOCK1, 0x8038, 1, 0x0, 1, 0x0, 0x0⟩,
   ⟨.LCK_LOCK2, 0x803c, 1, 0x0, 1, 0x0, 0x0⟩,
   ⟨.LCK_LOCK3, 0x8040, 1, 0x0, 1, 0x0, 0x0⟩]

/-- The families of block RTE. -/
def famsRte : List RegFam :=
  [⟨.RTE_CTL, 0x9000, 1, 0x0, 1, 0x0, 0xc80003⟩,
   ⟨.RTE_PCAP, 0x9004, 1, 0x0, 1, 0x0, 0xc0⟩,
   ⟨.RTE_FLT, 0x9008, 1, 0x0, 1, 0x0, 0x0⟩,
   ⟨.RTE_ESC, 0x900c, 1, 0x0, 1, 0x0, 0x0⟩,
   ⟨.RTE_DET, 0x9010, 1, 0x0, 1, 0x0, 0x0⟩,
   ⟨.RTE_UNROUTE, 0x9014, 1, 0x0, 1, 0x0, 0x0⟩,
   ⟨.RTE_HOPLIM, 0x9018, 1, 0x0, 1, 0x0, 0x0⟩,
   ⟨.RTE_REINJ, 0x901c, 1, 0x0, 1, 0x0, 0x0⟩,
   ⟨.RTE_FWDDROP, 0x9020, 1, 0x0, 1, 0x0, 0x0⟩,
   ⟨.RTE_PSTOFF, 0x9024, 1, 0x0, 1, 0x0, 0x0⟩,
   ⟨.RTE_CCTARGETQ, 0x9030, 1, 0x0, 1, 0x0, 0xfa0⟩,
   ⟨.RTE_CCAI, 0x9034, 1, 0x0, 1, 0x0, 0x1000⟩,
   ⟨.RTE_CCBETA, 0x9038, 1, 0x0, 1, 0x0, 0xcd⟩,
   ⟨.RTE_CCWMIN, 0x903c, 1, 0x0, 1, 0x0, 0x800⟩,
   ⟨.RTE_CCWMAX, 0x9040, 1, 0x0, 1, 0x0, 0x800000⟩,
   ⟨.RTE_CCWINIT, 0x9044, 1, 0x0, 1, 0x0, 0x40000⟩,
   ⟨.RTE_PISTESEL, 0x9050, 1, 0x0, 1, 0x0, 0x0⟩,
   ⟨.RTE_PISTE0, 0x9054, 1, 0x0, 1, 0x0, 0x0⟩,
   ⟨.RTE_PISTE1, 0x9058, 1, 0x0, 1, 0x0, 0x0⟩,
   ⟨.RTE_PISTE2, 0x905c, 1, 0x0, 1, 0x0, 0x0⟩,
   ⟨.RTE_PISTE3, 0x9060, 1, 0x0, 1, 0x0, 0x0⟩,
   ⟨.RTE_ALIAS, 0x9080, 18, 0x4, 1, 0x0, 0x0⟩,
   ⟨.RTE_PMAP, 0x9100, 72, 0x4, 1, 0x0, 0x0⟩,
   ⟨.RTE_PORT, 0x9300, 72, 0x4, 1, 0x0, 0x0⟩,
   ⟨.RTE_LINE, 0x9500, 72, 0x4, 1, 0x0, 0x0⟩]

/-- The families of block FLK. -/
def famsFlk : List RegFam :=
  [⟨.FLK_CTL, 0xa000, 1, 0x0, 1, 0x0, 0x83⟩,
   ⟨.FLK_REPLAYTO, 0xa004, 1, 0x0, 1, 0x0, 0xfa0⟩,
   ⟨.FLK_ERRWIN, 0xa008, 1, 0x0, 1, 0x0, 0xf4240⟩,
   ⟨.FLK_ERRTHR, 0xa00c, 1, 0x0, 1, 0x0, 0x1000010⟩,
   ⟨.FLK_EQTO, 0xa010, 1, 0x0, 1, 0x0, 0x2faf080⟩,
   ⟨.FLK_RTRTO, 0xa014, 1, 0x0, 1, 0x0, 0x1e8480⟩,
   ⟨.FLK_HOLDOFF, 0xa018, 1, 0x0, 1, 0x0, 0xf4240⟩,
   ⟨.FLK_FLT, 0xa01c, 1, 0x0, 1, 0x0, 0x0⟩,
   ⟨.FLK_CRALLOC, 0xa020, 8, 0x4, 1, 0x0, 0x0⟩,
   ⟨.FLK_LBSTAT, 0xa040, 9, 0x4, 1, 0x0, 0x0⟩,
   ⟨.FLK_LANECTL, 0xa100, 72, 0x4, 1, 0x0, 0x0⟩,
   ⟨.FLK_LANESTAT, 0xa220, 72, 0x4, 1, 0x0, 0x7f0⟩,
   ⟨.FLK_LANEERR, 0xa340, 72, 0x4, 1, 0x0, 0x0⟩,
   ⟨.FLK_LANEFEC, 0xa460, 72, 0x4, 1, 0x0, 0x0⟩,
   ⟨.FLK_TAPS, 0xa580, 72, 0x4, 1, 0x0, 0x0⟩,
   ⟨.FLK_PSTAT, 0xa6a0, 72, 0x4, 1, 0x0, 0x0⟩,
   ⟨.FLK_PREPLAY, 0xa7c0, 72, 0x4, 1, 0x0, 0x0⟩,
   ⟨.FLK_PERR, 0xa8e0, 72, 0x4, 1, 0x0, 0x0⟩,
   ⟨.FLK_PLINK, 0xaa00, 72, 0x4, 1, 0x0, 0x0⟩,
   ⟨.FLK_PDELAY, 0xab20, 72, 0x4, 1, 0x0, 0x0⟩]

/-- The families of block MIR. -/
def famsMir : List RegFam :=
  [⟨.MIR_CTL, 0xb000, 1, 0x0, 1, 0x0, 0x0⟩,
   ⟨.MIR_STAT, 0xb004, 1, 0x0, 1, 0x0, 0x0⟩,
   ⟨.MIR_HB, 0xb008, 1, 0x0, 1, 0x0, 0x3⟩,
   ⟨.MIR_GUARD, 0xb00c, 1, 0x0, 1, 0x0, 0x4e20⟩,
   ⟨.MIR_FENCEWIN, 0xb010, 1, 0x0, 1, 0x0, 0x1388⟩,
   ⟨.MIR_FLT, 0xb014, 1, 0x0, 1, 0x0, 0x0⟩,
   ⟨.MIR_TXREC, 0xb018, 1, 0x0, 1, 0x0, 0x0⟩,
   ⟨.MIR_RXREC, 0xb01c, 1, 0x0, 1, 0x0, 0x0⟩,
   ⟨.MIR_REPLAY, 0xb020, 1, 0x0, 1, 0x0, 0x0⟩,
   ⟨.MIR_HBLATE, 0xb024, 1, 0x0, 1, 0x0, 0x0⟩,
   ⟨.MIR_LAG, 0xb028, 1, 0x0, 1, 0x0, 0x0⟩,
   ⟨.MIR_WQBASE, 0xb040, 2, 0x20, 1, 0x0, 0x0⟩,
   ⟨.MIR_WQCOUNT, 0xb044, 2, 0x20, 1, 0x0, 0x0⟩,
   ⟨.MIR_CQR, 0xb048, 2, 0x20, 1, 0x0, 0x0⟩,
   ⟨.MIR_EQR, 0xb04c, 2, 0x20, 1, 0x0, 0x0⟩,
   ⟨.MIR_MAPBASE, 0xb050, 2, 0x20, 1, 0x0, 0x0⟩,
   ⟨.MIR_MAPCOUNT, 0xb054, 2, 0x20, 1, 0x0, 0x0⟩,
   ⟨.MIR_LANE, 0xb100, 16, 0x4, 1, 0x0, 0x0⟩]

/-- The families of block TIM. -/
def famsTim : List RegFam :=
  [⟨.TIM_CTL, 0xc000, 1, 0x0, 1, 0x0, 0x8001⟩,
   ⟨.TIM_CFG, 0xc004, 1, 0x0, 1, 0x0, 0x1000200⟩,
   ⟨.TIM_STAT, 0xc008, 1, 0x0, 1, 0x0, 0xffff7ff0⟩,
   ⟨.TIM_GM, 0xc00c, 1, 0x0, 1, 0x0, 0xfffff⟩,
   ⟨.TIM_OFFSET, 0xc010, 1, 0x0, 1, 0x0, 0x0⟩,
   ⟨.TIM_NOWLO, 0xc018, 1, 0x0, 1, 0x0, 0x0⟩,
   ⟨.TIM_NOWHI, 0xc01c, 1, 0x0, 1, 0x0, 0x0⟩,
   ⟨.TIM_SETLO, 0xc020, 1, 0x0, 1, 0x0, 0x0⟩,
   ⟨.TIM_SETHI, 0xc024, 1, 0x0, 1, 0x0, 0x0⟩,
   ⟨.TIM_ALARM, 0xc030, 4, 0x4, 1, 0x0, 0x0⟩,
   ⟨.TIM_ALMCTL, 0xc040, 1, 0x0, 1, 0x0, 0x0⟩,
   ⟨.TIM_FLT, 0xc044, 1, 0x0, 1, 0x0, 0x0⟩,
   ⟨.TIM_PPSERR, 0xc048, 1, 0x0, 1, 0x0, 0x0⟩,
   ⟨.TIM_CNT, 0xc04c, 1, 0x0, 1, 0x0, 0x0⟩]

/-- The families of block PWR. -/
def famsPwr : List RegFam :=
  [⟨.PWR_CTL, 0xd000, 1, 0x0, 1, 0x0, 0x0⟩,
   ⟨.PWR_PACESET, 0xd004, 1, 0x0, 1, 0x0, 0x200466⟩,
   ⟨.PWR_PACE, 0xd008, 1, 0x0, 1, 0x0, 0x0⟩,
   ⟨.PWR_SAMP, 0xd010, 9, 0x4, 1, 0x0, 0x0⟩,
   ⟨.PWR_VCORE, 0xd040, 1, 0x0, 1, 0x0, 0x0⟩,
   ⟨.PWR_VLIM, 0xd044, 1, 0x0, 1, 0x0, 0x3840258⟩,
   ⟨.PWR_FLT, 0xd048, 1, 0x0, 1, 0x0, 0x0⟩,
   ⟨.PWR_TEMP, 0xd04c, 1, 0x0, 1, 0x0, 0x0⟩,
   ⟨.PWR_WAKECFG, 0xd050, 1, 0x0, 1, 0x0, 0x2⟩,
   ⟨.PWR_SDMASK, 0xd054, 3, 0x4, 1, 0x0, 0x0⟩,
   ⟨.PWR_WAKE, 0xd060, 1, 0x0, 1, 0x0, 0x0⟩]

/-- The families of block RST. -/
def famsRst : List RegFam :=
  [⟨.RST_CAUSE, 0xe000, 1, 0x0, 1, 0x0, 0x1⟩,
   ⟨.RST_BLKCMD, 0xe004, 1, 0x0, 1, 0x0, 0x0⟩,
   ⟨.RST_BLKSTAT, 0xe008, 1, 0x0, 1, 0x0, 0x0⟩,
   ⟨.RST_IDLETO, 0xe00c, 1, 0x0, 1, 0x0, 0x186a0⟩,
   ⟨.RST_WDCTL, 0xe010, 1, 0x0, 1, 0x0, 0x3e800⟩,
   ⟨.RST_WDKICK, 0xe014, 1, 0x0, 1, 0x0, 0x0⟩,
   ⟨.RST_FLT, 0xe018, 1, 0x0, 1, 0x0, 0x0⟩,
   ⟨.RST_CRITCNT, 0xe01c, 1, 0x0, 1, 0x0, 0x0⟩,
   ⟨.RST_NVSTAT, 0xe020, 1, 0x0, 1, 0x0, 0x0⟩,
   ⟨.RST_BOOT, 0xe024, 1, 0x0, 1, 0x0, 0x0⟩,
   ⟨.RST_BKP, 0xe040, 16, 0x4, 1, 0x0, 0x0⟩]

/-- The families of block FLT. -/
def famsFlt : List RegFam :=
  [⟨.FLT_CTL, 0x10000, 1, 0x0, 1, 0x0, 0x401⟩,
   ⟨.FLT_STAT, 0x10004, 1, 0x0, 1, 0x0, 0x0⟩,
   ⟨.FLT_SAFE, 0x10008, 1, 0x0, 1, 0x0, 0x0⟩,
   ⟨.FLT_LAST0, 0x1000c, 1, 0x0, 1, 0x0, 0x0⟩,
   ⟨.FLT_LAST1, 0x10010, 1, 0x0, 1, 0x0, 0x0⟩,
   ⟨.FLT_LAST2, 0x10014, 1, 0x0, 1, 0x0, 0x0⟩,
   ⟨.FLT_LAST3, 0x10018, 1, 0x0, 1, 0x0, 0x0⟩,
   ⟨.FLT_LAST4, 0x1001c, 1, 0x0, 1, 0x0, 0x0⟩,
   ⟨.FLT_MSGCNT, 0x10020, 1, 0x0, 1, 0x0, 0x0⟩,
   ⟨.FLT_INJ, 0x10024, 1, 0x0, 1, 0x0, 0x0⟩,
   ⟨.FLT_ESCCNT, 0x10028, 1, 0x0, 1, 0x0, 0x0⟩,
   ⟨.FLT_SRCCFG, 0x11000, 548, 0x4, 1, 0x0, 0x0⟩,
   ⟨.FLT_SRCSTAT, 0x12000, 548, 0x4, 1, 0x0, 0x0⟩,
   ⟨.FLT_SRCCNT, 0x13000, 548, 0x4, 1, 0x0, 0x0⟩,
   ⟨.FLT_SRCLAST, 0x14000, 548, 0x4, 1, 0x0, 0x0⟩]

/-- The families of block PMU. -/
def famsPmu : List RegFam :=
  [⟨.PMU_CTL, 0x20000, 1, 0x0, 1, 0x0, 0x0⟩,
   ⟨.PMU_BWWIN, 0x20004, 1, 0x0, 1, 0x0, 0x18⟩,
   ⟨.PMU_TAGCTL, 0x20008, 1, 0x0, 1, 0x0, 0xa0⟩,
   ⟨.PMU_TAGSEED, 0x2000c, 1, 0x0, 1, 0x0, 0x1⟩,
   ⟨.PMU_TAG0, 0x20010, 1, 0x0, 1, 0x0, 0x0⟩,
   ⟨.PMU_TAG1, 0x20014, 1, 0x0, 1, 0x0, 0x0⟩,
   ⟨.PMU_TAG2, 0x20018, 1, 0x0, 1, 0x0, 0x0⟩,
   ⟨.PMU_TAG3, 0x2001c, 1, 0x0, 1, 0x0, 0x0⟩,
   ⟨.PMU_TAG4, 0x20020, 1, 0x0, 1, 0x0, 0x0⟩,
   ⟨.PMU_TAG5, 0x20024, 1, 0x0, 1, 0x0, 0x0⟩,
   ⟨.PMU_TAG6, 0x20028, 1, 0x0, 1, 0x0, 0x0⟩,
   ⟨.PMU_TAG7, 0x2002c, 1, 0x0, 1, 0x0, 0x0⟩,
   ⟨.PMU_GCTL, 0x21000, 18, 0x400, 1, 0x0, 0x0⟩,
   ⟨.PMU_GSTAT, 0x21004, 18, 0x400, 1, 0x0, 0x0⟩,
   ⟨.PMU_FIXLO, 0x21008, 18, 0x400, 1, 0x0, 0x0⟩,
   ⟨.PMU_FIXHI, 0x2100c, 18, 0x400, 1, 0x0, 0x0⟩,
   ⟨.PMU_ARBASELO, 0x21010, 18, 0x400, 1, 0x0, 0x0⟩,
   ⟨.PMU_ARBASEHI, 0x21014, 18, 0x400, 1, 0x0, 0x0⟩,
   ⟨.PMU_ARLIMLO, 0x21018, 18, 0x400, 1, 0x0, 0x0⟩,
   ⟨.PMU_ARLIMHI, 0x2101c, 18, 0x400, 1, 0x0, 0x0⟩,
   ⟨.PMU_SMP0, 0x21020, 18, 0x400, 1, 0x0, 0x0⟩,
   ⟨.PMU_SMP1, 0x21024, 18, 0x400, 1, 0x0, 0x0⟩,
   ⟨.PMU_SMP2, 0x21028, 18, 0x400, 1, 0x0, 0x0⟩,
   ⟨.PMU_SMP3, 0x2102c, 18, 0x400, 1, 0x0, 0x0⟩,
   ⟨.PMU_SMP4, 0x21030, 18, 0x400, 1, 0x0, 0x0⟩,
   ⟨.PMU_SMP5, 0x21034, 18, 0x400, 1, 0x0, 0x0⟩,
   ⟨.PMU_CNTLO, 0x21040, 18, 0x400, 8, 0x40, 0x0⟩,
   ⟨.PMU_CNTHI, 0x21044, 18, 0x400, 8, 0x40, 0x0⟩,
   ⟨.PMU_RLDLO, 0x21048, 18, 0x400, 8, 0x40, 0x0⟩,
   ⟨.PMU_RLDHI, 0x2104c, 18, 0x400, 8, 0x40, 0x0⟩,
   ⟨.PMU_EVSEL, 0x21050, 18, 0x400, 8, 0x40, 0x0⟩,
   ⟨.PMU_FILT, 0x21054, 18, 0x400, 8, 0x40, 0xfff⟩,
   ⟨.PMU_FQUEUE, 0x21058, 18, 0x400, 8, 0x40, 0x0⟩,
   ⟨.PMU_FQMASK, 0x2105c, 18, 0x400, 8, 0x40, 0x0⟩,
   ⟨.PMU_OVFCNT, 0x21060, 18, 0x400, 8, 0x40, 0x0⟩,
   ⟨.PMU_PBWTX, 0x26000, 72, 0x4, 1, 0x0, 0x0⟩,
   ⟨.PMU_PBWRX, 0x26200, 72, 0x4, 1, 0x0, 0x0⟩,
   ⟨.PMU_PUTIL, 0x26400, 72, 0x4, 1, 0x0, 0x0⟩]

/-- The families of block SEC. -/
def famsSec : List RegFam :=
  [⟨.SEC_CTL, 0x30000, 1, 0x0, 1, 0x0, 0x0⟩,
   ⟨.SEC_STAT, 0x30004, 1, 0x0, 1, 0x0, 0x1⟩,
   ⟨.SEC_FLT, 0x30008, 1, 0x0, 1, 0x0, 0x0⟩,
   ⟨.SEC_MINVER, 0x3000c, 1, 0x0, 1, 0x0, 0x0⟩,
   ⟨.SEC_KEYSTAT, 0x30010, 1, 0x0, 1, 0x0, 0x0⟩,
   ⟨.SEC_DBGCNT, 0x30014, 1, 0x0, 1, 0x0, 0x0⟩,
   ⟨.SEC_UID, 0x30020, 4, 0x4, 1, 0x0, 0x0⟩,
   ⟨.SEC_CHAL, 0x30040, 12, 0x4, 1, 0x0, 0x0⟩,
   ⟨.SEC_RESP, 0x30080, 24, 0x4, 1, 0x0, 0x0⟩]

/-- The families of the block that an offset lies in (R659, the table of register blocks). -/
def famsAt (off : Nat) : List RegFam :=
  if off < 0x1000 then famsGen
  else if off < 0x2000 then famsHif
  else if off < 0x3000 then famsQmg
  else if off < 0x4000 then famsEng
  else if off < 0x5000 then famsXlt
  else if off < 0x6000 then famsGwn
  else if off < 0x7000 then famsNcc
  else if off < 0x8000 then famsCol
  else if off < 0x9000 then famsLck
  else if off < 0xa000 then famsRte
  else if off < 0xb000 then famsFlk
  else if off < 0xc000 then famsMir
  else if off < 0xd000 then famsTim
  else if off < 0xe000 then famsPwr
  else if off < 0x10000 then famsRst
  else if off < 0x20000 then famsFlt
  else if off < 0x30000 then famsPmu
  else famsSec

/-- The family of a name. -/
def RegName.fam : RegName → RegFam
  | .GEN_ID => ⟨.GEN_ID, 0x0, 1, 0x0, 1, 0x0, 0x907200b0⟩
  | .GEN_FWVER => ⟨.GEN_FWVER, 0x4, 1, 0x0, 1, 0x0, 0x0⟩
  | .GEN_READY => ⟨.GEN_READY, 0x8, 1, 0x0, 1, 0x0, 0x0⟩
  | .GEN_READYCL => ⟨.GEN_READYCL, 0xc, 1, 0x0, 1, 0x0, 0x0⟩
  | .GEN_COORD => ⟨.GEN_COORD, 0x10, 1, 0x0, 1, 0x0, 0xfffff⟩
  | .GEN_ALIAS => ⟨.GEN_ALIAS, 0x14, 1, 0x0, 1, 0x0, 0xfffff⟩
  | .GEN_SHAPE => ⟨.GEN_SHAPE, 0x18, 1, 0x0, 1, 0x0, 0x1010101⟩
  | .GEN_EPOCH => ⟨.GEN_EPOCH, 0x1c, 1, 0x0, 1, 0x0, 0x0⟩
  | .HIF_LINKSTAT => ⟨.HIF_LINKSTAT, 0x1000, 1, 0x0, 1, 0x0, 0x0⟩
  | .HIF_STATUS => ⟨.HIF_STATUS, 0x1004, 1, 0x0, 1, 0x0, 0x0⟩
  | .HIF_FLT => ⟨.HIF_FLT, 0x1008, 1, 0x0, 1, 0x0, 0x0⟩
  | .HIF_ACCCNT => ⟨.HIF_ACCCNT, 0x100c, 1, 0x0, 1, 0x0, 0x0⟩
  | .HIF_ACCLOG0 => ⟨.HIF_ACCLOG0, 0x1010, 1, 0x0, 1, 0x0, 0x0⟩
  | .HIF_ACCLOG1 => ⟨.HIF_ACCLOG1, 0x1014, 1, 0x0, 1, 0x0, 0x0⟩
  | .HIF_ACCLOG2 => ⟨.HIF_ACCLOG2, 0x1018, 1, 0x0, 1, 0x0, 0x0⟩
  | .HIF_MEMSTAT => ⟨.HIF_MEMSTAT, 0x1040, 8, 0x4, 1, 0x0, 0x0⟩
  | .QMG_CTL => ⟨.QMG_CTL, 0x2000, 1, 0x0, 1, 0x0, 0x8⟩
  | .QMG_DBIGNORE => ⟨.QMG_DBIGNORE, 0x2004, 1, 0x0, 1, 0x0, 0x0⟩
  | .QMG_QERR0 => ⟨.QMG_QERR0, 0x2008, 1, 0x0, 1, 0x0, 0x0⟩
  | .QMG_QERR1 => ⟨.QMG_QERR1, 0x200c, 1, 0x0, 1, 0x0, 0x0⟩
  | .QMG_QERR2 => ⟨.QMG_QERR2, 0x2010, 1, 0x0, 1, 0x0, 0x0⟩
  | .QMG_EVCNT => ⟨.QMG_EVCNT, 0x2014, 1, 0x0, 1, 0x0, 0x0⟩
  | .QMG_SMPSEL => ⟨.QMG_SMPSEL, 0x2018, 1, 0x0, 1, 0x0, 0x0⟩
  | .QMG_SMP0 => ⟨.QMG_SMP0, 0x201c, 1, 0x0, 1, 0x0, 0x0⟩
  | .QMG_SMP1 => ⟨.QMG_SMP1, 0x2020, 1, 0x0, 1, 0x0, 0x0⟩
  | .QMG_SMP2 => ⟨.QMG_SMP2, 0x2024, 1, 0x0, 1, 0x0, 0x0⟩
  | .QMG_SMP3 => ⟨.QMG_SMP3, 0x2028, 1, 0x0, 1, 0x0, 0x0⟩
  | .QMG_AQSQLO => ⟨.QMG_AQSQLO, 0x2040, 1, 0x0, 1, 0x0, 0x0⟩
  | .QMG_AQSQHI => ⟨.QMG_AQSQHI, 0x2044, 1, 0x0, 1, 0x0, 0x0⟩
  | .QMG_AQCQLO => ⟨.QMG_AQCQLO, 0x2048, 1, 0x0, 1, 0x0, 0x0⟩
  | .QMG_AQCQHI => ⟨.QMG_AQCQHI, 0x204c, 1, 0x0, 1, 0x0, 0x0⟩
  | .QMG_AQCFG => ⟨.QMG_AQCFG, 0x2050, 1, 0x0, 1, 0x0, 0x1440⟩
  | .QMG_AQTAIL => ⟨.QMG_AQTAIL, 0x2054, 1, 0x0, 1, 0x0, 0x0⟩
  | .QMG_AQHEAD => ⟨.QMG_AQHEAD, 0x2058, 1, 0x0, 1, 0x0, 0x0⟩
  | .QMG_AQSTAT => ⟨.QMG_AQSTAT, 0x205c, 1, 0x0, 1, 0x0, 0x0⟩
  | .QMG_VFWQ => ⟨.QMG_VFWQ, 0x2100, 64, 0x10, 1, 0x0, 0x0⟩
  | .QMG_VFCQ => ⟨.QMG_VFCQ, 0x2104, 64, 0x10, 1, 0x0, 0x0⟩
  | .QMG_VFEQ => ⟨.QMG_VFEQ, 0x2108, 64, 0x10, 1, 0x0, 0x0⟩
  | .QMG_VFRGN => ⟨.QMG_VFRGN, 0x210c, 64, 0x10, 1, 0x0, 0x0⟩
  | .ENG_CTL => ⟨.ENG_CTL, 0x3000, 18, 0x4, 1, 0x0, 0x21⟩
  | .ENG_STAT => ⟨.ENG_STAT, 0x3048, 18, 0x4, 1, 0x0, 0x0⟩
  | .ENG_STEAL => ⟨.ENG_STEAL, 0x3100, 288, 0x4, 1, 0x0, 0x0⟩
  | .ENG_STOLEN => ⟨.ENG_STOLEN, 0x3580, 288, 0x4, 1, 0x0, 0x0⟩
  | .XLT_CTL => ⟨.XLT_CTL, 0x4000, 1, 0x0, 1, 0x0, 0x2⟩
  | .XLT_ASIDLO => ⟨.XLT_ASIDLO, 0x4004, 1, 0x0, 1, 0x0, 0x0⟩
  | .XLT_ASIDHI => ⟨.XLT_ASIDHI, 0x4008, 1, 0x0, 1, 0x0, 0x0⟩
  | .XLT_TLIFE => ⟨.XLT_TLIFE, 0x400c, 1, 0x0, 1, 0x0, 0xf4240⟩
  | .XLT_STAT => ⟨.XLT_STAT, 0x4010, 1, 0x0, 1, 0x0, 0x0⟩
  | .XLT_FLT => ⟨.XLT_FLT, 0x4014, 1, 0x0, 1, 0x0, 0x0⟩
  | .XLT_HIT => ⟨.XLT_HIT, 0x4018, 1, 0x0, 1, 0x0, 0x0⟩
  | .XLT_MISS => ⟨.XLT_MISS, 0x401c, 1, 0x0, 1, 0x0, 0x0⟩
  | .XLT_WALKRD => ⟨.XLT_WALKRD, 0x4020, 1, 0x0, 1, 0x0, 0x0⟩
  | .XLT_ADCAS => ⟨.XLT_ADCAS, 0x4024, 1, 0x0, 1, 0x0, 0x0⟩
  | .XLT_AGED => ⟨.XLT_AGED, 0x4028, 1, 0x0, 1, 0x0, 0x0⟩
  | .XLT_FAULTS => ⟨.XLT_FAULTS, 0x402c, 1, 0x0, 1, 0x0, 0x0⟩
  | .XLT_FLTLOG0 => ⟨.XLT_FLTLOG0, 0x4030, 1, 0x0, 1, 0x0, 0x0⟩
  | .XLT_FLTLOG1 => ⟨.XLT_FLTLOG1, 0x4034, 1, 0x0, 1, 0x0, 0x0⟩
  | .XLT_FLTLOG2 => ⟨.XLT_FLTLOG2, 0x4038, 1, 0x0, 1, 0x0, 0x0⟩
  | .XLT_FLTLOG3 => ⟨.XLT_FLTLOG3, 0x403c, 1, 0x0, 1, 0x0, 0x0⟩
  | .XLT_EXCLBL => ⟨.XLT_EXCLBL, 0x4040, 8, 0x10, 1, 0x0, 0x0⟩
  | .XLT_EXCLBH => ⟨.XLT_EXCLBH, 0x4044, 8, 0x10, 1, 0x0, 0x0⟩
  | .XLT_EXCLLL => ⟨.XLT_EXCLLL, 0x4048, 8, 0x10, 1, 0x0, 0x0⟩
  | .XLT_EXCLLH => ⟨.XLT_EXCLLH, 0x404c, 8, 0x10, 1, 0x0, 0x0⟩
  | .GWN_BUDGET => ⟨.GWN_BUDGET, 0x5000, 1, 0x0, 1, 0x0, 0xf4240⟩
  | .GWN_WCFG => ⟨.GWN_WCFG, 0x5010, 4, 0x4, 1, 0x0, 0x1500⟩
  | .GWN_WMAP => ⟨.GWN_WMAP, 0x5020, 4, 0x4, 1, 0x0, 0x0⟩
  | .GWN_FENCE => ⟨.GWN_FENCE, 0x5030, 4, 0x4, 1, 0x0, 0x0⟩
  | .GWN_FLT => ⟨.GWN_FLT, 0x5040, 1, 0x0, 1, 0x0, 0x0⟩
  | .GWN_RDCNT => ⟨.GWN_RDCNT, 0x5044, 1, 0x0, 1, 0x0, 0x0⟩
  | .GWN_WRCNT => ⟨.GWN_WRCNT, 0x5048, 1, 0x0, 1, 0x0, 0x0⟩
  | .GWN_ERRCNT => ⟨.GWN_ERRCNT, 0x504c, 1, 0x0, 1, 0x0, 0x0⟩
  | .GWN_ERRLOG0 => ⟨.GWN_ERRLOG0, 0x5050, 1, 0x0, 1, 0x0, 0x0⟩
  | .GWN_ERRLOG1 => ⟨.GWN_ERRLOG1, 0x5054, 1, 0x0, 1, 0x0, 0x0⟩
  | .GWN_ERRLOG2 => ⟨.GWN_ERRLOG2, 0x5058, 1, 0x0, 1, 0x0, 0x0⟩
  | .NCC_CFG => ⟨.NCC_CFG, 0x6000, 1, 0x0, 1, 0x0, 0x1004⟩
  | .NCC_LEASEDUR => ⟨.NCC_LEASEDUR, 0x6004, 1, 0x0, 1, 0x0, 0x4e20⟩
  | .NCC_OVFDUR => ⟨.NCC_OVFDUR, 0x6008, 1, 0x0, 1, 0x0, 0x4e20⟩
  | .NCC_STAT => ⟨.NCC_STAT, 0x600c, 1, 0x0, 1, 0x0, 0x0⟩
  | .NCC_LTOCC => ⟨.NCC_LTOCC, 0x6010, 1, 0x0, 1, 0x0, 0x0⟩
  | .NCC_HIT => ⟨.NCC_HIT, 0x6014, 1, 0x0, 1, 0x0, 0x0⟩
  | .NCC_MISS => ⟨.NCC_MISS, 0x6018, 1, 0x0, 1, 0x0, 0x0⟩
  | .NCC_EXPMISS => ⟨.NCC_EXPMISS, 0x601c, 1, 0x0, 1, 0x0, 0x0⟩
  | .NCC_INVRX => ⟨.NCC_INVRX, 0x6020, 1, 0x0, 1, 0x0, 0x0⟩
  | .NCC_INVTX => ⟨.NCC_INVTX, 0x6024, 1, 0x0, 1, 0x0, 0x0⟩
  | .NCC_EXPWAIT => ⟨.NCC_EXPWAIT, 0x6028, 1, 0x0, 1, 0x0, 0x0⟩
  | .NCC_NOLEASE => ⟨.NCC_NOLEASE, 0x602c, 1, 0x0, 1, 0x0, 0x0⟩
  | .NCC_FLT => ⟨.NCC_FLT, 0x6030, 1, 0x0, 1, 0x0, 0x0⟩
  | .COL_PROBEINT => ⟨.COL_PROBEINT, 0x7000, 1, 0x0, 1, 0x0, 0x186a0⟩
  | .COL_CWIN => ⟨.COL_CWIN, 0x7004, 1, 0x0, 1, 0x0, 0x0⟩
  | .COL_STAT => ⟨.COL_STAT, 0x7008, 1, 0x0, 1, 0x0, 0x0⟩
  | .COL_FLT => ⟨.COL_FLT, 0x700c, 1, 0x0, 1, 0x0, 0x0⟩
  | .COL_INSTDONE => ⟨.COL_INSTDONE, 0x7010, 1, 0x0, 1, 0x0, 0x0⟩
  | .COL_LOSTCNT => ⟨.COL_LOSTCNT, 0x7014, 1, 0x0, 1, 0x0, 0x0⟩
  | .COL_CONSTIT => ⟨.COL_CONSTIT, 0x7018, 1, 0x0, 1, 0x0, 0x0⟩
  | .COL_FWD => ⟨.COL_FWD, 0x701c, 1, 0x0, 1, 0x0, 0x0⟩
  | .COL_CTXSEL => ⟨.COL_CTXSEL, 0x7020, 1, 0x0, 1, 0x0, 0x0⟩
  | .COL_CTX0 => ⟨.COL_CTX0, 0x7024, 1, 0x0, 1, 0x0, 0x0⟩
  | .COL_CTX1 => ⟨.COL_CTX1, 0x7028, 1, 0x0, 1, 0x0, 0x0⟩
  | .COL_CTX2 => ⟨.COL_CTX2, 0x702c, 1, 0x0, 1, 0x0, 0x0⟩
  | .LCK_CTL => ⟨.LCK_CTL, 0x8000, 1, 0x0, 1, 0x0, 0x1⟩
  | .LCK_DEADWIN => ⟨.LCK_DEADWIN, 0x8004, 1, 0x0, 1, 0x0, 0x30d40⟩
  | .LCK_PROBEINT => ⟨.LCK_PROBEINT, 0x8008, 1, 0x0, 1, 0x0, 0xf4240⟩
  | .LCK_LLOCC => ⟨.LCK_LLOCC, 0x800c, 1, 0x0, 1, 0x0, 0x0⟩
  | .LCK_WROCC => ⟨.LCK_WROCC, 0x8010, 1, 0x0, 1, 0x0, 0x0⟩
  | .LCK_FLT => ⟨.LCK_FLT, 0x8014, 1, 0x0, 1, 0x0, 0x0⟩
  | .LCK_GRANT => ⟨.LCK_GRANT, 0x8018, 1, 0x0, 1, 0x0, 0x0⟩
  | .LCK_WAIT => ⟨.LCK_WAIT, 0x801c, 1, 0x0, 1, 0x0, 0x0⟩
  | .LCK_DECLINE => ⟨.LCK_DECLINE, 0x8020, 1, 0x0, 1, 0x0, 0x0⟩
  | .LCK_ABANDON => ⟨.LCK_ABANDON, 0x8024, 1, 0x0, 1, 0x0, 0x0⟩
  | .LCK_FORCE => ⟨.LCK_FORCE, 0x8028, 1, 0x0, 1, 0x0, 0x0⟩
  | .LCK_NOTOWNER => ⟨.LCK_NOTOWNER, 0x802c, 1, 0x0, 1, 0x0, 0x0⟩
  | .LCK_LOCKSEL => ⟨.LCK_LOCKSEL, 0x8030, 1, 0x0, 1, 0x0, 0x0⟩
  | .LCK_LOCK0 => ⟨.LCK_LOCK0, 0x8034, 1, 0x0, 1, 0x0, 0x0⟩
  | .LCK_LOCK1 => ⟨.LCK_LOCK1, 0x8038, 1, 0x0, 1, 0x0, 0x0⟩
  | .LCK_LOCK2 => ⟨.LCK_LOCK2, 0x803c, 1, 0x0, 1, 0x0, 0x0⟩
  | .LCK_LOCK3 => ⟨.LCK_LOCK3, 0x8040, 1, 0x0, 1, 0x0, 0x0⟩
  | .RTE_CTL => ⟨.RTE_CTL, 0x9000, 1, 0x0, 1, 0x0, 0xc80003⟩
  | .RTE_PCAP => ⟨.RTE_PCAP, 0x9004, 1, 0x0, 1, 0x0, 0xc0⟩
  | .RTE_FLT => ⟨.RTE_FLT, 0x9008, 1, 0x0, 1, 0x0, 0x0⟩
  | .RTE_ESC => ⟨.RTE_ESC, 0x900c, 1, 0x0, 1, 0x0, 0x0⟩
  | .RTE_DET => ⟨.RTE_DET, 0x9010, 1, 0x0, 1, 0x0, 0x0⟩
  | .RTE_UNROUTE => ⟨.RTE_UNROUTE, 0x9014, 1, 0x0, 1, 0x0, 0x0⟩
  | .RTE_HOPLIM => ⟨.RTE_HOPLIM, 0x9018, 1, 0x0, 1, 0x0, 0x0⟩
  | .RTE_REINJ => ⟨.RTE_REINJ, 0x901c, 1, 0x0, 1, 0x0, 0x0⟩
  | .RTE_FWDDROP => ⟨.RTE_FWDDROP, 0x9020, 1, 0x0, 1, 0x0, 0x0⟩
  | .RTE_PSTOFF => ⟨.RTE_PSTOFF, 0x9024, 1, 0x0, 1, 0x0, 0x0⟩
  | .RTE_CCTARGETQ => ⟨.RTE_CCTARGETQ, 0x9030, 1, 0x0, 1, 0x0, 0xfa0⟩
  | .RTE_CCAI => ⟨.RTE_CCAI, 0x9034, 1, 0x0, 1, 0x0, 0x1000⟩
  | .RTE_CCBETA => ⟨.RTE_CCBETA, 0x9038, 1, 0x0, 1, 0x0, 0xcd⟩
  | .RTE_CCWMIN => ⟨.RTE_CCWMIN, 0x903c, 1, 0x0, 1, 0x0, 0x800⟩
  | .RTE_CCWMAX => ⟨.RTE_CCWMAX, 0x9040, 1, 0x0, 1, 0x0, 0x800000⟩
  | .RTE_CCWINIT => ⟨.RTE_CCWINIT, 0x9044, 1, 0x0, 1, 0x0, 0x40000⟩
  | .RTE_PISTESEL => ⟨.RTE_PISTESEL, 0x9050, 1, 0x0, 1, 0x0, 0x0⟩
  | .RTE_PISTE0 => ⟨.RTE_PISTE0, 0x9054, 1, 0x0, 1, 0x0, 0x0⟩
  | .RTE_PISTE1 => ⟨.RTE_PISTE1, 0x9058, 1, 0x0, 1, 0x0, 0x0⟩
  | .RTE_PISTE2 => ⟨.RTE_PISTE2, 0x905c, 1, 0x0, 1, 0x0, 0x0⟩
  | .RTE_PISTE3 => ⟨.RTE_PISTE3, 0x9060, 1, 0x0, 1, 0x0, 0x0⟩
  | .RTE_ALIAS => ⟨.RTE_ALIAS, 0x9080, 18, 0x4, 1, 0x0, 0x0⟩
  | .RTE_PMAP => ⟨.RTE_PMAP, 0x9100, 72, 0x4, 1, 0x0, 0x0⟩
  | .RTE_PORT => ⟨.RTE_PORT, 0x9300, 72, 0x4, 1, 0x0, 0x0⟩
  | .RTE_LINE => ⟨.RTE_LINE, 0x9500, 72, 0x4, 1, 0x0, 0x0⟩
  | .FLK_CTL => ⟨.FLK_CTL, 0xa000, 1, 0x0, 1, 0x0, 0x83⟩
  | .FLK_REPLAYTO => ⟨.FLK_REPLAYTO, 0xa004, 1, 0x0, 1, 0x0, 0xfa0⟩
  | .FLK_ERRWIN => ⟨.FLK_ERRWIN, 0xa008, 1, 0x0, 1, 0x0, 0xf4240⟩
  | .FLK_ERRTHR => ⟨.FLK_ERRTHR, 0xa00c, 1, 0x0, 1, 0x0, 0x1000010⟩
  | .FLK_EQTO => ⟨.FLK_EQTO, 0xa010, 1, 0x0, 1, 0x0, 0x2faf080⟩
  | .FLK_RTRTO => ⟨.FLK_RTRTO, 0xa014, 1, 0x0, 1, 0x0, 0x1e8480⟩
  | .FLK_HOLDOFF => ⟨.FLK_HOLDOFF, 0xa018, 1, 0x0, 1, 0x0, 0xf4240⟩
  | .FLK_FLT => ⟨.FLK_FLT, 0xa01c, 1, 0x0, 1, 0x0, 0x0⟩
  | .FLK_CRALLOC => ⟨.FLK_CRALLOC, 0xa020, 8, 0x4, 1, 0x0, 0x0⟩
  | .FLK_LBSTAT => ⟨.FLK_LBSTAT, 0xa040, 9, 0x4, 1, 0x0, 0x0⟩
  | .FLK_LANECTL => ⟨.FLK_LANECTL, 0xa100, 72, 0x4, 1, 0x0, 0x0⟩
  | .FLK_LANESTAT => ⟨.FLK_LANESTAT, 0xa220, 72, 0x4, 1, 0x0, 0x7f0⟩
  | .FLK_LANEERR => ⟨.FLK_LANEERR, 0xa340, 72, 0x4, 1, 0x0, 0x0⟩
  | .FLK_LANEFEC => ⟨.FLK_LANEFEC, 0xa460, 72, 0x4, 1, 0x0, 0x0⟩
  | .FLK_TAPS => ⟨.FLK_TAPS, 0xa580, 72, 0x4, 1, 0x0, 0x0⟩
  | .FLK_PSTAT => ⟨.FLK_PSTAT, 0xa6a0, 72, 0x4, 1, 0x0, 0x0⟩
  | .FLK_PREPLAY => ⟨.FLK_PREPLAY, 0xa7c0, 72, 0x4, 1, 0x0, 0x0⟩
  | .FLK_PERR => ⟨.FLK_PERR, 0xa8e0, 72, 0x4, 1, 0x0, 0x0⟩
  | .FLK_PLINK => ⟨.FLK_PLINK, 0xaa00, 72, 0x4, 1, 0x0, 0x0⟩
  | .FLK_PDELAY => ⟨.FLK_PDELAY, 0xab20, 72, 0x4, 1, 0x0, 0x0⟩
  | .MIR_CTL => ⟨.MIR_CTL, 0xb000, 1, 0x0, 1, 0x0, 0x0⟩
  | .MIR_STAT => ⟨.MIR_STAT, 0xb004, 1, 0x0, 1, 0x0, 0x0⟩
  | .MIR_HB => ⟨.MIR_HB, 0xb008, 1, 0x0, 1, 0x0, 0x3⟩
  | .MIR_GUARD => ⟨.MIR_GUARD, 0xb00c, 1, 0x0, 1, 0x0, 0x4e20⟩
  | .MIR_FENCEWIN => ⟨.MIR_FENCEWIN, 0xb010, 1, 0x0, 1, 0x0, 0x1388⟩
  | .MIR_FLT => ⟨.MIR_FLT, 0xb014, 1, 0x0, 1, 0x0, 0x0⟩
  | .MIR_TXREC => ⟨.MIR_TXREC, 0xb018, 1, 0x0, 1, 0x0, 0x0⟩
  | .MIR_RXREC => ⟨.MIR_RXREC, 0xb01c, 1, 0x0, 1, 0x0, 0x0⟩
  | .MIR_REPLAY => ⟨.MIR_REPLAY, 0xb020, 1, 0x0, 1, 0x0, 0x0⟩
  | .MIR_HBLATE => ⟨.MIR_HBLATE, 0xb024, 1, 0x0, 1, 0x0, 0x0⟩
  | .MIR_LAG => ⟨.MIR_LAG, 0xb028, 1, 0x0, 1, 0x0, 0x0⟩
  | .MIR_WQBASE => ⟨.MIR_WQBASE, 0xb040, 2, 0x20, 1, 0x0, 0x0⟩
  | .MIR_WQCOUNT => ⟨.MIR_WQCOUNT, 0xb044, 2, 0x20, 1, 0x0, 0x0⟩
  | .MIR_CQR => ⟨.MIR_CQR, 0xb048, 2, 0x20, 1, 0x0, 0x0⟩
  | .MIR_EQR => ⟨.MIR_EQR, 0xb04c, 2, 0x20, 1, 0x0, 0x0⟩
  | .MIR_MAPBASE => ⟨.MIR_MAPBASE, 0xb050, 2, 0x20, 1, 0x0, 0x0⟩
  | .MIR_MAPCOUNT => ⟨.MIR_MAPCOUNT, 0xb054, 2, 0x20, 1, 0x0, 0x0⟩
  | .MIR_LANE => ⟨.MIR_LANE, 0xb100, 16, 0x4, 1, 0x0, 0x0⟩
  | .TIM_CTL => ⟨.TIM_CTL, 0xc000, 1, 0x0, 1, 0x0, 0x8001⟩
  | .TIM_CFG => ⟨.TIM_CFG, 0xc004, 1, 0x0, 1, 0x0, 0x1000200⟩
  | .TIM_STAT => ⟨.TIM_STAT, 0xc008, 1, 0x0, 1, 0x0, 0xffff7ff0⟩
  | .TIM_GM => ⟨.TIM_GM, 0xc00c, 1, 0x0, 1, 0x0, 0xfffff⟩
  | .TIM_OFFSET => ⟨.TIM_OFFSET, 0xc010, 1, 0x0, 1, 0x0, 0x0⟩
  | .TIM_NOWLO => ⟨.TIM_NOWLO, 0xc018, 1, 0x0, 1, 0x0, 0x0⟩
  | .TIM_NOWHI => ⟨.TIM_NOWHI, 0xc01c, 1, 0x0, 1, 0x0, 0x0⟩
  | .TIM_SETLO => ⟨.TIM_SETLO, 0xc020, 1, 0x0, 1, 0x0, 0x0⟩
  | .TIM_SETHI => ⟨.TIM_SETHI, 0xc024, 1, 0x0, 1, 0x0, 0x0⟩
  | .TIM_ALARM => ⟨.TIM_ALARM, 0xc030, 4, 0x4, 1, 0x0, 0x0⟩
  | .TIM_ALMCTL => ⟨.TIM_ALMCTL, 0xc040, 1, 0x0, 1, 0x0, 0x0⟩
  | .TIM_FLT => ⟨.TIM_FLT, 0xc044, 1, 0x0, 1, 0x0, 0x0⟩
  | .TIM_PPSERR => ⟨.TIM_PPSERR, 0xc048, 1, 0x0, 1, 0x0, 0x0⟩
  | .TIM_CNT => ⟨.TIM_CNT, 0xc04c, 1, 0x0, 1, 0x0, 0x0⟩
  | .PWR_CTL => ⟨.PWR_CTL, 0xd000, 1, 0x0, 1, 0x0, 0x0⟩
  | .PWR_PACESET => ⟨.PWR_PACESET, 0xd004, 1, 0x0, 1, 0x0, 0x200466⟩
  | .PWR_PACE => ⟨.PWR_PACE, 0xd008, 1, 0x0, 1, 0x0, 0x0⟩
  | .PWR_SAMP => ⟨.PWR_SAMP, 0xd010, 9, 0x4, 1, 0x0, 0x0⟩
  | .PWR_VCORE => ⟨.PWR_VCORE, 0xd040, 1, 0x0, 1, 0x0, 0x0⟩
  | .PWR_VLIM => ⟨.PWR_VLIM, 0xd044, 1, 0x0, 1, 0x0, 0x3840258⟩
  | .PWR_FLT => ⟨.PWR_FLT, 0xd048, 1, 0x0, 1, 0x0, 0x0⟩
  | .PWR_TEMP => ⟨.PWR_TEMP, 0xd04c, 1, 0x0, 1, 0x0, 0x0⟩
  | .PWR_WAKECFG => ⟨.PWR_WAKECFG, 0xd050, 1, 0x0, 1, 0x0, 0x2⟩
  | .PWR_SDMASK => ⟨.PWR_SDMASK, 0xd054, 3, 0x4, 1, 0x0, 0x0⟩
  | .PWR_WAKE => ⟨.PWR_WAKE, 0xd060, 1, 0x0, 1, 0x0, 0x0⟩
  | .RST_CAUSE => ⟨.RST_CAUSE, 0xe000, 1, 0x0, 1, 0x0, 0x1⟩
  | .RST_BLKCMD => ⟨.RST_BLKCMD, 0xe004, 1, 0x0, 1, 0x0, 0x0⟩
  | .RST_BLKSTAT => ⟨.RST_BLKSTAT, 0xe008, 1, 0x0, 1, 0x0, 0x0⟩
  | .RST_IDLETO => ⟨.RST_IDLETO, 0xe00c, 1, 0x0, 1, 0x0, 0x186a0⟩
  | .RST_WDCTL => ⟨.RST_WDCTL, 0xe010, 1, 0x0, 1, 0x0, 0x3e800⟩
  | .RST_WDKICK => ⟨.RST_WDKICK, 0xe014, 1, 0x0, 1, 0x0, 0x0⟩
  | .RST_FLT => ⟨.RST_FLT, 0xe018, 1, 0x0, 1, 0x0, 0x0⟩
  | .RST_CRITCNT => ⟨.RST_CRITCNT, 0xe01c, 1, 0x0, 1, 0x0, 0x0⟩
  | .RST_NVSTAT => ⟨.RST_NVSTAT, 0xe020, 1, 0x0, 1, 0x0, 0x0⟩
  | .RST_BOOT => ⟨.RST_BOOT, 0xe024, 1, 0x0, 1, 0x0, 0x0⟩
  | .RST_BKP => ⟨.RST_BKP, 0xe040, 16, 0x4, 1, 0x0, 0x0⟩
  | .FLT_CTL => ⟨.FLT_CTL, 0x10000, 1, 0x0, 1, 0x0, 0x401⟩
  | .FLT_STAT => ⟨.FLT_STAT, 0x10004, 1, 0x0, 1, 0x0, 0x0⟩
  | .FLT_SAFE => ⟨.FLT_SAFE, 0x10008, 1, 0x0, 1, 0x0, 0x0⟩
  | .FLT_LAST0 => ⟨.FLT_LAST0, 0x1000c, 1, 0x0, 1, 0x0, 0x0⟩
  | .FLT_LAST1 => ⟨.FLT_LAST1, 0x10010, 1, 0x0, 1, 0x0, 0x0⟩
  | .FLT_LAST2 => ⟨.FLT_LAST2, 0x10014, 1, 0x0, 1, 0x0, 0x0⟩
  | .FLT_LAST3 => ⟨.FLT_LAST3, 0x10018, 1, 0x0, 1, 0x0, 0x0⟩
  | .FLT_LAST4 => ⟨.FLT_LAST4, 0x1001c, 1, 0x0, 1, 0x0, 0x0⟩
  | .FLT_MSGCNT => ⟨.FLT_MSGCNT, 0x10020, 1, 0x0, 1, 0x0, 0x0⟩
  | .FLT_INJ => ⟨.FLT_INJ, 0x10024, 1, 0x0, 1, 0x0, 0x0⟩
  | .FLT_ESCCNT => ⟨.FLT_ESCCNT, 0x10028, 1, 0x0, 1, 0x0, 0x0⟩
  | .FLT_SRCCFG => ⟨.FLT_SRCCFG, 0x11000, 548, 0x4, 1, 0x0, 0x0⟩
  | .FLT_SRCSTAT => ⟨.FLT_SRCSTAT, 0x12000, 548, 0x4, 1, 0x0, 0x0⟩
  | .FLT_SRCCNT => ⟨.FLT_SRCCNT, 0x13000, 548, 0x4, 1, 0x0, 0x0⟩
  | .FLT_SRCLAST => ⟨.FLT_SRCLAST, 0x14000, 548, 0x4, 1, 0x0, 0x0⟩
  | .PMU_CTL => ⟨.PMU_CTL, 0x20000, 1, 0x0, 1, 0x0, 0x0⟩
  | .PMU_BWWIN => ⟨.PMU_BWWIN, 0x20004, 1, 0x0, 1, 0x0, 0x18⟩
  | .PMU_TAGCTL => ⟨.PMU_TAGCTL, 0x20008, 1, 0x0, 1, 0x0, 0xa0⟩
  | .PMU_TAGSEED => ⟨.PMU_TAGSEED, 0x2000c, 1, 0x0, 1, 0x0, 0x1⟩
  | .PMU_TAG0 => ⟨.PMU_TAG0, 0x20010, 1, 0x0, 1, 0x0, 0x0⟩
  | .PMU_TAG1 => ⟨.PMU_TAG1, 0x20014, 1, 0x0, 1, 0x0, 0x0⟩
  | .PMU_TAG2 => ⟨.PMU_TAG2, 0x20018, 1, 0x0, 1, 0x0, 0x0⟩
  | .PMU_TAG3 => ⟨.PMU_TAG3, 0x2001c, 1, 0x0, 1, 0x0, 0x0⟩
  | .PMU_TAG4 => ⟨.PMU_TAG4, 0x20020, 1, 0x0, 1, 0x0, 0x0⟩
  | .PMU_TAG5 => ⟨.PMU_TAG5, 0x20024, 1, 0x0, 1, 0x0, 0x0⟩
  | .PMU_TAG6 => ⟨.PMU_TAG6, 0x20028, 1, 0x0, 1, 0x0, 0x0⟩
  | .PMU_TAG7 => ⟨.PMU_TAG7, 0x2002c, 1, 0x0, 1, 0x0, 0x0⟩
  | .PMU_GCTL => ⟨.PMU_GCTL, 0x21000, 18, 0x400, 1, 0x0, 0x0⟩
  | .PMU_GSTAT => ⟨.PMU_GSTAT, 0x21004, 18, 0x400, 1, 0x0, 0x0⟩
  | .PMU_FIXLO => ⟨.PMU_FIXLO, 0x21008, 18, 0x400, 1, 0x0, 0x0⟩
  | .PMU_FIXHI => ⟨.PMU_FIXHI, 0x2100c, 18, 0x400, 1, 0x0, 0x0⟩
  | .PMU_ARBASELO => ⟨.PMU_ARBASELO, 0x21010, 18, 0x400, 1, 0x0, 0x0⟩
  | .PMU_ARBASEHI => ⟨.PMU_ARBASEHI, 0x21014, 18, 0x400, 1, 0x0, 0x0⟩
  | .PMU_ARLIMLO => ⟨.PMU_ARLIMLO, 0x21018, 18, 0x400, 1, 0x0, 0x0⟩
  | .PMU_ARLIMHI => ⟨.PMU_ARLIMHI, 0x2101c, 18, 0x400, 1, 0x0, 0x0⟩
  | .PMU_SMP0 => ⟨.PMU_SMP0, 0x21020, 18, 0x400, 1, 0x0, 0x0⟩
  | .PMU_SMP1 => ⟨.PMU_SMP1, 0x21024, 18, 0x400, 1, 0x0, 0x0⟩
  | .PMU_SMP2 => ⟨.PMU_SMP2, 0x21028, 18, 0x400, 1, 0x0, 0x0⟩
  | .PMU_SMP3 => ⟨.PMU_SMP3, 0x2102c, 18, 0x400, 1, 0x0, 0x0⟩
  | .PMU_SMP4 => ⟨.PMU_SMP4, 0x21030, 18, 0x400, 1, 0x0, 0x0⟩
  | .PMU_SMP5 => ⟨.PMU_SMP5, 0x21034, 18, 0x400, 1, 0x0, 0x0⟩
  | .PMU_CNTLO => ⟨.PMU_CNTLO, 0x21040, 18, 0x400, 8, 0x40, 0x0⟩
  | .PMU_CNTHI => ⟨.PMU_CNTHI, 0x21044, 18, 0x400, 8, 0x40, 0x0⟩
  | .PMU_RLDLO => ⟨.PMU_RLDLO, 0x21048, 18, 0x400, 8, 0x40, 0x0⟩
  | .PMU_RLDHI => ⟨.PMU_RLDHI, 0x2104c, 18, 0x400, 8, 0x40, 0x0⟩
  | .PMU_EVSEL => ⟨.PMU_EVSEL, 0x21050, 18, 0x400, 8, 0x40, 0x0⟩
  | .PMU_FILT => ⟨.PMU_FILT, 0x21054, 18, 0x400, 8, 0x40, 0xfff⟩
  | .PMU_FQUEUE => ⟨.PMU_FQUEUE, 0x21058, 18, 0x400, 8, 0x40, 0x0⟩
  | .PMU_FQMASK => ⟨.PMU_FQMASK, 0x2105c, 18, 0x400, 8, 0x40, 0x0⟩
  | .PMU_OVFCNT => ⟨.PMU_OVFCNT, 0x21060, 18, 0x400, 8, 0x40, 0x0⟩
  | .PMU_PBWTX => ⟨.PMU_PBWTX, 0x26000, 72, 0x4, 1, 0x0, 0x0⟩
  | .PMU_PBWRX => ⟨.PMU_PBWRX, 0x26200, 72, 0x4, 1, 0x0, 0x0⟩
  | .PMU_PUTIL => ⟨.PMU_PUTIL, 0x26400, 72, 0x4, 1, 0x0, 0x0⟩
  | .SEC_CTL => ⟨.SEC_CTL, 0x30000, 1, 0x0, 1, 0x0, 0x0⟩
  | .SEC_STAT => ⟨.SEC_STAT, 0x30004, 1, 0x0, 1, 0x0, 0x1⟩
  | .SEC_FLT => ⟨.SEC_FLT, 0x30008, 1, 0x0, 1, 0x0, 0x0⟩
  | .SEC_MINVER => ⟨.SEC_MINVER, 0x3000c, 1, 0x0, 1, 0x0, 0x0⟩
  | .SEC_KEYSTAT => ⟨.SEC_KEYSTAT, 0x30010, 1, 0x0, 1, 0x0, 0x0⟩
  | .SEC_DBGCNT => ⟨.SEC_DBGCNT, 0x30014, 1, 0x0, 1, 0x0, 0x0⟩
  | .SEC_UID => ⟨.SEC_UID, 0x30020, 4, 0x4, 1, 0x0, 0x0⟩
  | .SEC_CHAL => ⟨.SEC_CHAL, 0x30040, 12, 0x4, 1, 0x0, 0x0⟩
  | .SEC_RESP => ⟨.SEC_RESP, 0x30080, 24, 0x4, 1, 0x0, 0x0⟩

/-- The offset of instance `i` of a family; the counter registers of group g and counter c have i = 8 × g + c. -/
def RegName.addr (r : RegName) (i : Nat) : Nat :=
  r.fam.base + r.fam.s1 * (i / r.fam.n2) + r.fam.s2 * (i % r.fam.n2)

/-- The reset value of FLT_SRCCFG(s): lanes, ports, engines and units, peers. -/
def srcCfgReset (s : Nat) : Nat :=
  if s < 72 then 0x00025E10 else if s < 144 then 0x00025E04 else if s < 476 then 0x00025E02 else 0x00015E00

/-- The reset value of FLK_CRALLOC(v). -/
def crAllocReset (v : Nat) : Nat :=
  match v with
  | 0 => 0x180
  | 1 => 0x180
  | 6 => 0x160
  | 7 => 0x020
  | _ => 0x060

/-- The reset value of instance `i` of a family. The fused registers of SEC are held in the fuses, not here. -/
def RegName.resetAt (r : RegName) (i : Nat) : Nat :=
  match r with
  | .FLT_SRCCFG => srcCfgReset i
  | .FLK_CRALLOC => crAllocReset i
  | _ => r.fam.reset

/-- The instance of a family that holds an offset, if one does. VF allotment registers start at v = 1 (R659). -/
def RegFam.indexOf (f : RegFam) (off : Nat) : Option Nat :=
  if off < f.base then none else
  let d := off - f.base
  let i1 := if f.s1 = 0 then 0 else min (d / f.s1) (f.n1 - 1)
  let r := d - i1 * f.s1
  let i2 := if f.s2 = 0 then 0 else min (r / f.s2) (f.n2 - 1)
  if i1 * f.s1 + i2 * f.s2 = d ∧ ¬ (f.s1 = 16 ∧ 0x2100 ≤ off ∧ off < 0x2110) then some (i1 * f.n2 + i2) else none

/-- The first family of a list that holds an offset, with the instance. -/
def findReg (off : Nat) : List RegFam → Option (RegName × Nat)
  | [] => none
  | f :: t => match f.indexOf off with
    | some i => some (f.name, i)
    | none => findReg off t

/-- The register at an offset of the normal access range, if one is there (R659). -/
def regAt (off : Nat) : Option (RegName × Nat) := findReg off (famsAt off)

/-- The fields of each family, from its field table. A bit in no field is reserved (R16). -/
def RegName.fields : RegName → List RegField
  | .GEN_ID => [⟨16, 16, .ro⟩, ⟨4, 4, .ro⟩, ⟨0, 4, .ro⟩]
  | .GEN_FWVER => [⟨24, 8, .ro⟩, ⟨16, 8, .ro⟩, ⟨0, 16, .ro⟩]
  | .GEN_READY => [⟨0, 1, .rl⟩, ⟨1, 8, .rl⟩, ⟨9, 1, .rl⟩, ⟨10, 9, .rl⟩, ⟨19, 1, .rl⟩, ⟨20, 1, .rl⟩, ⟨21, 1, .rl⟩, ⟨22, 1, .rl⟩]
  | .GEN_READYCL => [⟨0, 18, .rl⟩]
  | .GEN_COORD => [⟨0, 20, .ro⟩]
  | .GEN_ALIAS => [⟨0, 20, .ro⟩]
  | .GEN_SHAPE => [⟨0, 5, .ro⟩, ⟨8, 5, .ro⟩, ⟨16, 5, .ro⟩, ⟨24, 5, .ro⟩]
  | .GEN_EPOCH => [⟨0, 8, .ro⟩]
  | .HIF_LINKSTAT => [⟨0, 3, .rl⟩, ⟨3, 5, .rl⟩, ⟨8, 5, .rl⟩, ⟨13, 1, .rl⟩, ⟨14, 1, .rl⟩, ⟨15, 1, .rl⟩]
  | .HIF_STATUS => [⟨0, 6, .rl⟩, ⟨6, 1, .rl⟩, ⟨7, 1, .rl⟩, ⟨8, 1, .rl⟩]
  | .HIF_FLT => [⟨0, 1, .lt⟩, ⟨1, 1, .lt⟩, ⟨2, 1, .lt⟩, ⟨3, 1, .lt⟩, ⟨4, 1, .lt⟩]
  | .HIF_ACCCNT => [⟨0, 8, .ec⟩, ⟨8, 8, .ec⟩, ⟨16, 8, .ec⟩, ⟨24, 8, .ec⟩]
  | .HIF_ACCLOG0 => [⟨0, 16, .ro⟩, ⟨16, 3, .ro⟩, ⟨19, 1, .ro⟩, ⟨20, 6, .ro⟩, ⟨26, 1, .ro⟩]
  | .HIF_ACCLOG1 => [⟨0, 23, .ro⟩]
  | .HIF_ACCLOG2 => [⟨0, 32, .ro⟩]
  | .HIF_MEMSTAT => [⟨0, 1, .rl⟩, ⟨1, 1, .rl⟩, ⟨2, 1, .lt⟩, ⟨3, 1, .lt⟩, ⟨16, 16, .ec⟩]
  | .QMG_CTL => [⟨0, 4, .rw⟩]
  | .QMG_DBIGNORE => [⟨0, 16, .ec⟩, ⟨16, 16, .ec⟩]
  | .QMG_QERR0 => [⟨0, 16, .ro⟩, ⟨16, 5, .ro⟩]
  | .QMG_QERR1 => [⟨0, 18, .ro⟩, ⟨18, 6, .ro⟩]
  | .QMG_QERR2 => [⟨0, 32, .ro⟩]
  | .QMG_EVCNT => [⟨0, 8, .ec⟩, ⟨8, 8, .ec⟩, ⟨16, 16, .ec⟩]
  | .QMG_SMPSEL => [⟨0, 18, .rw⟩, ⟨31, 1, .rw⟩]
  | .QMG_SMP0 => [⟨0, 16, .ro⟩, ⟨16, 3, .ro⟩]
  | .QMG_SMP1 => [⟨0, 32, .ro⟩]
  | .QMG_SMP2 => [⟨0, 32, .ro⟩]
  | .QMG_SMP3 => [⟨0, 32, .ro⟩]
  | .QMG_AQSQLO => [⟨12, 20, .rw⟩]
  | .QMG_AQSQHI => [⟨0, 32, .rw⟩]
  | .QMG_AQCQLO => [⟨12, 20, .rw⟩]
  | .QMG_AQCQHI => [⟨0, 32, .rw⟩]
  | .QMG_AQCFG => [⟨0, 1, .rw⟩, ⟨4, 4, .rw⟩, ⟨8, 4, .rw⟩, ⟨12, 1, .rw⟩]
  | .QMG_AQTAIL => [⟨0, 32, .rw⟩]
  | .QMG_AQHEAD => [⟨0, 32, .rw⟩]
  | .QMG_AQSTAT => [⟨0, 1, .rl⟩, ⟨1, 1, .lt⟩, ⟨16, 16, .rl⟩]
  | .QMG_VFWQ => [⟨0, 18, .ro⟩, ⟨18, 13, .ro⟩]
  | .QMG_VFCQ => [⟨0, 16, .ro⟩, ⟨16, 11, .ro⟩]
  | .QMG_VFEQ => [⟨0, 11, .ro⟩, ⟨11, 6, .ro⟩]
  | .QMG_VFRGN => [⟨0, 25, .rw⟩]
  | .ENG_CTL => [⟨0, 1, .rw⟩, ⟨1, 1, .rw⟩, ⟨4, 4, .rw⟩]
  | .ENG_STAT => [⟨0, 1, .rl⟩, ⟨1, 1, .lt⟩, ⟨16, 16, .rl⟩]
  | .ENG_STEAL => [⟨0, 32, .ec⟩]
  | .ENG_STOLEN => [⟨0, 32, .ec⟩]
  | .XLT_CTL => [⟨0, 1, .rw⟩, ⟨1, 1, .rw⟩]
  | .XLT_ASIDLO => [⟨12, 20, .rw⟩]
  | .XLT_ASIDHI => [⟨0, 20, .rw⟩]
  | .XLT_TLIFE => [⟨0, 32, .rw⟩]
  | .XLT_STAT => [⟨0, 17, .rl⟩, ⟨17, 13, .rl⟩, ⟨30, 1, .rl⟩]
  | .XLT_FLT => [⟨0, 1, .lt⟩, ⟨1, 1, .lt⟩, ⟨2, 1, .lt⟩]
  | .XLT_HIT => [⟨0, 32, .ec⟩]
  | .XLT_MISS => [⟨0, 32, .ec⟩]
  | .XLT_WALKRD => [⟨0, 32, .ec⟩]
  | .XLT_ADCAS => [⟨0, 32, .ec⟩]
  | .XLT_AGED => [⟨0, 32, .ec⟩]
  | .XLT_FAULTS => [⟨0, 32, .ec⟩]
  | .XLT_FLTLOG0 => [⟨0, 16, .ro⟩, ⟨16, 4, .ro⟩, ⟨20, 1, .ro⟩, ⟨21, 1, .ro⟩, ⟨22, 3, .ro⟩, ⟨25, 6, .ro⟩]
  | .XLT_FLTLOG1 => [⟨0, 16, .ro⟩]
  | .XLT_FLTLOG2 => [⟨0, 32, .ro⟩]
  | .XLT_FLTLOG3 => [⟨0, 25, .ro⟩]
  | .XLT_EXCLBL => [⟨0, 1, .rw⟩, ⟨12, 20, .rw⟩]
  | .XLT_EXCLBH => [⟨0, 20, .rw⟩]
  | .XLT_EXCLLL => [⟨12, 20, .rw⟩]
  | .XLT_EXCLLH => [⟨0, 20, .rw⟩]
  | .GWN_BUDGET => [⟨0, 32, .rw⟩]
  | .GWN_WCFG => [⟨0, 1, .rw⟩, ⟨8, 6, .rw⟩]
  | .GWN_WMAP => [⟨0, 24, .rw⟩]
  | .GWN_FENCE => [⟨0, 16, .ec⟩]
  | .GWN_FLT => [⟨0, 1, .lt⟩, ⟨1, 1, .lt⟩, ⟨2, 1, .lt⟩]
  | .GWN_RDCNT => [⟨0, 32, .ec⟩]
  | .GWN_WRCNT => [⟨0, 32, .ec⟩]
  | .GWN_ERRCNT => [⟨0, 16, .ec⟩, ⟨16, 16, .ec⟩]
  | .GWN_ERRLOG0 => [⟨0, 16, .ro⟩, ⟨16, 3, .ro⟩, ⟨19, 1, .ro⟩, ⟨20, 2, .ro⟩, ⟨24, 8, .ro⟩]
  | .GWN_ERRLOG1 => [⟨0, 32, .ro⟩]
  | .GWN_ERRLOG2 => [⟨0, 16, .ro⟩]
  | .NCC_CFG => [⟨0, 1, .rw⟩, ⟨1, 1, .rw⟩, ⟨2, 1, .rw⟩, ⟨8, 5, .rw⟩]
  | .NCC_LEASEDUR => [⟨0, 32, .rw⟩]
  | .NCC_OVFDUR => [⟨0, 32, .rw⟩]
  | .NCC_STAT => [⟨0, 1, .rl⟩, ⟨1, 1, .rl⟩, ⟨2, 1, .rl⟩]
  | .NCC_LTOCC => [⟨0, 22, .rl⟩]
  | .NCC_HIT => [⟨0, 32, .ec⟩]
  | .NCC_MISS => [⟨0, 32, .ec⟩]
  | .NCC_EXPMISS => [⟨0, 32, .ec⟩]
  | .NCC_INVRX => [⟨0, 32, .ec⟩]
  | .NCC_INVTX => [⟨0, 32, .ec⟩]
  | .NCC_EXPWAIT => [⟨0, 32, .ec⟩]
  | .NCC_NOLEASE => [⟨0, 32, .ec⟩]
  | .NCC_FLT => [⟨0, 1, .lt⟩, ⟨1, 1, .lt⟩]
  | .COL_PROBEINT => [⟨0, 32, .rw⟩]
  | .COL_CWIN => [⟨0, 17, .rw⟩]
  | .COL_STAT => [⟨0, 13, .rl⟩]
  | .COL_FLT => [⟨0, 1, .lt⟩, ⟨1, 1, .lt⟩, ⟨2, 1, .lt⟩, ⟨3, 1, .lt⟩]
  | .COL_INSTDONE => [⟨0, 32, .ec⟩]
  | .COL_LOSTCNT => [⟨0, 32, .ec⟩]
  | .COL_CONSTIT => [⟨0, 32, .ec⟩]
  | .COL_FWD => [⟨0, 32, .ec⟩]
  | .COL_CTXSEL => [⟨0, 12, .rw⟩]
  | .COL_CTX0 => [⟨0, 16, .ro⟩, ⟨16, 2, .ro⟩, ⟨18, 3, .ro⟩, ⟨21, 1, .ro⟩, ⟨22, 1, .ro⟩, ⟨23, 7, .ro⟩]
  | .COL_CTX1 => [⟨0, 32, .ro⟩]
  | .COL_CTX2 => [⟨0, 20, .ro⟩]
  | .LCK_CTL => [⟨0, 1, .rw⟩]
  | .LCK_DEADWIN => [⟨0, 32, .rw⟩]
  | .LCK_PROBEINT => [⟨0, 32, .rw⟩]
  | .LCK_LLOCC => [⟨0, 21, .rl⟩]
  | .LCK_WROCC => [⟨0, 17, .rl⟩]
  | .LCK_FLT => [⟨0, 1, .lt⟩, ⟨1, 1, .lt⟩, ⟨2, 1, .lt⟩, ⟨3, 1, .lt⟩]
  | .LCK_GRANT => [⟨0, 32, .ec⟩]
  | .LCK_WAIT => [⟨0, 32, .ec⟩]
  | .LCK_DECLINE => [⟨0, 32, .ec⟩]
  | .LCK_ABANDON => [⟨0, 32, .ec⟩]
  | .LCK_FORCE => [⟨0, 32, .ec⟩]
  | .LCK_NOTOWNER => [⟨0, 32, .ec⟩]
  | .LCK_LOCKSEL => [⟨0, 24, .rw⟩]
  | .LCK_LOCK0 => [⟨0, 16, .ro⟩, ⟨16, 3, .ro⟩, ⟨19, 1, .ro⟩, ⟨20, 1, .ro⟩]
  | .LCK_LOCK1 => [⟨0, 20, .ro⟩, ⟨20, 6, .ro⟩]
  | .LCK_LOCK2 => [⟨0, 18, .ro⟩, ⟨18, 14, .ro⟩]
  | .LCK_LOCK3 => [⟨0, 32, .ro⟩]
  | .RTE_CTL => [⟨0, 1, .rw⟩, ⟨1, 1, .rw⟩, ⟨16, 12, .rw⟩]
  | .RTE_PCAP => [⟨0, 8, .rw⟩]
  | .RTE_FLT => [⟨0, 1, .lt⟩, ⟨1, 1, .lt⟩, ⟨2, 1, .lt⟩, ⟨3, 1, .lt⟩]
  | .RTE_ESC => [⟨0, 32, .ec⟩]
  | .RTE_DET => [⟨0, 32, .ec⟩]
  | .RTE_UNROUTE => [⟨0, 32, .ec⟩]
  | .RTE_HOPLIM => [⟨0, 32, .ec⟩]
  | .RTE_REINJ => [⟨0, 32, .ec⟩]
  | .RTE_FWDDROP => [⟨0, 32, .ec⟩]
  | .RTE_PSTOFF => [⟨0, 32, .ec⟩]
  | .RTE_CCTARGETQ => [⟨0, 16, .rw⟩]
  | .RTE_CCAI => [⟨0, 17, .rw⟩]
  | .RTE_CCBETA => [⟨0, 8, .rw⟩]
  | .RTE_CCWMIN => [⟨0, 17, .rw⟩]
  | .RTE_CCWMAX => [⟨0, 25, .rw⟩]
  | .RTE_CCWINIT => [⟨0, 25, .rw⟩]
  | .RTE_PISTESEL => [⟨0, 8, .rw⟩]
  | .RTE_PISTE0 => [⟨0, 16, .ro⟩, ⟨16, 3, .ro⟩, ⟨19, 4, .ro⟩]
  | .RTE_PISTE1 => [⟨0, 20, .ro⟩, ⟨20, 6, .ro⟩]
  | .RTE_PISTE2 => [⟨0, 8, .ro⟩, ⟨8, 7, .ro⟩, ⟨16, 10, .ro⟩]
  | .RTE_PISTE3 => [⟨0, 32, .ro⟩]
  | .RTE_ALIAS => [⟨0, 5, .ro⟩, ⟨5, 1, .ro⟩]
  | .RTE_PMAP => [⟨0, 7, .rw⟩, ⟨7, 1, .rw⟩, ⟨8, 7, .rw⟩, ⟨15, 1, .rw⟩]
  | .RTE_PORT => [⟨0, 1, .rw⟩, ⟨1, 2, .rw⟩, ⟨3, 2, .rw⟩, ⟨5, 5, .rw⟩, ⟨16, 1, .rl⟩, ⟨17, 11, .rl⟩]
  | .RTE_LINE => [⟨0, 18, .rl⟩]
  | .FLK_CTL => [⟨0, 1, .rw⟩, ⟨1, 1, .rw⟩, ⟨4, 4, .rw⟩]
  | .FLK_REPLAYTO => [⟨0, 16, .rw⟩]
  | .FLK_ERRWIN => [⟨0, 32, .rw⟩]
  | .FLK_ERRTHR => [⟨0, 16, .rw⟩, ⟨16, 16, .rw⟩]
  | .FLK_EQTO => [⟨0, 32, .rw⟩]
  | .FLK_RTRTO => [⟨0, 32, .rw⟩]
  | .FLK_HOLDOFF => [⟨0, 32, .rw⟩]
  | .FLK_FLT => [⟨0, 1, .lt⟩, ⟨1, 1, .lt⟩, ⟨2, 1, .lt⟩, ⟨3, 1, .lt⟩, ⟨4, 1, .lt⟩]
  | .FLK_CRALLOC => [⟨0, 9, .rw⟩]
  | .FLK_LBSTAT => [⟨0, 1, .rl⟩, ⟨1, 1, .rl⟩, ⟨2, 1, .lt⟩]
  | .FLK_LANECTL => [⟨0, 1, .rw⟩, ⟨1, 1, .rw⟩, ⟨2, 1, .rw⟩, ⟨3, 2, .rw⟩, ⟨5, 5, .rw⟩, ⟨10, 3, .rw⟩]
  | .FLK_LANESTAT => [⟨0, 1, .rl⟩, ⟨1, 1, .rl⟩, ⟨2, 1, .rl⟩, ⟨3, 1, .rl⟩, ⟨4, 7, .rl⟩, ⟨11, 2, .rl⟩, ⟨13, 1, .lt⟩]
  | .FLK_LANEERR => [⟨0, 16, .rl⟩, ⟨16, 16, .ec⟩]
  | .FLK_LANEFEC => [⟨0, 32, .ec⟩]
  | .FLK_TAPS => [⟨0, 30, .ro⟩]
  | .FLK_PSTAT => [⟨0, 4, .rl⟩, ⟨4, 2, .rl⟩, ⟨6, 1, .rl⟩, ⟨8, 20, .rl⟩]
  | .FLK_PREPLAY => [⟨0, 16, .ec⟩, ⟨16, 16, .ec⟩]
  | .FLK_PERR => [⟨0, 16, .ec⟩, ⟨16, 16, .ec⟩]
  | .FLK_PLINK => [⟨0, 8, .ec⟩, ⟨8, 8, .ec⟩, ⟨16, 16, .ec⟩]
  | .FLK_PDELAY => [⟨0, 16, .rl⟩]
  | .MIR_CTL => [⟨0, 1, .rw⟩, ⟨1, 1, .rw⟩, ⟨2, 1, .wo⟩, ⟨3, 1, .wo⟩, ⟨4, 1, .wo⟩]
  | .MIR_STAT => [⟨0, 3, .rl⟩, ⟨3, 3, .rl⟩, ⟨6, 1, .rl⟩, ⟨7, 1, .rl⟩, ⟨8, 5, .rl⟩]
  | .MIR_HB => [⟨0, 4, .rw⟩]
  | .MIR_GUARD => [⟨0, 32, .rw⟩]
  | .MIR_FENCEWIN => [⟨0, 32, .rw⟩]
  | .MIR_FLT => [⟨0, 1, .lt⟩, ⟨1, 1, .lt⟩, ⟨2, 1, .lt⟩, ⟨3, 1, .lt⟩]
  | .MIR_TXREC => [⟨0, 32, .ec⟩]
  | .MIR_RXREC => [⟨0, 32, .ec⟩]
  | .MIR_REPLAY => [⟨0, 16, .ec⟩, ⟨16, 16, .ec⟩]
  | .MIR_HBLATE => [⟨0, 32, .ec⟩]
  | .MIR_LAG => [⟨0, 11, .rl⟩]
  | .MIR_WQBASE => [⟨0, 18, .ro⟩]
  | .MIR_WQCOUNT => [⟨0, 18, .ro⟩]
  | .MIR_CQR => [⟨0, 16, .ro⟩, ⟨16, 16, .ro⟩]
  | .MIR_EQR => [⟨0, 11, .ro⟩, ⟨11, 11, .ro⟩]
  | .MIR_MAPBASE => [⟨0, 24, .ro⟩]
  | .MIR_MAPCOUNT => [⟨0, 25, .ro⟩]
  | .MIR_LANE => [⟨0, 1, .rl⟩, ⟨1, 1, .rl⟩, ⟨2, 1, .rl⟩, ⟨3, 1, .rl⟩, ⟨8, 18, .ro⟩]
  | .TIM_CTL => [⟨0, 1, .rw⟩, ⟨1, 1, .rw⟩, ⟨2, 1, .rw⟩, ⟨3, 1, .wo⟩, ⟨8, 8, .rw⟩]
  | .TIM_CFG => [⟨0, 16, .rw⟩, ⟨16, 16, .rw⟩]
  | .TIM_STAT => [⟨0, 1, .rl⟩, ⟨1, 1, .rl⟩, ⟨2, 1, .rl⟩, ⟨3, 1, .rl⟩, ⟨4, 4, .rl⟩, ⟨8, 7, .rl⟩, ⟨16, 16, .rl⟩]
  | .TIM_GM => [⟨0, 20, .rl⟩, ⟨20, 1, .rl⟩, ⟨24, 8, .rl⟩]
  | .TIM_OFFSET => [⟨0, 32, .rl⟩]
  | .TIM_NOWLO => [⟨0, 32, .rl⟩]
  | .TIM_NOWHI => [⟨0, 32, .rl⟩]
  | .TIM_SETLO => [⟨0, 32, .rw⟩]
  | .TIM_SETHI => [⟨0, 32, .rw⟩]
  | .TIM_ALARM => [⟨0, 32, .rw⟩]
  | .TIM_ALMCTL => [⟨0, 4, .rw⟩, ⟨4, 4, .rw⟩, ⟨8, 4, .lt⟩]
  | .TIM_FLT => [⟨0, 1, .lt⟩, ⟨1, 1, .lt⟩, ⟨2, 1, .lt⟩]
  | .TIM_PPSERR => [⟨0, 32, .rl⟩]
  | .TIM_CNT => [⟨0, 16, .ec⟩, ⟨16, 16, .ec⟩]
  | .PWR_CTL => [⟨0, 1, .rw⟩, ⟨1, 1, .wo⟩]
  | .PWR_PACESET => [⟨0, 16, .rw⟩, ⟨16, 8, .rw⟩]
  | .PWR_PACE => [⟨0, 16, .rl⟩, ⟨16, 4, .rl⟩]
  | .PWR_SAMP => [⟨0, 16, .rl⟩, ⟨16, 16, .rl⟩]
  | .PWR_VCORE => [⟨0, 10, .rl⟩, ⟨16, 10, .rl⟩]
  | .PWR_VLIM => [⟨0, 16, .rw⟩, ⟨16, 16, .rw⟩]
  | .PWR_FLT => [⟨0, 1, .lt⟩, ⟨1, 1, .lt⟩, ⟨2, 1, .lt⟩]
  | .PWR_TEMP => [⟨0, 12, .rl⟩]
  | .PWR_WAKECFG => [⟨0, 1, .rw⟩, ⟨1, 1, .rw⟩]
  | .PWR_SDMASK => [⟨0, 32, .rw⟩]
  | .PWR_WAKE => [⟨0, 4, .ro⟩, ⟨4, 1, .ro⟩, ⟨5, 1, .ro⟩, ⟨6, 7, .ro⟩]
  | .RST_CAUSE => [⟨0, 1, .ro⟩, ⟨1, 1, .ro⟩, ⟨2, 1, .ro⟩, ⟨3, 1, .ro⟩, ⟨4, 1, .ro⟩, ⟨5, 1, .ro⟩]
  | .RST_BLKCMD => [⟨0, 8, .wo⟩, ⟨8, 1, .wo⟩]
  | .RST_BLKSTAT => [⟨0, 1, .rl⟩, ⟨1, 1, .rl⟩, ⟨8, 8, .rl⟩]
  | .RST_IDLETO => [⟨0, 32, .rw⟩]
  | .RST_WDCTL => [⟨0, 1, .rw⟩, ⟨8, 24, .rw⟩]
  | .RST_WDKICK => [⟨0, 32, .wo⟩]
  | .RST_FLT => [⟨0, 1, .lt⟩, ⟨1, 1, .lt⟩]
  | .RST_CRITCNT => [⟨0, 32, .ec⟩]
  | .RST_NVSTAT => [⟨0, 1, .rl⟩, ⟨8, 4, .rl⟩]
  | .RST_BOOT => [⟨0, 4, .rl⟩, ⟨4, 1, .rl⟩, ⟨5, 1, .rl⟩, ⟨6, 1, .rl⟩]
  | .RST_BKP => [⟨0, 32, .rw⟩]
  | .FLT_CTL => [⟨0, 1, .rw⟩, ⟨8, 8, .rw⟩]
  | .FLT_STAT => [⟨0, 1, .lt⟩, ⟨1, 1, .rl⟩, ⟨2, 1, .rl⟩, ⟨8, 10, .rl⟩]
  | .FLT_SAFE => [⟨0, 1, .lt⟩, ⟨1, 2, .ro⟩, ⟨4, 12, .ro⟩]
  | .FLT_LAST0 => [⟨0, 16, .ro⟩, ⟨16, 2, .ro⟩, ⟨18, 1, .ro⟩, ⟨19, 1, .ro⟩]
  | .FLT_LAST1 => [⟨0, 32, .ro⟩]
  | .FLT_LAST2 => [⟨0, 32, .ro⟩]
  | .FLT_LAST3 => [⟨0, 32, .ro⟩]
  | .FLT_LAST4 => [⟨0, 32, .ro⟩]
  | .FLT_MSGCNT => [⟨0, 16, .ec⟩, ⟨16, 16, .ec⟩]
  | .FLT_INJ => [⟨0, 12, .wo⟩, ⟨16, 12, .wo⟩, ⟨28, 4, .wo⟩]
  | .FLT_ESCCNT => [⟨0, 16, .ec⟩, ⟨16, 16, .ec⟩]
  | .FLT_SRCCFG => [⟨0, 8, .rw⟩, ⟨8, 6, .rw⟩, ⟨14, 2, .rw⟩, ⟨16, 2, .rw⟩]
  | .FLT_SRCSTAT => [⟨0, 1, .lt⟩, ⟨1, 1, .rl⟩, ⟨2, 2, .rl⟩, ⟨4, 1, .rl⟩, ⟨8, 8, .rl⟩]
  | .FLT_SRCCNT => [⟨0, 32, .ec⟩]
  | .FLT_SRCLAST => [⟨0, 16, .ro⟩, ⟨16, 16, .ro⟩]
  | .PMU_CTL => [⟨0, 1, .wo⟩, ⟨1, 1, .wo⟩]
  | .PMU_BWWIN => [⟨0, 5, .rw⟩]
  | .PMU_TAGCTL => [⟨0, 1, .rw⟩, ⟨4, 4, .rw⟩]
  | .PMU_TAGSEED => [⟨0, 32, .rw⟩]
  | .PMU_TAG0 => [⟨0, 16, .ro⟩, ⟨16, 8, .ro⟩, ⟨24, 8, .ro⟩]
  | .PMU_TAG1 => [⟨0, 18, .ro⟩, ⟨18, 6, .ro⟩]
  | .PMU_TAG2 => [⟨0, 32, .ro⟩]
  | .PMU_TAG3 => [⟨0, 9, .ro⟩, ⟨16, 9, .ro⟩]
  | .PMU_TAG4 => [⟨0, 32, .ro⟩]
  | .PMU_TAG5 => [⟨0, 32, .ro⟩]
  | .PMU_TAG6 => [⟨0, 32, .ro⟩]
  | .PMU_TAG7 => [⟨0, 32, .ro⟩]
  | .PMU_GCTL => [⟨0, 1, .rw⟩, ⟨1, 1, .rw⟩, ⟨3, 1, .rw⟩, ⟨4, 1, .wo⟩]
  | .PMU_GSTAT => [⟨0, 8, .lt⟩, ⟨8, 1, .rl⟩]
  | .PMU_FIXLO => [⟨0, 32, .ro⟩]
  | .PMU_FIXHI => [⟨0, 32, .ro⟩]
  | .PMU_ARBASELO => [⟨0, 32, .rw⟩]
  | .PMU_ARBASEHI => [⟨0, 32, .rw⟩]
  | .PMU_ARLIMLO => [⟨0, 32, .rw⟩]
  | .PMU_ARLIMHI => [⟨0, 32, .rw⟩]
  | .PMU_SMP0 => [⟨0, 16, .ro⟩, ⟨16, 3, .ro⟩, ⟨19, 1, .ro⟩, ⟨20, 6, .ro⟩]
  | .PMU_SMP1 => [⟨0, 18, .ro⟩, ⟨18, 9, .ro⟩]
  | .PMU_SMP2 => [⟨0, 32, .ro⟩]
  | .PMU_SMP3 => [⟨0, 32, .ro⟩]
  | .PMU_SMP4 => [⟨0, 32, .ro⟩]
  | .PMU_SMP5 => [⟨0, 32, .ro⟩]
  | .PMU_CNTLO => [⟨0, 32, .ro⟩]
  | .PMU_CNTHI => [⟨0, 16, .ro⟩]
  | .PMU_RLDLO => [⟨0, 32, .rw⟩]
  | .PMU_RLDHI => [⟨0, 16, .rw⟩]
  | .PMU_EVSEL => [⟨0, 8, .rw⟩, ⟨8, 1, .rw⟩, ⟨9, 1, .rw⟩, ⟨10, 1, .rw⟩]
  | .PMU_FILT => [⟨0, 4, .rw⟩, ⟨4, 8, .rw⟩, ⟨12, 1, .rw⟩, ⟨13, 1, .rw⟩, ⟨14, 1, .rw⟩, ⟨15, 1, .rw⟩, ⟨16, 6, .rw⟩, ⟨22, 9, .rw⟩]
  | .PMU_FQUEUE => [⟨0, 18, .rw⟩]
  | .PMU_FQMASK => [⟨0, 18, .rw⟩]
  | .PMU_OVFCNT => [⟨0, 16, .ec⟩]
  | .PMU_PBWTX => [⟨0, 20, .ro⟩, ⟨20, 12, .ro⟩]
  | .PMU_PBWRX => [⟨0, 20, .ro⟩, ⟨20, 12, .ro⟩]
  | .PMU_PUTIL => [⟨0, 16, .ro⟩, ⟨16, 16, .ro⟩]
  | .SEC_CTL => [⟨0, 1, .wo⟩, ⟨1, 1, .wo⟩, ⟨2, 1, .wo⟩, ⟨4, 4, .wo⟩]
  | .SEC_STAT => [⟨0, 1, .rl⟩, ⟨1, 1, .rl⟩, ⟨2, 1, .rl⟩, ⟨3, 1, .rl⟩, ⟨4, 2, .rl⟩, ⟨6, 1, .rl⟩]
  | .SEC_FLT => [⟨0, 1, .lt⟩, ⟨1, 1, .lt⟩, ⟨2, 1, .lt⟩]
  | .SEC_MINVER => [⟨0, 16, .ro⟩]
  | .SEC_KEYSTAT => [⟨0, 4, .ro⟩, ⟨4, 4, .ro⟩, ⟨8, 1, .ro⟩]
  | .SEC_DBGCNT => [⟨0, 4, .ro⟩]
  | .SEC_UID => [⟨0, 32, .ro⟩]
  | .SEC_CHAL => [⟨0, 32, .ro⟩]
  | .SEC_RESP => [⟨0, 32, .wo⟩]

end Sys2Proof.Machine

namespace Sys2Proof.Machine.Fld

/-- GEN_ID.PART, bits [31:16], RO. -/
def GEN_ID_PART : Fld := ⟨.GEN_ID, 16, 16⟩
/-- GEN_ID.MAJOR, bits [7:4], RO. -/
def GEN_ID_MAJOR : Fld := ⟨.GEN_ID, 4, 4⟩
/-- GEN_ID.MINOR, bits [3:0], RO. -/
def GEN_ID_MINOR : Fld := ⟨.GEN_ID, 0, 4⟩
/-- GEN_FWVER.MAJOR, bits [31:24], RO. -/
def GEN_FWVER_MAJOR : Fld := ⟨.GEN_FWVER, 24, 8⟩
/-- GEN_FWVER.MINOR, bits [23:16], RO. -/
def GEN_FWVER_MINOR : Fld := ⟨.GEN_FWVER, 16, 8⟩
/-- GEN_FWVER.BUILD, bits [15:0], RO. -/
def GEN_FWVER_BUILD : Fld := ⟨.GEN_FWVER, 0, 16⟩
/-- GEN_READY.HIF, bits [0:0], RL. -/
def GEN_READY_HIF : Fld := ⟨.GEN_READY, 0, 1⟩
/-- GEN_READY.MEMCH, bits [8:1], RL. -/
def GEN_READY_MEMCH : Fld := ⟨.GEN_READY, 1, 8⟩
/-- GEN_READY.DSTATE, bits [9:9], RL. -/
def GEN_READY_DSTATE : Fld := ⟨.GEN_READY, 9, 1⟩
/-- GEN_READY.LB, bits [18:10], RL. -/
def GEN_READY_LB : Fld := ⟨.GEN_READY, 10, 9⟩
/-- GEN_READY.MIR, bits [19:19], RL. -/
def GEN_READY_MIR : Fld := ⟨.GEN_READY, 19, 1⟩
/-- GEN_READY.TIME, bits [20:20], RL. -/
def GEN_READY_TIME : Fld := ⟨.GEN_READY, 20, 1⟩
/-- GEN_READY.NCC, bits [21:21], RL. -/
def GEN_READY_NCC : Fld := ⟨.GEN_READY, 21, 1⟩
/-- GEN_READY.CTXPOOL, bits [22:22], RL. -/
def GEN_READY_CTXPOOL : Fld := ⟨.GEN_READY, 22, 1⟩
/-- GEN_READYCL.CLUSTER, bits [17:0], RL. -/
def GEN_READYCL_CLUSTER : Fld := ⟨.GEN_READYCL, 0, 18⟩
/-- GEN_COORD.COORD, bits [19:0], RO. -/
def GEN_COORD_COORD : Fld := ⟨.GEN_COORD, 0, 20⟩
/-- GEN_ALIAS.COORD, bits [19:0], RO. -/
def GEN_ALIAS_COORD : Fld := ⟨.GEN_ALIAS, 0, 20⟩
/-- GEN_SHAPE.N0, bits [4:0], RO. -/
def GEN_SHAPE_N0 : Fld := ⟨.GEN_SHAPE, 0, 5⟩
/-- GEN_SHAPE.N1, bits [12:8], RO. -/
def GEN_SHAPE_N1 : Fld := ⟨.GEN_SHAPE, 8, 5⟩
/-- GEN_SHAPE.N2, bits [20:16], RO. -/
def GEN_SHAPE_N2 : Fld := ⟨.GEN_SHAPE, 16, 5⟩
/-- GEN_SHAPE.N3, bits [28:24], RO. -/
def GEN_SHAPE_N3 : Fld := ⟨.GEN_SHAPE, 24, 5⟩
/-- GEN_EPOCH.EPOCH, bits [7:0], RO. -/
def GEN_EPOCH_EPOCH : Fld := ⟨.GEN_EPOCH, 0, 8⟩
/-- HIF_LINKSTAT.RATE, bits [2:0], RL. -/
def HIF_LINKSTAT_RATE : Fld := ⟨.HIF_LINKSTAT, 0, 3⟩
/-- HIF_LINKSTAT.WIDTH, bits [7:3], RL. -/
def HIF_LINKSTAT_WIDTH : Fld := ⟨.HIF_LINKSTAT, 3, 5⟩
/-- HIF_LINKSTAT.ACTW, bits [12:8], RL. -/
def HIF_LINKSTAT_ACTW : Fld := ⟨.HIF_LINKSTAT, 8, 5⟩
/-- HIF_LINKSTAT.FLIT, bits [13:13], RL. -/
def HIF_LINKSTAT_FLIT : Fld := ⟨.HIF_LINKSTAT, 13, 1⟩
/-- HIF_LINKSTAT.CXLMEM, bits [14:14], RL. -/
def HIF_LINKSTAT_CXLMEM : Fld := ⟨.HIF_LINKSTAT, 14, 1⟩
/-- HIF_LINKSTAT.BELOWMIN, bits [15:15], RL. -/
def HIF_LINKSTAT_BELOWMIN : Fld := ⟨.HIF_LINKSTAT, 15, 1⟩
/-- HIF_STATUS.NUMVF, bits [5:0], RL. -/
def HIF_STATUS_NUMVF : Fld := ⟨.HIF_STATUS, 0, 6⟩
/-- HIF_STATUS.VFEN, bits [6:6], RL. -/
def HIF_STATUS_VFEN : Fld := ⟨.HIF_STATUS, 6, 1⟩
/-- HIF_STATUS.ATOMEN, bits [7:7], RL. -/
def HIF_STATUS_ATOMEN : Fld := ⟨.HIF_STATUS, 7, 1⟩
/-- HIF_STATUS.DMASTOP, bits [8:8], RL. -/
def HIF_STATUS_DMASTOP : Fld := ⟨.HIF_STATUS, 8, 1⟩
/-- HIF_FLT.UNCORR, bits [0:0], LT. -/
def HIF_FLT_UNCORR : Fld := ⟨.HIF_FLT, 0, 1⟩
/-- HIF_FLT.POISONRX, bits [1:1], LT. -/
def HIF_FLT_POISONRX : Fld := ⟨.HIF_FLT, 1, 1⟩
/-- HIF_FLT.LINKDN, bits [2:2], LT. -/
def HIF_FLT_LINKDN : Fld := ⟨.HIF_FLT, 2, 1⟩
/-- HIF_FLT.BELOWMIN, bits [3:3], LT. -/
def HIF_FLT_BELOWMIN : Fld := ⟨.HIF_FLT, 3, 1⟩
/-- HIF_FLT.NOATOMIC, bits [4:4], LT. -/
def HIF_FLT_NOATOMIC : Fld := ⟨.HIF_FLT, 4, 1⟩
/-- HIF_ACCCNT.BUSERR, bits [7:0], EC. -/
def HIF_ACCCNT_BUSERR : Fld := ⟨.HIF_ACCCNT, 0, 8⟩
/-- HIF_ACCCNT.LOCKVIOL, bits [15:8], EC. -/
def HIF_ACCCNT_LOCKVIOL : Fld := ⟨.HIF_ACCCNT, 8, 8⟩
/-- HIF_ACCCNT.BADVAL, bits [23:16], EC. -/
def HIF_ACCCNT_BADVAL : Fld := ⟨.HIF_ACCCNT, 16, 8⟩
/-- HIF_ACCCNT.RESET, bits [31:24], EC. -/
def HIF_ACCCNT_RESET : Fld := ⟨.HIF_ACCCNT, 24, 8⟩
/-- HIF_ACCLOG0.SEQ, bits [15:0], RO. -/
def HIF_ACCLOG0_SEQ : Fld := ⟨.HIF_ACCLOG0, 0, 16⟩
/-- HIF_ACCLOG0.KIND, bits [18:16], RO. -/
def HIF_ACCLOG0_KIND : Fld := ⟨.HIF_ACCLOG0, 16, 3⟩
/-- HIF_ACCLOG0.WRITE, bits [19:19], RO. -/
def HIF_ACCLOG0_WRITE : Fld := ⟨.HIF_ACCLOG0, 19, 1⟩
/-- HIF_ACCLOG0.FUNC, bits [25:20], RO. -/
def HIF_ACCLOG0_FUNC : Fld := ⟨.HIF_ACCLOG0, 20, 6⟩
/-- HIF_ACCLOG0.BAR, bits [26:26], RO. -/
def HIF_ACCLOG0_BAR : Fld := ⟨.HIF_ACCLOG0, 26, 1⟩
/-- HIF_ACCLOG1.OFFSET, bits [22:0], RO. -/
def HIF_ACCLOG1_OFFSET : Fld := ⟨.HIF_ACCLOG1, 0, 23⟩
/-- HIF_ACCLOG2.TIME, bits [31:0], RO. -/
def HIF_ACCLOG2_TIME : Fld := ⟨.HIF_ACCLOG2, 0, 32⟩
/-- HIF_MEMSTAT.TRAINED, bits [0:0], RL. -/
def HIF_MEMSTAT_TRAINED : Fld := ⟨.HIF_MEMSTAT, 0, 1⟩
/-- HIF_MEMSTAT.KEYED, bits [1:1], RL. -/
def HIF_MEMSTAT_KEYED : Fld := ⟨.HIF_MEMSTAT, 1, 1⟩
/-- HIF_MEMSTAT.TRAINFLT, bits [2:2], LT. -/
def HIF_MEMSTAT_TRAINFLT : Fld := ⟨.HIF_MEMSTAT, 2, 1⟩
/-- HIF_MEMSTAT.UEFLT, bits [3:3], LT. -/
def HIF_MEMSTAT_UEFLT : Fld := ⟨.HIF_MEMSTAT, 3, 1⟩
/-- HIF_MEMSTAT.CECNT, bits [31:16], EC. -/
def HIF_MEMSTAT_CECNT : Fld := ⟨.HIF_MEMSTAT, 16, 16⟩
/-- QMG_CTL.PFAHEAD, bits [3:0], RW. -/
def QMG_CTL_PFAHEAD : Fld := ⟨.QMG_CTL, 0, 4⟩
/-- QMG_DBIGNORE.IGNORED, bits [15:0], EC. -/
def QMG_DBIGNORE_IGNORED : Fld := ⟨.QMG_DBIGNORE, 0, 16⟩
/-- QMG_DBIGNORE.STALE, bits [31:16], EC. -/
def QMG_DBIGNORE_STALE : Fld := ⟨.QMG_DBIGNORE, 16, 16⟩
/-- QMG_QERR0.SEQ, bits [15:0], RO. -/
def QMG_QERR0_SEQ : Fld := ⟨.QMG_QERR0, 0, 16⟩
/-- QMG_QERR0.KIND, bits [20:16], RO. -/
def QMG_QERR0_KIND : Fld := ⟨.QMG_QERR0, 16, 5⟩
/-- QMG_QERR1.WQ, bits [17:0], RO. -/
def QMG_QERR1_WQ : Fld := ⟨.QMG_QERR1, 0, 18⟩
/-- QMG_QERR1.FUNC, bits [23:18], RO. -/
def QMG_QERR1_FUNC : Fld := ⟨.QMG_QERR1, 18, 6⟩
/-- QMG_QERR2.QERR_INDEX, bits [31:0], RO. -/
def QMG_QERR2_QERR_INDEX : Fld := ⟨.QMG_QERR2, 0, 32⟩
/-- QMG_EVCNT.WQERR, bits [7:0], EC. -/
def QMG_EVCNT_WQERR : Fld := ⟨.QMG_EVCNT, 0, 8⟩
/-- QMG_EVCNT.CQFULL, bits [15:8], EC. -/
def QMG_EVCNT_CQFULL : Fld := ⟨.QMG_EVCNT, 8, 8⟩
/-- QMG_EVCNT.EQLOST, bits [31:16], EC. -/
def QMG_EVCNT_EQLOST : Fld := ⟨.QMG_EVCNT, 16, 16⟩
/-- QMG_SMPSEL.WQ, bits [17:0], RW. -/
def QMG_SMPSEL_WQ : Fld := ⟨.QMG_SMPSEL, 0, 18⟩
/-- QMG_SMPSEL.EN, bits [31:31], RW. -/
def QMG_SMPSEL_EN : Fld := ⟨.QMG_SMPSEL, 31, 1⟩
/-- QMG_SMP0.SEQ, bits [15:0], RO. -/
def QMG_SMP0_SEQ : Fld := ⟨.QMG_SMP0, 0, 16⟩
/-- QMG_SMP0.STATE, bits [18:16], RO. -/
def QMG_SMP0_STATE : Fld := ⟨.QMG_SMP0, 16, 3⟩
/-- QMG_SMP1.DEPTH, bits [31:0], RO. -/
def QMG_SMP1_DEPTH : Fld := ⟨.QMG_SMP1, 0, 32⟩
/-- QMG_SMP2.DELAY, bits [31:0], RO. -/
def QMG_SMP2_DELAY : Fld := ⟨.QMG_SMP2, 0, 32⟩
/-- QMG_SMP3.CREDIT, bits [31:0], RO. -/
def QMG_SMP3_CREDIT : Fld := ⟨.QMG_SMP3, 0, 32⟩
/-- QMG_AQSQLO.BASE, bits [31:12], RW. -/
def QMG_AQSQLO_BASE : Fld := ⟨.QMG_AQSQLO, 12, 20⟩
/-- QMG_AQSQHI.BASE, bits [31:0], RW. -/
def QMG_AQSQHI_BASE : Fld := ⟨.QMG_AQSQHI, 0, 32⟩
/-- QMG_AQCQLO.BASE, bits [31:12], RW. -/
def QMG_AQCQLO_BASE : Fld := ⟨.QMG_AQCQLO, 12, 20⟩
/-- QMG_AQCQHI.BASE, bits [31:0], RW. -/
def QMG_AQCQHI_BASE : Fld := ⟨.QMG_AQCQHI, 0, 32⟩
/-- QMG_AQCFG.EN, bits [0:0], RW. -/
def QMG_AQCFG_EN : Fld := ⟨.QMG_AQCFG, 0, 1⟩
/-- QMG_AQCFG.SQLOG2, bits [7:4], RW. -/
def QMG_AQCFG_SQLOG2 : Fld := ⟨.QMG_AQCFG, 4, 4⟩
/-- QMG_AQCFG.CQLOG2, bits [11:8], RW. -/
def QMG_AQCFG_CQLOG2 : Fld := ⟨.QMG_AQCFG, 8, 4⟩
/-- QMG_AQCFG.IRQEN, bits [12:12], RW. -/
def QMG_AQCFG_IRQEN : Fld := ⟨.QMG_AQCFG, 12, 1⟩
/-- QMG_AQTAIL.TAIL, bits [31:0], RW. -/
def QMG_AQTAIL_TAIL : Fld := ⟨.QMG_AQTAIL, 0, 32⟩
/-- QMG_AQHEAD.HEAD, bits [31:0], RW. -/
def QMG_AQHEAD_HEAD : Fld := ⟨.QMG_AQHEAD, 0, 32⟩
/-- QMG_AQSTAT.RUN, bits [0:0], RL. -/
def QMG_AQSTAT_RUN : Fld := ⟨.QMG_AQSTAT, 0, 1⟩
/-- QMG_AQSTAT.FETCHFLT, bits [1:1], LT. -/
def QMG_AQSTAT_FETCHFLT : Fld := ⟨.QMG_AQSTAT, 1, 1⟩
/-- QMG_AQSTAT.SQHEAD, bits [31:16], RL. -/
def QMG_AQSTAT_SQHEAD : Fld := ⟨.QMG_AQSTAT, 16, 16⟩
/-- QMG_VFWQ.BASE, bits [17:0], RO. -/
def QMG_VFWQ_BASE : Fld := ⟨.QMG_VFWQ, 0, 18⟩
/-- QMG_VFWQ.COUNT, bits [30:18], RO. -/
def QMG_VFWQ_COUNT : Fld := ⟨.QMG_VFWQ, 18, 13⟩
/-- QMG_VFCQ.BASE, bits [15:0], RO. -/
def QMG_VFCQ_BASE : Fld := ⟨.QMG_VFCQ, 0, 16⟩
/-- QMG_VFCQ.COUNT, bits [26:16], RO. -/
def QMG_VFCQ_COUNT : Fld := ⟨.QMG_VFCQ, 16, 11⟩
/-- QMG_VFEQ.BASE, bits [10:0], RO. -/
def QMG_VFEQ_BASE : Fld := ⟨.QMG_VFEQ, 0, 11⟩
/-- QMG_VFEQ.COUNT, bits [16:11], RO. -/
def QMG_VFEQ_COUNT : Fld := ⟨.QMG_VFEQ, 11, 6⟩
/-- QMG_VFRGN.QUOTA, bits [24:0], RW. -/
def QMG_VFRGN_QUOTA : Fld := ⟨.QMG_VFRGN, 0, 25⟩
/-- ENG_CTL.STEALEN, bits [0:0], RW. -/
def ENG_CTL_STEALEN : Fld := ⟨.ENG_CTL, 0, 1⟩
/-- ENG_CTL.SCOPE, bits [1:1], RW. -/
def ENG_CTL_SCOPE : Fld := ⟨.ENG_CTL, 1, 1⟩
/-- ENG_CTL.STEALMIN, bits [7:4], RW. -/
def ENG_CTL_STEALMIN : Fld := ⟨.ENG_CTL, 4, 4⟩
/-- ENG_STAT.READY, bits [0:0], RL. -/
def ENG_STAT_READY : Fld := ⟨.ENG_STAT, 0, 1⟩
/-- ENG_STAT.STFLT, bits [1:1], LT. -/
def ENG_STAT_STFLT : Fld := ⟨.ENG_STAT, 1, 1⟩
/-- ENG_STAT.RUNQ, bits [31:16], RL. -/
def ENG_STAT_RUNQ : Fld := ⟨.ENG_STAT, 16, 16⟩
/-- ENG_STEAL.COUNT, bits [31:0], EC. -/
def ENG_STEAL_COUNT : Fld := ⟨.ENG_STEAL, 0, 32⟩
/-- ENG_STOLEN.COUNT, bits [31:0], EC. -/
def ENG_STOLEN_COUNT : Fld := ⟨.ENG_STOLEN, 0, 32⟩
/-- XLT_CTL.EN, bits [0:0], RW. -/
def XLT_CTL_EN : Fld := ⟨.XLT_CTL, 0, 1⟩
/-- XLT_CTL.ADSET, bits [1:1], RW. -/
def XLT_CTL_ADSET : Fld := ⟨.XLT_CTL, 1, 1⟩
/-- XLT_ASIDLO.BASE, bits [31:12], RW. -/
def XLT_ASIDLO_BASE : Fld := ⟨.XLT_ASIDLO, 12, 20⟩
/-- XLT_ASIDHI.BASE, bits [19:0], RW. -/
def XLT_ASIDHI_BASE : Fld := ⟨.XLT_ASIDHI, 0, 20⟩
/-- XLT_TLIFE.TLIFE, bits [31:0], RW. -/
def XLT_TLIFE_TLIFE : Fld := ⟨.XLT_TLIFE, 0, 32⟩
/-- XLT_STAT.OCC, bits [16:0], RL. -/
def XLT_STAT_OCC : Fld := ⟨.XLT_STAT, 0, 17⟩
/-- XLT_STAT.WCOCC, bits [29:17], RL. -/
def XLT_STAT_WCOCC : Fld := ⟨.XLT_STAT, 17, 13⟩
/-- XLT_STAT.INVBUSY, bits [30:30], RL. -/
def XLT_STAT_INVBUSY : Fld := ⟨.XLT_STAT, 30, 1⟩
/-- XLT_FLT.WALKBUS, bits [0:0], LT. -/
def XLT_FLT_WALKBUS : Fld := ⟨.XLT_FLT, 0, 1⟩
/-- XLT_FLT.WALKTARGET, bits [1:1], LT. -/
def XLT_FLT_WALKTARGET : Fld := ⟨.XLT_FLT, 1, 1⟩
/-- XLT_FLT.CASFAIL, bits [2:2], LT. -/
def XLT_FLT_CASFAIL : Fld := ⟨.XLT_FLT, 2, 1⟩
/-- XLT_HIT.COUNT, bits [31:0], EC. -/
def XLT_HIT_COUNT : Fld := ⟨.XLT_HIT, 0, 32⟩
/-- XLT_MISS.COUNT, bits [31:0], EC. -/
def XLT_MISS_COUNT : Fld := ⟨.XLT_MISS, 0, 32⟩
/-- XLT_WALKRD.COUNT, bits [31:0], EC. -/
def XLT_WALKRD_COUNT : Fld := ⟨.XLT_WALKRD, 0, 32⟩
/-- XLT_ADCAS.COUNT, bits [31:0], EC. -/
def XLT_ADCAS_COUNT : Fld := ⟨.XLT_ADCAS, 0, 32⟩
/-- XLT_AGED.COUNT, bits [31:0], EC. -/
def XLT_AGED_COUNT : Fld := ⟨.XLT_AGED, 0, 32⟩
/-- XLT_FAULTS.COUNT, bits [31:0], EC. -/
def XLT_FAULTS_COUNT : Fld := ⟨.XLT_FAULTS, 0, 32⟩
/-- XLT_FLTLOG0.SEQ, bits [15:0], RO. -/
def XLT_FLTLOG0_SEQ : Fld := ⟨.XLT_FLTLOG0, 0, 16⟩
/-- XLT_FLTLOG0.KIND, bits [19:16], RO. -/
def XLT_FLTLOG0_KIND : Fld := ⟨.XLT_FLTLOG0, 16, 4⟩
/-- XLT_FLTLOG0.TARGET, bits [20:20], RO. -/
def XLT_FLTLOG0_TARGET : Fld := ⟨.XLT_FLTLOG0, 20, 1⟩
/-- XLT_FLTLOG0.WRITE, bits [21:21], RO. -/
def XLT_FLTLOG0_WRITE : Fld := ⟨.XLT_FLTLOG0, 21, 1⟩
/-- XLT_FLTLOG0.LEVEL, bits [24:22], RO. -/
def XLT_FLTLOG0_LEVEL : Fld := ⟨.XLT_FLTLOG0, 22, 3⟩
/-- XLT_FLTLOG0.FUNC, bits [30:25], RO. -/
def XLT_FLTLOG0_FUNC : Fld := ⟨.XLT_FLTLOG0, 25, 6⟩
/-- XLT_FLTLOG1.ASID, bits [15:0], RO. -/
def XLT_FLTLOG1_ASID : Fld := ⟨.XLT_FLTLOG1, 0, 16⟩
/-- XLT_FLTLOG2.VALO, bits [31:0], RO. -/
def XLT_FLTLOG2_VALO : Fld := ⟨.XLT_FLTLOG2, 0, 32⟩
/-- XLT_FLTLOG3.VAHI, bits [24:0], RO. -/
def XLT_FLTLOG3_VAHI : Fld := ⟨.XLT_FLTLOG3, 0, 25⟩
/-- XLT_EXCLBL.EN, bits [0:0], RW. -/
def XLT_EXCLBL_EN : Fld := ⟨.XLT_EXCLBL, 0, 1⟩
/-- XLT_EXCLBL.BASE, bits [31:12], RW. -/
def XLT_EXCLBL_BASE : Fld := ⟨.XLT_EXCLBL, 12, 20⟩
/-- XLT_EXCLBH.BASE, bits [19:0], RW. -/
def XLT_EXCLBH_BASE : Fld := ⟨.XLT_EXCLBH, 0, 20⟩
/-- XLT_EXCLLL.LIMIT, bits [31:12], RW. -/
def XLT_EXCLLL_LIMIT : Fld := ⟨.XLT_EXCLLL, 12, 20⟩
/-- XLT_EXCLLH.LIMIT, bits [19:0], RW. -/
def XLT_EXCLLH_LIMIT : Fld := ⟨.XLT_EXCLLH, 0, 20⟩
/-- GWN_BUDGET.BUDGET, bits [31:0], RW. -/
def GWN_BUDGET_BUDGET : Fld := ⟨.GWN_BUDGET, 0, 32⟩
/-- GWN_WCFG.EN, bits [0:0], RW. -/
def GWN_WCFG_EN : Fld := ⟨.GWN_WCFG, 0, 1⟩
/-- GWN_WCFG.GLOG2, bits [13:8], RW. -/
def GWN_WCFG_GLOG2 : Fld := ⟨.GWN_WCFG, 8, 6⟩
/-- GWN_WMAP.MBASE, bits [23:0], RW. -/
def GWN_WMAP_MBASE : Fld := ⟨.GWN_WMAP, 0, 24⟩
/-- GWN_FENCE.LOST, bits [15:0], EC. -/
def GWN_FENCE_LOST : Fld := ⟨.GWN_FENCE, 0, 16⟩
/-- GWN_FLT.UNMAPPED, bits [0:0], LT. -/
def GWN_FLT_UNMAPPED : Fld := ⟨.GWN_FLT, 0, 1⟩
/-- GWN_FLT.REFUSED, bits [1:1], LT. -/
def GWN_FLT_REFUSED : Fld := ⟨.GWN_FLT, 1, 1⟩
/-- GWN_FLT.UNREACH, bits [2:2], LT. -/
def GWN_FLT_UNREACH : Fld := ⟨.GWN_FLT, 2, 1⟩
/-- GWN_RDCNT.COUNT, bits [31:0], EC. -/
def GWN_RDCNT_COUNT : Fld := ⟨.GWN_RDCNT, 0, 32⟩
/-- GWN_WRCNT.COUNT, bits [31:0], EC. -/
def GWN_WRCNT_COUNT : Fld := ⟨.GWN_WRCNT, 0, 32⟩
/-- GWN_ERRCNT.POISONED, bits [15:0], EC. -/
def GWN_ERRCNT_POISONED : Fld := ⟨.GWN_ERRCNT, 0, 16⟩
/-- GWN_ERRCNT.WFAILED, bits [31:16], EC. -/
def GWN_ERRCNT_WFAILED : Fld := ⟨.GWN_ERRCNT, 16, 16⟩
/-- GWN_ERRLOG0.SEQ, bits [15:0], RO. -/
def GWN_ERRLOG0_SEQ : Fld := ⟨.GWN_ERRLOG0, 0, 16⟩
/-- GWN_ERRLOG0.KIND, bits [18:16], RO. -/
def GWN_ERRLOG0_KIND : Fld := ⟨.GWN_ERRLOG0, 16, 3⟩
/-- GWN_ERRLOG0.WRITE, bits [19:19], RO. -/
def GWN_ERRLOG0_WRITE : Fld := ⟨.GWN_ERRLOG0, 19, 1⟩
/-- GWN_ERRLOG0.WINDOW, bits [21:20], RO. -/
def GWN_ERRLOG0_WINDOW : Fld := ⟨.GWN_ERRLOG0, 20, 2⟩
/-- GWN_ERRLOG0.STATUS, bits [31:24], RO. -/
def GWN_ERRLOG0_STATUS : Fld := ⟨.GWN_ERRLOG0, 24, 8⟩
/-- GWN_ERRLOG1.OFFSETLO, bits [31:0], RO. -/
def GWN_ERRLOG1_OFFSETLO : Fld := ⟨.GWN_ERRLOG1, 0, 32⟩
/-- GWN_ERRLOG2.OFFSETHI, bits [15:0], RO. -/
def GWN_ERRLOG2_OFFSETHI : Fld := ⟨.GWN_ERRLOG2, 0, 16⟩
/-- NCC_CFG.EN, bits [0:0], RW. -/
def NCC_CFG_EN : Fld := ⟨.NCC_CFG, 0, 1⟩
/-- NCC_CFG.HOMEEN, bits [1:1], RW. -/
def NCC_CFG_HOMEEN : Fld := ⟨.NCC_CFG, 1, 1⟩
/-- NCC_CFG.RENEW, bits [2:2], RW. -/
def NCC_CFG_RENEW : Fld := ⟨.NCC_CFG, 2, 1⟩
/-- NCC_CFG.SIZE, bits [12:8], RW. -/
def NCC_CFG_SIZE : Fld := ⟨.NCC_CFG, 8, 5⟩
/-- NCC_LEASEDUR.DUR, bits [31:0], RW. -/
def NCC_LEASEDUR_DUR : Fld := ⟨.NCC_LEASEDUR, 0, 32⟩
/-- NCC_OVFDUR.DUR, bits [31:0], RW. -/
def NCC_OVFDUR_DUR : Fld := ⟨.NCC_OVFDUR, 0, 32⟩
/-- NCC_STAT.USABLE, bits [0:0], RL. -/
def NCC_STAT_USABLE : Fld := ⟨.NCC_STAT, 0, 1⟩
/-- NCC_STAT.GRANTING, bits [1:1], RL. -/
def NCC_STAT_GRANTING : Fld := ⟨.NCC_STAT, 1, 1⟩
/-- NCC_STAT.STARTWAIT, bits [2:2], RL. -/
def NCC_STAT_STARTWAIT : Fld := ⟨.NCC_STAT, 2, 1⟩
/-- NCC_LTOCC.OCC, bits [21:0], RL. -/
def NCC_LTOCC_OCC : Fld := ⟨.NCC_LTOCC, 0, 22⟩
/-- NCC_HIT.COUNT, bits [31:0], EC. -/
def NCC_HIT_COUNT : Fld := ⟨.NCC_HIT, 0, 32⟩
/-- NCC_MISS.COUNT, bits [31:0], EC. -/
def NCC_MISS_COUNT : Fld := ⟨.NCC_MISS, 0, 32⟩
/-- NCC_EXPMISS.COUNT, bits [31:0], EC. -/
def NCC_EXPMISS_COUNT : Fld := ⟨.NCC_EXPMISS, 0, 32⟩
/-- NCC_INVRX.COUNT, bits [31:0], EC. -/
def NCC_INVRX_COUNT : Fld := ⟨.NCC_INVRX, 0, 32⟩
/-- NCC_INVTX.COUNT, bits [31:0], EC. -/
def NCC_INVTX_COUNT : Fld := ⟨.NCC_INVTX, 0, 32⟩
/-- NCC_EXPWAIT.COUNT, bits [31:0], EC. -/
def NCC_EXPWAIT_COUNT : Fld := ⟨.NCC_EXPWAIT, 0, 32⟩
/-- NCC_NOLEASE.COUNT, bits [31:0], EC. -/
def NCC_NOLEASE_COUNT : Fld := ⟨.NCC_NOLEASE, 0, 32⟩
/-- NCC_FLT.TIMELOST, bits [0:0], LT. -/
def NCC_FLT_TIMELOST : Fld := ⟨.NCC_FLT, 0, 1⟩
/-- NCC_FLT.LTFULL, bits [1:1], LT. -/
def NCC_FLT_LTFULL : Fld := ⟨.NCC_FLT, 1, 1⟩
/-- COL_PROBEINT.INT, bits [31:0], RW. -/
def COL_PROBEINT_INT : Fld := ⟨.COL_PROBEINT, 0, 32⟩
/-- COL_CWIN.WIN, bits [16:0], RW. -/
def COL_CWIN_WIN : Fld := ⟨.COL_CWIN, 0, 17⟩
/-- COL_STAT.SET, bits [12:0], RL. -/
def COL_STAT_SET : Fld := ⟨.COL_STAT, 0, 13⟩
/-- COL_FLT.LOST, bits [0:0], LT. -/
def COL_FLT_LOST : Fld := ⟨.COL_FLT, 0, 1⟩
/-- COL_FLT.ROOTLOST, bits [1:1], LT. -/
def COL_FLT_ROOTLOST : Fld := ⟨.COL_FLT, 1, 1⟩
/-- COL_FLT.MISMATCH, bits [2:2], LT. -/
def COL_FLT_MISMATCH : Fld := ⟨.COL_FLT, 2, 1⟩
/-- COL_FLT.BATCHFULL, bits [3:3], LT. -/
def COL_FLT_BATCHFULL : Fld := ⟨.COL_FLT, 3, 1⟩
/-- COL_INSTDONE.COUNT, bits [31:0], EC. -/
def COL_INSTDONE_COUNT : Fld := ⟨.COL_INSTDONE, 0, 32⟩
/-- COL_LOSTCNT.COUNT, bits [31:0], EC. -/
def COL_LOSTCNT_COUNT : Fld := ⟨.COL_LOSTCNT, 0, 32⟩
/-- COL_CONSTIT.COUNT, bits [31:0], EC. -/
def COL_CONSTIT_COUNT : Fld := ⟨.COL_CONSTIT, 0, 32⟩
/-- COL_FWD.COUNT, bits [31:0], EC. -/
def COL_FWD_COUNT : Fld := ⟨.COL_FWD, 0, 32⟩
/-- COL_CTXSEL.CTX, bits [11:0], RW. -/
def COL_CTXSEL_CTX : Fld := ⟨.COL_CTXSEL, 0, 12⟩
/-- COL_CTX0.SEQ, bits [15:0], RO. -/
def COL_CTX0_SEQ : Fld := ⟨.COL_CTX0, 0, 16⟩
/-- COL_CTX0.STATE, bits [17:16], RO. -/
def COL_CTX0_STATE : Fld := ⟨.COL_CTX0, 16, 2⟩
/-- COL_CTX0.KIND, bits [20:18], RO. -/
def COL_CTX0_KIND : Fld := ⟨.COL_CTX0, 18, 3⟩
/-- COL_CTX0.PARENTLOST, bits [21:21], RO. -/
def COL_CTX0_PARENTLOST : Fld := ⟨.COL_CTX0, 21, 1⟩
/-- COL_CTX0.ROOT, bits [22:22], RO. -/
def COL_CTX0_ROOT : Fld := ⟨.COL_CTX0, 22, 1⟩
/-- COL_CTX0.CHILDREN, bits [29:23], RO. -/
def COL_CTX0_CHILDREN : Fld := ⟨.COL_CTX0, 23, 7⟩
/-- COL_CTX1.INST, bits [31:0], RO. -/
def COL_CTX1_INST : Fld := ⟨.COL_CTX1, 0, 32⟩
/-- COL_CTX2.PARENT, bits [19:0], RO. -/
def COL_CTX2_PARENT : Fld := ⟨.COL_CTX2, 0, 20⟩
/-- LCK_CTL.CELLABAND, bits [0:0], RW. -/
def LCK_CTL_CELLABAND : Fld := ⟨.LCK_CTL, 0, 1⟩
/-- LCK_DEADWIN.WIN, bits [31:0], RW. -/
def LCK_DEADWIN_WIN : Fld := ⟨.LCK_DEADWIN, 0, 32⟩
/-- LCK_PROBEINT.INT, bits [31:0], RW. -/
def LCK_PROBEINT_INT : Fld := ⟨.LCK_PROBEINT, 0, 32⟩
/-- LCK_LLOCC.OCC, bits [20:0], RL. -/
def LCK_LLOCC_OCC : Fld := ⟨.LCK_LLOCC, 0, 21⟩
/-- LCK_WROCC.OCC, bits [16:0], RL. -/
def LCK_WROCC_OCC : Fld := ⟨.LCK_WROCC, 0, 17⟩
/-- LCK_FLT.ABANDON, bits [0:0], LT. -/
def LCK_FLT_ABANDON : Fld := ⟨.LCK_FLT, 0, 1⟩
/-- LCK_FLT.GRANTUNK, bits [1:1], LT. -/
def LCK_FLT_GRANTUNK : Fld := ⟨.LCK_FLT, 1, 1⟩
/-- LCK_FLT.LLFULL, bits [2:2], LT. -/
def LCK_FLT_LLFULL : Fld := ⟨.LCK_FLT, 2, 1⟩
/-- LCK_FLT.WRFULL, bits [3:3], LT. -/
def LCK_FLT_WRFULL : Fld := ⟨.LCK_FLT, 3, 1⟩
/-- LCK_GRANT.COUNT, bits [31:0], EC. -/
def LCK_GRANT_COUNT : Fld := ⟨.LCK_GRANT, 0, 32⟩
/-- LCK_WAIT.COUNT, bits [31:0], EC. -/
def LCK_WAIT_COUNT : Fld := ⟨.LCK_WAIT, 0, 32⟩
/-- LCK_DECLINE.COUNT, bits [31:0], EC. -/
def LCK_DECLINE_COUNT : Fld := ⟨.LCK_DECLINE, 0, 32⟩
/-- LCK_ABANDON.COUNT, bits [31:0], EC. -/
def LCK_ABANDON_COUNT : Fld := ⟨.LCK_ABANDON, 0, 32⟩
/-- LCK_FORCE.COUNT, bits [31:0], EC. -/
def LCK_FORCE_COUNT : Fld := ⟨.LCK_FORCE, 0, 32⟩
/-- LCK_NOTOWNER.COUNT, bits [31:0], EC. -/
def LCK_NOTOWNER_COUNT : Fld := ⟨.LCK_NOTOWNER, 0, 32⟩
/-- LCK_LOCKSEL.INDEX, bits [23:0], RW. -/
def LCK_LOCKSEL_INDEX : Fld := ⟨.LCK_LOCKSEL, 0, 24⟩
/-- LCK_LOCK0.SEQ, bits [15:0], RO. -/
def LCK_LOCK0_SEQ : Fld := ⟨.LCK_LOCK0, 0, 16⟩
/-- LCK_LOCK0.STATE, bits [18:16], RO. -/
def LCK_LOCK0_STATE : Fld := ⟨.LCK_LOCK0, 16, 3⟩
/-- LCK_LOCK0.ABANDONED, bits [19:19], RO. -/
def LCK_LOCK0_ABANDONED : Fld := ⟨.LCK_LOCK0, 19, 1⟩
/-- LCK_LOCK0.FORCED, bits [20:20], RO. -/
def LCK_LOCK0_FORCED : Fld := ⟨.LCK_LOCK0, 20, 1⟩
/-- LCK_LOCK1.OWNER, bits [19:0], RO. -/
def LCK_LOCK1_OWNER : Fld := ⟨.LCK_LOCK1, 0, 20⟩
/-- LCK_LOCK1.FUNC, bits [25:20], RO. -/
def LCK_LOCK1_FUNC : Fld := ⟨.LCK_LOCK1, 20, 6⟩
/-- LCK_LOCK2.WQ, bits [17:0], RO. -/
def LCK_LOCK2_WQ : Fld := ⟨.LCK_LOCK2, 0, 18⟩
/-- LCK_LOCK2.WAITERS, bits [31:18], RO. -/
def LCK_LOCK2_WAITERS : Fld := ⟨.LCK_LOCK2, 18, 14⟩
/-- LCK_LOCK3.GRANTSEQ, bits [31:0], RO. -/
def LCK_LOCK3_GRANTSEQ : Fld := ⟨.LCK_LOCK3, 0, 32⟩
/-- RTE_CTL.SLALOM, bits [0:0], RW. -/
def RTE_CTL_SLALOM : Fld := ⟨.RTE_CTL, 0, 1⟩
/-- RTE_CTL.DETOUR, bits [1:1], RW. -/
def RTE_CTL_DETOUR : Fld := ⟨.RTE_CTL, 1, 1⟩
/-- RTE_CTL.ESCWAIT, bits [27:16], RW. -/
def RTE_CTL_ESCWAIT : Fld := ⟨.RTE_CTL, 16, 12⟩
/-- RTE_PCAP.CAP, bits [7:0], RW. -/
def RTE_PCAP_CAP : Fld := ⟨.RTE_PCAP, 0, 8⟩
/-- RTE_FLT.MAPERR, bits [0:0], LT. -/
def RTE_FLT_MAPERR : Fld := ⟨.RTE_FLT, 0, 1⟩
/-- RTE_FLT.UNROUTE, bits [1:1], LT. -/
def RTE_FLT_UNROUTE : Fld := ⟨.RTE_FLT, 1, 1⟩
/-- RTE_FLT.PISTEBRK, bits [2:2], LT. -/
def RTE_FLT_PISTEBRK : Fld := ⟨.RTE_FLT, 2, 1⟩
/-- RTE_FLT.FWDFULL, bits [3:3], LT. -/
def RTE_FLT_FWDFULL : Fld := ⟨.RTE_FLT, 3, 1⟩
/-- RTE_ESC.COUNT, bits [31:0], EC. -/
def RTE_ESC_COUNT : Fld := ⟨.RTE_ESC, 0, 32⟩
/-- RTE_DET.COUNT, bits [31:0], EC. -/
def RTE_DET_COUNT : Fld := ⟨.RTE_DET, 0, 32⟩
/-- RTE_UNROUTE.COUNT, bits [31:0], EC. -/
def RTE_UNROUTE_COUNT : Fld := ⟨.RTE_UNROUTE, 0, 32⟩
/-- RTE_HOPLIM.COUNT, bits [31:0], EC. -/
def RTE_HOPLIM_COUNT : Fld := ⟨.RTE_HOPLIM, 0, 32⟩
/-- RTE_REINJ.COUNT, bits [31:0], EC. -/
def RTE_REINJ_COUNT : Fld := ⟨.RTE_REINJ, 0, 32⟩
/-- RTE_FWDDROP.COUNT, bits [31:0], EC. -/
def RTE_FWDDROP_COUNT : Fld := ⟨.RTE_FWDDROP, 0, 32⟩
/-- RTE_PSTOFF.COUNT, bits [31:0], EC. -/
def RTE_PSTOFF_COUNT : Fld := ⟨.RTE_PSTOFF, 0, 32⟩
/-- RTE_CCTARGETQ.TARGETQ, bits [15:0], RW. -/
def RTE_CCTARGETQ_TARGETQ : Fld := ⟨.RTE_CCTARGETQ, 0, 16⟩
/-- RTE_CCAI.AI, bits [16:0], RW. -/
def RTE_CCAI_AI : Fld := ⟨.RTE_CCAI, 0, 17⟩
/-- RTE_CCBETA.BETA, bits [7:0], RW. -/
def RTE_CCBETA_BETA : Fld := ⟨.RTE_CCBETA, 0, 8⟩
/-- RTE_CCWMIN.CWNDMIN, bits [16:0], RW. -/
def RTE_CCWMIN_CWNDMIN : Fld := ⟨.RTE_CCWMIN, 0, 17⟩
/-- RTE_CCWMAX.CWNDMAX, bits [24:0], RW. -/
def RTE_CCWMAX_CWNDMAX : Fld := ⟨.RTE_CCWMAX, 0, 25⟩
/-- RTE_CCWINIT.CWNDINIT, bits [24:0], RW. -/
def RTE_CCWINIT_CWNDINIT : Fld := ⟨.RTE_CCWINIT, 0, 25⟩
/-- RTE_PISTESEL.PISTE, bits [7:0], RW. -/
def RTE_PISTESEL_PISTE : Fld := ⟨.RTE_PISTESEL, 0, 8⟩
/-- RTE_PISTE0.SEQ, bits [15:0], RO. -/
def RTE_PISTE0_SEQ : Fld := ⟨.RTE_PISTE0, 0, 16⟩
/-- RTE_PISTE0.STATE, bits [18:16], RO. -/
def RTE_PISTE0_STATE : Fld := ⟨.RTE_PISTE0, 16, 3⟩
/-- RTE_PISTE0.HOPS, bits [22:19], RO. -/
def RTE_PISTE0_HOPS : Fld := ⟨.RTE_PISTE0, 19, 4⟩
/-- RTE_PISTE1.DEST, bits [19:0], RO. -/
def RTE_PISTE1_DEST : Fld := ⟨.RTE_PISTE1, 0, 20⟩
/-- RTE_PISTE1.FUNC, bits [25:20], RO. -/
def RTE_PISTE1_FUNC : Fld := ⟨.RTE_PISTE1, 20, 6⟩
/-- RTE_PISTE2.SHARE, bits [7:0], RO. -/
def RTE_PISTE2_SHARE : Fld := ⟨.RTE_PISTE2, 0, 8⟩
/-- RTE_PISTE2.OUTPORT, bits [14:8], RO. -/
def RTE_PISTE2_OUTPORT : Fld := ⟨.RTE_PISTE2, 8, 7⟩
/-- RTE_PISTE2.OUTLABEL, bits [25:16], RO. -/
def RTE_PISTE2_OUTLABEL : Fld := ⟨.RTE_PISTE2, 16, 10⟩
/-- RTE_PISTE3.PKTS, bits [31:0], RO. -/
def RTE_PISTE3_PKTS : Fld := ⟨.RTE_PISTE3, 0, 32⟩
/-- RTE_ALIAS.DIGIT, bits [4:0], RO. -/
def RTE_ALIAS_DIGIT : Fld := ⟨.RTE_ALIAS, 0, 5⟩
/-- RTE_ALIAS.VALID, bits [5:5], RO. -/
def RTE_ALIAS_VALID : Fld := ⟨.RTE_ALIAS, 5, 1⟩
/-- RTE_PMAP.PORTA, bits [6:0], RW. -/
def RTE_PMAP_PORTA : Fld := ⟨.RTE_PMAP, 0, 7⟩
/-- RTE_PMAP.AVAL, bits [7:7], RW. -/
def RTE_PMAP_AVAL : Fld := ⟨.RTE_PMAP, 7, 1⟩
/-- RTE_PMAP.PORTB, bits [14:8], RW. -/
def RTE_PMAP_PORTB : Fld := ⟨.RTE_PMAP, 8, 7⟩
/-- RTE_PMAP.BVAL, bits [15:15], RW. -/
def RTE_PMAP_BVAL : Fld := ⟨.RTE_PMAP, 15, 1⟩
/-- RTE_PORT.EN, bits [0:0], RW. -/
def RTE_PORT_EN : Fld := ⟨.RTE_PORT, 0, 1⟩
/-- RTE_PORT.WIDTH, bits [2:1], RW. -/
def RTE_PORT_WIDTH : Fld := ⟨.RTE_PORT, 1, 2⟩
/-- RTE_PORT.DIM, bits [4:3], RW. -/
def RTE_PORT_DIM : Fld := ⟨.RTE_PORT, 3, 2⟩
/-- RTE_PORT.DIGIT, bits [9:5], RW. -/
def RTE_PORT_DIGIT : Fld := ⟨.RTE_PORT, 5, 5⟩
/-- RTE_PORT.UP, bits [16:16], RL. -/
def RTE_PORT_UP : Fld := ⟨.RTE_PORT, 16, 1⟩
/-- RTE_PORT.TPOCC, bits [27:17], RL. -/
def RTE_PORT_TPOCC : Fld := ⟨.RTE_PORT, 17, 11⟩
/-- RTE_LINE.UP, bits [17:0], RL. -/
def RTE_LINE_UP : Fld := ⟨.RTE_LINE, 0, 18⟩
/-- FLK_CTL.SPAREEN, bits [0:0], RW. -/
def FLK_CTL_SPAREEN : Fld := ⟨.FLK_CTL, 0, 1⟩
/-- FLK_CTL.DEGRADEEN, bits [1:1], RW. -/
def FLK_CTL_DEGRADEEN : Fld := ⟨.FLK_CTL, 1, 1⟩
/-- FLK_CTL.REPLAYMAX, bits [7:4], RW. -/
def FLK_CTL_REPLAYMAX : Fld := ⟨.FLK_CTL, 4, 4⟩
/-- FLK_REPLAYTO.TO, bits [15:0], RW. -/
def FLK_REPLAYTO_TO : Fld := ⟨.FLK_REPLAYTO, 0, 16⟩
/-- FLK_ERRWIN.WIN, bits [31:0], RW. -/
def FLK_ERRWIN_WIN : Fld := ⟨.FLK_ERRWIN, 0, 32⟩
/-- FLK_ERRTHR.BAD, bits [15:0], RW. -/
def FLK_ERRTHR_BAD : Fld := ⟨.FLK_ERRTHR, 0, 16⟩
/-- FLK_ERRTHR.MARG, bits [31:16], RW. -/
def FLK_ERRTHR_MARG : Fld := ⟨.FLK_ERRTHR, 16, 16⟩
/-- FLK_EQTO.TO, bits [31:0], RW. -/
def FLK_EQTO_TO : Fld := ⟨.FLK_EQTO, 0, 32⟩
/-- FLK_RTRTO.TO, bits [31:0], RW. -/
def FLK_RTRTO_TO : Fld := ⟨.FLK_RTRTO, 0, 32⟩
/-- FLK_HOLDOFF.HOLD, bits [31:0], RW. -/
def FLK_HOLDOFF_HOLD : Fld := ⟨.FLK_HOLDOFF, 0, 32⟩
/-- FLK_FLT.LANEBAD, bits [0:0], LT. -/
def FLK_FLT_LANEBAD : Fld := ⟨.FLK_FLT, 0, 1⟩
/-- FLK_FLT.LINKDN, bits [1:1], LT. -/
def FLK_FLT_LINKDN : Fld := ⟨.FLK_FLT, 1, 1⟩
/-- FLK_FLT.MARGINAL, bits [2:2], LT. -/
def FLK_FLT_MARGINAL : Fld := ⟨.FLK_FLT, 2, 1⟩
/-- FLK_FLT.TRAINFAIL, bits [3:3], LT. -/
def FLK_FLT_TRAINFAIL : Fld := ⟨.FLK_FLT, 3, 1⟩
/-- FLK_FLT.MISMATCH, bits [4:4], LT. -/
def FLK_FLT_MISMATCH : Fld := ⟨.FLK_FLT, 4, 1⟩
/-- FLK_CRALLOC.FLITS, bits [8:0], RW. -/
def FLK_CRALLOC_FLITS : Fld := ⟨.FLK_CRALLOC, 0, 9⟩
/-- FLK_LBSTAT.CAL, bits [0:0], RL. -/
def FLK_LBSTAT_CAL : Fld := ⟨.FLK_LBSTAT, 0, 1⟩
/-- FLK_LBSTAT.PLLLOCK, bits [1:1], RL. -/
def FLK_LBSTAT_PLLLOCK : Fld := ⟨.FLK_LBSTAT, 1, 1⟩
/-- FLK_LBSTAT.CALFLT, bits [2:2], LT. -/
def FLK_LBSTAT_CALFLT : Fld := ⟨.FLK_LBSTAT, 2, 1⟩
/-- FLK_LANECTL.TXINV, bits [0:0], RW. -/
def FLK_LANECTL_TXINV : Fld := ⟨.FLK_LANECTL, 0, 1⟩
/-- FLK_LANECTL.RXINV, bits [1:1], RW. -/
def FLK_LANECTL_RXINV : Fld := ⟨.FLK_LANECTL, 1, 1⟩
/-- FLK_LANECTL.SPARE, bits [2:2], RW. -/
def FLK_LANECTL_SPARE : Fld := ⟨.FLK_LANECTL, 2, 1⟩
/-- FLK_LANECTL.SPDIM, bits [4:3], RW. -/
def FLK_LANECTL_SPDIM : Fld := ⟨.FLK_LANECTL, 3, 2⟩
/-- FLK_LANECTL.SPDIGIT, bits [9:5], RW. -/
def FLK_LANECTL_SPDIGIT : Fld := ⟨.FLK_LANECTL, 5, 5⟩
/-- FLK_LANECTL.PRESET, bits [12:10], RW. -/
def FLK_LANECTL_PRESET : Fld := ⟨.FLK_LANECTL, 10, 3⟩
/-- FLK_LANESTAT.SIGDET, bits [0:0], RL. -/
def FLK_LANESTAT_SIGDET : Fld := ⟨.FLK_LANESTAT, 0, 1⟩
/-- FLK_LANESTAT.CWLOCK, bits [1:1], RL. -/
def FLK_LANESTAT_CWLOCK : Fld := ⟨.FLK_LANESTAT, 1, 1⟩
/-- FLK_LANESTAT.BAD, bits [2:2], RL. -/
def FLK_LANESTAT_BAD : Fld := ⟨.FLK_LANESTAT, 2, 1⟩
/-- FLK_LANESTAT.INUSE, bits [3:3], RL. -/
def FLK_LANESTAT_INUSE : Fld := ⟨.FLK_LANESTAT, 3, 1⟩
/-- FLK_LANESTAT.PORT, bits [10:4], RL. -/
def FLK_LANESTAT_PORT : Fld := ⟨.FLK_LANESTAT, 4, 7⟩
/-- FLK_LANESTAT.LIDX, bits [12:11], RL. -/
def FLK_LANESTAT_LIDX : Fld := ⟨.FLK_LANESTAT, 11, 2⟩
/-- FLK_LANESTAT.MARGFLT, bits [13:13], LT. -/
def FLK_LANESTAT_MARGFLT : Fld := ⟨.FLK_LANESTAT, 13, 1⟩
/-- FLK_LANEERR.WINCNT, bits [15:0], RL. -/
def FLK_LANEERR_WINCNT : Fld := ⟨.FLK_LANEERR, 0, 16⟩
/-- FLK_LANEERR.TOTAL, bits [31:16], EC. -/
def FLK_LANEERR_TOTAL : Fld := ⟨.FLK_LANEERR, 16, 16⟩
/-- FLK_LANEFEC.CORR, bits [31:0], EC. -/
def FLK_LANEFEC_CORR : Fld := ⟨.FLK_LANEFEC, 0, 32⟩
/-- FLK_TAPS.TAPS, bits [29:0], RO. -/
def FLK_TAPS_TAPS : Fld := ⟨.FLK_TAPS, 0, 30⟩
/-- FLK_PSTAT.STATE, bits [3:0], RL. -/
def FLK_PSTAT_STATE : Fld := ⟨.FLK_PSTAT, 0, 4⟩
/-- FLK_PSTAT.AWIDTH, bits [5:4], RL. -/
def FLK_PSTAT_AWIDTH : Fld := ⟨.FLK_PSTAT, 4, 2⟩
/-- FLK_PSTAT.REPLAYING, bits [6:6], RL. -/
def FLK_PSTAT_REPLAYING : Fld := ⟨.FLK_PSTAT, 6, 1⟩
/-- FLK_PSTAT.PEER, bits [27:8], RL. -/
def FLK_PSTAT_PEER : Fld := ⟨.FLK_PSTAT, 8, 20⟩
/-- FLK_PREPLAY.NAKRPL, bits [15:0], EC. -/
def FLK_PREPLAY_NAKRPL : Fld := ⟨.FLK_PREPLAY, 0, 16⟩
/-- FLK_PREPLAY.TORPL, bits [31:16], EC. -/
def FLK_PREPLAY_TORPL : Fld := ⟨.FLK_PREPLAY, 16, 16⟩
/-- FLK_PERR.CRCERR, bits [15:0], EC. -/
def FLK_PERR_CRCERR : Fld := ⟨.FLK_PERR, 0, 16⟩
/-- FLK_PERR.DUP, bits [31:16], EC. -/
def FLK_PERR_DUP : Fld := ⟨.FLK_PERR, 16, 16⟩
/-- FLK_PLINK.DOWNS, bits [7:0], EC. -/
def FLK_PLINK_DOWNS : Fld := ⟨.FLK_PLINK, 0, 8⟩
/-- FLK_PLINK.RETRAINS, bits [15:8], EC. -/
def FLK_PLINK_RETRAINS : Fld := ⟨.FLK_PLINK, 8, 8⟩
/-- FLK_PLINK.BADPKT, bits [31:16], EC. -/
def FLK_PLINK_BADPKT : Fld := ⟨.FLK_PLINK, 16, 16⟩
/-- FLK_PDELAY.DELAY, bits [15:0], RL. -/
def FLK_PDELAY_DELAY : Fld := ⟨.FLK_PDELAY, 0, 16⟩
/-- MIR_CTL.LINKEN, bits [0:0], RW. -/
def MIR_CTL_LINKEN : Fld := ⟨.MIR_CTL, 0, 1⟩
/-- MIR_CTL.ASEL, bits [1:1], RW. -/
def MIR_CTL_ASEL : Fld := ⟨.MIR_CTL, 1, 1⟩
/-- MIR_CTL.UNPAIR, bits [2:2], WO. -/
def MIR_CTL_UNPAIR : Fld := ⟨.MIR_CTL, 2, 1⟩
/-- MIR_CTL.RELEASE, bits [3:3], WO. -/
def MIR_CTL_RELEASE : Fld := ⟨.MIR_CTL, 3, 1⟩
/-- MIR_CTL.HANDOVER, bits [4:4], WO. -/
def MIR_CTL_HANDOVER : Fld := ⟨.MIR_CTL, 4, 1⟩
/-- MIR_STAT.STATE, bits [2:0], RL. -/
def MIR_STAT_STATE : Fld := ⟨.MIR_STAT, 0, 3⟩
/-- MIR_STAT.LINK, bits [5:3], RL. -/
def MIR_STAT_LINK : Fld := ⟨.MIR_STAT, 3, 3⟩
/-- MIR_STAT.ALIASED, bits [6:6], RL. -/
def MIR_STAT_ALIASED : Fld := ⟨.MIR_STAT, 6, 1⟩
/-- MIR_STAT.HOSTMODE, bits [7:7], RL. -/
def MIR_STAT_HOSTMODE : Fld := ⟨.MIR_STAT, 7, 1⟩
/-- MIR_STAT.TWIN, bits [12:8], RL. -/
def MIR_STAT_TWIN : Fld := ⟨.MIR_STAT, 8, 5⟩
/-- MIR_HB.MISS, bits [3:0], RW. -/
def MIR_HB_MISS : Fld := ⟨.MIR_HB, 0, 4⟩
/-- MIR_GUARD.GUARD, bits [31:0], RW. -/
def MIR_GUARD_GUARD : Fld := ⟨.MIR_GUARD, 0, 32⟩
/-- MIR_FENCEWIN.WIN, bits [31:0], RW. -/
def MIR_FENCEWIN_WIN : Fld := ⟨.MIR_FENCEWIN, 0, 32⟩
/-- MIR_FLT.LINKDN, bits [0:0], LT. -/
def MIR_FLT_LINKDN : Fld := ⟨.MIR_FLT, 0, 1⟩
/-- MIR_FLT.LINKLOST, bits [1:1], LT. -/
def MIR_FLT_LINKLOST : Fld := ⟨.MIR_FLT, 1, 1⟩
/-- MIR_FLT.TAKEOVER, bits [2:2], LT. -/
def MIR_FLT_TAKEOVER : Fld := ⟨.MIR_FLT, 2, 1⟩
/-- MIR_FLT.FENCED, bits [3:3], LT. -/
def MIR_FLT_FENCED : Fld := ⟨.MIR_FLT, 3, 1⟩
/-- MIR_TXREC.COUNT, bits [31:0], EC. -/
def MIR_TXREC_COUNT : Fld := ⟨.MIR_TXREC, 0, 32⟩
/-- MIR_RXREC.COUNT, bits [31:0], EC. -/
def MIR_RXREC_COUNT : Fld := ⟨.MIR_RXREC, 0, 32⟩
/-- MIR_REPLAY.NAKRPL, bits [15:0], EC. -/
def MIR_REPLAY_NAKRPL : Fld := ⟨.MIR_REPLAY, 0, 16⟩
/-- MIR_REPLAY.TORPL, bits [31:16], EC. -/
def MIR_REPLAY_TORPL : Fld := ⟨.MIR_REPLAY, 16, 16⟩
/-- MIR_HBLATE.COUNT, bits [31:0], EC. -/
def MIR_HBLATE_COUNT : Fld := ⟨.MIR_HBLATE, 0, 32⟩
/-- MIR_LAG.FRAMES, bits [10:0], RL. -/
def MIR_LAG_FRAMES : Fld := ⟨.MIR_LAG, 0, 11⟩
/-- MIR_WQBASE.BASE, bits [17:0], RO. -/
def MIR_WQBASE_BASE : Fld := ⟨.MIR_WQBASE, 0, 18⟩
/-- MIR_WQCOUNT.COUNT, bits [17:0], RO. -/
def MIR_WQCOUNT_COUNT : Fld := ⟨.MIR_WQCOUNT, 0, 18⟩
/-- MIR_CQR.BASE, bits [15:0], RO. -/
def MIR_CQR_BASE : Fld := ⟨.MIR_CQR, 0, 16⟩
/-- MIR_CQR.COUNT, bits [31:16], RO. -/
def MIR_CQR_COUNT : Fld := ⟨.MIR_CQR, 16, 16⟩
/-- MIR_EQR.BASE, bits [10:0], RO. -/
def MIR_EQR_BASE : Fld := ⟨.MIR_EQR, 0, 11⟩
/-- MIR_EQR.COUNT, bits [21:11], RO. -/
def MIR_EQR_COUNT : Fld := ⟨.MIR_EQR, 11, 11⟩
/-- MIR_MAPBASE.BASE, bits [23:0], RO. -/
def MIR_MAPBASE_BASE : Fld := ⟨.MIR_MAPBASE, 0, 24⟩
/-- MIR_MAPCOUNT.COUNT, bits [24:0], RO. -/
def MIR_MAPCOUNT_COUNT : Fld := ⟨.MIR_MAPCOUNT, 0, 25⟩
/-- MIR_LANE.LOCKED, bits [0:0], RL. -/
def MIR_LANE_LOCKED : Fld := ⟨.MIR_LANE, 0, 1⟩
/-- MIR_LANE.ALIGNED, bits [1:1], RL. -/
def MIR_LANE_ALIGNED : Fld := ⟨.MIR_LANE, 1, 1⟩
/-- MIR_LANE.BAD, bits [2:2], RL. -/
def MIR_LANE_BAD : Fld := ⟨.MIR_LANE, 2, 1⟩
/-- MIR_LANE.INUSE, bits [3:3], RL. -/
def MIR_LANE_INUSE : Fld := ⟨.MIR_LANE, 3, 1⟩
/-- MIR_LANE.TAPS, bits [25:8], RO. -/
def MIR_LANE_TAPS : Fld := ⟨.MIR_LANE, 8, 18⟩
/-- TIM_CTL.EN, bits [0:0], RW. -/
def TIM_CTL_EN : Fld := ⟨.TIM_CTL, 0, 1⟩
/-- TIM_CTL.PPSINEN, bits [1:1], RW. -/
def TIM_CTL_PPSINEN : Fld := ⟨.TIM_CTL, 1, 1⟩
/-- TIM_CTL.PPSOUT, bits [2:2], RW. -/
def TIM_CTL_PPSOUT : Fld := ⟨.TIM_CTL, 2, 1⟩
/-- TIM_CTL.STEP, bits [3:3], WO. -/
def TIM_CTL_STEP : Fld := ⟨.TIM_CTL, 3, 1⟩
/-- TIM_CTL.PRIO, bits [15:8], RW. -/
def TIM_CTL_PRIO : Fld := ⟨.TIM_CTL, 8, 8⟩
/-- TIM_CFG.LOCKTHR, bits [15:0], RW. -/
def TIM_CFG_LOCKTHR : Fld := ⟨.TIM_CFG, 0, 16⟩
/-- TIM_CFG.ASYM, bits [31:16], RW. -/
def TIM_CFG_ASYM : Fld := ⟨.TIM_CFG, 16, 16⟩
/-- TIM_STAT.LOCKED, bits [0:0], RL. -/
def TIM_STAT_LOCKED : Fld := ⟨.TIM_STAT, 0, 1⟩
/-- TIM_STAT.GM, bits [1:1], RL. -/
def TIM_STAT_GM : Fld := ⟨.TIM_STAT, 1, 1⟩
/-- TIM_STAT.PPSVALID, bits [2:2], RL. -/
def TIM_STAT_PPSVALID : Fld := ⟨.TIM_STAT, 2, 1⟩
/-- TIM_STAT.REFOK, bits [3:3], RL. -/
def TIM_STAT_REFOK : Fld := ⟨.TIM_STAT, 3, 1⟩
/-- TIM_STAT.STEPS, bits [7:4], RL. -/
def TIM_STAT_STEPS : Fld := ⟨.TIM_STAT, 4, 4⟩
/-- TIM_STAT.PARENT, bits [14:8], RL. -/
def TIM_STAT_PARENT : Fld := ⟨.TIM_STAT, 8, 7⟩
/-- TIM_STAT.EPSEST, bits [31:16], RL. -/
def TIM_STAT_EPSEST : Fld := ⟨.TIM_STAT, 16, 16⟩
/-- TIM_GM.COORD, bits [19:0], RL. -/
def TIM_GM_COORD : Fld := ⟨.TIM_GM, 0, 20⟩
/-- TIM_GM.GMPPS, bits [20:20], RL. -/
def TIM_GM_GMPPS : Fld := ⟨.TIM_GM, 20, 1⟩
/-- TIM_GM.ERA, bits [31:24], RL. -/
def TIM_GM_ERA : Fld := ⟨.TIM_GM, 24, 8⟩
/-- TIM_OFFSET.OFFSET, bits [31:0], RL. -/
def TIM_OFFSET_OFFSET : Fld := ⟨.TIM_OFFSET, 0, 32⟩
/-- TIM_NOWLO.TICKS, bits [31:0], RL. -/
def TIM_NOWLO_TICKS : Fld := ⟨.TIM_NOWLO, 0, 32⟩
/-- TIM_NOWHI.TICKS, bits [31:0], RL. -/
def TIM_NOWHI_TICKS : Fld := ⟨.TIM_NOWHI, 0, 32⟩
/-- TIM_SETLO.TICKS, bits [31:0], RW. -/
def TIM_SETLO_TICKS : Fld := ⟨.TIM_SETLO, 0, 32⟩
/-- TIM_SETHI.TICKS, bits [31:0], RW. -/
def TIM_SETHI_TICKS : Fld := ⟨.TIM_SETHI, 0, 32⟩
/-- TIM_ALARM.AT, bits [31:0], RW. -/
def TIM_ALARM_AT : Fld := ⟨.TIM_ALARM, 0, 32⟩
/-- TIM_ALMCTL.EN, bits [3:0], RW. -/
def TIM_ALMCTL_EN : Fld := ⟨.TIM_ALMCTL, 0, 4⟩
/-- TIM_ALMCTL.WAKE, bits [7:4], RW. -/
def TIM_ALMCTL_WAKE : Fld := ⟨.TIM_ALMCTL, 4, 4⟩
/-- TIM_ALMCTL.FIRED, bits [11:8], LT. -/
def TIM_ALMCTL_FIRED : Fld := ⟨.TIM_ALMCTL, 8, 4⟩
/-- TIM_FLT.LOCKLOST, bits [0:0], LT. -/
def TIM_FLT_LOCKLOST : Fld := ⟨.TIM_FLT, 0, 1⟩
/-- TIM_FLT.REFLOST, bits [1:1], LT. -/
def TIM_FLT_REFLOST : Fld := ⟨.TIM_FLT, 1, 1⟩
/-- TIM_FLT.PPSLOST, bits [2:2], LT. -/
def TIM_FLT_PPSLOST : Fld := ⟨.TIM_FLT, 2, 1⟩
/-- TIM_PPSERR.ERR, bits [31:0], RL. -/
def TIM_PPSERR_ERR : Fld := ⟨.TIM_PPSERR, 0, 32⟩
/-- TIM_CNT.UNLOCKS, bits [15:0], EC. -/
def TIM_CNT_UNLOCKS : Fld := ⟨.TIM_CNT, 0, 16⟩
/-- TIM_CNT.GMCHG, bits [31:16], EC. -/
def TIM_CNT_GMCHG : Fld := ⟨.TIM_CNT, 16, 16⟩
/-- PWR_CTL.AVSEN, bits [0:0], RW. -/
def PWR_CTL_AVSEN : Fld := ⟨.PWR_CTL, 0, 1⟩
/-- PWR_CTL.STANDBY, bits [1:1], WO. -/
def PWR_CTL_STANDBY : Fld := ⟨.PWR_CTL, 1, 1⟩
/-- PWR_PACESET.SET, bits [15:0], RW. -/
def PWR_PACESET_SET : Fld := ⟨.PWR_PACESET, 0, 16⟩
/-- PWR_PACESET.HYS, bits [23:16], RW. -/
def PWR_PACESET_HYS : Fld := ⟨.PWR_PACESET, 16, 8⟩
/-- PWR_PACE.PACE, bits [15:0], RL. -/
def PWR_PACE_PACE : Fld := ⟨.PWR_PACE, 0, 16⟩
/-- PWR_PACE.REGION, bits [19:16], RL. -/
def PWR_PACE_REGION : Fld := ⟨.PWR_PACE, 16, 4⟩
/-- PWR_SAMP.MIN, bits [15:0], RL. -/
def PWR_SAMP_MIN : Fld := ⟨.PWR_SAMP, 0, 16⟩
/-- PWR_SAMP.MAX, bits [31:16], RL. -/
def PWR_SAMP_MAX : Fld := ⟨.PWR_SAMP, 16, 16⟩
/-- PWR_VCORE.REQ, bits [9:0], RL. -/
def PWR_VCORE_REQ : Fld := ⟨.PWR_VCORE, 0, 10⟩
/-- PWR_VCORE.READ, bits [25:16], RL. -/
def PWR_VCORE_READ : Fld := ⟨.PWR_VCORE, 16, 10⟩
/-- PWR_VLIM.MIN, bits [15:0], RW. -/
def PWR_VLIM_MIN : Fld := ⟨.PWR_VLIM, 0, 16⟩
/-- PWR_VLIM.MAX, bits [31:16], RW. -/
def PWR_VLIM_MAX : Fld := ⟨.PWR_VLIM, 16, 16⟩
/-- PWR_FLT.PACE, bits [0:0], LT. -/
def PWR_FLT_PACE : Fld := ⟨.PWR_FLT, 0, 1⟩
/-- PWR_FLT.AVSERR, bits [1:1], LT. -/
def PWR_FLT_AVSERR : Fld := ⟨.PWR_FLT, 1, 1⟩
/-- PWR_FLT.HOT, bits [2:2], LT. -/
def PWR_FLT_HOT : Fld := ⟨.PWR_FLT, 2, 1⟩
/-- PWR_TEMP.TJ, bits [11:0], RL. -/
def PWR_TEMP_TJ : Fld := ⟨.PWR_TEMP, 0, 12⟩
/-- PWR_WAKECFG.SDEN, bits [0:0], RW. -/
def PWR_WAKECFG_SDEN : Fld := ⟨.PWR_WAKECFG, 0, 1⟩
/-- PWR_WAKECFG.PERSTEN, bits [1:1], RW. -/
def PWR_WAKECFG_PERSTEN : Fld := ⟨.PWR_WAKECFG, 1, 1⟩
/-- PWR_SDMASK.LANES, bits [31:0], RW. -/
def PWR_SDMASK_LANES : Fld := ⟨.PWR_SDMASK, 0, 32⟩
/-- PWR_WAKE.ALARM, bits [3:0], RO. -/
def PWR_WAKE_ALARM : Fld := ⟨.PWR_WAKE, 0, 4⟩
/-- PWR_WAKE.SIGDET, bits [4:4], RO. -/
def PWR_WAKE_SIGDET : Fld := ⟨.PWR_WAKE, 4, 1⟩
/-- PWR_WAKE.PERST, bits [5:5], RO. -/
def PWR_WAKE_PERST : Fld := ⟨.PWR_WAKE, 5, 1⟩
/-- PWR_WAKE.LANE, bits [12:6], RO. -/
def PWR_WAKE_LANE : Fld := ⟨.PWR_WAKE, 6, 7⟩
/-- RST_CAUSE.POR, bits [0:0], RO. -/
def RST_CAUSE_POR : Fld := ⟨.RST_CAUSE, 0, 1⟩
/-- RST_CAUSE.WAKE, bits [1:1], RO. -/
def RST_CAUSE_WAKE : Fld := ⟨.RST_CAUSE, 1, 1⟩
/-- RST_CAUSE.PERST, bits [2:2], RO. -/
def RST_CAUSE_PERST : Fld := ⟨.RST_CAUSE, 2, 1⟩
/-- RST_CAUSE.HOTRST, bits [3:3], RO. -/
def RST_CAUSE_HOTRST : Fld := ⟨.RST_CAUSE, 3, 1⟩
/-- RST_CAUSE.FLRPF, bits [4:4], RO. -/
def RST_CAUSE_FLRPF : Fld := ⟨.RST_CAUSE, 4, 1⟩
/-- RST_CAUSE.WDOG, bits [5:5], RO. -/
def RST_CAUSE_WDOG : Fld := ⟨.RST_CAUSE, 5, 1⟩
/-- RST_BLKCMD.BLOCK, bits [7:0], WO. -/
def RST_BLKCMD_BLOCK : Fld := ⟨.RST_BLKCMD, 0, 8⟩
/-- RST_BLKCMD.FORCE, bits [8:8], WO. -/
def RST_BLKCMD_FORCE : Fld := ⟨.RST_BLKCMD, 8, 1⟩
/-- RST_BLKSTAT.BUSY, bits [0:0], RL. -/
def RST_BLKSTAT_BUSY : Fld := ⟨.RST_BLKSTAT, 0, 1⟩
/-- RST_BLKSTAT.IDLEWAIT, bits [1:1], RL. -/
def RST_BLKSTAT_IDLEWAIT : Fld := ⟨.RST_BLKSTAT, 1, 1⟩
/-- RST_BLKSTAT.BLOCK, bits [15:8], RL. -/
def RST_BLKSTAT_BLOCK : Fld := ⟨.RST_BLKSTAT, 8, 8⟩
/-- RST_IDLETO.TO, bits [31:0], RW. -/
def RST_IDLETO_TO : Fld := ⟨.RST_IDLETO, 0, 32⟩
/-- RST_WDCTL.EN, bits [0:0], RW. -/
def RST_WDCTL_EN : Fld := ⟨.RST_WDCTL, 0, 1⟩
/-- RST_WDCTL.PERIOD, bits [31:8], RW. -/
def RST_WDCTL_PERIOD : Fld := ⟨.RST_WDCTL, 8, 24⟩
/-- RST_WDKICK.KICK, bits [31:0], WO. -/
def RST_WDKICK_KICK : Fld := ⟨.RST_WDKICK, 0, 32⟩
/-- RST_FLT.IDLETO, bits [0:0], LT. -/
def RST_FLT_IDLETO : Fld := ⟨.RST_FLT, 0, 1⟩
/-- RST_FLT.CRIT, bits [1:1], LT. -/
def RST_FLT_CRIT : Fld := ⟨.RST_FLT, 1, 1⟩
/-- RST_CRITCNT.COUNT, bits [31:0], EC. -/
def RST_CRITCNT_COUNT : Fld := ⟨.RST_CRITCNT, 0, 32⟩
/-- RST_NVSTAT.BUSY, bits [0:0], RL. -/
def RST_NVSTAT_BUSY : Fld := ⟨.RST_NVSTAT, 0, 1⟩
/-- RST_NVSTAT.EPOCHROW, bits [11:8], RL. -/
def RST_NVSTAT_EPOCHROW : Fld := ⟨.RST_NVSTAT, 8, 4⟩
/-- RST_BOOT.STAGE, bits [3:0], RL. -/
def RST_BOOT_STAGE : Fld := ⟨.RST_BOOT, 0, 4⟩
/-- RST_BOOT.SLOT, bits [4:4], RL. -/
def RST_BOOT_SLOT : Fld := ⟨.RST_BOOT, 4, 1⟩
/-- RST_BOOT.SETSRC, bits [5:5], RL. -/
def RST_BOOT_SETSRC : Fld := ⟨.RST_BOOT, 5, 1⟩
/-- RST_BOOT.FALLBACK, bits [6:6], RL. -/
def RST_BOOT_FALLBACK : Fld := ⟨.RST_BOOT, 6, 1⟩
/-- RST_BKP.DATA, bits [31:0], RW. -/
def RST_BKP_DATA : Fld := ⟨.RST_BKP, 0, 32⟩
/-- FLT_CTL.NOTIFYEN, bits [0:0], RW. -/
def FLT_CTL_NOTIFYEN : Fld := ⟨.FLT_CTL, 0, 1⟩
/-- FLT_CTL.DEVTHR, bits [15:8], RW. -/
def FLT_CTL_DEVTHR : Fld := ⟨.FLT_CTL, 8, 8⟩
/-- FLT_STAT.NEW, bits [0:0], LT. -/
def FLT_STAT_NEW : Fld := ⟨.FLT_STAT, 0, 1⟩
/-- FLT_STAT.SAFE, bits [1:1], RL. -/
def FLT_STAT_SAFE : Fld := ⟨.FLT_STAT, 1, 1⟩
/-- FLT_STAT.ACTING, bits [2:2], RL. -/
def FLT_STAT_ACTING : Fld := ⟨.FLT_STAT, 2, 1⟩
/-- FLT_STAT.SEVCNT, bits [17:8], RL. -/
def FLT_STAT_SEVCNT : Fld := ⟨.FLT_STAT, 8, 10⟩
/-- FLT_SAFE.LATCH, bits [0:0], LT. -/
def FLT_SAFE_LATCH : Fld := ⟨.FLT_SAFE, 0, 1⟩
/-- FLT_SAFE.CAUSE, bits [2:1], RO. -/
def FLT_SAFE_CAUSE : Fld := ⟨.FLT_SAFE, 1, 2⟩
/-- FLT_SAFE.SRC, bits [15:4], RO. -/
def FLT_SAFE_SRC : Fld := ⟨.FLT_SAFE, 4, 12⟩
/-- FLT_LAST0.SEQ, bits [15:0], RO. -/
def FLT_LAST0_SEQ : Fld := ⟨.FLT_LAST0, 0, 16⟩
/-- FLT_LAST0.LEVEL, bits [17:16], RO. -/
def FLT_LAST0_LEVEL : Fld := ⟨.FLT_LAST0, 16, 2⟩
/-- FLT_LAST0.SEVERE, bits [18:18], RO. -/
def FLT_LAST0_SEVERE : Fld := ⟨.FLT_LAST0, 18, 1⟩
/-- FLT_LAST0.ESCALATED, bits [19:19], RO. -/
def FLT_LAST0_ESCALATED : Fld := ⟨.FLT_LAST0, 19, 1⟩
/-- FLT_LAST1.HEAD, bits [31:0], RO. -/
def FLT_LAST1_HEAD : Fld := ⟨.FLT_LAST1, 0, 32⟩
/-- FLT_LAST2.TIME, bits [31:0], RO. -/
def FLT_LAST2_TIME : Fld := ⟨.FLT_LAST2, 0, 32⟩
/-- FLT_LAST3.ADDRLO, bits [31:0], RO. -/
def FLT_LAST3_ADDRLO : Fld := ⟨.FLT_LAST3, 0, 32⟩
/-- FLT_LAST4.ADDRHI, bits [31:0], RO. -/
def FLT_LAST4_ADDRHI : Fld := ⟨.FLT_LAST4, 0, 32⟩
/-- FLT_MSGCNT.MSGS, bits [15:0], EC. -/
def FLT_MSGCNT_MSGS : Fld := ⟨.FLT_MSGCNT, 0, 16⟩
/-- FLT_MSGCNT.MERGED, bits [31:16], EC. -/
def FLT_MSGCNT_MERGED : Fld := ⟨.FLT_MSGCNT, 16, 16⟩
/-- FLT_INJ.SRC, bits [11:0], WO. -/
def FLT_INJ_SRC : Fld := ⟨.FLT_INJ, 0, 12⟩
/-- FLT_INJ.KIND, bits [27:16], WO. -/
def FLT_INJ_KIND : Fld := ⟨.FLT_INJ, 16, 12⟩
/-- FLT_INJ.CLASS, bits [31:28], WO. -/
def FLT_INJ_CLASS : Fld := ⟨.FLT_INJ, 28, 4⟩
/-- FLT_ESCCNT.ESCALATED, bits [15:0], EC. -/
def FLT_ESCCNT_ESCALATED : Fld := ⟨.FLT_ESCCNT, 0, 16⟩
/-- FLT_ESCCNT.SAFES, bits [31:16], EC. -/
def FLT_ESCCNT_SAFES : Fld := ⟨.FLT_ESCCNT, 16, 16⟩
/-- FLT_SRCCFG.N, bits [7:0], RW. -/
def FLT_SRCCFG_N : Fld := ⟨.FLT_SRCCFG, 0, 8⟩
/-- FLT_SRCCFG.WLOG2, bits [13:8], RW. -/
def FLT_SRCCFG_WLOG2 : Fld := ⟨.FLT_SRCCFG, 8, 6⟩
/-- FLT_SRCCFG.REACT, bits [15:14], RW. -/
def FLT_SRCCFG_REACT : Fld := ⟨.FLT_SRCCFG, 14, 2⟩
/-- FLT_SRCCFG.SEVREACT, bits [17:16], RW. -/
def FLT_SRCCFG_SEVREACT : Fld := ⟨.FLT_SRCCFG, 16, 2⟩
/-- FLT_SRCSTAT.LATCH, bits [0:0], LT. -/
def FLT_SRCSTAT_LATCH : Fld := ⟨.FLT_SRCSTAT, 0, 1⟩
/-- FLT_SRCSTAT.SEVERE, bits [1:1], RL. -/
def FLT_SRCSTAT_SEVERE : Fld := ⟨.FLT_SRCSTAT, 1, 1⟩
/-- FLT_SRCSTAT.LEVEL, bits [3:2], RL. -/
def FLT_SRCSTAT_LEVEL : Fld := ⟨.FLT_SRCSTAT, 2, 2⟩
/-- FLT_SRCSTAT.ACTING, bits [4:4], RL. -/
def FLT_SRCSTAT_ACTING : Fld := ⟨.FLT_SRCSTAT, 4, 1⟩
/-- FLT_SRCSTAT.WINCNT, bits [15:8], RL. -/
def FLT_SRCSTAT_WINCNT : Fld := ⟨.FLT_SRCSTAT, 8, 8⟩
/-- FLT_SRCCNT.COUNT, bits [31:0], EC. -/
def FLT_SRCCNT_COUNT : Fld := ⟨.FLT_SRCCNT, 0, 32⟩
/-- FLT_SRCLAST.CODE, bits [15:0], RO. -/
def FLT_SRCLAST_CODE : Fld := ⟨.FLT_SRCLAST, 0, 16⟩
/-- FLT_SRCLAST.TIME, bits [31:16], RO. -/
def FLT_SRCLAST_TIME : Fld := ⟨.FLT_SRCLAST, 16, 16⟩
/-- PMU_CTL.START, bits [0:0], WO. -/
def PMU_CTL_START : Fld := ⟨.PMU_CTL, 0, 1⟩
/-- PMU_CTL.STOP, bits [1:1], WO. -/
def PMU_CTL_STOP : Fld := ⟨.PMU_CTL, 1, 1⟩
/-- PMU_BWWIN.LOG2, bits [4:0], RW. -/
def PMU_BWWIN_LOG2 : Fld := ⟨.PMU_BWWIN, 0, 5⟩
/-- PMU_TAGCTL.EN, bits [0:0], RW. -/
def PMU_TAGCTL_EN : Fld := ⟨.PMU_TAGCTL, 0, 1⟩
/-- PMU_TAGCTL.PLOG2, bits [7:4], RW. -/
def PMU_TAGCTL_PLOG2 : Fld := ⟨.PMU_TAGCTL, 4, 4⟩
/-- PMU_TAGSEED.SEED, bits [31:0], RW. -/
def PMU_TAGSEED_SEED : Fld := ⟨.PMU_TAGSEED, 0, 32⟩
/-- PMU_TAG0.SEQ, bits [15:0], RO. -/
def PMU_TAG0_SEQ : Fld := ⟨.PMU_TAG0, 0, 16⟩
/-- PMU_TAG0.OPCODE, bits [23:16], RO. -/
def PMU_TAG0_OPCODE : Fld := ⟨.PMU_TAG0, 16, 8⟩
/-- PMU_TAG0.STATUS, bits [31:24], RO. -/
def PMU_TAG0_STATUS : Fld := ⟨.PMU_TAG0, 24, 8⟩
/-- PMU_TAG1.WQ, bits [17:0], RO. -/
def PMU_TAG1_WQ : Fld := ⟨.PMU_TAG1, 0, 18⟩
/-- PMU_TAG1.FUNC, bits [23:18], RO. -/
def PMU_TAG1_FUNC : Fld := ⟨.PMU_TAG1, 18, 6⟩
/-- PMU_TAG2.WQIDX, bits [31:0], RO. -/
def PMU_TAG2_WQIDX : Fld := ⟨.PMU_TAG2, 0, 32⟩
/-- PMU_TAG3.ISSUEENG, bits [8:0], RO. -/
def PMU_TAG3_ISSUEENG : Fld := ⟨.PMU_TAG3, 0, 9⟩
/-- PMU_TAG3.DONEENG, bits [24:16], RO. -/
def PMU_TAG3_DONEENG : Fld := ⟨.PMU_TAG3, 16, 9⟩
/-- PMU_TAG4.FETCH, bits [31:0], RO. -/
def PMU_TAG4_FETCH : Fld := ⟨.PMU_TAG4, 0, 32⟩
/-- PMU_TAG5.ISSUE, bits [31:0], RO. -/
def PMU_TAG5_ISSUE : Fld := ⟨.PMU_TAG5, 0, 32⟩
/-- PMU_TAG6.ANSWER, bits [31:0], RO. -/
def PMU_TAG6_ANSWER : Fld := ⟨.PMU_TAG6, 0, 32⟩
/-- PMU_TAG7.COMPL, bits [31:0], RO. -/
def PMU_TAG7_COMPL : Fld := ⟨.PMU_TAG7, 0, 32⟩
/-- PMU_GCTL.EN, bits [0:0], RW. -/
def PMU_GCTL_EN : Fld := ⟨.PMU_GCTL, 0, 1⟩
/-- PMU_GCTL.FREEZE, bits [1:1], RW. -/
def PMU_GCTL_FREEZE : Fld := ⟨.PMU_GCTL, 1, 1⟩
/-- PMU_GCTL.SYNC, bits [3:3], RW. -/
def PMU_GCTL_SYNC : Fld := ⟨.PMU_GCTL, 3, 1⟩
/-- PMU_GCTL.LOAD, bits [4:4], WO. -/
def PMU_GCTL_LOAD : Fld := ⟨.PMU_GCTL, 4, 1⟩
/-- PMU_GSTAT.OVF, bits [7:0], LT. -/
def PMU_GSTAT_OVF : Fld := ⟨.PMU_GSTAT, 0, 8⟩
/-- PMU_GSTAT.FROZEN, bits [8:8], RL. -/
def PMU_GSTAT_FROZEN : Fld := ⟨.PMU_GSTAT, 8, 1⟩
/-- PMU_FIXLO.TICKS, bits [31:0], RO. -/
def PMU_FIXLO_TICKS : Fld := ⟨.PMU_FIXLO, 0, 32⟩
/-- PMU_FIXHI.TICKS, bits [31:0], RO. -/
def PMU_FIXHI_TICKS : Fld := ⟨.PMU_FIXHI, 0, 32⟩
/-- PMU_ARBASELO.BASE, bits [31:0], RW. -/
def PMU_ARBASELO_BASE : Fld := ⟨.PMU_ARBASELO, 0, 32⟩
/-- PMU_ARBASEHI.BASE, bits [31:0], RW. -/
def PMU_ARBASEHI_BASE : Fld := ⟨.PMU_ARBASEHI, 0, 32⟩
/-- PMU_ARLIMLO.LIMIT, bits [31:0], RW. -/
def PMU_ARLIMLO_LIMIT : Fld := ⟨.PMU_ARLIMLO, 0, 32⟩
/-- PMU_ARLIMHI.LIMIT, bits [31:0], RW. -/
def PMU_ARLIMHI_LIMIT : Fld := ⟨.PMU_ARLIMHI, 0, 32⟩
/-- PMU_SMP0.SEQ, bits [15:0], RO. -/
def PMU_SMP0_SEQ : Fld := ⟨.PMU_SMP0, 0, 16⟩
/-- PMU_SMP0.CNT, bits [18:16], RO. -/
def PMU_SMP0_CNT : Fld := ⟨.PMU_SMP0, 16, 3⟩
/-- PMU_SMP0.VALID, bits [19:19], RO. -/
def PMU_SMP0_VALID : Fld := ⟨.PMU_SMP0, 19, 1⟩
/-- PMU_SMP0.FUNC, bits [25:20], RO. -/
def PMU_SMP0_FUNC : Fld := ⟨.PMU_SMP0, 20, 6⟩
/-- PMU_SMP1.WQ, bits [17:0], RO. -/
def PMU_SMP1_WQ : Fld := ⟨.PMU_SMP1, 0, 18⟩
/-- PMU_SMP1.ENGINE, bits [26:18], RO. -/
def PMU_SMP1_ENGINE : Fld := ⟨.PMU_SMP1, 18, 9⟩
/-- PMU_SMP2.WQIDX, bits [31:0], RO. -/
def PMU_SMP2_WQIDX : Fld := ⟨.PMU_SMP2, 0, 32⟩
/-- PMU_SMP3.ADDR, bits [31:0], RO. -/
def PMU_SMP3_ADDR : Fld := ⟨.PMU_SMP3, 0, 32⟩
/-- PMU_SMP4.ADDR, bits [31:0], RO. -/
def PMU_SMP4_ADDR : Fld := ⟨.PMU_SMP4, 0, 32⟩
/-- PMU_SMP5.TIME, bits [31:0], RO. -/
def PMU_SMP5_TIME : Fld := ⟨.PMU_SMP5, 0, 32⟩
/-- PMU_CNTLO.COUNT, bits [31:0], RO. -/
def PMU_CNTLO_COUNT : Fld := ⟨.PMU_CNTLO, 0, 32⟩
/-- PMU_CNTHI.COUNT, bits [15:0], RO. -/
def PMU_CNTHI_COUNT : Fld := ⟨.PMU_CNTHI, 0, 16⟩
/-- PMU_RLDLO.RLD, bits [31:0], RW. -/
def PMU_RLDLO_RLD : Fld := ⟨.PMU_RLDLO, 0, 32⟩
/-- PMU_RLDHI.RLD, bits [15:0], RW. -/
def PMU_RLDHI_RLD : Fld := ⟨.PMU_RLDHI, 0, 16⟩
/-- PMU_EVSEL.EVENT, bits [7:0], RW. -/
def PMU_EVSEL_EVENT : Fld := ⟨.PMU_EVSEL, 0, 8⟩
/-- PMU_EVSEL.RLDEN, bits [8:8], RW. -/
def PMU_EVSEL_RLDEN : Fld := ⟨.PMU_EVSEL, 8, 1⟩
/-- PMU_EVSEL.OVFINT, bits [9:9], RW. -/
def PMU_EVSEL_OVFINT : Fld := ⟨.PMU_EVSEL, 9, 1⟩
/-- PMU_EVSEL.SMP, bits [10:10], RW. -/
def PMU_EVSEL_SMP : Fld := ⟨.PMU_EVSEL, 10, 1⟩
/-- PMU_FILT.PRIV, bits [3:0], RW. -/
def PMU_FILT_PRIV : Fld := ⟨.PMU_FILT, 0, 4⟩
/-- PMU_FILT.TCLASS, bits [11:4], RW. -/
def PMU_FILT_TCLASS : Fld := ⟨.PMU_FILT, 4, 8⟩
/-- PMU_FILT.AREN, bits [12:12], RW. -/
def PMU_FILT_AREN : Fld := ⟨.PMU_FILT, 12, 1⟩
/-- PMU_FILT.FUNCEN, bits [13:13], RW. -/
def PMU_FILT_FUNCEN : Fld := ⟨.PMU_FILT, 13, 1⟩
/-- PMU_FILT.QUEEN, bits [14:14], RW. -/
def PMU_FILT_QUEEN : Fld := ⟨.PMU_FILT, 14, 1⟩
/-- PMU_FILT.ENGEN, bits [15:15], RW. -/
def PMU_FILT_ENGEN : Fld := ⟨.PMU_FILT, 15, 1⟩
/-- PMU_FILT.FUNC, bits [21:16], RW. -/
def PMU_FILT_FUNC : Fld := ⟨.PMU_FILT, 16, 6⟩
/-- PMU_FILT.ENGINE, bits [30:22], RW. -/
def PMU_FILT_ENGINE : Fld := ⟨.PMU_FILT, 22, 9⟩
/-- PMU_FQUEUE.QUEUE, bits [17:0], RW. -/
def PMU_FQUEUE_QUEUE : Fld := ⟨.PMU_FQUEUE, 0, 18⟩
/-- PMU_FQMASK.MASK, bits [17:0], RW. -/
def PMU_FQMASK_MASK : Fld := ⟨.PMU_FQMASK, 0, 18⟩
/-- PMU_OVFCNT.COUNT, bits [15:0], EC. -/
def PMU_OVFCNT_COUNT : Fld := ⟨.PMU_OVFCNT, 0, 16⟩
/-- PMU_PBWTX.RATE, bits [19:0], RO. -/
def PMU_PBWTX_RATE : Fld := ⟨.PMU_PBWTX, 0, 20⟩
/-- PMU_PBWTX.SLOTS, bits [31:20], RO. -/
def PMU_PBWTX_SLOTS : Fld := ⟨.PMU_PBWTX, 20, 12⟩
/-- PMU_PBWRX.RATE, bits [19:0], RO. -/
def PMU_PBWRX_RATE : Fld := ⟨.PMU_PBWRX, 0, 20⟩
/-- PMU_PBWRX.SLOTS, bits [31:20], RO. -/
def PMU_PBWRX_SLOTS : Fld := ⟨.PMU_PBWRX, 20, 12⟩
/-- PMU_PUTIL.REPLAY, bits [15:0], RO. -/
def PMU_PUTIL_REPLAY : Fld := ⟨.PMU_PUTIL, 0, 16⟩
/-- PMU_PUTIL.CRSTALL, bits [31:16], RO. -/
def PMU_PUTIL_CRSTALL : Fld := ⟨.PMU_PUTIL, 16, 16⟩
/-- SEC_CTL.NEWCHAL, bits [0:0], WO. -/
def SEC_CTL_NEWCHAL : Fld := ⟨.SEC_CTL, 0, 1⟩
/-- SEC_CTL.UNLOCK, bits [1:1], WO. -/
def SEC_CTL_UNLOCK : Fld := ⟨.SEC_CTL, 1, 1⟩
/-- SEC_CTL.FLOOR, bits [2:2], WO. -/
def SEC_CTL_FLOOR : Fld := ⟨.SEC_CTL, 2, 1⟩
/-- SEC_CTL.REVOKE, bits [7:4], WO. -/
def SEC_CTL_REVOKE : Fld := ⟨.SEC_CTL, 4, 4⟩
/-- SEC_STAT.JTAGLOCK, bits [0:0], RL. -/
def SEC_STAT_JTAGLOCK : Fld := ⟨.SEC_STAT, 0, 1⟩
/-- SEC_STAT.DEBUGOPEN, bits [1:1], RL. -/
def SEC_STAT_DEBUGOPEN : Fld := ⟨.SEC_STAT, 1, 1⟩
/-- SEC_STAT.CHALVALID, bits [2:2], RL. -/
def SEC_STAT_CHALVALID : Fld := ⟨.SEC_STAT, 2, 1⟩
/-- SEC_STAT.LOCKOUT, bits [3:3], RL. -/
def SEC_STAT_LOCKOUT : Fld := ⟨.SEC_STAT, 3, 1⟩
/-- SEC_STAT.RUNSLOT, bits [5:4], RL. -/
def SEC_STAT_RUNSLOT : Fld := ⟨.SEC_STAT, 4, 2⟩
/-- SEC_STAT.FUSEBUSY, bits [6:6], RL. -/
def SEC_STAT_FUSEBUSY : Fld := ⟨.SEC_STAT, 6, 1⟩
/-- SEC_FLT.SIGFAIL, bits [0:0], LT. -/
def SEC_FLT_SIGFAIL : Fld := ⟨.SEC_FLT, 0, 1⟩
/-- SEC_FLT.DENIED, bits [1:1], LT. -/
def SEC_FLT_DENIED : Fld := ⟨.SEC_FLT, 1, 1⟩
/-- SEC_FLT.OPENED, bits [2:2], LT. -/
def SEC_FLT_OPENED : Fld := ⟨.SEC_FLT, 2, 1⟩
/-- SEC_MINVER.MIN, bits [15:0], RO. -/
def SEC_MINVER_MIN : Fld := ⟨.SEC_MINVER, 0, 16⟩
/-- SEC_KEYSTAT.REVOKED, bits [3:0], RO. -/
def SEC_KEYSTAT_REVOKED : Fld := ⟨.SEC_KEYSTAT, 0, 4⟩
/-- SEC_KEYSTAT.PRESENT, bits [7:4], RO. -/
def SEC_KEYSTAT_PRESENT : Fld := ⟨.SEC_KEYSTAT, 4, 4⟩
/-- SEC_KEYSTAT.DEBUGKEY, bits [8:8], RO. -/
def SEC_KEYSTAT_DEBUGKEY : Fld := ⟨.SEC_KEYSTAT, 8, 1⟩
/-- SEC_DBGCNT.FAILS, bits [3:0], RO. -/
def SEC_DBGCNT_FAILS : Fld := ⟨.SEC_DBGCNT, 0, 4⟩
/-- SEC_UID.UID, bits [31:0], RO. -/
def SEC_UID_UID : Fld := ⟨.SEC_UID, 0, 32⟩
/-- SEC_CHAL.CHAL, bits [31:0], RO. -/
def SEC_CHAL_CHAL : Fld := ⟨.SEC_CHAL, 0, 32⟩
/-- SEC_RESP.RESP, bits [31:0], WO. -/
def SEC_RESP_RESP : Fld := ⟨.SEC_RESP, 0, 32⟩

end Sys2Proof.Machine.Fld
end

