-- ==== Sys2Proof/Machine/Maps.lean ====
section
/-! DEFINITION. Sparse tables as plain data: lists of key and value pairs whose keys rise strictly, so that equal
tables are equal lists. -/

namespace Sys2Proof.Machine

/-- A sparse table keyed by numbers; `mwf` says that it is in its canonical form. -/
abbrev AMap (α : Type) := List (Nat × α)

/-- The value at a key, if one is listed. -/
def mget {α : Type} : AMap α → Nat → Option α
  | [], _ => none
  | (k', v) :: t, k => if k' = k then some v else if k < k' then none else mget t k

/-- The value at a key, or a default. -/
def mgetD {α : Type} (m : AMap α) (k : Nat) (d : α) : α := (mget m k).getD d

/-- The table with the value at a key replaced or inserted in order. -/
def mset {α : Type} : AMap α → Nat → α → AMap α
  | [], k, v => [(k, v)]
  | (k', v') :: t, k, v =>
    if k = k' then (k, v) :: t else if k < k' then (k, v) :: (k', v') :: t else (k', v') :: mset t k v

/-- The table without a key. -/
def mdel {α : Type} : AMap α → Nat → AMap α
  | [], _ => []
  | (k', v') :: t, k => if k = k' then t else if k < k' then (k', v') :: t else (k', v') :: mdel t k

/-- The table with the value at a key changed, if one is listed. -/
def mmod {α : Type} (m : AMap α) (k : Nat) (f : α → α) : AMap α :=
  match mget m k with
  | some v => mset m k (f v)
  | none => m

/-- The keys rise strictly: the canonical form of a table. -/
abbrev mwf {α : Type} (m : AMap α) : Prop := (m.map Prod.fst).Pairwise (· < ·)

/-- The least number from `start` that is not a key, in at most `fuel` trials. -/
def mfree {α : Type} (m : AMap α) : Nat → Nat → Nat
  | 0, k => k
  | fuel + 1, k => if (mget m k).isSome then mfree m fuel (k + 1) else k

/-- The element of a list that minimises a cost, the first on a tie. -/
def minBy {α : Type} (cost : α → Nat) : List α → Option α
  | [] => none
  | x :: t => match minBy cost t with
    | some y => if cost y < cost x then some y else some x
    | none => some x

/-- Position `i` of a list replaced. -/
def setAt {α : Type} : List α → Nat → α → List α
  | [], _, _ => []
  | _ :: t, 0, v => v :: t
  | x :: t, i + 1, v => x :: setAt t i v

/-- Sorted insertion into an ascending list of numbers, without repeats. -/
def insertAsc : List Nat → Nat → List Nat
  | [], k => [k]
  | x :: t, k => if k = x then x :: t else if k < x then k :: x :: t else x :: insertAsc t k

/-- A list of numbers in ascending order without repeats. -/
def sortAsc (l : List Nat) : List Nat := l.foldl insertAsc []

end Sys2Proof.Machine
end

