-- ==== Sys2Proof/Machine/State.lean ====
section
/-! DEFINITION. The state of the block as plain data: every register, table, queue, buffer, counter, mode and pin that
the spec gives the device, the model's own bookkeeping of what is in progress, the outputs, and the queue of waiting
commands. Reset: 17_register_map R661, 14 R577. -/

namespace Sys2Proof.Machine

/-! ## What the device sends -/

/-- The return code of a CXL mailbox command (R100, R101); `open_` is a code that the CXL specification fixes and this one does not
state. -/
inductive MailCode where
  | success
  | unsupported
  | open_ (n : Nat)
  deriving DecidableEq, Repr

/-- What the device sends or drives, oldest first in `State.out`. -/
inductive Emit where
  /-- A flit leaves on a fabric port, on a logical lane and in the codeword of a count (R479, R481, R488). -/
  | flit (p lidx cwcnt : Nat) (f : Flit)
  /-- A training frame with its control and identity words leaves on a lane (R482, R483, R487). -/
  | train (lane ctl ident : Nat)
  /-- A lane falls silent (R482, R669). -/
  | silent (lane : Nat)
  /-- An MSI-X message of a vector of a function, with the address and data of its table entry (R121). -/
  | msix (func vector addr data : Nat)
  /-- A PCIe completion of a read: a value, or none for Completer Abort (R122). -/
  | pcieRead (value : Option Nat)
  /-- A CXL.mem read answer: the request, the data, poison (R301). -/
  | cxlData (mid : Nat) (data : List Byte) (poison : Bool)
  /-- A CXL.mem write completion (R311). -/
  | cxlDone (mid : Nat)
  /-- A CXL mailbox or DOE answer: the return code and the payload (R100, R101). -/
  | cxlMail (code : MailCode) (payload : List Byte)
  /-- The answer of Identify Memory Device: the volatile capacity (R117), and the bytes that the CXL specification fixes (R100). -/
  | cxlIdentity (capacity : Nat) (rest : List Byte)
  /-- A read of host memory by the device: the function it is made as, address and length (R145, R155, R337, R347). -/
  | hostRead (func addr len : Nat)
  /-- A compare-and-swap on host memory, and the function it is made as (R353). -/
  | hostCas (func addr compare swap : Nat)
  /-- A mirror frame (R525). -/
  | mirror (f : MFrame)
  /-- A back-channel control block of the mirror link (R524). -/
  | mirrorBc (b1 b2 b3 : Nat)
  /-- An AVSBus Vout write with commit to a rail, in mV (R572). -/
  | avsWrite (rail mv : Nat)
  /-- An AVSBus Vout read of a rail (R572). -/
  | avsRead (rail : Nat)
  /-- An AVSBus status read of a rail (R572). -/
  | avsStatus (rail : Nat)
  /-- A command of the boot flash's SPI bus: its command byte, its address, the bytes sent with it, and SPI_CLK in MHz (R646, R650). -/
  | flash (cmd addr : Nat) (data : List Byte) (mhz : Nat)
  deriving DecidableEq, Repr

/-! ## Queues (04_queues) -/

/-- Work queue states (R171). -/
inductive WqState where
  | disabled | active | draining | error | suspended
  deriving DecidableEq, Repr

/-- An issued descriptor without completion: its count, bytes, the key-rights value at issue (R361), the packets not yet
answered or sent, the status and results gathered so far (R246, R247), the bytes placed of each GET packet not yet wholly held, by its
position, the tick of its first transmission, and for a SEND whether a packet was left unsent (R258). -/
structure Desc where
  cnt : Nat
  op : Nat
  raw : Raw
  kr : Nat := 0
  left : Nat := 0
  status : Nat := 0
  bytes : Nat := 0
  placed : AMap Nat := []
  d0 : Nat := 0
  d1 : Nat := 0
  start : Nat := 0
  unsent : Bool := false
  engine : Nat := 0
  deriving DecidableEq, Repr

/-- What a turn in progress waits for. -/
inductive TurnWait where
  | none | fetch | payload | walk | protect
  deriving DecidableEq, Repr

/-- A turn in progress: the engine, the descriptors left of the quantum, and what it waits for (R38, R43); for a payload,
the key rights at issue (R361), the bus segments read, the kind of a translation failure behind them (R350), and the invalidations and
flushes that cover the translations used (R369). -/
structure Turn where
  engine : Nat
  left : Nat
  wait : TurnWait := .none
  kr : Nat := 0
  segs : List (Nat × Nat) := []
  fail : Option Nat := none
  inv : List Nat := []
  deriving DecidableEq, Repr

/-- A work queue: its context (R183), state (R171), counts, key-rights register (R359), fetched copies with the reading
of fabric time at their fetch (R155, R620), fetches that failed (R171), shaper
(R186) and what waits on it, admin commands among it with their opcodes (R41). -/
structure WQ where
  configured : Bool := false
  st : WqState := .disabled
  base : Nat := 0
  log2 : Nat := 6
  turnq : Nat := 0
  asid : Nat := 0
  cq : Nat := 0
  eq : Nat := 0
  headwb : Bool := false
  start : Nat := 0
  hwaddr : Nat := 0
  rate : Nat := 0
  burst : Nat := 0
  head : Nat := 0
  fidx : Nat := 0
  tail : Nat := 0
  kr : Nat := 0
  fetched : List (Nat × Raw × Nat) := []
  fetching : List Nat := []
  failed : List Nat := []
  credit : Int := 0
  newShape : Option (Nat × Nat) := none
  outst : List Desc := []
  turn : Option Turn := none
  waitCmds : List (Nat × AdminCmd) := []
  badBell : Bool := false
  suspendDue : Bool := false
  hwbDue : Bool := false
  errKind : Nat := 0
  tails : List (Nat × Nat) := []
  reserved : Nat := 0
  deriving DecidableEq, Repr

/-- A completion entry before its PHASE is set (R162), with its global work queue for counters, and the engine that issued its descriptor. -/
structure Cpl where
  gwq : Nat
  wq : Nat
  wqidx : Nat
  opcode : Nat
  d0 : Nat := 0
  d1 : Nat := 0
  peer : Nat := 0
  status : Nat := 0
  engine : Nat := 0
  deriving DecidableEq, Repr

/-- A completion queue (R183), its producer count, last HEAD and ARM, held completions (R165) and, when mirrored, the
count below which entries are protected (R531). -/
structure CQ where
  configured : Bool := false
  base : Nat := 0
  log2 : Nat := 6
  eq : Nat := 0
  prod : Nat := 0
  head : Nat := 0
  armed : Bool := false
  stalled : Bool := false
  held : List Cpl := []
  prot : Nat := 0
  resv : Nat := 0
  deriving DecidableEq, Repr

/-- An event entry before its PHASE is set (R167). -/
structure Ev where
  type : Nat
  sub : Nat := 0
  object : Nat := 0
  data : Nat := 0
  time : Nat := 0
  deriving DecidableEq, Repr

/-- An event queue (R183), its producer count, last HEAD and ARM, the events dropped since the last EQ_OVERFLOW (R169),
and, when mirrored, events that wait for protection (R531). -/
structure EQ where
  configured : Bool := false
  base : Nat := 0
  log2 : Nat := 4
  vector : Nat := 0
  prod : Nat := 0
  head : Nat := 0
  armed : Bool := false
  lost : Nat := 0
  held : List Ev := []
  prot : Nat := 0
  resv : Nat := 0
  deriving DecidableEq, Repr

/-- An admin completion entry before SQHEAD and PHASE are set (R178); `b`: of a background command (R191). -/
structure ACpl where
  cid : Nat
  status : Nat
  r0 : Nat := 0
  r1 : Nat := 0
  b : Bool := false
  deriving DecidableEq, Repr

/-- An admin queue's counts beside its registers: submissions consumed, completions produced, completions held for room
or for DMA, a fetch stop (R179, R191), whether a command that waits for a context lock keeps it from the next (R41, R179),
and how its ring reads end. -/
structure AdminQ where
  sqHead : Nat := 0
  cqProd : Nat := 0
  held : List ACpl := []
  stopped : Bool := false
  blocked : Bool := false
  rd : ReadStatus := .ok
  deriving DecidableEq, Repr

/-- A background (B) admin command in progress: its function, CID, opcode, object, start tick and parameters (R179). -/
structure BCmd where
  func : Nat
  cid : Nat
  op : Nat
  obj : Nat
  start : Nat := 0
  raw : Raw := 0
  aux : Nat := 0
  deriving DecidableEq, Repr

/-- An entry of a run list (R36, R45, R48). -/
inductive RunEnt where
  | wq (n : Nat)
  | tctx (t : Nat)
  | winq (w : Nat)
  deriving DecidableEq, Repr

/-- Why a queue with work stands on no run list: the rule that parks it names when it returns. -/
inductive Park where
  | shaper            -- R187
  | tag               -- R668
  | cwnd (cell : Nat) -- R244
  | posted            -- R263
  | waitRec           -- R421
  | inst (ctx : Nat)  -- R390
  | batch (ctx : Nat) -- R405
  | cqFull (cq : Nat) -- R165
  | cqRoom (cq : Nat) -- R157: the entry's issue is the writing of its completion
  | fence             -- R159
  | hold              -- R94, R432, R609
  | dstate            -- R65, R66, R69
  deriving DecidableEq, Repr

/-- The queue manager: contexts of every queue, admin queues by function, background commands, run lists by engine, and
parked queues. -/
structure QmgSt where
  wq : AMap WQ := []
  cq : AMap CQ := []
  eq : AMap EQ := []
  aq : AMap AdminQ := []
  bcmds : List BCmd := []
  run : AMap (List RunEnt) := []
  parked : List (Park × Nat) := []
  deriving DecidableEq, Repr

/-! ## Target side (05_remote_operations) -/

/-- Region states (R213). -/
inductive RgnState where
  | free | valid | revoking
  deriving DecidableEq, Repr

/-- A region descriptor (R207), the check value of its previous registration (R205), its in-flight count (R212), and the
revoke in progress (function, CID, recorded count). A region not listed is FREE with generation 1 (R84). -/
structure Region where
  base : Nat := 0
  pages : Nat := 0
  asid : Nat := 0
  st : RgnState := .free
  gen : Nat := 1
  rights : Nat := 0
  pkey : Nat := 0
  func : Nat := 0
  check : Nat := 0
  lastCheck : Option Nat := none
  inflight : Nat := 0
  revoke : Option (Nat × Nat) := none
  flush : Option Nat := none
  recorded : Nat := 0
  deriving DecidableEq, Repr

/-- A duplicate-suppression entry (R229, R274, R408): whether its answer is still pending, the stored status and result,
and the tick at which it expires. -/
structure DupEnt where
  pending : Bool := false
  status : Nat := 0
  d0 : Nat := 0
  d1 : Nat := 0
  expire : Nat := 0
  deriving DecidableEq, Repr

/-- The target side: regions (key: index, plus 2^24 for the alias's table), duplicate suppression by packed identity
(R90), the waiting lists of the target contexts (R45), the target contexts whose request waits for a walk, and suppression
starts (R232). `busy` names the engine that holds the turn of a context whose request waits for a walk, `tleft` the requests that
turn may still take (R673), `accepted` the contexts whose first request has passed its checks already (R214), and `marks` the teardown
marks that wait while no request is executed (R543). -/
structure TgtSt where
  regions : AMap Region := []
  dup : AMap DupEnt := []
  tctx : AMap (List Req) := []
  busy : AMap Nat := []
  tleft : AMap Nat := []
  accepted : List Nat := []
  marks : List Req := []
  supStart : Nat := 0
  supStartAlias : Nat := 0
  deriving DecidableEq, Repr

/-! ## Initiator side -/

/-- What a request tag serves. -/
inductive Owner where
  | desc (q cnt : Nat)
  | winRead (id : Nat)
  | winWrite (id line : Nat)
  | renew (block : Nat)
  | linv (blk holder : Nat)
  | grant (lock : Nat)
  | cancel (q cnt : Nat)
  | lockProbe (q cnt : Nat)
  | coll (ctx peer inst ctype : Nat)
  | merged (ctx : Nat)
  | pmark (piste : Nat)
  deriving DecidableEq, Repr

/-- A request tag in use: its owner and packet, the ticks of its first and latest transmission and of the instant its
SENT_AGO counts from (R219, R257, R407), transmissions made and schedule position and RTO (R222, R225), the port of its latest transmission (R225), and how it
stands towards release (R233) and congestion control (R241). -/
structure TagEnt where
  owner : Owner
  pkt : Pkt
  first : Nat
  last : Nat
  origin : Nat
  attempt : Nat := 0
  sched : Nat := 0
  rto : Nat := 20000
  port : Nat := 127
  loc : Bool := false
  nonIdem : Bool := false
  answered : Bool := false
  flushed : Bool := false
  done : Bool := false
  infl : Nat := 0
  cell : Nat := 0
  piste : Bool := false
  got : List Nat := []
  noInstall : Bool := false
  inv : List Nat := []
  sentNcc : Bool := false
  deriving DecidableEq, Repr

/-- A request that waits for a tag (R668); `origin` is the instant its SENT_AGO counts from where that is not its own first
transmission (R257, R407). -/
structure TagWait where
  owner : Owner
  pkt : Pkt
  origin : Option Nat := none
  piste : Option Nat := none
  nonIdem : Bool := false
  noInstall : Bool := false
  deriving DecidableEq, Repr

/-- A congestion context (R240): whether it has had a sample, SRTT in 1/8 tick, the least samples of a period of 8,000,000 ticks of fabric
time, by its number, and of the period before it, CWND in 1/256 byte, bytes in flight, and the tick of the latest decrease. -/
structure CcCtx where
  sampled : Bool := false
  srtt : Nat := 0
  base0 : Option Nat := none
  base1 : Option Nat := none
  period : Nat := 0
  cwnd : Nat := 0
  infl : Nat := 0
  lastDec : Option Nat := none
  deriving DecidableEq, Repr

/-- Tags in use, requests waiting for one, congestion contexts by cell number, and the tick before which no request
leaves (R94), and the responses addressed to the alias that were discarded (R97). -/
structure IniSt where
  tags : AMap TagEnt := []
  waiting : List TagWait := []
  cc : AMap CcCtx := []
  quietUntil : Nat := 0
  aliasDrops : Nat := 0
  deriving DecidableEq, Repr

/-! ## Messages (06_messages) -/

/-- A posted receive (R263) with the function and ASID that its LADDR is translated under; `gone` once an FLR has cleared its queue,
after which it writes no completion (R176, R282). -/
structure Recv where
  q : Nat
  cnt : Nat
  sig : Bool
  tag : Nat
  mask : Nat
  src : Nat
  laddr : Nat
  cap : Nat
  kr : Nat
  func : Nat := 0
  asid : Nat := 0
  gone : Bool := false
  deriving DecidableEq, Repr

/-- A message being reassembled or on an unexpected list: its number among them, its identity, receiving queue, tag, the receive it matched
(none while unexpected), the tick S + 2.0 ms, the indices accepted, the packets stored, TOTAL once seen, and a failed
placement (R266 to R278). -/
structure MsgCtx where
  key : Nat := 0
  id : ReqId
  q : Nat
  tag : Nat
  recv : Option Recv := none
  deadline : Nat := 0
  set : List Nat := []
  store : AMap (List Byte) := []
  total : Option Nat := none
  failed : Bool := false
  tclass : Nat := 0
  deriving DecidableEq, Repr

/-- Posted receives in the order placed, message contexts in the order their first packet arrived, the number of the next context, and
the count of packets beyond their message's end (R269). -/
structure MsgSt where
  posted : List Recv := []
  ctxs : List MsgCtx := []
  next : Nat := 0
  beyond : Nat := 0
  deriving DecidableEq, Repr

/-! ## Global Window (07_global_window) -/

/-- A valid window-map entry (R291); an entry not listed has VALID 0. -/
structure WEnt where
  key : Nat
  coord : Nat
  fast : Bool
  nocache : Bool
  roff : Nat
  deriving DecidableEq, Repr

/-- A window read or coalesced window write of one lease block, in acceptance order: the window, the BAR4 offset, the region offset (R290),
the host requests it stands for with their lines, the bytes of a write by their place in the block, the entry used, whether it is issued, the
packets not yet answered, the tick of the latest first transmission among its packets, and whether a later write of the block keeps its
answer out of the near-cache (R307). -/
structure WItem where
  id : Nat
  d : Nat
  a : Nat
  off : Nat
  write : Bool
  mids : List (Nat × Nat) := []
  bytes : AMap Byte := []
  ent : WEnt
  entNo : Nat
  issued : Bool := false
  left : Nat := 0
  first : Option Nat := none
  noInstall : Bool := false
  expired : Bool := false
  deriving DecidableEq, Repr

/-- The accesses of one BAR4 lease block in acceptance order and, after a lost write, the tick at which the block resumes
(R328). -/
structure WBlk where
  items : List WItem := []
  settle : Option Nat := none
  deriving DecidableEq, Repr

/-- A near-cache frame (R303): the lease expiry in fabric time, the device that granted the lease, its lines, the cache epoch, the tick of
its latest hit, and whether a renewal was sent for this lease. -/
structure Frame where
  expiry : Nat
  home : Nat
  lines : AMap (List Byte) := []
  epoch : Nat := 0
  hit : Nat := 0
  renewed : Bool := false
  deriving DecidableEq, Repr

/-- A write at the home that waits to become visible: the answer of its request (R317). -/
structure HomeWrite where
  req : Req
  status : Nat := 0
  d0 : Nat := 0
  d1 : Nat := 0
  res : Bool := false
  deriving DecidableEq, Repr

/-- A lease entry (R315): holders, OVF, LATEST as a tick (R552), the writes waiting to become visible, and held accesses (R318). -/
structure Lease where
  holders : List Nat := []
  ovf : Bool := false
  latest : Nat := 0
  writing : List HomeWrite := []
  held : List Req := []
  deriving DecidableEq, Repr

/-- What waits for the end of a start wait (R325): the coordinate, the lease block, and a write that is not yet visible or an access held
behind one. -/
structure StartWait where
  al : Bool
  key : Nat
  write : Option HomeWrite := none
  held : Option Req := none
  deriving DecidableEq, Repr

/-- A read of fence registers that waits (R314): the registers it reads, each with the place of its value in what is returned, and the
accesses it waits for. -/
structure Fence where
  regs : List (Nat × Nat)
  ids : List Nat
  deriving DecidableEq, Repr

/-- An UNMAP_WINDOW in progress (R297): the accesses it waits for. -/
structure Unmap where
  func : Nat
  cid : Nat
  first : Nat
  count : Nat
  ids : List Nat
  deriving DecidableEq, Repr

/-- The Global Window: the map, accesses by lease block, the near-cache, the lease table as home (key: region key ×
2^36 + block), start waits, fences, unmaps, event spacing (R332), writes and accesses held by the start wait, and held accesses that are released (R318). -/
structure WinSt where
  map : AMap WEnt := []
  blk : AMap WBlk := []
  nextId : Nat := 0
  winq : AMap (List Nat) := []
  frames : AMap Frame := []
  cacheEpoch : Nat := 0
  nccInit : Bool := false
  leases : AMap Lease := []
  lockLostAt : Option Nat := none
  startEnd : Option Nat := none
  startEndAlias : Option Nat := none
  startWrites : List StartWait := []
  released : List Req := []
  fences : List Fence := []
  unmaps : List Unmap := []
  evAt : AMap Nat := []
  deriving DecidableEq, Repr

/-! ## Translation (08_translation) -/

/-- A leaf translation (R363), with the tick its value was obtained (R365), and the leaf itself: its level, address and
value as read, which a later compare-and-swap compares with (R356). One that an access holds also names the invalidations that cover it
and wait for the access (R369). -/
structure XEnt where
  func : Nat
  asid : Nat
  page : Nat
  ps : Nat
  addr : Nat
  w : Bool
  pkey : Nat
  dseen : Bool
  at_ : Nat
  lvl : Nat := 0
  eaddr : Nat := 0
  val : Nat := 0
  inv : List Nat := []
  deriving DecidableEq, Repr

/-- A walk-cache entry (R363): an ASID entry (level 5: root table and TOP) or a non-leaf entry of a level. -/
structure WcEnt where
  func : Nat
  asid : Nat
  level : Nat
  prefix_ : Nat
  table : Nat
  top : Nat
  at_ : Nat
  deriving DecidableEq, Repr

/-- What a translation is for: the access to run again when it is known, or to end when it fails. -/
inductive Acc where
  /-- The LADDR pages of the descriptor at a queue's published head (R350). -/
  | payload (q : Nat)
  /-- A request at the target (step 9 of R227). -/
  | target (r : Req)
  /-- A GET response at the initiator (R351). -/
  | place (q cnt : Nat) (pkt : Pkt)
  /-- A message packet for a receive (R267). -/
  | message (r : Req)
  /-- The copy of a stored message packet (R275). -/
  | copy (msg : Nat) (idx : Nat)
  /-- The result of a collective instance (R392). -/
  | result (ctx inst : Nat)
  deriving DecidableEq, Repr

/-- Where a walk stands: not taken by the translation unit, which is in a block reset (R580), reading the ASID entry at an address, reading the
entry of a level, or waiting for the compare-and-swap on a leaf (R348). -/
inductive WalkPhase where
  | held
  | asid (addr : Nat)
  | level (l table : Nat)
  | cas (ent : XEnt) (compare swap tries : Nat)
  deriving DecidableEq, Repr

/-- A walk in progress: its access, function, ASID, virtual address, side, direction, local rights, and the translations
already obtained for the access, and the walk-cache entries to install if it succeeds (R352); `noInstall` under R369, with the
invalidations and flushes that wait for it; `lost` once a stop of DMA writes has made the write that it is for one that is never performed
(R670). -/
structure Walk where
  acc : Acc
  func : Nat
  asid : Nat
  va : Nat
  write : Bool
  target : Bool
  kr : Nat
  phase : WalkPhase
  got : List XEnt := []
  wc : List WcEnt := []
  noInstall : Bool := false
  inv : List Nat := []
  lost : Bool := false
  deriving DecidableEq, Repr

/-- An INVALIDATE_XLT in progress (R369), with the entries discarded; the accesses that it waits for name it. -/
structure Inval where
  id : Nat
  func : Nat
  cid : Nat
  all : Bool
  asid : Nat
  count : Nat
  deriving DecidableEq, Repr

/-- The translation unit: the two caches (keys are installation numbers), walks and invalidations in progress. -/
structure XltSt where
  cache : AMap XEnt := []
  wcache : AMap WcEnt := []
  next : Nat := 0
  walks : AMap Walk := []
  invals : List Inval := []
  deriving DecidableEq, Repr

/-! ## Collectives (09_collectives) -/

/-- A contribution or result as the packets carry it: VALUE, NOCOUNT, LOSTCOUNT, and LIST as no-voters then lost. -/
structure Contrib where
  value : List Byte := []
  noCount : Nat := 0
  lostCount : Nat := 0
  novoters : List Nat := []
  lost : List Nat := []
  deriving DecidableEq, Repr

/-- An instance at this member: its own descriptor and contribution, the contributions of its children and of orphans, the members that
sent theirs as orphans, the tick at which it was sent upward, its result, and the tick since which its children are waited for (R397). -/
structure Inst where
  n : Nat
  q : Nat := 0
  cnt : Nat := 0
  own : Option Contrib := none
  got : AMap Contrib := []
  orph : List Nat := []
  sent : Option Nat := none
  res : Option Contrib := none
  flushed : Bool := false
  since : Nat := 0
  deriving DecidableEq, Repr

/-- A constituent of a counter batch (R405): its addend, its instant (R407), and the request to answer, which is a child's
or, for a CFADD64 of an own queue, one served locally. -/
structure Constit where
  addend : Nat
  origin : Nat
  req : Req
  deriving DecidableEq, Repr

/-- Context states (R386). -/
inductive ColState where
  | free | setting | set | teardown
  deriving DecidableEq, Repr

/-- A collective context (R383): its parameters, tree, the members that this device has declared lost (R398) and those that orphans name as
lost parents (R399), instances, kept results (R400), and counter batch. -/
structure ColCtx where
  st : ColState := .free
  kind : Nat := 0
  operator : Nat := 0
  type : Nat := 0
  nelem : Nat := 0
  tclass : Nat := 0
  setupId : Nat := 0
  lossAddr : Nat := 0
  lossCap : Nat := 0
  ckey : Nat := 0
  coff : Nat := 0
  useFunc : Nat := 0
  root : Nat := 0xFFFFF
  parent : Nat := 0xFFFFF
  members : List Nat := []
  children : List Nat := []
  lost : List Nat := []
  missing : List Nat := []
  parentLost : Bool := false
  rootLost : Bool := false
  excluded : Bool := false
  issued : Nat := 0
  completed : Nat := 0
  insts : List Inst := []
  kept : List (Nat × Contrib) := []
  batch : List Constit := []
  batchAt : Nat := 0
  flight : List Constit := []
  probeAt : AMap Nat := []
  cmd : Option (Nat × Nat) := none
  deriving DecidableEq, Repr

/-! ## Locks (10_locks) -/

/-- Lock word states (R411). -/
inductive LkState where
  | disabled | free | held | granting
  deriving DecidableEq, Repr

/-- A waiter in a lift line (R413). -/
structure Waiter where
  coord : Nat
  func : Nat
  wq : Nat
  wqidx : Nat
  deriving DecidableEq, Repr

/-- A lock word and its lift line (R412); `granteeIdx` is the WQIDX of the grantee while GRANTING. A word not listed is
DISABLED. -/
structure Lock where
  st : LkState := .disabled
  aband : Bool := false
  forced : Bool := false
  owner : Nat := 0xFFFFF
  func : Nat := 0
  wq : Nat := 0
  gseq : Nat := 0
  granteeIdx : Nat := 0
  line : List Waiter := []
  deriving DecidableEq, Repr

/-- A waiting record of an initiator (R421): its lock, queue and count, whether QUEUED was answered and when the last
probe went, and, once ACCEPTED, the tick and GRANTSEQ. -/
structure WaitRec where
  home : Nat
  lock : Nat
  q : Nat
  cnt : Nat
  queued : Bool := false
  since : Nat := 0
  accepted : Option (Nat × Nat) := none
  cancelling : Bool := false
  deriving DecidableEq, Repr

/-- An owner-reset notice being sent (R431, R432): its number, the functions it names, the ticks of the first and latest
copy, the d0 digits that have answered, and, of a notice that a port's coming up let go, the one digit it is for. -/
structure Oreset where
  num : Nat
  all : Bool
  func : Nat
  first : Nat
  last : Nat
  answered : List Nat := []
  only : Option Nat := none
  deriving DecidableEq, Repr

/-- The lock unit: words (key: index, plus 2^24 for the alias's table), waiting records, what was last applied of each
d0 digit's notices, liveness probes in flight (number, tick), own notices, and the d0 digits to which the notice of the last full reset
is still owed (R431). -/
structure LckSt where
  words : AMap Lock := []
  recs : AMap WaitRec := []
  applied : AMap (Nat × Nat) := []
  probes : AMap (Nat × Nat) := []
  probeNum : Nat := 0
  notices : List Oreset := []
  noticeNum : Nat := 0
  owed : List Nat := []
  aliasSeen : List Nat := []
  deriving DecidableEq, Repr

/-! ## Routing (11_routing) -/

/-- A packet at an input of the transit crossbar: the packet, its input port (72 for the local port), the tick it came to
the head of its input queue, the tick and link delay of its arrival (R219), the flits it holds, whether it stays on escape
channels (R446), the port and dimension that DIVERT avoids (R226), the request tag it was sent for, the place at which it leaves
the crossbar for this device: the local port of a cluster, or 18, the control stop (R47, R56), and while it is still arriving the
flits of it that have arrived (R465). -/
structure InPkt where
  pkt : Pkt
  port : Nat
  at_ : Nat := 0
  rx : Nat
  delay : Nat := 0
  flits : Nat := 0
  esc : Bool := false
  avoid : Option (Nat × Nat) := none
  tag : Option Nat := none
  place : Nat := 18
  part : Option (List Flit) := none
  deriving DecidableEq, Repr

/-- A packet queued for a channel of an output port: the packet as its input held it, its flits not yet sent, whether its
first flit has left and its last has arrived (R465), the input (key 8 × port + channel) whose buffer holds its flits, the input that it
entered by, and the order in which it was queued for the port (R463). -/
structure TxPkt where
  inp : InPkt
  rest : List Flit
  started : Bool := false
  closed : Bool := true
  src : Option Nat := none
  via : Option Nat := none
  ord : Nat := 0
  deriving DecidableEq, Repr

/-- What becomes of a packet's flits as they arrive on an input channel: collected until the last, since a tick; added to the packet at
the tail of the input's queue; passed on at once to a channel of an output port (R465); or discarded (R500, R501). -/
inductive PartIn where
  | collect (bytes : List Byte) (flits since : Nat)
  | queued
  | stream (port vc : Nat)
  | discard
  deriving DecidableEq, Repr

/-- An originating piste (R467, R470), with the packets that its rate holds back and the flit slots it has had of its burst, in
1/55,296 of a slot, at a tick (R473). -/
structure Piste where
  st : Nat := 0
  hops : Nat := 0
  dest : Nat := 0
  func : Nat := 0
  share : Nat := 0
  outPort : Nat := 0
  outLabel : Nat := 0
  pkts : Nat := 0
  path : List (Nat × Nat) := []
  cmd : Option (Nat × Nat) := none
  since : Nat := 0
  held : List InPkt := []
  spent : Nat := 0
  spentAt : Nat := 0
  deriving DecidableEq, Repr

/-- A transit piste entry (R467), with its origin and piste number for the notices that free it. -/
structure TransitEnt where
  outPort : Nat
  outLabel : Nat
  share : Nat
  origin : Nat
  piste : Nat
  deriving DecidableEq, Repr

/-- Routing: the latest notices of line members (key 18 × dimension + digit: sequence and row), the own notice sequence,
the packets that
have left the crossbar at the local port and are about to be handled, the input queues (key 8 × port + channel; port 72 is
the local injection), the re-injection buffer, pistes, transit entries
(key 1,024 × port + label), and alias announcements being sent. -/
structure RteSt where
  rows : AMap (Option Nat × Nat) := []
  deliver : List InPkt := []
  lineSeq : Nat := 0
  lastRefresh : Nat := 0
  inq : AMap (List InPkt) := []
  reinj : List InPkt := []
  pistes : AMap Piste := []
  transit : AMap TransitEnt := []
  annNum : Nat := 0
  annLast : Nat := 0
  annFirst : Nat := 0
  annSet : Option Bool := none
  annDigit : Nat := 0
  deriving DecidableEq, Repr

/-! ## Links (12_fabric_links) -/

/-- A port (R482): its training state (the code of FLK_PSTAT), the tick it entered it, its lanes by logical index, the
identity exchange, the link layer's sequence numbers, replay buffer, credits and partial packets, and link delay. -/
structure PortSt where
  st : Nat := 0
  since : Nat := 0
  awidth : Nat := 0
  peer : Nat := 0
  lanes : List Nat := []
  identOk : List Nat := []
  txq : AMap (List TxPkt) := []
  replay : List Flit := []
  resend : List Flit := []
  nextSeq : Nat := 0
  e : Nat := 0
  acked : Bool := false
  nakAt : Option Nat := none
  lastAck : Nat := 0
  toCount : Nat := 0
  limits : List Nat := []
  consumed : List Nat := [0, 0, 0, 0, 0, 0, 0, 0]
  returned : List Nat := [0, 0, 0, 0, 0, 0, 0, 0]
  lastCum : List Nat := [0, 0, 0, 0, 0, 0, 0, 0]
  freed : List Nat := [0, 0, 0, 0, 0, 0, 0, 0]
  crNext : Nat := 0
  crSent : List Nat := [0, 0, 0, 0, 0, 0, 0, 0]
  crAge : List Nat := [0, 0, 0, 0, 0, 0, 0, 0]
  ackSent : Option Nat := none
  arb : Nat := 0
  lastRsp : Nat := 0
  lastReq : Nat := 0
  part : AMap PartIn := []
  remedy : Option (Nat × Nat) := none
  remedyAt : Nat := 0
  retrainMine : Bool := false
  delays : List Int := []
  tsxEcho : Nat := 0
  tsxRxAt : Nat := 0
  tsxLast : Nat := 0
  txFlits : Nat := 0
  rxFlits : Nat := 0
  rpFlits : Nat := 0
  crStall : Nat := 0
  ordNext : Nat := 0
  slots : Nat := 0
  slotsAt : Nat := 0
  given : AMap Nat := []
  txNum : Nat := 0
  wasLanes : List Nat := []
  deriving DecidableEq, Repr

/-- A lane's training exchange (R484, R485): the latest REQTOG applied, which ACKTOG echoes, the tap report, the corrected
symbols of the window (R505), whether the lane trains as a spare and whether it stands by (R507), whether the lane was reported marginal in this window, and the
own receiver's side: its latest request with its REQTOG, and whether it has finished adapting. -/
structure LaneSt where
  reqtog : Bool := false
  tapstat : Nat := 0
  corr : Nat := 0
  marg : Bool := false
  sparing : Bool := false
  standby : Bool := false
  mytog : Bool := false
  myreq : Nat := 0
  rxdone : Bool := false
  deriving DecidableEq, Repr

/-- The fabric links. -/
structure LinkSt where
  ports : AMap PortSt := []
  lanes : AMap LaneSt := []
  presets : List Nat := []
  lbStarted : Bool := false
  deriving DecidableEq, Repr

/-! ## Twin (13_twin) -/

/-- Twin states (R549, the table of twin states). -/
inductive TwinState where
  | unpaired | pairing | paired | isolated | taking | solo | fenced
  deriving DecidableEq, Repr

/-- An act that waits for protection (R529). -/
inductive Act where
  | adminCpl (func : Nat) (c : ACpl)
  | answer (r : Req) (status d0 : Nat) (res : Bool)
  | grant (lock gseq flags : Nat)
  | turn (q : Nat)
  | cqWrite (cq : Nat)
  | eqWrite (eq : Nat)
  deriving DecidableEq, Repr

/-- The shadow of the twin's state (R528); its window-map entries stand in the own map store at their own numbers, which
`maps` lists (R535). -/
structure Shadow where
  maps : List Nat := []
  regions : AMap Region := []
  locks : AMap Lock := []
  wq : AMap WQ := []
  cq : AMap CQ := []
  eq : AMap EQ := []
  deriving DecidableEq, Repr

/-- A lane of the mirror link: the latest REQTOG applied, the tap report, the ticks of its CRC failures in the last 1,000,000, and the
own receiver's latest request with its REQTOG, whether it has finished adapting, and whether the twin's has, by its RXDONE (R524). -/
structure MLane where
  reqtog : Bool := false
  tapstat : Nat := 0
  fails : List Nat := []
  mytog : Bool := false
  myreq : Nat := 0
  rxdone : Bool := false
  peerDone : Bool := false
  deriving DecidableEq, Repr

/-- The mirror unit: the link state (code of MIR_STAT.LINK) with the tick it was entered and the tick since which it trains,
its lanes, the sequence numbers and the replay of RECORD frames (R526), the pending TWIN_CONFIG, the bulk copy (R534: the SEQ of
the own COPYEND, and whether the twin's was applied), heartbeats (R527), the pair's parameters, the shadow, acts waiting for
protection (each with the SEQ that protects it), how long the twin's d0 links and the own d0 ports have been down (R536, R538),
and the takeover's, the fence's and the alias's ticks. -/
structure MirSt where
  link : Nat := 0
  since : Nat := 0
  trainAt : Nat := 0
  lanes : AMap MLane := []
  txSeq : Nat := 0
  unacked : List MFrame := []
  queue : List MRec := []
  rxSeq : Nat := 0
  rxAny : Bool := false
  nakSent : Bool := false
  lastAck : Nat := 0
  toCount : Nat := 0
  twin : TwinState := .unpaired
  cfg : Option TwinParams := none
  peerCfg : Option TwinParams := none
  cmdAt : Option Nat := none
  copySeq : Option Nat := none
  copyRx : Bool := false
  lastHb : Option Nat := none
  hbCount : Nat := 0
  hbSent : Option Nat := none
  shadow : Shadow := {}
  waits : List (Nat × Act) := []
  d0Down : Option Nat := none
  noD0 : Option Nat := none
  declAt : Nat := 0
  aliasAt : Nat := 0
  installed : Nat := 0
  takeSub : Nat := 0
  handAt : Nat := 0
  aliasedAt : Option Nat := none
  deriving DecidableEq, Repr

/-! ## Time, power, reset (14_time_power_reset) -/

/-- The time-domain fields last received on a port (R554), and the reading at which its GMSEQ last advanced (R556). -/
structure Neighbour where
  gm : Nat := 0xFFFFF
  pps : Bool := false
  locked : Bool := false
  prio : Nat := 0
  steps : Nat := 255
  era : Nat := 0
  eps : Nat := 0
  gmseq : Nat := 0
  adv : Nat := 0
  deriving DecidableEq, Repr

/-- Fabric time (R550): the ticks that have passed, which durations count (R552), the reading and its fraction in 1/65,536
tick, what the neighbours last sent by port (R554), the own GMSEQ and ERA, the consecutive good periods and the tick at which
the latest period was counted (R560), the 1PPS input's good intervals and last edge (R564), the 1PPS output and the tick of
its last rise, and for each alarm the reading over 2^20 at which it last fired (R567). -/
structure TimeSt where
  elapsed : Nat := 0
  now : Nat := 0
  frac : Nat := 0
  nb : AMap Neighbour := []
  gmseq : Nat := 0
  era : Nat := 0
  good : Nat := 0
  periodAt : Nat := 0
  ppsGood : Nat := 0
  ppsLast : Option Nat := none
  ppsOut : Bool := false
  ppsOutAt : Nat := 0
  fired : AMap Nat := []
  deriving DecidableEq, Repr

/-- The phases of power (R569): running, on the way to Standby, in Standby. -/
inductive Power where
  | run | entering | standby
  deriving DecidableEq, Repr

/-- A block reset in progress (R580): its start tick, whether it still waits for idle, and the fault slots whose level-2 action
it is (R601). -/
structure BlkRst where
  since : Nat
  idleWait : Bool
  slots : List Nat := []
  deriving DecidableEq, Repr

/-- A cause of a wake from Standby (R571): the alarms, signal detect with its lane, PERST#. -/
structure Wake where
  alarms : Nat := 0
  sig : Bool := false
  perst : Bool := false
  lane : Nat := 0
  deriving DecidableEq, Repr

/-- A reset that a nonvolatile write pulse holds back (R586): a full or host reset, an FLR of a virtual function, the clearing of VF Enable, a
wake, a block reset. -/
inductive PendReset where
  | perst | wdog | hot | dl | flrPf
  | flrVf (f : Nat)
  | vfOff
  | wake (w : Wake)
  | block (c : Nat)
  deriving DecidableEq, Repr

/-- How far the steward is with the epoch of the present life (R93, R587): the next row has to be written, it has been written, or GEN_EPOCH
holds its value. -/
inductive EpochSt where
  | due | written | loaded
  deriving DecidableEq, Repr

/-- Reset, power and bring-up. `power`, `powerAt` and `pcieOff`: the phase, the tick it was entered, and whether the device has
stopped answering on PCIe (R569). `rails`, `railUp`, `railAt`: the RAILEN outputs, the direction of their sequence and the tick of
its latest step (R637); `wakeHeld`: a wake that waits for them (R639). `perst`: PERST# is asserted. `strapPins`, `straps`: STRAP0
to STRAP3 and what was sampled of them (R650). `blocks`: block resets in progress by code (R580). `wdKick`: the tick at which the
watchdog period began (R579). `nv`: the readable rows of the nonvolatile store, 64 bytes each (R585). `nvRow`: the row being written, with its
bytes, and the resets that wait for the end of its pulse (R586); `nvQ`: rows of a settings record that are to be written after it (R588).
`epoch`: how far the epoch of this life is (R587). `setBad`: copies of the settings whose signature failed at the steward's boot (R622).
`bootCount`, `histNum`, `histAt`, `histQ`: the history, and the number of its next row (R612). `steward`, `booted`, `fullBoot`: the steward runs; it
has loaded the boot values since the last full or host reset; a full reset's boot steps are still due (R590). `hostReset`: a host
reset is in progress (R578). `site`: the record whose boot values are in use. `wdogMsg`: a WATCHDOG message is due. `fw`, `fwBytes`: the
FW_UPDATE in progress and the record it has read. `fwVer`: its version, once it is verified and its rows are being written. `fwWait`: FW_UPDATE
commands taken behind it. `slotSel`: the slot that ACTIVATE chose for the steward's next boot, and `restartAt`: the function and the
completion count after which the steward restarts on it (R592). `paceAt`: the tick at which the latest PACE window ended (R29). `paceLow`, `paceHigh`: consecutive PACE windows below 1,024 at the ceiling and at or above SET + HYS (R34,
R573). `avsFails`, `avsStopped`, `avsAccepted`: the VCORE loop (R575). `cleared`: the device-state tables were cleared and DSTATE
has not been set since. -/
structure RstSt where
  power : Power := .run
  powerAt : Nat := 0
  pcieOff : Bool := false
  rails : List Bool := [false, false, false, false, false]
  railUp : Bool := true
  railAt : Nat := 0
  wakeHeld : Option Wake := none
  perst : Bool := true
  straps : Nat := 0
  strapPins : Nat := 0
  blocks : AMap BlkRst := []
  wdKick : Nat := 0
  nvRow : Option (Nat × List Byte) := none
  nvPending : List PendReset := []
  nv : AMap (List Byte) := []
  nvQ : List (Nat × List Byte) := []
  epoch : EpochSt := .due
  setBad : List Nat := []
  bootCount : Nat := 0
  histNum : Nat := 0
  histAt : Option Nat := none
  histQ : List (List Byte) := []
  steward : Bool := false
  booted : Bool := false
  fullBoot : Bool := true
  hostReset : Bool := false
  site : Option SiteRec := none
  wdogMsg : Bool := false
  fw : Option BCmd := none
  fwBytes : List Byte := []
  fwVer : Option Nat := none
  fwWait : List (BCmd × List Byte) := []
  slotSel : Option Nat := none
  restartAt : Option (Nat × Nat) := none
  paceAt : Nat := 0
  paceLow : Nat := 0
  paceHigh : Nat := 0
  avsFails : Nat := 0
  avsStopped : Bool := false
  avsAccepted : Nat := 0
  cleared : Bool := true
  deriving DecidableEq, Repr

/-! ## Service rings (01_architecture) -/

/-- An entry of a route table (R50): the ring and direction, the alternative, and whether the first is marked failed. -/
structure RouteEnt where
  ring : Nat
  cw : Bool
  altRing : Nat
  altCw : Bool
  failed : Bool := false
  deriving DecidableEq, Repr

/-- The service rings (R50 to R54): whether the steward has filled the route tables, the entries that differ from those it filled
(key 32 × source stop + destination stop), the pairs whose entry is being changed and the flits that wait for that (R51), the flits
on their way, oldest first, and the words corrected at each destination stop (R54). -/
structure RingSt where
  filled : Bool := false
  moved : AMap RouteEnt := []
  stopped : List Nat := []
  waiting : List RingFlit := []
  flits : List RingFlit := []
  corrected : AMap Nat := []
  deriving DecidableEq, Repr

/-! ## Faults, counters, security (15_faults_and_monitoring) -/

/-- A fault message held at its interface (R594, R597). -/
structure FltMsg where
  src : Nat
  code : Nat
  time : Nat
  addr : Nat
  merged : Nat := 0
  deriving DecidableEq, Repr

/-- A message on its way to the log (R611). -/
structure FltLog where
  msg : FltMsg
  timeHi : Nat
  level : Nat
  severe : Bool
  escalated : Bool
  safe : Bool
  deriving DecidableEq, Repr

/-- The fault collector: messages held, the window of each source's count by slot (R600), messages for the steward and how many
it dropped, the retained log by number (R611), and whether the safe state is in force. -/
structure FltSt where
  msgs : List FltMsg := []
  win : AMap Nat := []
  logq : List FltLog := []
  dropped : Nat := 0
  log : List (Nat × FltLog) := []
  logNum : Nat := 0
  safe : Bool := false
  deriving DecidableEq, Repr

/-- A tagged descriptor in flight (R620): its queue, count, the ticks of its stages, the engine that its answer came to (R47), and once
its outcome is known its opcode and status. -/
structure TagRec where
  q : Nat
  cnt : Nat
  engine : Nat
  fetch : Nat
  issue : Nat
  answer : Option Nat := none
  done : Option Nat := none
  op : Nat := 0
  status : Nat := 0
  deriving DecidableEq, Repr

/-- An overflow whose sample names the next descriptor of an engine (R619): the engine, the event's address, and the time. -/
structure Skid where
  engine : Nat
  addr : Nat
  time : Nat
  deriving DecidableEq, Repr

/-- The performance counters beside their registers: the tagging LFSR, countdown and tagged descriptor (R620), the
fabric time at which the bandwidth window began (R621), and by counter the overflows that wait for their sample (R619). -/
structure PmuSt where
  lfsr : Nat := 1
  countdown : Nat := 0
  tagged : Option TagRec := none
  bwAt : Nat := 0
  skid : AMap Skid := []
  deriving DecidableEq, Repr

/-- The fused fields of SEC (17, R661), the running image's MAJOR and MINOR, the fuse write in progress (R623): the values that
MIN and REVOKED take when it is done, and the failed unlock attempts since the last full reset (R595, R626). -/
structure SecSt where
  minVer : Nat := 0
  revoked : Nat := 0
  present : Nat := 0xF
  debugKey : Bool := true
  uid : Nat := 0
  runVersion : Nat := 0
  fuse : Option (Nat × Nat) := none
  fails : Nat := 0
  deriving DecidableEq, Repr

/-! ## Host interface (03_host_interface) -/

/-- An HDM decoder (R116, R118). -/
structure Hdm where
  committed : Bool := false
  err : Bool := false
  base : Nat := 0
  size : Nat := 0
  deriving DecidableEq, Repr

/-- The host interface beside its registers: DL_Active, AER status, BAR bases (key 8 × function + BAR), HDM decoders,
the address and data words of the MSI-X tables (key 8,192 × function + word),
MSI-X vectors whose mask bit is 0 and pending bits (key 4,096 × function + vector), CXL event records by log, the interrupt enable of the CXL mailbox, the site's identifiers and
window capacity, and the ticks at which snapshot groups were last updated (R141, R143). -/
structure HostSt where
  dl : Bool := false
  aer : Nat := 0
  advisory : Nat := 0
  bars : AMap Nat := []
  hdm : List Hdm := [{}, {}, {}, {}]
  msixTab : AMap Nat := []
  msixOpen : AMap Unit := []
  msixFuncMask : AMap Unit := []
  msixPend : AMap Unit := []
  cxlEvents : AMap (List Nat) := []
  subVendor : Nat := 0
  subId : Nat := 0
  winCap : Nat := 0
  accAt : Option Nat := none
  atomicOp : Bool := false
  mailIrq : Bool := false
  vfs : Nat := 0
  snapAt : AMap Nat := []
  deriving DecidableEq, Repr

/-! ## The state -/

/-- The state of the block. `regs` holds every register whose value differs from its reset value, by BAR0 offset (a
VF's admin registers at 2^22 × function + offset); `hostMem` holds the bytes of host memory, ascending, an unlisted byte
reading 0; `out` is what the device has sent; `free` counts the free values used; `pending` is the queue of waiting
commands. -/
structure State where
  regs : AMap Reg
  hostMem : List Host.Cell
  time : TimeSt
  host : HostSt
  qmg : QmgSt
  tgt : TgtSt
  ini : IniSt
  msg : MsgSt
  win : WinSt
  xlt : XltSt
  col : AMap ColCtx
  lck : LckSt
  rte : RteSt
  lnk : LinkSt
  mir : MirSt
  rst : RstSt
  flt : FltSt
  pmu : PmuSt
  sec : SecSt
  ring : RingSt
  out : List Emit
  free : Nat
  pending : List Instr
  deriving DecidableEq, Repr

/-- The state right after a power-on reset (R577, R661): every register at its reset value, every table empty, nothing
sent, no command waiting; no request leaves within the first 10 µs (R94). -/
def State.reset : State where
  regs := []
  hostMem := []
  time := {}
  host := {}
  qmg := {}
  tgt := {}
  ini := { quietUntil := 10000 }
  msg := {}
  win := {}
  xlt := {}
  col := []
  lck := {}
  rte := {}
  lnk := {}
  mir := {}
  rst := {}
  flt := {}
  pmu := {}
  sec := {}
  ring := {}
  out := []
  free := 0
  pending := []

/-- Why the block stops with a fault. No rule of the spec stops the block: each error is a status, a latch or a message
that the block goes on from. -/
inductive Fault where
  /-- Raised by no command. Safe: it never hides an effect. -/
  | never
  deriving DecidableEq, Repr

/-- Why a command has no meaning here. -/
inductive Refusal where
  /-- Raised by an arm of `exec` whose command is not modelled. Safe: the model stops where the device goes on. -/
  | notModelled (mnemonic : String)
  deriving DecidableEq, Repr

end Sys2Proof.Machine
end

