-- ==== Sys2Proof/Machine/Ops.lean ====
section
/-! DEFINITION. The named operations over registers, host memory, the outputs, fault messages, events, completions and
MSI-X, which every meaning is written with. -/

namespace Sys2Proof

/-! ## The code of a mirror frame (R525, R528) -/

/-- One byte of CRC-32C, the polynomial 0x1EDC_6F41 taken bit-reversed (R525). -/
def crc32cByte (c : Nat) (x : Byte) : Nat :=
  [0, 1, 2, 3, 4, 5, 6, 7].foldl (fun a _ => (a / 2) ^^^ (if a % 2 = 1 then 0x82F63B78 else 0)) (c ^^^ x.toNat)

/-- CRC-32C (R525). PRESUMED (log 73): reflected, with initial value and final inversion of all ones, as the name has it. -/
def crc32c (l : List Byte) : Nat := l.foldl crc32cByte 0xFFFFFFFF ^^^ 0xFFFFFFFF

/-- A record's bytes: the header of R528, then its content. -/
def MRec.bytes (r : MRec) : List Byte := leBytes 1 r.rtype ++ leBytes 1 (r.body.length + 4) ++ zeros 2 ++ r.body

/-- Bytes 0 to 251 of a mirror frame (R525). -/
def MFrame.head (f : MFrame) : List Byte :=
  (leBytes 1 f.kind ++ zeros 1 ++ leBytes 2 f.seq ++ leBytes 2 f.ackseq ++ leBytes 1 (b2n f.ackv) ++ zeros 1 ++
    (f.recs.flatMap MRec.bytes ++ f.hb ++ zeros 244).take 244)

/-- The CRC of a frame written (R525). -/
def MFrame.seal (f : MFrame) : MFrame := { f with crc := crc32c f.head }

/-- A frame passes its CRC (R526). -/
def MFrame.crcOk (f : MFrame) : Bool := f.crc == crc32c f.head

end Sys2Proof

namespace Sys2Proof.Machine

/-! ## Registers -/

/-- A register's stored value: its reset value when it is not listed. -/
def State.rdRaw (s : State) (r : RegName) (i : Nat := 0) : Nat :=
  match mget s.regs (r.addr i) with
  | some v => v.toNat
  | none => r.resetAt i

/-- A register's stored value replaced, the map kept canonical. -/
def State.wrRaw (s : State) (r : RegName) (i v : Nat) : State :=
  { s with regs :=
      if v % 2 ^ 32 = r.resetAt i then mdel s.regs (r.addr i) else mset s.regs (r.addr i) (BitVec.ofNat 32 v) }

/-- A field's stored value. -/
def State.fld (s : State) (f : Fld) (i : Nat := 0) : Nat := bits (s.rdRaw f.reg i) f.lo f.w

/-- A field's stored value replaced, whatever its access code: the device's own update. -/
def State.setFld (s : State) (f : Fld) (v : Nat) (i : Nat := 0) : State :=
  s.wrRaw f.reg i (putBits (s.rdRaw f.reg i) f.lo f.w v)

/-- A one-bit field as a truth value. -/
def State.flag (s : State) (f : Fld) (i : Nat := 0) : Bool := s.fld f i == 1

/-- An event counter's step, saturating at the field's maximum (R135). -/
def State.bump (s : State) (f : Fld) (i : Nat := 0) (n : Nat := 1) : State :=
  s.setFld f (satAdd (2 ^ f.w - 1) (s.fld f i) n) i

/-- A fault latch set (R15). -/
def State.latch (s : State) (f : Fld) (i : Nat := 0) : State := s.setFld f 1 i

/-- The registers whose key meets `p` returned to their reset values. -/
def State.resetRegs (s : State) (p : Nat → Bool) : State := { s with regs := s.regs.filter (fun kv => !p kv.1) }

/-- The key of the admin queue register `r` of function `f` (offset of a VF's copy under 04, the admin queue). -/
def aqKey (f : Nat) (r : RegName) : Nat :=
  if f = 0 then r.addr 0 else 2 ^ 22 * f + 0x100 + (r.addr 0 - 0x2040)

/-- The stored value of an admin queue register of a function. -/
def State.rdAq (s : State) (f : Nat) (r : RegName) : Nat :=
  match mget s.regs (aqKey f r) with
  | some v => v.toNat
  | none => r.resetAt 0

/-- The stored value of an admin queue register of a function replaced. -/
def State.wrAq (s : State) (f : Nat) (r : RegName) (v : Nat) : State :=
  { s with regs :=
      if v % 2 ^ 32 = r.resetAt 0 then mdel s.regs (aqKey f r) else mset s.regs (aqKey f r) (BitVec.ofNat 32 v) }

/-- A field of an admin queue register of a function. -/
def State.fldAq (s : State) (f : Nat) (g : Fld) : Nat := bits (s.rdAq f g.reg) g.lo g.w

/-- A field of an admin queue register of a function replaced. -/
def State.setFldAq (s : State) (f : Nat) (g : Fld) (v : Nat) : State :=
  s.wrAq f g.reg (putBits (s.rdAq f g.reg) g.lo g.w v)

/-! ## Readiness -/

/-- GEN_READY.HIF. -/
def State.hif (s : State) : Bool := s.flag .GEN_READY_HIF
/-- GEN_READY.DSTATE. -/
def State.dstate (s : State) : Bool := s.flag .GEN_READY_DSTATE
/-- GEN_READY.TIME. -/
def State.timeLocked (s : State) : Bool := s.flag .GEN_READY_TIME
/-- GEN_READY.CTXPOOL. -/
def State.ctxpool (s : State) : Bool := s.flag .GEN_READY_CTXPOOL
/-- GEN_READY.NCC. -/
def State.ncc (s : State) : Bool := s.flag .GEN_READY_NCC
/-- Bit c of GEN_READYCL.CLUSTER. -/
def State.clusterReady (s : State) (c : Nat) : Bool := bitAt (s.fld .GEN_READYCL_CLUSTER) c
/-- Bit b of GEN_READY.LB. -/
def State.lbReady (s : State) (b : Nat) : Bool := bitAt (s.fld .GEN_READY_LB) b
/-- At least one CLUSTER bit is 1. -/
def State.anyCluster (s : State) : Bool := s.fld .GEN_READYCL_CLUSTER != 0
/-- The target service is ready: DSTATE and one CLUSTER bit (the dependency table of 01). -/
def State.targetReady (s : State) : Bool := s.dstate && s.anyCluster
/-- DMA writes are stopped (R609). -/
def State.dmaStop (s : State) : Bool := s.flag .HIF_STATUS_DMASTOP

/-- Bit `i` of a field set or cleared. -/
def State.setBit (s : State) (f : Fld) (i : Nat) (on : Bool) (j : Nat := 0) : State :=
  s.setFld f (putBits (s.fld f j) i 1 (b2n on)) j

/-! ## Coordinates (02_coordinates) -/

/-- GEN_COORD.COORD. -/
def State.own (s : State) : Nat := s.fld .GEN_COORD_COORD
/-- GEN_ALIAS.COORD. -/
def State.alias_ (s : State) : Nat := s.fld .GEN_ALIAS_COORD
/-- The size of dimension `k` of a packed shape. -/
def shapeDim (sh k : Nat) : Nat := bits sh (8 * k) 5
/-- The size of dimension `k` in GEN_SHAPE. -/
def State.dim (s : State) (k : Nat) : Nat := shapeDim (s.rdRaw .GEN_SHAPE) k

/-- A packed shape is legal: each size is 1 to 18 (R71), every dimension above one of size 1 has size 1 (R72), and the reserved bits
are 0 (R16). -/
def shapeOk (sh : Nat) : Bool :=
  let n (k : Nat) : Nat := shapeDim sh k
  [0, 1, 2, 3].all (fun k => decide (1 ≤ n k) && decide (n k ≤ 18)) && [0, 1, 2].all (fun k => n k != 1 || n (k + 1) == 1) &&
  sh == n 0 + 2 ^ 8 * n 1 + 2 ^ 16 * n 2 + 2 ^ 24 * n 3

/-- A coordinate is valid in a shape (R73). -/
def validIn (sh c : Nat) : Bool :=
  decide (c < 2 ^ 20) && decide (digit c 0 < shapeDim sh 0) && decide (digit c 1 < shapeDim sh 1) &&
  decide (digit c 2 < shapeDim sh 2) && decide (digit c 3 < shapeDim sh 3)

/-- A coordinate is valid in the machine (R73). -/
def State.valid (s : State) (c : Nat) : Bool := validIn (s.rdRaw .GEN_SHAPE) c

/-- The coordinate is this device's own or its alias (R56, R81). -/
def State.isLocal (s : State) (c : Nat) : Bool := c == s.own || (s.alias_ != nullCoord && c == s.alias_)

/-- The coordinate is the alias that this device holds (R96). -/
def State.isAlias (s : State) (c : Nat) : Bool := s.alias_ != nullCoord && c == s.alias_ && c != s.own

/-- Two coordinates lie in one cell: their d3, d2 and d1 digits are equal. -/
def sameCell (a b : Nat) : Bool := a / 32 == b / 32

/-- The number of a destination cell's congestion context (05, congestion control). -/
def cellNum (c : Nat) : Nat := digit c 3 * 324 + digit c 2 * 18 + digit c 1

/-! ## Time -/

/-- Ticks that have passed: what durations count (R13, R552). -/
def State.tick (s : State) : Nat := s.time.elapsed
/-- The reading of fabric time (R550). -/
def State.now (s : State) : Nat := s.time.now

/-- A snapshot group updated, at most once per 1,000 ticks (R140, R141): `seq` is its SEQ field and `upd` writes the other
registers. DESIGN CHOICE (log 68): an update that falls due within 1,000 ticks of the latest is dropped and not made later, and a reset of
the group's block forgets the tick of the latest (`State.blockRegs`). -/
def State.snap (s : State) (seq : Fld) (i : Nat) (upd : State → State) : State :=
  let key := seq.reg.addr i
  match mget s.host.snapAt key with
  | some t => if s.tick < t + 1000 then s else
      let s1 := upd s
      let s2 := s1.setFld seq ((s.fld seq i + 1) % 2 ^ 16) i
      { s2 with host := { s2.host with snapAt := mset s2.host.snapAt key s.tick } }
  | none =>
      let s1 := upd s
      let s2 := s1.setFld seq ((s.fld seq i + 1) % 2 ^ 16) i
      { s2 with host := { s2.host with snapAt := mset s2.host.snapAt key s.tick } }

/-! ## Outputs and free values -/

/-- Something sent. -/
def State.emit (s : State) (e : Emit) : State := { s with out := s.out ++ [e] }

/-- The next free value's number, and the state with the counter advanced. -/
def State.fresh (s : State) : Nat × State := (s.free, { s with free := s.free + 1 })

/-! ## Host memory -/

/-- One byte of host memory; a byte that nothing has written reads 0. -/
def memGet : List Host.Cell → Nat → Byte
  | [], _ => 0
  | (k', v) :: t, k => if k' = k then v else if k < k' then 0 else memGet t k

/-- One byte written; writing 0 removes the entry, so that the list stays canonical. -/
def memPut (m : List Host.Cell) (k : Nat) (v : Byte) : List Host.Cell :=
  if v = 0 then mdel m k else mset m k v

/-- The canonical form of host memory: addresses rise strictly, and no byte listed is 0. -/
def Memory.wf (m : List Host.Cell) : Bool := decide (mwf m) && m.all (fun c => c.2 != 0)

/-- Bytes written from an address upward, addresses modulo 2^64. -/
def memWrite : List Host.Cell → Nat → List Byte → List Host.Cell
  | m, _, [] => m
  | m, a, b :: t => memWrite (memPut m (a % 2 ^ 64) b) (a + 1) t

/-- `n` bytes read from an address upward. -/
def memRead (m : List Host.Cell) : Nat → Nat → List Byte
  | _, 0 => []
  | a, n + 1 => memGet m (a % 2 ^ 64) :: memRead m (a + 1) n

/-- One byte of host memory, as the model reads it. -/
def State.byte (s : State) (a : Nat) : Byte := memGet s.hostMem a
/-- `n` bytes of host memory. -/
def State.read (s : State) (a n : Nat) : List Byte := memRead s.hostMem a n
/-- Bytes written to host memory in the posted stream. -/
def State.write (s : State) (a : Nat) (l : List Byte) : State := { s with hostMem := memWrite s.hostMem a l }
/-- A read of host memory returned with poison (HIF_FLT.POISONRX). -/
def State.poisonRx (s : State) (rd : ReadStatus) : State := if rd = .poison then s.latch .HIF_FLT_POISONRX else s
/-- What the host's processors have stored before a doorbell. -/
def State.hostStores (s : State) (l : List Host.Cell) : State :=
  l.foldl (fun t c => { t with hostMem := memPut t.hostMem (c.1 % 2 ^ 64) c.2 }) s

/-! ## Updates of tables -/

/-- A work queue's record; the default before it is configured. -/
def State.wq (s : State) (q : Nat) : WQ := mgetD s.qmg.wq q {}
/-- A work queue's record changed. -/
def State.modWq (s : State) (q : Nat) (f : WQ → WQ) : State :=
  { s with qmg := { s.qmg with wq := mset s.qmg.wq q (f (s.wq q)) } }
/-- A completion queue's record. -/
def State.cq (s : State) (c : Nat) : CQ := mgetD s.qmg.cq c {}
/-- A completion queue's record changed. -/
def State.modCq (s : State) (c : Nat) (f : CQ → CQ) : State :=
  { s with qmg := { s.qmg with cq := mset s.qmg.cq c (f (s.cq c)) } }
/-- An event queue's record. -/
def State.eq (s : State) (e : Nat) : EQ := mgetD s.qmg.eq e {}
/-- An event queue's record changed. -/
def State.modEq (s : State) (e : Nat) (f : EQ → EQ) : State :=
  { s with qmg := { s.qmg with eq := mset s.qmg.eq e (f (s.eq e)) } }
/-- An admin queue's record. -/
def State.aq (s : State) (f : Nat) : AdminQ := mgetD s.qmg.aq f {}
/-- An admin queue's record changed. -/
def State.modAq (s : State) (f : Nat) (g : AdminQ → AdminQ) : State :=
  { s with qmg := { s.qmg with aq := mset s.qmg.aq f (g (s.aq f)) } }
/-- A port's record. -/
def State.port (s : State) (p : Nat) : PortSt := mgetD s.lnk.ports p {}
/-- A port's record changed. -/
def State.modPort (s : State) (p : Nat) (f : PortSt → PortSt) : State :=
  { s with lnk := { s.lnk with ports := mset s.lnk.ports p (f (s.port p)) } }
/-- A collective context; FREE when not listed. -/
def State.ctx (s : State) (k : Nat) : ColCtx := mgetD s.col k {}
/-- A collective context changed. -/
def State.modCtx (s : State) (k : Nat) (f : ColCtx → ColCtx) : State := { s with col := mset s.col k (f (s.ctx k)) }

/-! ## Ownership of queues (R109, R112) -/

/-- Numbers from `a` upward, `n` of them. -/
def numsFrom : Nat → Nat → List Nat
  | _, 0 => []
  | a, n + 1 => a :: numsFrom (a + 1) n

/-- The VF whose range [base, base + count) holds `n`, or the PF. -/
def State.ownerBy (s : State) (base cnt : Fld) (n : Nat) : Nat :=
  match (numsFrom 1 63).find? (fun v => decide (s.fld base v ≤ n) && decide (n < s.fld base v + s.fld cnt v)) with
  | some v => v
  | none => 0

/-- The function that owns a work queue. -/
def State.wqOwner (s : State) (q : Nat) : Nat := s.ownerBy .QMG_VFWQ_BASE .QMG_VFWQ_COUNT q
/-- The function that owns a completion queue. -/
def State.cqOwner (s : State) (c : Nat) : Nat := s.ownerBy .QMG_VFCQ_BASE .QMG_VFCQ_COUNT c
/-- The function that owns an event queue. -/
def State.eqOwner (s : State) (e : Nat) : Nat := s.ownerBy .QMG_VFEQ_BASE .QMG_VFEQ_COUNT e

/-- The number of a queue local to a function (R109). -/
def State.localNum (s : State) (base : Fld) (f n : Nat) : Nat := if f = 0 then n else n - s.fld base f

/-- The global number of a function's local queue, if the function owns it (R109, R112). -/
def State.globalNum (s : State) (base cnt : Fld) (limit f n : Nat) : Option Nat :=
  if f = 0 then (if n < limit ∧ s.ownerBy base cnt n = 0 then some n else none)
  else if n < s.fld cnt f then some (s.fld base f + n) else none

/-- The work queue that function `f` calls `n`. -/
def State.wqOf (s : State) (f n : Nat) : Option Nat := s.globalNum .QMG_VFWQ_BASE .QMG_VFWQ_COUNT 262144 f n
/-- The completion queue that function `f` calls `n`. -/
def State.cqOf (s : State) (f n : Nat) : Option Nat := s.globalNum .QMG_VFCQ_BASE .QMG_VFCQ_COUNT 65536 f n
/-- The event queue that function `f` calls `n`. -/
def State.eqOf (s : State) (f n : Nat) : Option Nat := s.globalNum .QMG_VFEQ_BASE .QMG_VFEQ_COUNT 2048 f n

/-! ## MSI-X (R121, R675) -/

/-- The key of a vector of a function. -/
def vecKey (f v : Nat) : Nat := 4096 * f + v

/-- A vector is masked: its own mask bit, or its function's. -/
def State.vecMasked (s : State) (f v : Nat) : Bool :=
  (mget s.host.msixOpen (vecKey f v)).isNone || (mget s.host.msixFuncMask f).isSome

/-- A word of a function's MSI-X table. -/
def State.msixWord (s : State) (f w : Nat) : Nat := mgetD s.host.msixTab (8192 * f + w) 0

/-- The message of a vector sent. -/
def State.msixSend (s : State) (f v : Nat) : State :=
  s.emit (.msix f v (s.msixWord f (4 * v) + 2 ^ 32 * s.msixWord f (4 * v + 1)) (s.msixWord f (4 * v + 2)))

/-- An MSI-X message falls due: sent, or its pending bit set while it is masked or DMA writes are stopped. -/
def State.msix (s : State) (f v : Nat) : State :=
  if s.vecMasked f v || s.dmaStop then
    { s with host := { s.host with msixPend := mset s.host.msixPend (vecKey f v) () } }
  else s.msixSend f v

/-- The pending messages that are no longer masked are sent (R121, R610). -/
def State.msixFlush (s : State) : State :=
  s.host.msixPend.foldl (fun t kv =>
    let f := kv.1 / 4096
    let v := kv.1 % 4096
    if t.vecMasked f v || t.dmaStop then t
    else { t.msixSend f v with host := { t.host with msixPend := mdel t.host.msixPend kv.1 } }) s

/-! ## Fault messages (R593 to R599) -/

/-- Messages of a source held at its interface. -/
def heldOf (l : List FltMsg) (src : Nat) : Nat := (l.filter (fun m => m.src == src)).length

/-- The latest held message of a source takes `n` further events (R597). -/
def mergeLast (src time addr : Nat) (l : List FltMsg) (n : Nat := 1) : List FltMsg :=
  match l with
  | [] => []
  | m :: t =>
    if m.src = src ∧ heldOf t src = 0 ∧ n ≠ 0 then { m with time := time, addr := addr, merged := m.merged + n } :: t
    else m :: mergeLast src time addr t n

/-- A fault message is sent towards the collector: `code` is CLASS × 4,096 + KIND (R595). -/
def State.raise (s : State) (src code addr : Nat) : State :=
  let t := s.now % 2 ^ 32
  if heldOf s.flt.msgs src < 4 then
    { s with flt := { s.flt with msgs := s.flt.msgs ++ [{ src := src, code := code, time := t, addr := addr }] } }
  else { s with flt := { s.flt with msgs := mergeLast src t addr s.flt.msgs } }

/-- The source ID of a peer (R596): level 4 + k for the highest dimension k in which it differs from this device. -/
def State.peerSrc (s : State) (c : Nat) : Nat :=
  let k := if digit c 3 ≠ digit s.own 3 then 3 else if digit c 2 ≠ digit s.own 2 then 2
    else if digit c 1 ≠ digit s.own 1 then 1 else 0
  (4 + k) * 512 + digit c k

/-- The slot of a source ID (R599). -/
def slotOf (src : Nat) : Nat :=
  let lv := src / 512
  let u := src % 512
  match lv with
  | 0 => u
  | 1 => 72 + u
  | 2 => 144 + u
  | 3 => 432 + u
  | _ => 476 + 18 * (lv - 4) + u

/-! ## Performance counters (R614 to R619) -/

/-- A countable event (R615): its code, increment, what it is charged to (function, work queue, engine, and the count of
the descriptor), its traffic class and its address; whether that is the PF's admin queue, and for an event of a descriptor that is
charged to no engine the engine that issued it. -/
structure PmuEv where
  code : Nat
  n : Nat := 1
  func : Option Nat := none
  queue : Option Nat := none
  engine : Option Nat := none
  cnt : Option Nat := none
  tclass : Option Nat := none
  addr : Option Nat := none
  sup : Bool := false
  by_ : Option Nat := none
  deriving DecidableEq, Repr

/-- The privilege class of an event (R616): 0 SUP, 1 USER, 2 VF, 3 OTHER. -/
def PmuEv.cls (e : PmuEv) : Nat :=
  if e.sup then 0 else match e.func with
  | none => 3
  | some 0 => 1
  | some _ => 2

/-- A test on an attribute: passed when it is disabled, failed when the event lacks the attribute. -/
def testOpt (on : Bool) (a : Option Nat) (p : Nat → Bool) : Bool :=
  !on || (match a with | some x => p x | none => false)

/-- Every enabled test of PMU_FILT passes (R617); `i` is 8 × group + counter. -/
def State.pmuPass (s : State) (i : Nat) (e : PmuEv) : Bool :=
  let g := i / 8
  let base := s.rdRaw .PMU_ARBASELO g + 2 ^ 32 * s.rdRaw .PMU_ARBASEHI g
  let lim := s.rdRaw .PMU_ARLIMLO g + 2 ^ 32 * s.rdRaw .PMU_ARLIMHI g
  bitAt (s.fld .PMU_FILT_PRIV i) e.cls &&
  testOpt (s.fld .PMU_FILT_TCLASS i != 0xFF) e.tclass (bitAt (s.fld .PMU_FILT_TCLASS i)) &&
  testOpt (bitAt (s.rdRaw .PMU_FILT i) 12) e.addr (fun a => decide (base ≤ a) && decide (a ≤ lim)) &&
  testOpt (bitAt (s.rdRaw .PMU_FILT i) 13) e.func (fun f => f == s.fld .PMU_FILT_FUNC i) &&
  testOpt (bitAt (s.rdRaw .PMU_FILT i) 14) e.queue
    (fun q => Nat.land (Nat.xor q (s.fld .PMU_FQUEUE_QUEUE i)) (s.fld .PMU_FQMASK_MASK i) == 0) &&
  testOpt (bitAt (s.rdRaw .PMU_FILT i) 15) e.engine (fun x => x == s.fld .PMU_FILT_ENGINE i)

/-- The value of a programmable counter. -/
def State.pmuVal (s : State) (i : Nat) : Nat := s.rdRaw .PMU_CNTLO i + 2 ^ 32 * bits (s.rdRaw .PMU_CNTHI i) 0 16
/-- A programmable counter set. -/
def State.setPmuVal (s : State) (i v : Nat) : State :=
  (s.wrRaw .PMU_CNTLO i (v % 2 ^ 32)).wrRaw .PMU_CNTHI i (v / 2 ^ 32 % 2 ^ 16)
/-- The reload value of a counter. -/
def State.pmuRld (s : State) (i : Nat) : Nat := s.rdRaw .PMU_RLDLO i + 2 ^ 32 * bits (s.rdRaw .PMU_RLDHI i) 0 16

/-- The sample of counter `i`'s overflow (R619): the event's address, the time of the overflow, and the descriptor (queue, engine, count),
or VALID 0 for an event charged to no descriptor. -/
def State.pmuPut (s : State) (i addr time : Nat) (d : Option (Nat × Nat × Nat)) : State :=
  let g := i / 8
  s.snap .PMU_SMP0_SEQ g (fun t =>
    let t1 := ((t.wrRaw .PMU_SMP3 g (addr % 2 ^ 32)).wrRaw .PMU_SMP4 g (addr / 2 ^ 32)).wrRaw .PMU_SMP5 g (time % 2 ^ 32)
    let t2 := t1.setFld .PMU_SMP0_CNT (i % 8) g
    match d with
    | some (q, en, c) =>
      ((((t2.setFld .PMU_SMP0_VALID 1 g).setFld .PMU_SMP0_FUNC (s.wqOwner q) g).setFld .PMU_SMP1_WQ q g).setFld
        .PMU_SMP1_ENGINE en g).wrRaw .PMU_SMP2 g c
    | none => t2.setFld .PMU_SMP0_VALID 0 g)

/-- The sample that an overflow makes (R619): the descriptor that caused it; for an event of an engine with no descriptor, the next one
that the engine issues (`State.skidTake`). DEDUCED (log 78): an event that the table charges to no engine and that is of no descriptor
records VALID 0. -/
def State.pmuSample (s : State) (i : Nat) (e : PmuEv) : State :=
  let a := e.addr.getD 0
  match e.engine.orElse (fun _ => e.by_), e.queue, e.cnt with
  | some en, some q, some c => s.pmuPut i a s.now (some (q, en, c))
  | some en, _, _ => { s with pmu := { s.pmu with skid := mset s.pmu.skid i { engine := en, addr := a, time := s.now } } }
  | none, _, _ => s.pmuPut i a s.now none

/-- An engine stands at the boundary of a descriptor that it issues: the overflows that wait for it are sampled (R619). -/
def State.skidTake (s : State) (q en cnt : Nat) : State :=
  (s.pmu.skid.filter (fun kv => kv.2.engine == en)).foldl (fun t kv => t.pmuPut kv.1 kv.2.addr kv.2.time (some (q, en, cnt)))
    { s with pmu := { s.pmu with skid := s.pmu.skid.filter (fun kv => kv.2.engine != en) } }

/-- `n` messages of one cause at one instant: beyond five, each only merges into the latest held one (R597). -/
def State.raiseN (s : State) (src code addr n : Nat) : State :=
  let s1 := (numsFrom 0 (min n 5)).foldl (fun t _ => t.raise src code addr) s
  { s1 with flt := { s1.flt with msgs := mergeLast src (s.now % 2 ^ 32) addr s1.flt.msgs (n - 5) } }

/-- What `n` overflows at one instant do beside the reload (R618). -/
def State.pmuOverflow (s : State) (i : Nat) (e : PmuEv) (n : Nat) : State :=
  let g := i / 8
  let s1 := (s.setBit .PMU_GSTAT_OVF (i % 8) true g).bump .PMU_OVFCNT_COUNT i n
  let s2 := if s.flag .PMU_EVSEL_OVFINT i then s1.raiseN 0x61F 0x0001 i n else s1
  let s3 := if s.flag .PMU_GCTL_FREEZE g then s2.setFld .PMU_GSTAT_FROZEN 1 g else s2
  if s.flag .PMU_EVSEL_SMP i then s3.pmuSample i e else s3

/-- One counter meets one event (R615, R618): it passes 2^48 - 1 once, and again for each period of the reload value that the increment
still holds. -/
def State.pmuOne (s : State) (i : Nat) (e : PmuEv) : State :=
  if s.flag .PMU_GCTL_EN (i / 8) && !s.flag .PMU_GSTAT_FROZEN (i / 8) && s.fld .PMU_EVSEL_EVENT i == e.code && s.pmuPass i e then
    let v := s.pmuVal i + e.n
    let r := if s.flag .PMU_EVSEL_RLDEN i then s.pmuRld i else 0
    if v < 2 ^ 48 then s.setPmuVal i v
    else (s.setPmuVal i (r + (v - 2 ^ 48) % (2 ^ 48 - r))).pmuOverflow i e (1 + (v - 2 ^ 48) / (2 ^ 48 - r))
  else s

/-- Every programmable counter meets an event. A group counts only when its EN is 1, so a state that lists no register of
a group counts nothing. -/
def State.pmu_ (s : State) (e : PmuEv) : State :=
  if s.regs.any (fun kv => decide (0x21000 ≤ kv.1) && decide (kv.1 < 0x26000)) then
    (numsFrom 0 144).foldl (fun t i => t.pmuOne i e) s
  else s

/-- An event charged to a work queue. -/
def State.pmuQ (s : State) (code n q : Nat) (engine cnt tclass addr by_ : Option Nat := none) : State :=
  s.pmu_ { code := code, n := n, func := some (s.wqOwner q), queue := some q, engine := engine, cnt := cnt,
           tclass := tclass, addr := addr, by_ := by_ }

/-- The completion of a tagged descriptor is written, or due with SIG 0: its record replaces the PMU_TAG group (R620). -/
def State.pmuTagWrite (s : State) (q cnt : Nat) : State :=
  match s.pmu.tagged with
  | some r =>
    if r.q = q ∧ r.cnt = cnt then
      let s1 := s.snap .PMU_TAG0_SEQ 0 (fun t =>
        let t1 := (t.setFld .PMU_TAG0_OPCODE r.op).setFld .PMU_TAG0_STATUS r.status
        let t2 := (t1.setFld .PMU_TAG1_WQ q).setFld .PMU_TAG1_FUNC (s.wqOwner q)
        let t3 := ((t2.wrRaw .PMU_TAG2 0 cnt).setFld .PMU_TAG3_ISSUEENG r.engine).setFld .PMU_TAG3_DONEENG (r.done.getD r.engine)
        let t4 := (t3.wrRaw .PMU_TAG4 0 (r.fetch % 2 ^ 32)).wrRaw .PMU_TAG5 0 ((r.issue - r.fetch) % 2 ^ 32)
        (t4.wrRaw .PMU_TAG6 0 (match r.answer with | some a => (a - r.issue) % 2 ^ 32 | none => 0)).wrRaw .PMU_TAG7 0
          ((s.now - r.issue) % 2 ^ 32))
      { s1 with pmu := { s1.pmu with tagged := none } }
    else s
  | none => s

/-- The tagged descriptors of a queue whose entries are cleared without completion are in flight no longer (R620). -/
def State.pmuTagDrop (s : State) (q : Nat) : State :=
  match s.pmu.tagged with
  | some r => if r.q = q then { s with pmu := { s.pmu with tagged := none } } else s
  | none => s

/-! ## Mirrored ranges (R528, R535) -/

/-- The twin's states in which changes are mirrored (R528). -/
def State.mirroring (s : State) : Bool :=
  match s.mir.twin with
  | .pairing => true
  | .paired => true
  | _ => false

/-- An act that must wait until every change made so far is protected (R529): put aside, or `now` when nothing waits. -/
def State.whenProtected (s : State) (a : Act) (now : State → State) : State :=
  if s.mirroring && !(s.mir.queue.isEmpty && s.mir.unacked.isEmpty) then
    { s with mir := { s.mir with waits := s.mir.waits ++ [((s.mir.txSeq + s.mir.queue.length + 2 ^ 16 - 1) % 2 ^ 16, a)] } }
  else now s

/-- A number lies in [base, base + count). -/
def inRange (base count n : Nat) : Bool := decide (base ≤ n) && decide (n < base + count)

/-- A work queue lies in the own mirrored range of a SHARED pair. -/
def State.mirWq (s : State) (q : Nat) : Bool :=
  s.mirroring && (match s.mir.cfg with | some c => inRange c.wqBase c.wqCount q | none => false)
/-- A completion queue lies in the own mirrored range. -/
def State.mirCq (s : State) (n : Nat) : Bool :=
  s.mirroring && (match s.mir.cfg with | some c => inRange c.cqBase c.cqCount n | none => false)
/-- An event queue lies in the own mirrored range. -/
def State.mirEq (s : State) (n : Nat) : Bool :=
  s.mirroring && (match s.mir.cfg with | some c => inRange c.eqBase c.eqCount n | none => false)
/-- A window-map entry lies in the own mirrored range. -/
def State.mirMap (s : State) (n : Nat) : Bool :=
  s.mirroring && (match s.mir.cfg with | some c => inRange c.mapBase c.mapCount n | none => false)

/-- The mirror link carries frames: ACTIVE or HALF (R524). -/
def State.mirUp (s : State) : Bool := s.mir.link == 5 || s.mir.link == 6

/-- A mirror frame with the acknowledgement fields of the moment and its CRC (R525). -/
def State.mframe (s : State) (kind seq : Nat) (recs : List MRec) (hb : List Byte) : MFrame :=
  ({ kind := kind, seq := seq, ackseq := s.mir.rxSeq, ackv := s.mir.rxAny, recs := recs, hb := hb } : MFrame).seal

/-- Waiting records sent in order, one RECORD frame each, while the link carries frames and fewer than 1,024 are
unacknowledged (R526). -/
def mirPumpAux : Nat → State → State
  | 0, s => s
  | fuel + 1, s =>
    if s.mirUp && decide (s.mir.unacked.length < 1024) then
      match s.mir.queue with
      | [] => s
      | r :: t =>
        let f := s.mframe 1 s.mir.txSeq [r] []
        mirPumpAux fuel ({ s.emit (.mirror f) with
          mir := { s.mir with queue := t, unacked := s.mir.unacked ++ [f], txSeq := (s.mir.txSeq + 1) % 2 ^ 16,
                              lastAck := if s.mir.unacked = [] then s.tick else s.mir.lastAck } }.bump .MIR_TXREC_COUNT)
    else s

/-- Waiting records sent; the mirror unit sends no new one while its block reset waits for it to be idle (R580). -/
def State.mirPump (s : State) : State := if (mget s.rst.blocks 0x24).isSome then s else mirPumpAux s.mir.queue.length s

/-- A mirror record of a change is queued for the twin, and sent when the link allows, while changes are mirrored (R528). -/
def State.record (s : State) (rtype : Nat) (body : List Byte) : State :=
  if s.mirroring then
    ({ s with mir := { s.mir with queue := s.mir.queue ++ [⟨rtype, body⟩] } } : State).mirPump
  else s

/-- The SEQ of the frame that carries the latest record: a change made so far is protected once an ACKSEQ covers it. -/
def State.protSeq (s : State) : Nat := (s.mir.txSeq + s.mir.queue.length + 2 ^ 16 - 1) % 2 ^ 16

/-- Every change made so far is protected: no record waits and no RECORD frame is unacknowledged (R528). -/
def State.allProtected (s : State) : Bool := s.mir.queue.isEmpty && s.mir.unacked.isEmpty

/-! ## Events (R167 to R170, R664) -/

/-- The PHASE or MARK expected at count `c` of a ring of 2^k entries (R146). -/
def markOf (k c : Nat) : Nat := if bitAt c k then 0 else 1

/-- The 16 bytes of an event entry (R167). -/
def Ev.bytes (e : Ev) (phase : Nat) : List Byte :=
  leBytes 1 e.type ++ leBytes 1 e.sub ++ zeros 2 ++ leBytes 4 e.object ++ leBytes 4 e.data ++
  leBytes 4 (e.time % 2 ^ 31 + phase * 2 ^ 31)

/-- Entries of a ring between HEAD and the producer: the ring has room for one more (R164). -/
def hasRoom (prod head log2 : Nat) : Bool := decide (sub32 prod head < 2 ^ log2)

/-- One event entry written at the producer count (R164), and the interrupt that ARM asked for (R170). -/
def State.eqWrite (s : State) (n : Nat) (e : Ev) : State :=
  let q := s.eq n
  let a := q.base + (q.prod % 2 ^ q.log2) * 16
  let s1 := s.write a (e.bytes (markOf q.log2 q.prod))
  let s2 := s1.modEq n (fun q => { q with prod := add32 q.prod 1, armed := false })
  if q.armed then s2.msix (s.eqOwner n) q.vector else s2

/-- Whether the entry at the producer count of an event queue may be written as to protection (R531). -/
def State.eqMayWrite (s : State) (n : Nat) : Bool := !s.mirEq n || decide (0 < sub32 (s.eq n).prot (s.eq n).prod ∧ sub32 (s.eq n).prot (s.eq n).prod < 2 ^ 31)

/-- A CQCTX or EQCTX record of a queue (R528). -/
def State.recQctx (s : State) (isEq : Bool) (n : Nat) : State :=
  if isEq then
    let q := s.eq n
    s.record 8 (leBytes 4 (n + 2 ^ 31) ++ leBytes 8 q.base ++ leBytes 1 q.log2 ++ zeros 3 ++ leBytes 2 q.vector ++
      leBytes 4 q.resv ++ leBytes 4 q.head ++ leBytes 2 (b2n q.armed))
  else
    let q := s.cq n
    s.record 8 (leBytes 4 n ++ leBytes 8 q.base ++ leBytes 1 q.log2 ++ zeros 3 ++ leBytes 2 q.eq ++
      leBytes 4 q.resv ++ leBytes 4 q.head ++ leBytes 2 (b2n q.armed))

/-- A reservation of 16 more producer counts of a mirrored event queue, to be protected before they are written (R531). -/
def State.eqReserve (s : State) (n : Nat) : State :=
  let q := s.eq n
  if q.resv ≠ q.prot then s
  else
    let s1 := s.modEq n (fun q => { q with resv := add32 q.prod 16 })
    let s2 := s1.recQctx true n
    { s2 with mir := { s2.mir with waits := s2.mir.waits ++ [(s2.protSeq, .eqWrite n)] } }

/-- An event is dropped and counted in QMG_EVCNT.EQLOST (R169). -/
def State.evLost (s : State) (n : Nat) : State :=
  (s.bump .QMG_EVCNT_EQLOST).modEq n (fun q => { q with lost := satAdd (2 ^ 32 - 1) q.lost 1 })

/-- The first event that an event queue writes once room exists after a loss: EQ_OVERFLOW with the number dropped (R169). DESIGN CHOICE
(log 78): its TIME (R28) is the instant at which room exists again, not that of the first drop. -/
def State.eqLoss (s : State) (n : Nat) : State :=
  let q := s.eq n
  if q.lost = 0 ∨ s.dmaStop = true ∨ hasRoom q.prod q.head q.log2 = false then s
  else
    let e : Ev := { type := 0x05, object := s.localNum .QMG_VFEQ_BASE (s.eqOwner n) n, data := q.lost, time := s.now }
    s.modEq n (fun q => { q with lost := 0, held := e :: q.held })

/-- The events of a queue that wait are written in order as far as room, DMA and protection allow (R164, R531). -/
def eqDrainAux (n : Nat) : Nat → State → State
  | 0, s => s
  | fuel + 1, s =>
    let q := s.eq n
    match q.held with
    | [] => s
    | e :: t =>
      if s.dmaStop || !hasRoom q.prod q.head q.log2 then s
      else if !s.eqMayWrite n then s.eqReserve n
      else eqDrainAux n fuel ((s.modEq n (fun q => { q with held := t })).eqWrite n e)

/-- The drain of an event queue: after an event, or when room, DMA writes or protection return. -/
def State.eqDrain (s : State) (n : Nat) : State :=
  let s1 := s.eqLoss n
  eqDrainAux n (s1.eq n).held.length s1

/-- An event of an instant for event queue `n`: dropped and counted when the queue is not configured, DMA writes are stopped or the
ring has no room beyond the events that wait (R169, R664, R670); else written, or held for protection (R531). -/
def State.eventAt (s : State) (n type sub object data time : Nat) : State :=
  let e : Ev := { type := type, sub := sub, object := object % 2 ^ 32, data := data % 2 ^ 32, time := time }
  let q := s.eq n
  if !q.configured then s.bump .QMG_EVCNT_EQLOST
  else if s.dmaStop || decide (2 ^ q.log2 ≤ sub32 q.prod q.head + q.held.length + (if q.lost = 0 then 0 else 1)) then s.evLost n
  else ((s.eqLoss n).modEq n (fun q => { q with held := q.held ++ [e] })).eqDrain n

/-- An event of this instant for event queue `n`. -/
def State.event (s : State) (n type sub object data : Nat) : State := s.eventAt n type sub object data s.now

/-- An event that concerns no queue goes to event queue 0 of the PF (R168). -/
def State.event0 (s : State) (type sub object data : Nat) : State := s.event 0 type sub object data

/-- An event that concerns a work queue goes to the queue its context names, with its local number (R167, R168). -/
def State.wqEvent (s : State) (q type sub data : Nat) : State :=
  let e := (s.wq q).eq
  s.event e type sub (s.localNum .QMG_VFWQ_BASE (s.eqOwner e) q) data

/-! ## Completions (R162 to R166) -/

/-- The 32 bytes of a completion entry (R162). -/
def Cpl.bytes (c : Cpl) (phase : Nat) : List Byte :=
  leBytes 4 c.wqidx ++ leBytes 4 (c.wq % 2 ^ 18 + c.opcode * 2 ^ 24) ++ leBytes 8 c.d0 ++ leBytes 8 c.d1 ++
  leBytes 4 (c.peer % 2 ^ 20) ++ leBytes 4 (c.status % 256 + phase * 2 ^ 31)

/-- Whether the entry at the producer count of a completion queue may be written as to protection (R531). -/
def State.cqMayWrite (s : State) (n : Nat) : Bool := !s.mirCq n || decide (0 < sub32 (s.cq n).prot (s.cq n).prod ∧ sub32 (s.cq n).prot (s.cq n).prod < 2 ^ 31)

/-- A reservation of 16 more producer counts of a mirrored completion queue (R531). -/
def State.cqReserve (s : State) (n : Nat) : State :=
  let q := s.cq n
  if q.resv ≠ q.prot then s
  else
    let s1 := s.modCq n (fun q => { q with resv := add32 q.prod 16 })
    let s2 := s1.recQctx false n
    { s2 with mir := { s2.mir with waits := s2.mir.waits ++ [(s2.protSeq, .cqWrite n)] } }

/-- The head write-back word of a queue that enables it (R161): written at once, or held while DMA writes are stopped
(R670). -/
def State.headWb (s : State) (q : Nat) : State :=
  let w := s.wq q
  if !w.headwb then s
  else if s.dmaStop then s.modWq q (fun w => { w with hwbDue := true })
  else (s.write w.hwaddr (leBytes 8 (w.head % 2 ^ 32))).modWq q (fun w => { w with hwbDue := false })

/-- One completion entry written at the producer count, after the head write-back of its queue, and the CQ_NOTIFY that ARM asked for (R164, R166). -/
def State.cqWrite (s0 : State) (n : Nat) (c : Cpl) : State :=
  let s := s0.headWb c.gwq
  let q := s.cq n
  let a := q.base + (q.prod % 2 ^ q.log2) * 32
  let s1 := s.write a (c.bytes (markOf q.log2 q.prod))
  let s2 := ((s1.modCq n (fun q => { q with prod := add32 q.prod 1, armed := false })).pmuQ 0x04 1 c.gwq none (some c.wqidx) none none
    (some c.engine)).pmuTagWrite c.gwq c.wqidx
  if q.armed then s2.event q.eq 0x01 0 (s.localNum .QMG_VFCQ_BASE (s.eqOwner q.eq) n) 0 else s2

/-- A completion finds its queue full: the stall is counted once in CQFULL and raises one CQ_FULL (R165). -/
def State.cqStall (s : State) (n : Nat) : State :=
  let q := s.cq n
  if q.stalled then s
  else
    let s1 := (s.bump .QMG_EVCNT_CQFULL).modCq n (fun q => { q with stalled := true })
    s1.event q.eq 0x04 0 (s.localNum .QMG_VFCQ_BASE (s.eqOwner q.eq) n) 0

/-- The held completions of a queue written in order as far as room, DMA and protection allow (R164, R165, R531, R670). -/
def cqDrainAux (n : Nat) : Nat → State → State
  | 0, s => s
  | fuel + 1, s =>
    let q := s.cq n
    match q.held with
    | [] => s
    | c :: t =>
      if s.dmaStop then s
      else if !hasRoom q.prod q.head q.log2 then s.cqStall n
      else if !s.cqMayWrite n then s.cqReserve n
      else cqDrainAux n fuel ((s.modCq n (fun q => { q with held := t })).cqWrite n c)

/-- The drain of a completion queue after a completion, a doorbell, or when DMA writes resume. -/
def State.cqDrain (s : State) (n : Nat) : State := cqDrainAux n ((s.cq n).held.length + 1) s

/-- A completion for queue `n` can be written at this moment. -/
def State.cqReady (s : State) (n : Nat) : Bool :=
  let q := s.cq n
  q.held.isEmpty && !s.dmaStop && hasRoom q.prod q.head q.log2 && s.cqMayWrite n

/-- A completion that ends its entry's issue finds that it cannot be written (R157): the queue stalls (R165), or its next entries are
protected first (R531). -/
def State.cqHold (s : State) (n : Nat) : State :=
  let q := s.cq n
  if s.dmaStop || q.held != [] then s
  else if !hasRoom q.prod q.head q.log2 then s.cqStall n
  else s.cqReserve n

/-- A completion waits for queue `n`: held in the device, or in an entry whose issue it ends. No entry of a work queue bound to it is
issued meanwhile (R165). -/
def State.cqBlocked (s : State) (n : Nat) : Bool :=
  (s.cq n).held != [] || s.qmg.parked.any (fun p => p.1 == .cqRoom n)

/-! ## Run lists (R36, R40) -/

/-- The home engine of a run-list entry (R35, R45, R48). -/
def RunEnt.home : RunEnt → Nat
  | .wq n => n % 288
  | .tctx t => t % 288
  | .winq w => w % 288

/-- The run list of an engine. -/
def State.runList (s : State) (e : Nat) : List RunEnt := mgetD s.qmg.run e []

/-- The run list of an engine replaced; an empty list is not listed. -/
def State.setRun (s : State) (e : Nat) (l : List RunEnt) : State :=
  { s with qmg := { s.qmg with run := if l = [] then mdel s.qmg.run e else mset s.qmg.run e l } }

/-- An entry joins the tail of its home engine's run list if it stands on none (R36, R37). -/
def State.enqueue (s : State) (x : RunEnt) : State :=
  let l := s.runList x.home
  if x ∈ l then s else s.setRun x.home (l ++ [x])

/-- A work queue has fetchable entries: the tail has passed the published head. -/
def WQ.hasWork (q : WQ) : Bool := q.tail != q.head

/-- A work queue joins its home run list if it is ACTIVE with work, holds no turn, and is parked nowhere (R36, R37). -/
def State.joinRun (s : State) (q : Nat) : State :=
  let w := s.wq q
  if w.st = .active ∧ w.hasWork = true ∧ w.turn = none ∧ s.qmg.parked.all (fun p => p.2 != q) = true then
    s.enqueue (.wq q) else s

/-- A work queue leaves every run list. -/
def State.leaveRun (s : State) (q : Nat) : State :=
  let e := q % 288
  s.setRun e ((s.runList e).filter (fun x => x != .wq q))

/-- A queue parked for a reason. -/
def State.park (s : State) (r : Park) (q : Nat) : State :=
  { s with qmg := { s.qmg with parked := s.qmg.parked ++ [(r, q)] } }

/-- The queues parked for a reason that meets `p` return to their run lists, oldest first. -/
def State.unpark (s : State) (p : Park → Bool) : State :=
  let back := s.qmg.parked.filter (fun x => p x.1)
  let s1 := { s with qmg := { s.qmg with parked := s.qmg.parked.filter (fun x => !p x.1) } }
  back.foldl (fun t x => t.joinRun x.2) s1

/-- The stall of a completion queue ends when no completion is held, and none that is to be written waits for room: the queues that
waited go on (R165). -/
def State.cqRelease (s : State) (n : Nat) : State :=
  let q := s.cq n
  if q.held = [] ∧ (hasRoom q.prod q.head q.log2 = true ∨ s.cqBlocked n = false) then
    (s.modCq n (fun q => { q with stalled := false })).unpark (fun r => r == .cqFull n || r == .cqRoom n)
  else s

/-! ## The access log (R143) -/

/-- A rejected access is counted in `cnt` and recorded in HIF_ACCLOG unless a record was made less than 1,000 ticks
earlier (R143); `kind` is the KIND code. -/
def State.accLog (s : State) (kind : Nat) (write : Bool) (func bar off : Nat) : State :=
  let cnt : Fld := match kind with
    | 3 => .HIF_ACCCNT_LOCKVIOL
    | 4 => .HIF_ACCCNT_BADVAL
    | 5 => .HIF_ACCCNT_RESET
    | _ => .HIF_ACCCNT_BUSERR
  let s1 := s.bump cnt
  s1.snap .HIF_ACCLOG0_SEQ 0 (fun t =>
    let t1 := (((t.setFld .HIF_ACCLOG0_KIND kind).setFld .HIF_ACCLOG0_WRITE (b2n write)).setFld .HIF_ACCLOG0_FUNC func).setFld
      .HIF_ACCLOG0_BAR bar
    (t1.setFld .HIF_ACCLOG1_OFFSET off).setFld .HIF_ACCLOG2_TIME (s.now % 2 ^ 32))

/-- A bus error of a write: logged, and reported through AER as an Advisory Non-Fatal Error (R122). -/
def State.busError (s : State) (kind func bar off : Nat) : State :=
  let s1 := s.accLog kind true func bar off
  { s1 with host := { s1.host with advisory := s1.host.advisory + 1 } }

/-- A write that would change a locked field: logged, counted and reported (R136). -/
def State.lockViol (s : State) (func off : Nat) : State :=
  (s.accLog 3 true func 0 off).raise 0x600 0x3002 (off + 2 ^ 23 * func)

/-! ## Blocks held in reset (R139, R663) -/

/-- The code of the block reset that an offset's register belongs to (R663). -/
def blockOfReg (off : Nat) : Option Nat :=
  if 0x3000 ≤ off ∧ off < 0x3048 then some ((off - 0x3000) / 4)
  else if 0x3048 ≤ off ∧ off < 0x3090 then some ((off - 0x3048) / 4)
  else if 0x3100 ≤ off ∧ off < 0x3580 then some ((off - 0x3100) / 64)
  else if 0x3580 ≤ off ∧ off < 0x3A00 then some ((off - 0x3580) / 64)
  else if off = 0x2004 ∨ off = 0x2008 ∨ off = 0x200C ∨ off = 0x2010 ∨ off = 0x2014 ∨ (0x201C ≤ off ∧ off < 0x202C) then some 0x20
  else if 0x4010 ≤ off ∧ off < 0x4040 then some 0x21
  else if 0x800C ≤ off ∧ off < 0x8030 then some 0x22
  else if 0x8034 ≤ off ∧ off < 0x8044 then some 0x22
  else if 0x7008 ≤ off ∧ off < 0x7020 then some 0x23
  else if 0x7024 ≤ off ∧ off < 0x7030 then some 0x23
  else if off = 0xB004 ∨ (0xB014 ≤ off ∧ off < 0xB02C) ∨ (0xB040 ≤ off ∧ off < 0xB140) then some 0x24
  else if 0x6014 ≤ off ∧ off < 0x6034 then some 0x25
  else if off = 0x0004 ∨ off = 0xE024 then some 0x26
  else if 0x1040 ≤ off ∧ off < 0x1060 then some (0x30 + (off - 0x1040) / 4)
  else if 0xA040 ≤ off ∧ off < 0xA064 then some (0x40 + (off - 0xA040) / 4)
  else if 0xA100 ≤ off ∧ off < 0xAC40 then some (0x40 + (off - 0xA100) % 0x120 / 32)
  else none

/-- A block reset of a block is in progress: the block takes no new work (R580). -/
def State.blockBusy (s : State) (c : Nat) : Bool := (mget s.rst.blocks c).isSome

/-- The register at an offset belongs to a block that is held in reset (R139). -/
def State.regHeld (s : State) (off : Nat) : Bool :=
  match blockOfReg off with
  | some c => (match mget s.rst.blocks c with | some b => !b.idleWait | none => false)
  | none => false

/-- A write of the PF to a register that has a command of its own: refused while GEN_READY.HIF is 0 (R103, R122) or while the
register's block is held in reset (R139). -/
def State.regRow (s : State) (r : RegName) (i : Nat) (op : State → State) : State :=
  if !s.hif then s.busError 7 0 0 (r.addr i)
  else if s.regHeld (r.addr i) then s.accLog 5 true 0 0 (r.addr i)
  else op s

end Sys2Proof.Machine
end

