-- ==== Sys2Proof/Machine/Packets.lean ====
section
/-! DEFINITION. Fabric packets (12_fabric_links R513 to R519): the header, the extensions, the legal packet types, the
bytes of a packet, and the flits that carry it (R488, R492). -/

namespace Sys2Proof

/-! ## Header and bytes (R513, R514) -/

/-- A number at most `mx`: a saturating field. -/
def sat (mx n : Nat) : Nat := min mx n

/-- The 32 header bytes of a packet (R514). -/
def Pkt.header (p : Pkt) : List Byte :=
  leBytes 4 (p.dest % 2 ^ 20 + 2 ^ 24 * (p.ptype % 256)) ++
  leBytes 4 (p.src % 2 ^ 20 + 2 ^ 20 * (p.tclass % 8) + 2 ^ 23 * b2n p.divert + 2 ^ 24 * (p.hops % 16) +
    2 ^ 28 * b2n p.redir + 2 ^ 29 * (p.attempt % 8)) ++
  leBytes 4 (p.tag % 2 ^ 17 + 2 ^ 17 * (p.epoch % 256) + 2 ^ 25 * (p.via % 32)) ++
  leBytes 4 (p.plabel % 1024 + 2 ^ 16 * (p.payload.length % 1024) + 2 ^ 26 * (p.ext.length / 8 % 8)) ++
  leBytes 4 (sat (2 ^ 21 - 1) p.sentAgo) ++
  leBytes 4 (sat (2 ^ 20 - 1) p.age) ++
  leBytes 4 (p.txtime % 2 ^ 32) ++
  leBytes 1 (p.status % 256) ++ leBytes 1 (p.sub % 256) ++ leBytes 1 (p.vc % 8) ++ zeros 1

/-- The bytes of a packet: header, extension, payload (R513). -/
def Pkt.bytes (p : Pkt) : List Byte := p.header ++ p.ext ++ p.payload

/-- LEN of a header. -/
def hdrLen (l : List Byte) : Nat := bits (leAt l 12 4) 16 10
/-- The extension bytes that a header announces. -/
def hdrExt (l : List Byte) : Nat := 8 * bits (leAt l 12 4) 26 3

/-- The packet that bytes hold: its header fields, then as many extension and payload bytes as the header announces and
the bytes hold. -/
def decodePkt (l : List Byte) : Pkt where
  dest := bits (leAt l 0 4) 0 20
  ptype := bits (leAt l 0 4) 24 8
  src := bits (leAt l 4 4) 0 20
  tclass := bits (leAt l 4 4) 20 3
  divert := bitAt (leAt l 4 4) 23
  hops := bits (leAt l 4 4) 24 4
  redir := bitAt (leAt l 4 4) 28
  attempt := bits (leAt l 4 4) 29 3
  tag := bits (leAt l 8 4) 0 17
  epoch := bits (leAt l 8 4) 17 8
  via := bits (leAt l 8 4) 25 5
  plabel := bits (leAt l 12 4) 0 10
  sentAgo := bits (leAt l 16 4) 0 21
  age := bits (leAt l 20 4) 0 20
  txtime := leAt l 24 4
  status := leAt l 28 1
  sub := leAt l 29 1
  vc := bits (leAt l 30 1) 0 3
  ext := (l.drop 32).take (hdrExt l)
  payload := (l.drop (32 + hdrExt l)).take (hdrLen l)

/-- The flit bodies that a packet's bytes fill: 56 bytes each, the unused bytes of the last 0 (R513). -/
def bodies : Nat → List Byte → List (List Byte)
  | 0, _ => []
  | k + 1, l => (l.take 56 ++ zeros (56 - (l.take 56).length)) :: bodies k (l.drop 56)

/-- The number of flits of a packet of `n` bytes. -/
def flitCount (n : Nat) : Nat := (n + 55) / 56

/-- The DATA flits of a packet on a channel, SOP on the first and EOP on the last (R492); sequence, acknowledgement and
credit fields are written when each is sent. -/
def Pkt.flits (p : Pkt) (vc : Nat) : List Flit :=
  let l := ({ p with vc := vc } : Pkt).bytes
  let n := flitCount l.length
  (bodies n l).zipIdx.map (fun x =>
    { kind := 1, vc := vc, sop := x.2 == 0, eop := x.2 + 1 == n, body := x.1 })

/-! ## The code of a flit (R480, R490) -/

/-- One bit of the CRC-16 with polynomial 0x8BB7, most significant bit first. -/
def crc16Bit (c : Nat) (b : Bool) : Nat := (2 * c % 2 ^ 16) ^^^ (if c.testBit 15 != b then 0x8BB7 else 0)

/-- One byte of it. -/
def crc16Byte (c : Nat) (x : Byte) : Nat := [7, 6, 5, 4, 3, 2, 1, 0].foldl (fun a i => crc16Bit a (x.toNat.testBit i)) c

/-- The CRC-16 of some bytes: initial value 0xFFFF, no final inversion. -/
def crc16 (l : List Byte) : Nat := l.foldl crc16Byte 0xFFFF

/-- Bytes 0 to 5 of the flit header (R488). -/
def Flit.head (f : Flit) : List Byte :=
  leBytes 6 (f.kind + 8 * f.vc + 64 * b2n f.sop + 128 * b2n f.eop + 256 * b2n f.abort + 512 * b2n f.ackv + 2 ^ 10 * f.seq +
    2 ^ 22 * f.ackseq + 2 ^ 34 * f.crvc + 2 ^ 37 * f.crcum)

/-- The 64 bytes of a flit (R488). -/
def Flit.bytes (f : Flit) : List Byte := f.head ++ leBytes 2 f.crc ++ f.body

/-- The CRC that a flit must carry (R490). -/
def Flit.crcOf (f : Flit) : Nat := crc16 (f.head ++ f.body)

/-- The parity bit of a block: with it the block holds an even number of ones (R480). -/
def parityOf (l : List Byte) : Bool := l.foldl (fun a x => [0, 1, 2, 3, 4, 5, 6, 7].foldl (fun b i => b != x.toNat.testBit i) a) false

/-- The CRC and the parity bits written for a transmission (R480, R490, R499). -/
def Flit.seal (f : Flit) : Flit :=
  let g := { f with crc := f.crcOf }
  { g with par0 := parityOf (g.bytes.take 32), par1 := parityOf (g.bytes.drop 32) }

/-- The blocks of a received flit that fail R480. -/
def Flit.badBlocks (f : Flit) : Nat :=
  b2n (f.par0 != parityOf (f.bytes.take 32)) + b2n (f.par1 != parityOf (f.bytes.drop 32))

/-- A received flit passes R493: both blocks keep R480, and its CRC is right. -/
def Flit.intact (f : Flit) : Bool := f.badBlocks == 0 && f.crc == f.crcOf

/-- The error events of a flit that was received (R503): an uncorrectable codeword, counted once; each block that fails R480; a CRC
failure where the codeword decoded. -/
def BadFlit.events (b : BadFlit) : Nat :=
  (if b.cw && b.first then 1 else 0) + b.fl.badBlocks + (if !b.cw && b.fl.crc != b.fl.crcOf then 1 else 0)

/-- The flit fails R493. -/
def BadFlit.fails (b : BadFlit) : Bool := b.cw || !b.fl.intact

/-! ## Types (R460, R515, R519) -/

/-- A request packet type. -/
def Pkt.isReq (p : Pkt) : Bool := decide (1 ≤ p.ptype) && decide (p.ptype ≤ 0x0B)
/-- A response packet. -/
def Pkt.isResp (p : Pkt) : Bool := p.ptype == 0x40
/-- A control packet. -/
def Pkt.isCtl (p : Pkt) : Bool := decide (0x80 ≤ p.ptype) && decide (p.ptype ≤ 0x88)

/-- The opcodes of atomics (R515). -/
def atomicOps : List Nat := [0x10, 0x11, 0x12, 0x14, 0x15, 0x16, 0x18]

/-- The bytes of an atomic's payload (R515). -/
def atomicLen (op : Nat) : Nat :=
  match op with
  | 0x12 => 16
  | 0x14 => 16
  | 0x15 => 16
  | 0x16 => 32
  | _ => 8

/-- LEN of a control packet (R519); of ALIAS under R542. -/
def ctlLen (t : Nat) : Nat :=
  match t with
  | 0x80 => 16
  | 0x81 => 24
  | 0x82 => 16
  | 0x83 => 16
  | 0x84 => 16
  | 0x88 => 16
  | _ => 8

/-- EXTLEN in bytes of a request (R515). -/
def reqExt (t : Nat) : Nat :=
  match t with
  | 0x01 => 32
  | 0x02 => 32
  | 0x03 => 32
  | 0x04 => 16
  | 0x05 => 24
  | 0x06 => 24
  | 0x07 => 16
  | 0x08 => 16
  | 0x09 => 24
  | 0x0A => 24
  | _ => 0

/-- The lengths of a packet are those of its type (R513, R515, R519). -/
def Pkt.legal (p : Pkt) : Bool :=
  let n := p.payload.length
  let x := p.ext.length
  if p.isReq then
    x == reqExt p.ptype && decide (n ≤ 512) &&
    (match p.ptype with
     | 0x01 => true
     | 0x04 => true
     | 0x0A => true
     | 0x03 => n == 8 || n == 16 || n == 32
     | 0x06 => n == 64
     | _ => n == 0)
  else if p.isResp then (x == 0 || x == 16) && decide (n ≤ 512)
  else if p.isCtl then x == 0 && n == ctlLen p.ptype
  else false

/-- The minimal channel of a packet's class (R459, R460). -/
def Pkt.minVc (p : Pkt) : Nat := if p.isCtl then 7 else if p.isResp then 1 else 0
/-- The escape channel of a packet's class. -/
def Pkt.escVc (p : Pkt) : Nat := if p.isResp then 3 else 2
/-- The detour channel of a packet's class. -/
def Pkt.detVc (p : Pkt) : Nat := if p.isResp then 5 else 4

/-- The request identity of a request (R89). -/
def Pkt.rid (p : Pkt) : ReqId := { src := p.src, tag := p.tag, epoch := p.epoch }

/-- The packed form of an identity: the key of the suppression table (R90). -/
def ReqId.packed (i : ReqId) : Nat := i.src + i.tag * 2 ^ 20 + i.epoch * 2 ^ 37

/-! ## Extensions (R516) -/

/-- Bytes of a packet's extension as a number. -/
def Pkt.x (p : Pkt) (off n : Nat) : Nat := leAt p.ext off n

/-- ONE. -/
def extOne (key off rlen len poff kr : Nat) : List Byte :=
  leBytes 8 key ++ leBytes 6 off ++ leBytes 2 (rlen % 2 ^ 13) ++ leBytes 4 len ++ leBytes 4 poff ++ leBytes 8 kr
/-- KEY of ONE and WIN. -/
def Pkt.key (p : Pkt) : Nat := p.x 0 8
/-- OFFSET of ONE and WIN. -/
def Pkt.offset (p : Pkt) : Nat := p.x 8 6
/-- RLEN of ONE. -/
def Pkt.rlen (p : Pkt) : Nat := bits (p.x 14 2) 0 13
/-- LENGTH of ONE. -/
def Pkt.length (p : Pkt) : Nat := p.x 16 4
/-- POFF of ONE. -/
def Pkt.poff (p : Pkt) : Nat := p.x 20 4
/-- KRIGHTS of ONE. -/
def Pkt.krights (p : Pkt) : Nat := p.x 24 8

/-- MSG. -/
def extMsg (tag msgtag index : Nat) (last : Bool) (total : Nat) : List Byte :=
  leBytes 8 tag ++ leBytes 4 (msgtag % 2 ^ 17 + 2 ^ 17 * (index % 2 ^ 11) + 2 ^ 28 * b2n last) ++ leBytes 4 (total % 2 ^ 21)
/-- TAG of MSG. -/
def Pkt.mtag (p : Pkt) : Nat := p.x 0 8
/-- MSGTAG. -/
def Pkt.msgtag (p : Pkt) : Nat := bits (p.x 8 4) 0 17
/-- INDEX. -/
def Pkt.index (p : Pkt) : Nat := bits (p.x 8 4) 17 11
/-- LAST. -/
def Pkt.last (p : Pkt) : Bool := bitAt (p.x 8 4) 28
/-- TOTAL. -/
def Pkt.total (p : Pkt) : Nat := bits (p.x 12 4) 0 21

/-- WIN. -/
def extWin (key off : Nat) (leasereq nodata : Bool) (mask : Nat) : List Byte :=
  leBytes 8 key ++ leBytes 6 off ++ leBytes 2 (b2n leasereq + 2 * b2n nodata) ++ leBytes 8 mask
/-- LEASEREQ. -/
def Pkt.leasereq (p : Pkt) : Bool := bitAt (p.x 14 1) 0
/-- NODATA. -/
def Pkt.nodata (p : Pkt) : Bool := bitAt (p.x 14 1) 1
/-- BYTEMASK. -/
def Pkt.bytemask (p : Pkt) : Nat := p.x 16 8
/-- A window read as it is sent while GEN_READY.NCC is 0: without LEASEREQ (R300, R321). -/
def Pkt.noLease (p : Pkt) : Pkt := if p.ptype = 0x05 then { p with ext := extWin p.key p.offset false p.nodata p.bytemask } else p

/-- INV. -/
def extInv (index gen block : Nat) : List Byte :=
  leBytes 4 (index % 2 ^ 24 + 2 ^ 24 * (gen % 256)) ++ zeros 4 ++ leBytes 8 (block % 2 ^ 36)
/-- INDEX of INV. -/
def Pkt.invIndex (p : Pkt) : Nat := bits (p.x 0 4) 0 24
/-- GEN of INV. -/
def Pkt.invGen (p : Pkt) : Nat := bits (p.x 0 4) 24 8
/-- BLOCK of INV. -/
def Pkt.invBlock (p : Pkt) : Nat := bits (p.x 8 8) 0 36

/-- LOCK. -/
def extLock (lock wq func wqidx : Nat) : List Byte :=
  leBytes 4 (lock % 2 ^ 24) ++ leBytes 4 (wq % 2 ^ 18 + 2 ^ 18 * (func % 64)) ++ leBytes 4 wqidx ++ zeros 4
/-- LOCK of LOCK and GRANT. -/
def Pkt.lock (p : Pkt) : Nat := bits (p.x 0 4) 0 24
/-- WQ. -/
def Pkt.lwq (p : Pkt) : Nat := bits (p.x 4 4) 0 18
/-- FUNC. -/
def Pkt.lfunc (p : Pkt) : Nat := bits (p.x 4 4) 18 6
/-- WQIDX. -/
def Pkt.lidx (p : Pkt) : Nat := p.x 8 4

/-- GRANT. -/
def extGrant (lock wq func wqidx gseq lhome : Nat) (waited aband forced : Bool) : List Byte :=
  leBytes 4 (lock % 2 ^ 24) ++ leBytes 4 (wq % 2 ^ 18 + 2 ^ 18 * (func % 64)) ++ leBytes 4 wqidx ++
  leBytes 4 gseq ++ leBytes 4 (lhome % 2 ^ 20) ++ leBytes 4 (b2n waited + 2 * b2n aband + 4 * b2n forced)
/-- GRANTSEQ. -/
def Pkt.gseq (p : Pkt) : Nat := p.x 12 4
/-- LHOME. -/
def Pkt.lhome (p : Pkt) : Nat := bits (p.x 16 4) 0 20
/-- WAITED in [0], ABANDONED in [1], FORCED in [2]. -/
def Pkt.gflags (p : Pkt) : Nat := bits (p.x 20 1) 0 3

/-- COLL. -/
def extColl (ctx ctype : Nat) (orphan : Bool) (listn setupid inst nocount lostcount : Nat) : List Byte :=
  leBytes 2 (ctx % 2 ^ 12 + 2 ^ 12 * (ctype % 4) + 2 ^ 14 * b2n orphan) ++ leBytes 2 (listn % 128) ++ leBytes 4 setupid ++
  leBytes 4 inst ++ leBytes 4 (nocount % 2 ^ 17) ++ leBytes 4 (lostcount % 2 ^ 17) ++ zeros 4
/-- CTX. -/
def Pkt.cctx (p : Pkt) : Nat := bits (p.x 0 2) 0 12
/-- CTYPE. -/
def Pkt.ctype (p : Pkt) : Nat := bits (p.x 0 2) 12 2
/-- ORPHAN. -/
def Pkt.orphan (p : Pkt) : Bool := bitAt (p.x 0 2) 14
/-- LISTN. -/
def Pkt.listn (p : Pkt) : Nat := bits (p.x 2 2) 0 7
/-- SETUPID. -/
def Pkt.setupid (p : Pkt) : Nat := p.x 4 4
/-- INST. -/
def Pkt.inst (p : Pkt) : Nat := p.x 8 4
/-- NOCOUNT. -/
def Pkt.nocount (p : Pkt) : Nat := bits (p.x 12 4) 0 17
/-- LOSTCOUNT. -/
def Pkt.lostcount (p : Pkt) : Nat := bits (p.x 16 4) 0 17

/-- RES. -/
def extRes (d0 d1 : Nat) : List Byte := leBytes 8 d0 ++ leBytes 8 d1
/-- DATA0. -/
def Pkt.d0 (p : Pkt) : Nat := p.x 0 8
/-- DATA1. -/
def Pkt.d1 (p : Pkt) : Nat := p.x 8 8

/-- Whether LEN and EXTLEN of an atomic fit its opcode. -/
def Pkt.atomicOk (p : Pkt) : Bool := atomicOps.contains p.sub && p.payload.length == atomicLen p.sub

/-! ## Answer codes (R518) -/

/-- BUSY. -/
def aBusy : Nat := 0x80
/-- NOCTX. -/
def aNoctx : Nat := 0x81
/-- EXCLUDED. -/
def aExcluded : Nat := 0x82
/-- ALIVE. -/
def aAlive : Nat := 0x83
/-- GRANTED. -/
def aGranted : Nat := 0x84
/-- QUEUED. -/
def aQueued : Nat := 0x85
/-- WAITING. -/
def aWaiting : Nat := 0x86
/-- GRANTING. -/
def aGranting : Nat := 0x87
/-- NOT_WAITING. -/
def aNotWaiting : Nat := 0x88
/-- ACCEPTED. -/
def aAccepted : Nat := 0x89
/-- DECLINED. -/
def aDeclined : Nat := 0x8A

/-! ## Completion status codes (R162) -/

/-- FLUSHED. -/
def cFlushed : Nat := 0x01
/-- DEST_INVALID. -/
def cDestInvalid : Nat := 0x02
/-- KEY_INVALID. -/
def cKeyInvalid : Nat := 0x03
/-- KEY_REVOKED. -/
def cKeyRevoked : Nat := 0x04
/-- RIGHTS_DENIED. -/
def cRightsDenied : Nat := 0x05
/-- OFFSET_RANGE. -/
def cOffsetRange : Nat := 0x06
/-- UNKNOWN_OUTCOME. -/
def cUnknown : Nat := 0x07
/-- TARGET_NOT_READY. -/
def cNotReady : Nat := 0x08
/-- LOCAL_FAULT. -/
def cLocalFault : Nat := 0x09
/-- REMOTE_FAULT. -/
def cRemoteFault : Nat := 0x0A
/-- TRUNCATED. -/
def cTruncated : Nat := 0x0B
/-- REASSEMBLY_TIMEOUT. -/
def cReassembly : Nat := 0x0C
/-- MEMBER_LOST. -/
def cMemberLost : Nat := 0x0D
/-- LOCK_NOT_OWNER. -/
def cNotOwner : Nat := 0x0E
/-- LOCK_BUSY. -/
def cLockBusy : Nat := 0x0F
/-- CANCELLED. -/
def cCancelled : Nat := 0x10
/-- LOCAL_DMA. -/
def cLocalDma : Nat := 0x11

end Sys2Proof
end

