-- ==== Sys2Proof/Machine/Arith.lean ====
section
/-! DEFINITION. The arithmetic of the data path: IEEE 754 double precision (R392), reduction operators (R392), and the
read-modify-write of atomics (R197). -/

namespace Sys2Proof

/-! ## fp64 (R392) -/

/-- The sign of a pattern. -/
def fpNeg (n : Nat) : Bool := bitAt n 63
/-- The magnitude bits: exponent and fraction. -/
def fpMag (n : Nat) : Nat := bits n 0 63
/-- The pattern of infinity. -/
def fpInf : Nat := 0x7FF0000000000000
/-- The default quiet NaN. -/
def fpQnan : Nat := 0x7FF8000000000000
/-- A NaN. -/
def fpIsNan (n : Nat) : Bool := decide (fpInf < fpMag n)

/-- The value of a finite pattern in units of 2^-1074. -/
def fpVal (n : Nat) : Int :=
  let e := bits n 52 11
  let f := bits n 0 52
  let m : Nat := if e = 0 then f else (2 ^ 52 + f) * 2 ^ (e - 1)
  if fpNeg n then -(m : Int) else (m : Int)

/-- The magnitude bits of a multiple of 2^-1074, rounded to nearest even; overflow gives infinity. -/
def fpRound (n : Nat) : Nat :=
  if n < 2 ^ 53 then n
  else
    let k := Nat.log2 n - 52
    let q := n / 2 ^ k
    let r := n % 2 ^ k
    let q1 := if 2 * r > 2 ^ k ∨ (2 * r = 2 ^ k ∧ q % 2 = 1) then q + 1 else q
    min fpInf (k * 2 ^ 52 + q1)

/-- IEEE 754 addition, round to nearest even, subnormals kept. An addition gives a quiet NaN whose sign and payload IEEE 754
leaves open. -/
def fpAdd (a b : Nat) : Nat :=
  if fpIsNan a || fpIsNan b || (fpMag a == fpInf && fpMag b == fpInf && fpNeg a != fpNeg b) then
    let v := (Config.fpNaN (BitVec.ofNat 64 a) (BitVec.ofNat 64 b)).toNat
    v / 2 ^ 63 * 2 ^ 63 + fpQnan + v % 2 ^ 51
  else if fpMag a = fpInf then a
  else if fpMag b = fpInf then b
  else
    let v := fpVal a + fpVal b
    if v = 0 then (if fpNeg a && fpNeg b then 2 ^ 63 else 0)
    else fpRound v.natAbs + (if v < 0 then 2 ^ 63 else 0)

/-- A key that orders patterns other than NaN as IEEE 754 does, with -0 below +0. -/
def fpKey (n : Nat) : Int := if fpNeg n then -(fpMag n : Int) - 1 else (fpMag n : Int)

/-! ## Reduction operators (R392) -/

/-- One element of a reduction: `op` is the OPERATOR and `ty` the TYPE selector. -/
def reduceElem (op ty a b : Nat) : Nat :=
  match op with
  | 0 => if ty = 2 then fpAdd a b else (a + b) % 2 ^ 64
  | 1 =>
    if ty = 2 then (if fpIsNan a || fpIsNan b then fpQnan else if fpKey b < fpKey a then b else a)
    else if ty = 0 then (if toInt64 b < toInt64 a then b else a)
    else min a b
  | 2 =>
    if ty = 2 then (if fpIsNan a || fpIsNan b then fpQnan else if fpKey a < fpKey b then b else a)
    else if ty = 0 then (if toInt64 a < toInt64 b then b else a)
    else max a b
  | 3 => Nat.land a b
  | 4 => Nat.lor a b
  | _ => Nat.xor a b

/-- `n` elements of 8 bytes combined. -/
def reduceBytes (op ty : Nat) : Nat → List Byte → List Byte → List Byte
  | 0, _, _ => []
  | n + 1, a, b =>
    leBytes 8 (reduceElem op ty (leNat (a.take 8)) (leNat (b.take 8))) ++ reduceBytes op ty n (a.drop 8) (b.drop 8)

/-! ## Atomics (R197) -/

/-- The new value of a word of an atomic: its opcode, the old value, and the operand bytes (R515). -/
def atomicNew (op old : Nat) (l : List Byte) : Nat :=
  match op with
  | 0x10 => (old + leAt l 0 8) % 2 ^ 64
  | 0x18 => (old + leAt l 0 8) % 2 ^ 64
  | 0x11 => leAt l 0 8
  | 0x12 => if old = leAt l 0 8 then leAt l 8 8 else old
  | 0x14 => (old + leAt l 0 16) % 2 ^ 128
  | 0x15 => leAt l 0 16
  | _ => if old = leAt l 0 16 then leAt l 16 16 else old

/-- The bytes of the word that an atomic acts on. -/
def atomicWidth (op : Nat) : Nat := if op = 0x14 ∨ op = 0x15 ∨ op = 0x16 then 16 else 8

end Sys2Proof
end

