-- ==== Sys2Proof/Machine/Operands.lean ====
section
/-! DEFINITION. The fields of work descriptors (R153) and of admin commands (R177). -/

namespace Sys2Proof

/-! ## Work descriptors (R153) -/

/-- OPCODE. -/
def Raw.opcode (r : Raw) : Nat := r.field 0 8
/-- SIG. -/
def Raw.sig (r : Raw) : Bool := r.field 8 1 == 1
/-- FENCE. -/
def Raw.fence (r : Raw) : Bool := r.field 9 1 == 1
/-- INLINE. -/
def Raw.inline (r : Raw) : Bool := r.field 10 1 == 1
/-- PISTE. -/
def Raw.piste (r : Raw) : Bool := r.field 11 1 == 1
/-- TCLASS. -/
def Raw.tclass (r : Raw) : Nat := r.field 13 3
/-- PISTENUM. -/
def Raw.pistenum (r : Raw) : Nat := r.field 16 8
/-- DEST. -/
def Raw.dest (r : Raw) : Nat := r.field 32 20
/-- KEY. -/
def Raw.key (r : Raw) : Nat := r.field 64 64
/-- OFFSET. -/
def Raw.offset (r : Raw) : Nat := r.field 128 48
/-- LADDR, or the tag of an inline SEND. -/
def Raw.laddr (r : Raw) : Nat := r.field 192 64
/-- LENGTH. -/
def Raw.len (r : Raw) : Nat := r.field 256 32
/-- OPERAND0. -/
def Raw.op0 (r : Raw) : Nat := r.field 320 64
/-- OPERAND1. -/
def Raw.op1 (r : Raw) : Nat := r.field 384 64
/-- MARK. -/
def Raw.mark (r : Raw) : Nat := r.field 511 1
/-- The inline payload: the first LENGTH bytes of 40 to 55. -/
def Raw.inlineBytes (r : Raw) : List Byte := (leBytes 16 (r.field 320 128)).take r.len

/-- A 64-bit or 128-bit atomic (R197). -/
def isAtomicOp (o : Nat) : Bool := o == 0x10 || o == 0x11 || o == 0x12 || o == 0x14 || o == 0x15 || o == 0x16
/-- A 128-bit atomic. -/
def isAtomic128 (o : Nat) : Bool := o == 0x14 || o == 0x15 || o == 0x16
/-- Every opcode of the table of R153. -/
def isWorkOp (o : Nat) : Bool :=
  decide (o ≤ 0x04) || isAtomicOp o || o == 0x18 || o == 0x20 || o == 0x21 || o == 0x22 || o == 0x30 || o == 0x31 || o == 0x32

/-- An opcode uses DEST. -/
def usesDest (o : Nat) : Bool :=
  (decide (1 ≤ o) && decide (o ≤ 4)) || isAtomicOp o || o == 0x18 || o == 0x30 || o == 0x31 || o == 0x32
/-- An opcode uses KEY. -/
def usesKey (o : Nat) : Bool :=
  o == 1 || o == 2 || isAtomicOp o || o == 0x18 || o == 0x20 || o == 0x21 || o == 0x22 || o == 0x30 || o == 0x31 || o == 0x32
/-- An opcode uses OFFSET. -/
def usesOffset (o : Nat) : Bool := o == 1 || o == 2 || isAtomicOp o || o == 0x18
/-- An opcode uses LADDR; with INLINE, SEND carries its tag there and no other opcode uses it. -/
def usesLaddr (o : Nat) (inl : Bool) : Bool :=
  if inl then o == 3 else o == 1 || o == 2 || o == 3 || o == 4 || o == 0x16 || o == 0x20 || o == 0x21
/-- An opcode uses LENGTH. -/
def usesLen (o : Nat) : Bool := (decide (1 ≤ o) && decide (o ≤ 4)) || o == 0x20 || o == 0x21
/-- An opcode uses OPERAND0. -/
def usesOp0 (o : Nat) : Bool := o == 3 || o == 4 || isAtomicOp o || o == 0x18 || o == 0x21
/-- An opcode uses OPERAND1. -/
def usesOp1 (o : Nat) : Bool := o == 4 || o == 0x12 || isAtomic128 o
/-- The opcode that goes to a region of the target at OFFSET, 8- or 16-byte aligned (R154). -/
def atomAlign (o : Nat) : Nat := if isAtomic128 o then 16 else if isAtomicOp o || o == 0x18 then 8 else 1

/-- The KEY selector of a collective or lock opcode sets no reserved bit or code. -/
def keySelectorOk (r : Raw) : Bool :=
  let k := r.key
  match r.opcode with
  | 0x20 =>
    bits k 12 4 == 0 && decide (bits k 16 4 ≤ 5) && decide (bits k 20 2 ≤ 2) &&
    (decide (bits k 16 4 < 3) || bits k 20 2 == 0) && decide (k < 2 ^ 22)
  | 0x21 => decide (k < 2 ^ 12)
  | 0x22 => decide (k < 2 ^ 12)
  | 0x30 => decide (k < 2 ^ 24)
  | 0x31 => decide (k < 2 ^ 24)
  | 0x32 => decide (k < 2 ^ 24)
  | _ => true

/-- No reserved bit is set and no field that the opcode does not use is other than 0 (R153). With INLINE the operand
bytes hold payload, of which those at and beyond LENGTH are excepted. -/
def Raw.rsvdOk (r : Raw) : Bool :=
  let o := r.opcode
  r.field 12 1 == 0 && r.field 24 8 == 0 && r.field 52 12 == 0 && r.field 176 16 == 0 && r.field 288 32 == 0 &&
  r.field 448 56 == 0 && r.field 504 7 == 0 &&
  (r.piste || r.pistenum == 0) &&
  (usesDest o || r.dest == 0) && (usesKey o || r.key == 0) && (usesOffset o || r.offset == 0) &&
  (usesLaddr o r.inline || r.laddr == 0) && (usesLen o || r.len == 0) &&
  (r.inline || ((usesOp0 o || r.op0 == 0) && (usesOp1 o || r.op1 == 0))) &&
  (o != 0x21 || r.inline || decide (r.op0 < 2)) && keySelectorOk r

/-- The malformation kind of a descriptor under R154, R252 and R387, the first item that holds; 0 when none does. `noPiste` says that its
PISTENUM names no piste set up for the function. -/
def Raw.malformed (r : Raw) (noPiste : Bool) : Nat :=
  let o := r.opcode
  if !isWorkOp o then 0x01
  else if !r.rsvdOk then 0x02
  else if r.inline && (decide (16 < r.len) || !(o == 1 || o == 3)) then 0x03
  else if 2 ^ 30 < r.len then 0x03
  else if o == 3 && decide (1048576 < r.len) then 0x03
  else if o == 0x20 && (r.len == 0 || r.len % 8 != 0 || decide (256 < r.len)) then 0x03
  else if r.offset % atomAlign o ≠ 0 then 0x04
  else if r.piste && noPiste then 0x05
  else 0

/-! ## Admin commands (R177) -/

/-- CID. -/
def Raw.cid (r : Raw) : Nat := r.field 16 16
/-- OBJECT. -/
def Raw.object (r : Raw) : Nat := r.field 32 32
/-- `n` bytes of an admin command at byte `off`. -/
def Raw.at_ (r : Raw) (off n : Nat) : Nat := r.field (8 * off) (8 * n)

/-- Every byte of a command outside `used` ranges (first byte, length) and the common fields is 0, and so are the
reserved bits of bytes 1 and 63 (R177). -/
def Raw.onlyBytes (r : Raw) (used : List (Nat × Nat)) : Bool :=
  r.at_ 1 1 == 0 && r.field 504 7 == 0 &&
  (List.range 55).all (fun i => used.any (fun u => decide (u.1 ≤ i + 8) && decide (i + 8 < u.1 + u.2)) || r.at_ (i + 8) 1 == 0)

end Sys2Proof
end

