-- ==== Sys2Proof/Machine/Queues.lean ====
section
/-! DEFINITION. What every part of the block does with queues: admin completions (R178), descriptor completions (R162 to
R165), the tag record of R620, and the order of statuses (R246). -/

namespace Sys2Proof.Machine

/-! ## The admin queue (R178, R191) -/

/-- The admin submission ring's base of a function. -/
def State.sqBase (s : State) (f : Nat) : Nat := s.fldAq f .QMG_AQSQLO_BASE * 2 ^ 12 + s.rdAq f .QMG_AQSQHI * 2 ^ 32
/-- The admin completion ring's base of a function. -/
def State.acqBase (s : State) (f : Nat) : Nat := s.fldAq f .QMG_AQCQLO_BASE * 2 ^ 12 + s.rdAq f .QMG_AQCQHI * 2 ^ 32
/-- QMG_AQCFG.EN of a function. -/
def State.aqEn (s : State) (f : Nat) : Bool := s.fldAq f .QMG_AQCFG_EN == 1

/-- The 16 bytes of an admin completion (R178). -/
def ACpl.bytes (c : ACpl) (sqhead phase : Nat) : List Byte :=
  leBytes 2 c.cid ++ leBytes 1 c.status ++ zeros 1 ++ leBytes 4 c.r0 ++ leBytes 4 c.r1 ++ leBytes 2 (sqhead % 65536) ++
  zeros 1 ++ leBytes 1 (128 * phase)

/-- Held admin completions written in order while the ring has room and DMA writes run (R164, R670), each followed by
vector 0 when IRQEN is 1. -/
def adminDrainAux (f : Nat) : Nat → State → State
  | 0, s => s
  | fuel + 1, s =>
    let q := s.aq f
    let k := s.fldAq f .QMG_AQCFG_CQLOG2
    match q.held with
    | [] => s
    | c :: t =>
      if s.dmaStop || !hasRoom q.cqProd (s.rdAq f .QMG_AQHEAD) k then s
      else
        let s1 := s.write (s.acqBase f + q.cqProd % 2 ^ k * 16) (c.bytes q.sqHead (markOf k q.cqProd))
        let s2 := (s1.modAq f (fun q => { q with cqProd := add32 q.cqProd 1, held := t })).pmu_ { code := 0x04, func := some f, sup := f == 0 }
        adminDrainAux f fuel (if s.fldAq f .QMG_AQCFG_IRQEN = 1 then s2.msix f 0 else s2)

/-- The drain of an admin completion ring. -/
def State.adminDrain (s : State) (f : Nat) : State := adminDrainAux f ((s.aq f).held.length + 1) s

/-- An admin completion: that of a background command is discarded while the queue is not enabled (R191). -/
def State.adminCpl (s : State) (f : Nat) (c : ACpl) : State :=
  if s.aqEn f || !c.b then (s.modAq f (fun q => { q with held := q.held ++ [c] })).adminDrain f else s

/-- An admin completion of a command whose change is mirrored: it waits for protection (R529). -/
def State.adminCplProt (s : State) (f : Nat) (c : ACpl) : State :=
  s.whenProtected (.adminCpl f c) (fun t => t.adminCpl f c)

/-- An admin command ends with a status and results. -/
def State.adminEnd (s : State) (c : AdminCmd) (status : Nat) (r0 r1 : Nat := 0) : State :=
  s.adminCpl c.func { cid := c.raw.cid, status := status, r0 := r0 % 2 ^ 32, r1 := r1 % 2 ^ 32 }

/-- INVALID_FIELD. -/
def sInvalidField : Nat := 0x02
/-- INVALID_OBJECT. -/
def sInvalidObject : Nat := 0x03
/-- NOT_PERMITTED. -/
def sNotPermitted : Nat := 0x04
/-- NO_RESOURCE. -/
def sNoResource : Nat := 0x05
/-- OBJECT_BUSY. -/
def sBusy : Nat := 0x06
/-- TIMEOUT. -/
def sTimeout : Nat := 0x07
/-- FW_ERROR. -/
def sFwError : Nat := 0x08
/-- BAD_SIGNATURE. -/
def sBadSignature : Nat := 0x09
/-- DMA_ERROR. -/
def sDmaError : Nat := 0x0A
/-- STATE_CONFLICT. -/
def sStateConflict : Nat := 0x0C

/-! ## Background commands (R179, R180) -/

/-- A background command started. -/
def State.startB (s : State) (b : BCmd) : State := { s with qmg := { s.qmg with bcmds := s.qmg.bcmds ++ [b] } }

/-- The background command that meets `p`, if one is in progress. -/
def State.findB (s : State) (p : BCmd → Bool) : Option BCmd := s.qmg.bcmds.find? p

/-- The first background command that meets `p` taken out of progress. -/
def State.dropB (s : State) (p : BCmd → Bool) : State :=
  { s with qmg := { s.qmg with bcmds := s.qmg.bcmds.eraseP p } }

/-- A background command that meets `p` ends with a status and results. -/
def State.endB (s : State) (p : BCmd → Bool) (status : Nat) (r0 r1 : Nat := 0) : State :=
  match s.findB p with
  | some b => (s.dropB p).adminCpl b.func { cid := b.cid, status := status, r0 := r0 % 2 ^ 32, r1 := r1 % 2 ^ 32, b := true }
  | none => s

/-- A background command whose change is mirrored ends: its completion waits for protection. -/
def State.endBProt (s : State) (p : BCmd → Bool) (status : Nat) (r0 r1 : Nat := 0) : State :=
  match s.findB p with
  | some b => (s.dropB p).adminCplProt b.func { cid := b.cid, status := status, r0 := r0 % 2 ^ 32, r1 := r1 % 2 ^ 32, b := true }
  | none => s

/-! ## Statuses (R246) -/

/-- The rank of a status in the order of R246; a lower rank wins. -/
def statusRank (c : Nat) : Nat :=
  match c with
  | 0x07 => 0
  | 0x11 => 1
  | 0x09 => 2
  | 0x0A => 3
  | 0x04 => 4
  | 0x03 => 5
  | 0x05 => 6
  | 0x06 => 7
  | 0x08 => 8
  | 0x00 => 10
  | _ => 9

/-- The status that a descriptor takes of two (R246). -/
def worse (a b : Nat) : Nat := if statusRank b < statusRank a then b else a

/-! ## Completion of a descriptor -/

/-- The outcome of a tagged descriptor is known (R620). -/
def State.pmuTagDone (s : State) (q : Nat) (d : Desc) (status : Nat) : State :=
  match s.pmu.tagged with
  | some r => if r.q = q ∧ r.cnt = d.cnt then { s with pmu := { s.pmu with tagged := some { r with op := d.op, status := status } } } else s
  | none => s

/-- The outstanding record of a descriptor, if it was issued and has not completed. -/
def State.desc (s : State) (q cnt : Nat) : Option Desc := (s.wq q).outst.find? (fun d => d.cnt == cnt)

/-- DATA0 of a PUT, GET or SEND that completes, whatever its status: the bytes of its packets that ended with SUCCESS (R247, R261). -/
def Desc.given (d : Desc) : Nat := if d.op = 0x01 ∨ d.op = 0x02 ∨ d.op = 0x03 then d.bytes else 0

/-- An outstanding record changed. -/
def State.modDesc (s : State) (q cnt : Nat) (f : Desc → Desc) : State :=
  s.modWq q (fun w => { w with outst := w.outst.map (fun d => if d.cnt = cnt then f d else d) })

/-- A completion entry due for a work queue: held for its completion queue and written as far as it may (R163, R165). -/
def State.postCpl (s : State) (q cnt op status d0 d1 peer engine : Nat) : State :=
  let w := s.wq q
  let c : Cpl := { gwq := q, wq := s.localNum .QMG_VFWQ_BASE (s.wqOwner q) q, wqidx := cnt, opcode := op,
                   d0 := d0 % 2 ^ 64, d1 := d1 % 2 ^ 64, peer := peer, status := status, engine := engine }
  (s.modCq w.cq (fun x => { x with held := x.held ++ [c] })).cqDrain w.cq

/-- Queues parked for one reason and queue return to their run lists. -/
def State.unparkQ (s : State) (r : Park) (q : Nat) : State :=
  if s.qmg.parked.contains (r, q) then
    ({ s with qmg := { s.qmg with parked := s.qmg.parked.filter (fun x => x != (r, q)) } } : State).joinRun q
  else s

/-- PEER of a completion (R162): the DEST of the descriptor; for a RECV the source of its message, and the null coordinate where no message
matched it (R74; DEDUCED, log 79). -/
def Desc.peer (d : Desc) (src : Option Nat) : Nat := src.getD (if d.op = 0x04 then nullCoord else d.raw.dest)

/-- A descriptor completes: a completion entry is written when its status is an error or SIG is 1, and always for
LOCK_ACQUIRE and LOCK_TRY (R417); a FENCE that waited for it may go on (R159, R163). -/
def State.finish (s : State) (q : Nat) (d : Desc) (status : Nat) (d0 d1 : Nat := 0) (peer : Option Nat := none) : State :=
  let s1 := s.modWq q (fun w => { w with outst := w.outst.filter (fun x => x.cnt != d.cnt) })
  let s2 := if status = cUnknown then
    s1.pmuQ 0x08 1 q none (some d.cnt) (some d.raw.tclass) (some d.raw.laddr) (some d.engine) else s1
  let s3 := s2.pmuTagDone q d status
  let s4 := if status ≠ 0 ∨ d.raw.sig = true ∨ d.op = 0x30 ∨ d.op = 0x31 then s3.postCpl q d.cnt d.op status d0 d1 (d.peer peer) d.engine
    else s3.pmuTagWrite q d.cnt
  s4.unparkQ .fence q

/-- The kinds of queue error recorded for the latest queue that entered ERROR (QMG_QERR group). -/
def State.qerr (s : State) (q kind idx : Nat) : State :=
  s.snap .QMG_QERR0_SEQ 0 (fun t =>
    ((t.setFld .QMG_QERR0_KIND kind).setFld .QMG_QERR1_WQ q).setFld .QMG_QERR1_FUNC (s.wqOwner q)
      |>.wrRaw .QMG_QERR2 0 idx)

/-- A WQCTX record of a mirrored queue (R528). -/
def State.recWq (s : State) (q : Nat) : State :=
  if s.mirWq q then
    let w := s.wq q
    let shape := w.newShape.getD (w.rate, w.burst)
    let code := match w.st with | .disabled => 0 | .active => 1 | .draining => 2 | .error => 3 | .suspended => 4
    s.record 5 (leBytes 4 q ++ leBytes 4 (code + 8 * b2n w.configured + 16 * w.errKind) ++ leBytes 8 w.base ++
      leBytes 1 w.log2 ++ leBytes 1 w.turnq ++ leBytes 2 w.asid ++ leBytes 4 w.cq ++ leBytes 2 w.eq ++
      leBytes 1 (b2n w.headwb) ++ zeros 1 ++ leBytes 4 w.start ++ leBytes 8 w.hwaddr ++ leBytes 2 shape.1 ++ leBytes 2 shape.2)
  else s

/-- A WQHEAD record: the reserved and the published head (R530). -/
def State.recWqHead (s : State) (q : Nat) : State :=
  if s.mirWq q then
    let w := s.wq q
    s.record 6 (leBytes 4 q ++ leBytes 4 w.reserved ++ leBytes 4 w.head)
  else s

/-- A WQTAIL record: the tail and the key-rights register (R528). -/
def State.recWqTail (s : State) (q : Nat) : State :=
  if s.mirWq q then
    let w := s.wq q
    s.record 7 (leBytes 4 q ++ leBytes 4 w.tail ++ leBytes 8 w.kr)
  else s

end Sys2Proof.Machine
end

