-- ==== Sys2Proof/Machine/Links.lean ====
section
/-! DEFINITION. The link layer's sending side (12_fabric_links): flits with fresh acknowledgement and credit fields
(R496, R499, R502), the choice among channels (R464), credit and replay (R497, R498, R502), and the packets queued for
each channel of an output port. -/

namespace Sys2Proof.Machine

/-- The input key of a port and channel. -/
def inKey (p v : Nat) : Nat := 8 * p + v

/-- The width of a port in lanes. -/
def PortSt.width (ps : PortSt) : Nat := 2 ^ ps.awidth
/-- The port is UP in the sense of R482. -/
def PortSt.isUp (ps : PortSt) : Bool := ps.st == 6
/-- The port is up for routing: UP, or in RETRAIN, where slalom sees no credit (R509). -/
def PortSt.routable (ps : PortSt) : Bool := ps.st == 6 || ps.st == 7

/-- A list element, 0 beyond the end. -/
def nth (l : List Nat) (i : Nat) : Nat := l.getD i 0

/-- Credit for a first transmission on channel `v` (R502). -/
def PortSt.credit (ps : PortSt) (v : Nat) : Bool := decide (nth ps.consumed v - nth ps.returned v < nth ps.limits v)

/-- Channel `v` of an output port's queue. -/
def PortSt.queue (ps : PortSt) (v : Nat) : List TxPkt := mgetD ps.txq v []

/-- Flits queued on a channel. -/
def queuedFlits (l : List TxPkt) : Nat := (l.map (fun t => t.rest.length)).sum

/-- Flits queued for an output port on every channel except the control channel (R444). -/
def PortSt.cost (ps : PortSt) : Nat := ((List.range 7).map (fun v => queuedFlits (ps.queue v))).sum

/-- The first element of a list that meets `p`, in a rotation that starts after `last`. -/
def rotate (l : List Nat) (last : Nat) : List Nat := l.filter (fun v => decide (last < v)) ++ l.filter (fun v => decide (v ≤ last))

/-- The channel whose credit count the next flit carries (R502): a count not sent in the last eight flits, the oldest
first; else a changed count in rotation; else the next in rotation. -/
def PortSt.crPick (ps : PortSt) : Nat :=
  let order := (List.range 8).map (fun i => (ps.crNext + i) % 8)
  let old := order.filter (fun v => decide (8 ≤ nth ps.crAge v))
  match minBy (fun v => 1000000 - nth ps.crAge v) old with
  | some v => v
  | none =>
    match order.find? (fun v => nth ps.freed v != nth ps.crSent v) with
    | some v => v
    | none => ps.crNext

/-- The acknowledgement a flit carries now (R496). -/
def PortSt.ackNow (ps : PortSt) : Nat := (ps.e + 4095) % 4096

/-- A flit sent with acknowledgement and credit fields, CRC and parity of the moment (R480, R490, R496, R499, R502): flit n of the port
travels on logical lane n mod w, in the codewords that carry 4w flits at one CWCNT (R479, R481). -/
def State.xmit (s : State) (p : Nat) (f : Flit) : State :=
  let ps := s.port p
  let v := ps.crPick
  let f1 := ({ f with ackv := ps.acked, ackseq := ps.ackNow, crvc := v, crcum := nth ps.freed v % 2048 } : Flit).seal
  (s.modPort p (fun ps => { ps with
      crSent := setAt ps.crSent v (nth ps.freed v)
      crAge := setAt (ps.crAge.map (· + 1)) v 0
      crNext := (v + 1) % 8
      txNum := ps.txNum + 1
      ackSent := if ps.acked then some ps.ackNow else none })).emit
    (.flit p (ps.txNum % ps.width) (ps.txNum / (4 * ps.width) % 4096) f1)

/-- A flit of a kind that is neither sequenced nor replayed (R491). -/
def State.xmitKind (s : State) (p kind : Nat) (body : List Byte) : State := s.xmit p { kind := kind, body := body }

/-- Slots of an input's buffer freed: their channel's freed count grows (R502). -/
def State.freeSlots (s : State) (key n : Nat) : State :=
  if key < 576 then
    s.modPort (key / 8) (fun ps => { ps with freed := setAt ps.freed (key % 8) (nth ps.freed (key % 8) + n) })
  else s

/-- No packet of the same input and channel was queued for the port before this one and is still there (R463). -/
def PortSt.inOrder (ps : PortSt) (t : TxPkt) : Bool :=
  t.via.isNone || ps.txq.all (fun kv => kv.2.all (fun x => x.via != t.via || decide (t.ord ≤ x.ord)))

/-- A channel has a flit ready and credit for it. -/
def PortSt.ready (ps : PortSt) (v : Nat) : Bool :=
  (match ps.queue v with | t :: _ => t.rest != [] && ps.inOrder t | [] => false) && ps.credit v

/-- The share of the piste that leaves a port under a label (R467, R471). -/
def State.pisteShare (s : State) (p label : Nat) : Nat :=
  match s.rte.transit.find? (fun kv => kv.2.outPort == p && kv.2.outLabel == label),
      s.rte.pistes.find? (fun (kv : Nat × Piste) => kv.2.outPort == p && kv.2.outLabel == label && kv.2.st != 1) with
  | some kv, _ => kv.2.share
  | none, some kv => kv.2.share
  | none, none => 0

/-- The piste that leaves a port under a label has had less than its share of the slots counted (R464, R473). DESIGN CHOICE
(log 40): slots are counted in windows of 4,096 ticks. -/
def State.inShare (s : State) (p label : Nat) : Bool :=
  let ps := s.port p
  ps.slotsAt + 4096 ≤ s.tick || decide (256 * mgetD ps.given label 0 ≤ s.pisteShare p label * ps.slots)

/-- The packet of the piste channel that its next slot goes to: one that has started goes on to its last flit (R492); else the first, among
those that are next of their input and of their piste (R463, R474) and have a flit ready, of a piste within its share; else the first of
them (R464). The label names the piste among those of the output port. -/
def PortSt.pisteNext (ps : PortSt) (inShare : Nat → Bool) : Option TxPkt :=
  match ps.queue 6 with
  | [] => none
  | t :: l =>
    if t.started then some t
    else
      let next (x : TxPkt) : Bool := x.rest != [] && ps.inOrder x &&
        (t :: l).all (fun y => y.inp.pkt.plabel != x.inp.pkt.plabel || decide (x.ord ≤ y.ord))
      match ((t :: l).filter next).find? (fun x => inShare x.inp.pkt.plabel) with
      | some x => some x
      | none => match (t :: l).find? next with
        | some x => some x
        | none => some t

/-- The piste channel's queue with the packet that its next slot goes to at the head. -/
def PortSt.pisteFirst (ps : PortSt) (inShare : Nat → Bool) : List TxPkt :=
  match ps.pisteNext inShare with
  | some x => x :: (ps.queue 6).filter (fun y => y.ord != x.ord)
  | none => []

/-- The packet that the piste channel's next slot goes to is of a piste within its share. -/
def PortSt.pisteIn (ps : PortSt) (inShare : Nat → Bool) : Bool :=
  match ps.pisteNext inShare with
  | some x => inShare x.inp.pkt.plabel
  | none => false

/-- A flit slot given to a channel counted, for the piste that heads the piste channel (R473): the window begins again after 4,096 ticks. -/
def PortSt.countSlot (ps : PortSt) (v now : Nat) : PortSt :=
  let q : PortSt := if ps.slotsAt + 4096 ≤ now then { ps with slots := 0, slotsAt := now, given := [] } else ps
  let label := match ps.queue 6 with | t :: _ => t.inp.pkt.plabel | [] => 0
  { q with slots := q.slots + 1
           given := if v = 6 then mset q.given label (mgetD q.given label 0 + 1) else q.given }

/-- The channel that the next flit slot goes to (R464): control, a piste within its share, then responses two slots to each one of
requests while both wait, round robin within each, and a piste beyond its share. -/
def PortSt.pick (ps : PortSt) (inShare : Bool) : Option Nat :=
  if ps.ready 7 then some 7
  else if inShare && ps.ready 6 then some 6
  else
    let rsp := (rotate [1, 3, 5] ps.lastRsp).find? ps.ready
    let req := (rotate [0, 2, 4] ps.lastReq).find? ps.ready
    match rsp, req with
    | some r, some q => if ps.arb % 3 < 2 then some r else some q
    | some r, none => some r
    | none, some q => some q
    | none, none => if ps.ready 6 then some 6 else none

/-- AGE of a packet as its first flit leaves: what it held, the delay of the link it came on, and its residence (R219); a
control packet travels one hop and keeps 0. -/
def State.ageOut (s : State) (i : InPkt) : Nat :=
  if i.pkt.isCtl then 0 else sat (2 ^ 20 - 1) (i.pkt.age + i.delay + (s.tick - i.rx))

/-- The first flit's body with the header as it leaves. -/
def State.patchSop (s : State) (t : TxPkt) (f : Flit) : Flit :=
  if f.sop then { f with body := ({ t.inp.pkt with age := s.ageOut t.inp } : Pkt).header ++ f.body.drop 32 } else f

/-- A channel's queue replaced; an empty one is not listed. -/
def PortSt.setQueue (ps : PortSt) (v : Nat) (l : List TxPkt) : PortSt :=
  { ps with txq := if l = [] then mdel ps.txq v else mset ps.txq v l }

/-- A response whose AGE exceeds 500 µs is discarded where it is found (R221); what of it has still to arrive is discarded too. -/
def State.dropTx (s : State) (p v : Nat) (t : TxPkt) (rest : List TxPkt) : State :=
  let s1 := s.modPort p (fun ps => ps.setQueue v rest)
  match t.src with
  | some k =>
    let s2 := if t.closed then s1 else s1.modPort (k / 8) (fun ps => { ps with part := mset ps.part (k % 8) .discard })
    s2.freeSlots k t.rest.length
  | none => s1

/-- The first flit of a request of this device leaves by a port, which its tag records (R225). -/
def State.leftBy (s : State) (started : Bool) (tag : Option Nat) (p : Nat) : State :=
  match tag with
  | some t => if started then s else { s with ini := { s.ini with tags := mmod s.ini.tags t (fun e => { e with port := p }) } }
  | none => s

/-- The head flit of a channel sent for the first time: sequenced, held for replay, its credit taken, its input slot freed
(R497, R502). -/
def State.sendHead (s : State) (p v : Nat) : State :=
  match (s.port p).queue v with
  | [] => s
  | t :: rest =>
    match t.rest with
    | [] => s
    | f :: fs =>
      if !t.started && t.inp.pkt.isResp && decide (500000 < s.ageOut t.inp) then s.dropTx p v t rest else
      let seq := (s.port p).nextSeq
      let f1 := { s.patchSop t f with seq := seq, vc := v }
      let s1 := s.modPort p (fun ps => { ((ps.countSlot v s.tick).setQueue v
            (if f.eop then rest else { t with rest := fs, started := true } :: rest)) with
          nextSeq := (seq + 1) % 4096
          replay := ps.replay ++ [f1]
          lastAck := if ps.replay = [] then s.tick else ps.lastAck
          consumed := setAt ps.consumed v (nth ps.consumed v + 1)
          txFlits := ps.txFlits + 1
          arb := if v < 6 then ps.arb + 1 else ps.arb
          lastRsp := if v % 2 = 1 ∧ v < 6 then v else ps.lastRsp
          lastReq := if v % 2 = 0 ∧ v < 6 then v else ps.lastReq })
      let s2 := (s1.xmit p f1).leftBy t.started t.inp.tag p
      match t.src with
      | some k => s2.freeSlots k 1
      | none => s2

/-- Flits sent on a port while it is UP: those of a replay first (R498), then first transmissions while the replay buffer
has room (R497) and some channel is ready. -/
def pumpAux (p : Nat) : Nat → State → State
  | 0, s => s
  | fuel + 1, s =>
    let ps := s.port p
    if !ps.isUp then s
    else match ps.resend with
      | f :: t =>
        pumpAux p fuel (((s.modPort p (fun ps => { ps with resend := t, rpFlits := ps.rpFlits + 1 })).xmit p f).pmu_
          { code := 0x19 })
      | [] =>
        if 512 * ps.width ≤ ps.replay.length then s
        else
          let s1 := s.modPort p (fun ps => ps.setQueue 6 (ps.pisteFirst (s.inShare p)))
          match (s1.port p).pick (ps.pisteIn (s.inShare p)) with
          | some v => pumpAux p fuel (s1.sendHead p v)
          | none => s

/-- A port sends what it can. -/
def State.pump (s : State) (p : Nat) : State :=
  let ps := s.port p
  pumpAux p (ps.cost + queuedFlits (ps.queue 7) + ps.resend.length + 1) s

/-- The port's lanes send codewords: DESKEW, LINKUP, UP or RETRAIN (R479). -/
def PortSt.streams (ps : PortSt) : Bool := decide (4 ≤ ps.st) && decide (ps.st ≤ 7)

/-- The port owes its peer an acknowledgement or a credit count. -/
def PortSt.owes (ps : PortSt) : Bool :=
  ps.streams && ((ps.acked && ps.ackSent != some ps.ackNow) || ps.freed != ps.crSent)

/-- IDLE flits sent until the port owes nothing (R479, R491, R502). -/
def settleAux (p : Nat) : Nat → State → State
  | 0, s => s
  | fuel + 1, s => if (s.port p).owes then settleAux p fuel (s.xmitKind p 0 (zeros 56)) else s

/-- The next flit is on logical lane 0: IDLE flits take the lanes before it (R479, R481). -/
def laneZeroAux (p : Nat) : Nat → State → State
  | 0, s => s
  | fuel + 1, s => if (s.port p).txNum % (s.port p).width = 0 then s else laneZeroAux p fuel (s.xmitKind p 0 (zeros 56))

/-- Every port whose lanes send codewords fills a slot that no flit took with an IDLE flit (R479). DESIGN CHOICE (log 41): one such flit
on each tick that passes with no command waiting. -/
def State.idleFill (s : State) : State :=
  s.lnk.ports.foldl (fun t kv => if (t.port kv.1).streams then t.xmitKind kv.1 0 (zeros 56) else t) s

/-- Every port sends what it can, then what it owes. -/
def State.flush (s : State) : State :=
  let s1 := s.lnk.ports.foldl (fun t kv => t.pump kv.1) s
  s1.lnk.ports.foldl (fun t kv => settleAux kv.1 9 t) s1

/-! ## What a received flit's fields do (R494, R497, R502) -/

/-- The held flits that an ACKSEQ leaves unacknowledged. -/
def ackDrop (a : Nat) (l : List Flit) : List Flit :=
  if l.any (fun f => f.seq == a) then (l.dropWhile (fun f => f.seq != a)).drop 1 else l

/-- The acknowledgement and credit fields of a flit that passes its checks are applied, whatever becomes of it (R494). -/
def State.applyFields (s : State) (p : Nat) (f : Flit) : State :=
  s.modPort p (fun ps =>
    let r := if f.ackv then ackDrop f.ackseq ps.replay else ps.replay
    let adv := r.length != ps.replay.length
    let d := (f.crcum + 2048 - nth ps.lastCum f.crvc % 2048) % 2048
    { ps with
      replay := r
      resend := ps.resend.filter (fun x => r.any (fun y => y.seq == x.seq))
      lastAck := if adv then s.tick else ps.lastAck
      toCount := if adv then 0 else ps.toCount
      returned := setAt ps.returned f.crvc (nth ps.returned f.crvc + d)
      lastCum := setAt ps.lastCum f.crvc f.crcum })

/-- Every unacknowledged flit from sequence `a` + 1 upward is sent again, ahead of any new DATA flit (R498); a NAK whose
first flit a replay in progress has not yet re-sent is ignored. -/
def State.startReplay (s : State) (p a : Nat) : State :=
  let ps := s.port p
  let first := (a + 1) % 4096
  if ps.resend.any (fun f => f.seq == first) then s
  else s.modPort p (fun ps => { ps with resend := ackDrop a ps.replay })

/-! ## Packets queued for a port -/

/-- A packet queued for a channel of an output port, with the flits of it that have arrived. -/
def State.queuePkt (s : State) (p v : Nat) (i : InPkt) (src via : Option Nat) : State :=
  s.modPort p (fun ps => { ps.setQueue v (ps.queue v ++ [{
      inp := { i with part := none }, rest := i.part.getD (i.pkt.flits v), closed := i.part.isNone, src := src, via := via,
      ord := ps.ordNext }]) with
    ordNext := ps.ordNext + 1 })

/-- A packet discarded for its type or lengths (R513). -/
def State.badPkt (s : State) (p : Nat) : State := s.bump .FLK_PLINK_BADPKT p

/-- The neighbour that a port links to (R437). -/
def State.neighbour (s : State) (p : Nat) : Nat := setDigit s.own (s.fld .RTE_PORT_DIM p) (s.fld .RTE_PORT_DIGIT p)

/-- A control packet for `dest` sent one hop through a port that is up (R460, R461). -/
def State.sendCtlTo (s : State) (p dest src ptype : Nat) (payload : List Byte) : State :=
  if (s.port p).routable then
    let k : Pkt := { dest := dest, src := src, ptype := ptype, vc := 7, payload := payload,
                     epoch := s.fld .GEN_EPOCH_EPOCH }
    s.queuePkt p 7 { pkt := k, port := 72, rx := s.tick } none none
  else s

/-- A control packet sent to the neighbour of a port. -/
def State.sendCtl (s : State) (p ptype : Nat) (payload : List Byte) : State :=
  s.sendCtlTo p (s.neighbour p) s.own ptype payload

end Sys2Proof.Machine
end

