-- ==== Sys2Proof/Machine/Routing.lean ====
section
/-! DEFINITION. The transit crossbar's choice of route (11_routing R444 to R458), the line map (R440 to R443), transit
piste entries (R467), and what the loss of a port does to what is queued (R466, R475, R500). -/

namespace Sys2Proof.Machine

/-! ## Ports of a neighbour (R438) -/

/-- A port's RTE_PORT has EN 1 and assigns it to dimension k and digit x. -/
def State.portServes (s : State) (p k x : Nat) : Bool :=
  s.flag .RTE_PORT_EN p && s.fld .RTE_PORT_DIM p == k && s.fld .RTE_PORT_DIGIT p == x

/-- The listed ports of RTE_PMAP(k, x). -/
def State.pmapPorts (s : State) (k x : Nat) : List Nat :=
  let i := 18 * k + x
  (if s.flag .RTE_PMAP_AVAL i then [s.fld .RTE_PMAP_PORTA i] else []) ++
  (if s.flag .RTE_PMAP_BVAL i then [s.fld .RTE_PMAP_PORTB i] else [])

/-- The ports to the neighbour in dimension k at digit x that are up, in ascending order; the entry of the own digit, and
an entry that does not match RTE_PORT, are not used (RTE_FLT.MAPERR). -/
def State.upPorts (s : State) (k x : Nat) : List Nat :=
  if x = digit s.own k then []
  else sortAsc ((s.pmapPorts k x).filter (fun p => decide (p < 72) && s.portServes p k x && (s.port p).routable))

/-- The enabled ports to digit x of dimension k that are up, whether or not RTE_PMAP lists them: the device's own links (R442). -/
def State.linkPorts (s : State) (k x : Nat) : List Nat :=
  if x = digit s.own k then [] else (List.range 72).filter (fun p => s.portServes p k x && (s.port p).routable)

/-- The port has credit on channel `v`; in RETRAIN it has none (R509). -/
def State.portCredit (s : State) (p v : Nat) : Bool := (s.port p).isUp && !s.blockBusy (0x40 + p / 8) && (s.port p).credit v

/-- The cost of a port for a packet whose minimal channel is `v` (R444). -/
def State.portCost (s : State) (p v : Nat) : Nat := (s.port p).cost + (if s.portCredit p v then 0 else 16)

/-! ## The line map (R440 to R443) -/

/-- The own row of dimension k: bit j set while a port to digit j is up. -/
def State.ownRow (s : State) (k : Nat) : Nat :=
  (List.range 18).foldl (fun r j => if s.linkPorts k j != [] then putBits r j 1 1 else r) 0

/-- The row that the latest notice of digit i in dimension k reported. -/
def State.rowOf (s : State) (k i : Nat) : Nat :=
  match mget s.rte.rows (18 * k + i) with
  | some r => r.2
  | none => 0

/-- The link between digits i and j of the own k-line is recorded up (R442). -/
def State.lineUp (s : State) (k i j : Nat) : Bool :=
  if i = j then false
  else if i = digit s.own k then s.linkPorts k j != []
  else if j = digit s.own k then s.linkPorts k i != []
  else bitAt (s.rowOf k i) j && bitAt (s.rowOf k j) i

/-- A line notice of dimension k with a row through some ports, under the next sequence number (R441, R443). -/
def State.sendRow (s : State) (k row : Nat) (ports : List Nat) : State :=
  let pay := leBytes 4 s.rte.lineSeq ++ leBytes 1 k ++ zeros 3 ++ leBytes 4 row ++ zeros 4
  let s1 := { s with rte := { s.rte with lineSeq := add32 s.rte.lineSeq 1 } }
  ports.foldl (fun t p => t.sendCtl p 0x80 pay) s1

/-- The row that notices carry: all 0 in the safe state (R443, R609). -/
def State.noticeRow (s : State) (k : Nat) : Nat := if s.flt.safe then 0 else s.ownRow k

/-- The ports of dimension k that are up. -/
def State.dimPorts (s : State) (k : Nat) : List Nat :=
  (List.range 72).filter (fun p => s.flag .RTE_PORT_EN p && s.fld .RTE_PORT_DIM p == k && (s.port p).routable)

/-- The senders to which no port is up any more are forgotten: the next notice applies whatever its number (R443). -/
def State.forgetSenders (s : State) : State :=
  { s with rte := { s.rte with rows := s.rte.rows.map (fun kv =>
      if s.linkPorts (kv.1 / 18) (kv.1 % 18) = [] then (kv.1, (none, kv.2.2)) else kv) } }

/-- How long the twin's d0 links, and the own d0 ports, have all been down (R536, R538). -/
def State.watchTwin (s : State) : State :=
  match s.mir.cfg with
  | none => s
  | some c =>
    let x := digit c.coord 0
    let down := (List.range 18).all (fun i => !s.lineUp 0 i x)
    let no := (s.dimPorts 0).all (fun p => !(s.port p).isUp)
    { s with mir := { s.mir with
        d0Down := if down then (match s.mir.d0Down with | some t => some t | none => some s.tick) else none
        noD0 := if no then (match s.mir.noD0 with | some t => some t | none => some s.tick) else none } }

/-- A port went up or down: a notice through every other up port of its dimension, and the full row through a port that
came up (R441). -/
def State.portNotice (s : State) (p : Nat) (up : Bool) : State :=
  let k := s.fld .RTE_PORT_DIM p
  let row := s.noticeRow k
  let s1 := s.sendRow k row ((s.dimPorts k).filter (· != p))
  let s2 := if up then s1.sendRow k row [p] else s1
  s2.forgetSenders.watchTwin

/-! ## Targets of a packet (R444, R455, R456) -/

/-- The coordinate that a packet is routed toward. -/
def State.target (s : State) (k : Pkt) : Nat :=
  if k.redir then setDigit k.dest 0 k.via
  else if sameCell s.own k.dest && s.flag .RTE_ALIAS_VALID (digit k.dest 0) then
    setDigit k.dest 0 (s.fld .RTE_ALIAS_DIGIT (digit k.dest 0))
  else k.dest

/-- The unresolved dimensions of a target, ascending. -/
def State.unresolved (s : State) (t : Nat) : List Nat := [0, 1, 2, 3].filter (fun k => digit s.own k != digit t k)

/-- A candidate of the slalom choice. -/
structure Cand where
  port : Nat
  dim : Nat
  cost : Nat
  credit : Bool
  det : Bool := false
  deriving DecidableEq, Repr

/-- The detour of dimension k to digit x at least cost: the port to the lowest intermediate digit among equals (R450). -/
def State.detour (s : State) (k x v : Nat) : Option Cand :=
  if s.flag .RTE_CTL_DETOUR && (s.upPorts k x == []) then
    let cs := (List.range (s.dim k)).filter (fun c => c != digit s.own k && c != x && s.lineUp k c x)
    let one (c : Nat) : Option Cand :=
      (minBy (fun p => s.portCost p v) (s.upPorts k c)).map (fun p =>
        { port := p, dim := k, cost := s.portCost p v, credit := s.portCredit p v, det := true })
    minBy Cand.cost (cs.filterMap one)
  else none

/-- The candidates of one dimension on a minimal channel: each up port to the target digit, or the detour at 16 more. -/
def State.candsOf (s : State) (t v k : Nat) : List Cand :=
  let x := digit t k
  match s.upPorts k x with
  | [] => match s.detour k x v with
    | some c => [{ c with cost := c.cost + 16 }]
    | none => []
  | ps => ps.map (fun p => { port := p, dim := k, cost := s.portCost p v, credit := s.portCredit p v })

/-- Dimensions in ascending order from (tag mod 4), wrapping (R445). -/
def dimOrder (tag : Nat) : List Nat := (List.range 4).map (fun i => (tag + i) % 4)

/-- What becomes of a packet at the head of an input. -/
inductive Route where
  | deliver
  | send (port vc : Nat) (pkt : Pkt) (moved det : Bool)
  | wait
  | reinject (pkt : Pkt)
  | unroutable
  | hopLimit
  deriving DecidableEq, Repr

/-- The approach rule of R456: the packet re-injected toward the d0 digit at least cost, the lowest on a tie. -/
def State.approach (s : State) (k : Pkt) (t : Nat) : Route :=
  match s.unresolved t with
  | [d] =>
    if d ≠ 0 ∧ s.upPorts d (digit t d) = [] ∧ (s.detour d (digit t d) k.minVc).isNone = true ∧
        ((List.range 18).all (fun i => !s.lineUp d i (digit t d))) = true then
      let cs := (List.range (s.dim 0)).filter (fun c => c != digit s.own 0 && s.upPorts 0 c != [])
      let cost (c : Nat) : Nat := ((minBy (fun p => s.portCost p k.minVc) (s.upPorts 0 c)).map
        (fun p => s.portCost p k.minVc)).getD 0
      match minBy cost cs with
      | some c => .reinject { k with redir := true, via := c, vc := k.minVc }
      | none => .unroutable
    else .unroutable
  | _ => .unroutable

/-- A packet on an escape channel: its lowest unresolved dimension, the lower-numbered port that is up, else a detour
(R447, R450). -/
def State.routeEsc (s : State) (k : Pkt) (t : Nat) (moved : Bool) : Route :=
  match s.unresolved t with
  | [] => .unroutable
  | d :: _ =>
    match s.upPorts d (digit t d) with
    | p :: _ => .send p k.escVc k moved false
    | [] => match s.detour d (digit t d) k.minVc with
      | some c => .send c.port k.detVc k moved true
      | none => s.approach k t

/-- The candidates that a DIVERT leaves: those of another dimension where one is still unresolved, else those of another port; the full set
when none is left (R226, R448, R449). -/
def divert (cs : List Cand) (avoid : Option (Nat × Nat)) (slalom : Bool) (unresolved : List Nat) : List Cand :=
  match avoid with
  | none => cs
  | some (p, d) =>
    let a := if slalom && unresolved.any (fun k => k != d) then cs.filter (fun c => c.dim != d) else cs.filter (fun c => c.port != p)
    if a ≠ [] then a else cs

/-- A packet on a minimal channel: the candidate of least cost (R444, R445), or the lowest unresolved dimension while
SLALOM is 0 (R448); it waits while no candidate has credit, and moves to escape after ESCWAIT (R446). -/
def State.routeMin (s : State) (i : InPkt) (t : Nat) : Route :=
  let k := i.pkt
  let v := k.minVc
  let slalom := s.flag .RTE_CTL_SLALOM
  let ds := if slalom then (dimOrder k.tag).filter (fun d => (s.unresolved t).contains d) else (s.unresolved t).take 1
  let all := ds.flatMap (fun d => s.candsOf t v d)
  let cs := divert all i.avoid slalom (s.unresolved t)
  match cs with
  | [] => s.approach k t
  | c0 :: _ =>
    if cs.any Cand.credit then
      let c := if slalom then (minBy Cand.cost cs).getD c0 else c0
      if c.det then .send c.port k.detVc k false true else .send c.port v k false false
    else if i.at_ + s.fld .RTE_CTL_ESCWAIT ≤ s.tick then s.routeEsc k t true
    else .wait

/-- Whether a packet on the second hop of a detour in dimension d was on escape before it cannot be told from its header: a packet on
escape resolves its lowest dimension first (R447), so it was not while a lower one is unresolved. -/
def State.maybeEsc (s : State) (t d : Nat) : Bool := (s.unresolved t).all (fun k => decide (d ≤ k))

/-- The second hop of a detour: straight to the target digit of the dimension it arrived in (R451, R452). Where its header does not tell
whether the packet was on escape before (`State.maybeEsc`), that is a free value. -/
def State.routeDet (s : State) (i : InPkt) (t : Nat) : Route :=
  let k := i.pkt
  let d := s.fld .RTE_PORT_DIM i.port
  match s.upPorts d (digit t d) with
  | [] => .unroutable
  | p :: ps =>
    let wasEsc := s.maybeEsc t d && decide (Config.openNat s.free % 2 = 1)
    match (p :: ps).find? (fun q => s.portCredit q k.minVc) with
    | some q => if wasEsc then .send p k.escVc k false false else .send q k.minVc k false false
    | none => .send p k.escVc k false false

/-- The route of a packet that is not on a piste. -/
def State.route (s : State) (i : InPkt) : Route :=
  let k := i.pkt
  if k.isCtl then .deliver
  else if k.redir && (setDigit k.dest 0 k.via == s.own) then
    if s.isLocal k.dest || s.flag .RTE_ALIAS_VALID (digit k.dest 0) then .reinject { k with redir := false, vc := k.minVc }
    else .unroutable
  else if s.isLocal k.dest then .deliver
  else if i.port < 72 ∧ 15 < k.hops + 1 then .hopLimit
  else
    let t := s.target k
    if i.port < 72 ∧ (k.vc = 4 ∨ k.vc = 5) then s.routeDet i t
    else if s.unresolved t = [] then .unroutable
    else if k.vc = 2 ∨ k.vc = 3 then s.routeEsc k t false
    else s.routeMin i t

/-! ## Carrying out a route -/

/-- A packet queued for an output, HOPS counted when it came from a fabric port (R454). -/
def State.commit (s : State) (i : InPkt) (key : Option Nat) (p v : Nat) (k : Pkt) : State :=
  let k1 := { k with hops := if i.port < 72 then k.hops + 1 else k.hops, vc := v }
  let s1 := s.queuePkt p v { i with pkt := k1 } (if i.flits = 0 then none else key) (key.filter (fun x => decide (x < 576)))
  if i.port < 72 then s1.pmu_ { code := 0x17, tclass := some k.tclass } else s1

/-- A packet discarded as unroutable (R453, R457). -/
def State.dropUnroutable (s : State) : State := (s.bump .RTE_UNROUTE_COUNT).latch .RTE_FLT_UNROUTE

/-- The slots of a packet's input freed. -/
def State.freeKey (s : State) (key : Option Nat) (n : Nat) : State :=
  match key with
  | some k => s.freeSlots k n
  | none => s

/-- Bytes in the re-injection buffer. -/
def reinjBytes (l : List InPkt) : Nat := (l.map (fun i => i.pkt.bytes.length)).sum

/-- A packet taken into the re-injection buffer (R456 to R458). -/
def State.reinject (s : State) (i : InPkt) (k : Pkt) : State :=
  if 262144 < reinjBytes s.rte.reinj + k.bytes.length then (s.bump .RTE_FWDDROP_COUNT).latch .RTE_FLT_FWDFULL
  else { s.bump .RTE_REINJ_COUNT with
    rte := { s.rte with reinj := s.rte.reinj ++ [{ i with pkt := k, at_ := s.tick, flits := 0, avoid := none }] } }

/-- The target context number of a request packet (R45). -/
def tctxOf (k : Pkt) : Nat :=
  match k.ptype with
  | 0x04 => 8192 + (k.mtag / 2 ^ 46) % 4096
  | 0x07 => k.invIndex % 4096
  | 0x08 => 4096 + k.lock % 4096
  | 0x09 => 8192 + k.lwq % 4096
  | 0x0A => 12288 + k.cctx
  | _ => (k.key % 2 ^ 24) % 4096

/-- Where a packet for this device leaves the crossbar: a response or a PMARK at the local port of cluster TAG mod 18 (R47), a control
packet at the control stop (18), any other at the local port of its target context's home cluster (R56). -/
def placeOf (k : Pkt) : Nat :=
  if k.isCtl then 18 else if k.isResp || k.ptype == 0x0B then k.tag % 18 else tctxOf k % 288 / 16

/-- The buffer of the control stop is full (R461). The spec does not give its size: at least one packet, and a free number more
(DESIGN CHOICE, log 8). -/
def State.ctlFull (s : State) : Bool :=
  let n := (s.rte.deliver.filter (fun i => i.place == 18)).length
  n != 0 && decide (Config.ctlRoom < n)

/-- A packet leaves the crossbar for this device at its place (R56); a control packet that finds the buffer of the control stop full is
dropped (R461). -/
def State.toLocal (s : State) (i : InPkt) : State :=
  if placeOf i.pkt = 18 ∧ s.ctlFull = true then s
  else { s with rte := { s.rte with deliver := s.rte.deliver ++ [{ i with place := placeOf i.pkt }] } }

/-- What arrives on a channel of a port from now on. -/
def State.setPart (s : State) (key : Nat) (x : Option PartIn) : State :=
  s.modPort (key / 8) (fun ps => { ps with part := match x with | some a => mset ps.part (key % 8) a | none => mdel ps.part (key % 8) })

/-- A packet that is still arriving leaves its input's queue for a channel of an output port, or is discarded: what arrives of it later goes
after it. -/
def State.trail (s : State) (i : InPkt) (key : Option Nat) (x : PartIn) : State :=
  match i.part, key with
  | some _, some k => s.setPart k (some x)
  | _, _ => s

/-- The device is ALIASED: its own coordinate is held as an alias by the twin (R543). -/
def State.aliased (s : State) : Bool := s.mir.aliasedAt.isSome

/-- A request of this device that may not leave now: the device is ALIASED (R543). -/
def State.heldBack (s : State) (i : InPkt) : Bool := i.port == 72 && i.pkt.isReq && s.aliased

/-- One packet routed; the flag says whether it has left its input. One still arriving can pass onward to an output port (R465) or be
discarded; it is taken in here only when it has arrived whole. A packet that moves to escape stays there (R446). A port of a lane block in a
block reset takes none (R580, log 74). -/
def State.routeOne (s : State) (i : InPkt) (key : Option Nat) : State × Bool :=
  if s.heldBack i then (s, false) else
  match s.route i with
  | .deliver => if i.part.isSome then (s, false) else ((s.freeKey key i.flits).toLocal i, true)
  | .send p v k moved det =>
    if s.blockBusy (0x40 + p / 8) then (s, false) else
    let s0 := if i.port < 72 ∧ (i.pkt.vc = 4 ∨ i.pkt.vc = 5) then s.fresh.2 else s
    let s1 := if moved then (s0.bump .RTE_ESC_COUNT).pmu_ { code := 0x18, tclass := some k.tclass } else s0
    let s2 := if det then s1.bump .RTE_DET_COUNT else s1
    ((s2.trail i key (.stream p v)).commit { i with esc := i.esc || moved || i.pkt.vc == i.pkt.escVc } key p v k, true)
  | .wait => (s, false)
  | .reinject k => if i.part.isSome then (s, false) else ((s.freeKey key i.flits).reinject i k, true)
  | .unroutable => (((s.trail i key .discard).freeKey key i.flits).dropUnroutable, true)
  | .hopLimit => (((s.trail i key .discard).freeKey key i.flits).bump .RTE_HOPLIM_COUNT, true)

/-- An input queue replaced; an empty one is not listed. -/
def State.setInq (s : State) (key : Nat) (l : List InPkt) : State :=
  { s with rte := { s.rte with inq := if l = [] then mdel s.rte.inq key else mset s.rte.inq key l } }

/-- Packets of one input routed from its head until one waits (R446, R463). -/
def routeKeyAux (key : Nat) : Nat → State → State
  | 0, s => s
  | fuel + 1, s =>
    match mgetD s.rte.inq key [] with
    | [] => s
    | i :: t =>
      match s.routeOne i (some key) with
      | (s1, true) => routeKeyAux key fuel (s1.setInq key
          (match t with | [] => [] | j :: u => { j with at_ := s.tick } :: u))
      | (_, false) => s

/-- The packets of one input routed. -/
def State.routeKey (s : State) (key : Nat) : State := routeKeyAux key (mgetD s.rte.inq key []).length s

/-- The re-injection buffer's packets routed, each on its own. -/
def State.routeReinj (s : State) : State :=
  let l := s.rte.reinj
  let s1 := { s with rte := { s.rte with reinj := [] } }
  l.foldl (fun t i =>
    match t.routeOne i none with
    | (t1, true) => t1
    | (_, false) => { t with rte := { t.rte with reinj := t.rte.reinj ++ [i] } }) s1

/-- A packet placed at the tail of an input's queue and routed. -/
def State.arrive (s : State) (key : Nat) (i : InPkt) : State :=
  let l := mgetD s.rte.inq key []
  (s.setInq key (l ++ [if l = [] then { i with at_ := s.tick } else i])).routeKey key |>.routeReinj

/-- The work queue and the count of the descriptor that a request serves. -/
def Owner.entry : Owner → Option (Nat × Nat)
  | .desc q cnt => some (q, cnt)
  | .cancel q cnt => some (q, cnt)
  | .lockProbe q cnt => some (q, cnt)
  | _ => none

/-- The work queue that a request serves. -/
def Owner.queue (o : Owner) : Option Nat := o.entry.map Prod.fst

/-- An event of a packet, charged to the queue of the descriptor that it serves (R615); its sample names that descriptor (R619). -/
def State.pmuOwner (s : State) (code : Nat) (o : Option Owner) (tclass : Nat) : State :=
  let x := o.bind Owner.entry
  s.pmu_ { code := code, queue := x.map Prod.fst, func := x.map (fun y => s.wqOwner y.1), tclass := some tclass,
           cnt := x.map Prod.snd, by_ := x.bind (fun y => (s.desc y.1 y.2).map Desc.engine) }

/-- A packet made here enters the crossbar from the local port (R57). -/
def State.inject (s : State) (k : Pkt) (tag : Option Nat := none) (avoid : Option (Nat × Nat) := none)
    (own : Option Owner := none) : State :=
  let v := k.minVc
  let s1 := s.pmuOwner 0x15 own k.tclass
  s1.arrive (inKey 72 v) { pkt := { k with vc := v }, port := 72, rx := s.tick, tag := tag, avoid := avoid }

/-! ## Pistes in transit (R467) -/

/-- The key of a transit entry: its input port and label. -/
def pisteKey (p label : Nat) : Nat := 1024 * p + label

/-- A piste packet at an input: delivered at its destination, forwarded by its label, or discarded when no entry holds
the label, or whose HOPS would pass 15 (R454); a teardown mark frees the entry behind it (R467, R476). -/
def State.pistePkt (s : State) (key : Nat) (i : InPkt) : State :=
  let k := i.pkt
  if s.isLocal k.dest then (s.freeSlots key i.flits).toLocal i
  else if 15 < k.hops + 1 then ((s.trail i (some key) .discard).freeSlots key i.flits).bump .RTE_HOPLIM_COUNT
  else match mget s.rte.transit (pisteKey i.port k.plabel) with
    | some e =>
      let s1 := (s.trail i (some key) (.stream e.outPort 6)).commit i (some key) e.outPort 6 { k with plabel := e.outLabel }
      if k.ptype = 0x0B then
        { s1 with rte := { s1.rte with transit := mdel s1.rte.transit (pisteKey i.port k.plabel) } }
      else s1
    | none => (s.trail i (some key) .discard).freeSlots key i.flits

/-- What a piste has had of its burst now: it drains at SHARE/256 of its output port's rate, which is 85/216 flits a tick for each
lane (R473, R479). DESIGN CHOICE (log 40): the burst of 16 KiB counts flits of 64 B. -/
def State.pisteLevel (s : State) (ps : Piste) : Nat :=
  ps.spent - (s.tick - ps.spentAt) * ps.share * 85 * (s.port ps.outPort).width

/-- A piste packet may leave its origin now (R473). -/
def State.pisteRoom (s : State) (ps : Piste) (k : Pkt) : Bool :=
  decide (s.pisteLevel ps + flitCount k.bytes.length * 55296 ≤ 256 * 55296)

/-- A piste packet leaves its origin by the piste's first port and label (R472). -/
def State.pisteSend (s : State) (n : Nat) (ps : Piste) (i : InPkt) : State :=
  let s1 := s.commit i none ps.outPort 6 { i.pkt with plabel := ps.outLabel }
  { s1 with rte := { s1.rte with pistes := mset s1.rte.pistes n { ps with
      pkts := add32 ps.pkts 1, spent := s.pisteLevel ps + flitCount i.pkt.bytes.length * 55296, spentAt := s.tick } } }

/-- A packet for a piste: it leaves at the piste's rate, behind those held back (R473, R474). -/
def State.injectPiste (s : State) (n : Nat) (k : Pkt) (tag : Option Nat) (own : Option Owner) : State :=
  let ps := mgetD s.rte.pistes n {}
  let i : InPkt := { pkt := k, port := 72, rx := s.tick, tag := tag }
  let s1 := s.pmuOwner 0x15 own k.tclass
  if ps.held = [] ∧ s.pisteRoom ps k = true ∧ s.heldBack i = false then s1.pisteSend n ps i
  else { s1 with rte := { s1.rte with pistes := mset s1.rte.pistes n { ps with held := ps.held ++ [i] } } }

/-- Held packets of a piste that its rate lets leave now. -/
def pisteRunAux (n : Nat) : Nat → State → State
  | 0, s => s
  | fuel + 1, s =>
    let ps := mgetD s.rte.pistes n {}
    match ps.held with
    | i :: t => if s.pisteRoom ps i.pkt && !s.heldBack i then pisteRunAux n fuel (s.pisteSend n { ps with held := t } i) else s
    | [] => s

/-- Every piste's held packets that may leave now (R473). -/
def State.pisteRun (s : State) : State :=
  s.rte.pistes.foldl (fun t (kv : Nat × Piste) => if kv.2.held = [] then t else pisteRunAux kv.1 kv.2.held.length t) s

/-- The packets that an originating piste holds back go by slalom (the table of piste states); a teardown mark among them is dropped. -/
def State.unholdPiste (s : State) (n : Nat) : State :=
  let ps := mgetD s.rte.pistes n {}
  if ps.held = [] then s
  else
    ps.held.foldl (fun u i => if i.pkt.ptype = 0x0B then u else u.arrive (inKey 72 0) { i with pkt := { i.pkt with vc := 0 } })
      { s with rte := { s.rte with pistes := mset s.rte.pistes n { ps with held := [] } } }

/-- Every waiting packet routed as far as it can be, then every port sends what it can and owes. -/
def State.fabricRun (s : State) : State :=
  (s.rte.inq.foldl (fun t kv => t.routeKey kv.1) s).routeReinj.pisteRun.flush

/-- The share reserved on an output port: transit entries and originating pistes (R471). -/
def State.reserved (s : State) (p : Nat) : Nat :=
  ((s.rte.transit.filter (fun kv => kv.2.outPort == p)).map (fun kv => kv.2.share)).sum +
  ((s.rte.pistes.filter (fun kv => kv.2.st != 0 && kv.2.outPort == p)).map (fun kv => kv.2.share)).sum

/-- Bytes 0 to 4 of a piste control payload (R519). -/
def pisteId (origin piste : Nat) : List Byte := leBytes 4 (origin % 2 ^ 20) ++ leBytes 1 piste

/-- A break notice (R475, R519). -/
def State.sendBreak (s : State) (p origin piste : Nat) (toDest : Bool) : State :=
  s.sendCtl p 0x84 (pisteId origin piste ++ zeros 3 ++ leBytes 1 (b2n toDest) ++ zeros 7)

/-- Packets of an originating piste still queued at its first port go by slalom (the table of piste states). -/
def State.unqueuePiste (s : State) (port label : Nat) : State :=
  let mine (t : TxPkt) : Bool := t.inp.port == 72 && t.inp.pkt.plabel == label && !t.started
  let l := ((s.port port).queue 6).filter mine
  let s1 := s.modPort port (fun ps => ps.setQueue 6 ((ps.queue 6).filter (fun t => !mine t)))
  l.foldl (fun u t => if t.inp.pkt.ptype = 0x0B then u else
    u.arrive (inKey 72 0) { t.inp with pkt := { t.inp.pkt with vc := 0, plabel := 0 } }) s1

/-- The teardown mark of a piste whose teardown has ended is sent no more if it waits for a tag, and its answer is for no piste (R476). -/
def State.forgetMark (s : State) (n : Nat) : State :=
  let o (x : Owner) : Owner := if x = .pmark n then .pmark (256 + n) else x
  { s with ini := { s.ini with waiting := s.ini.waiting.filter (fun w => w.owner != .pmark n)
                               tags := s.ini.tags.map (fun kv => (kv.1, { kv.2 with owner := o kv.2.owner })) } }

/-- An originating piste's teardown ends: the packets still here go by slalom (log 40), the mark is forgotten, the piste is FREE and
PISTE_TEARDOWN completes (R476). -/
def State.pisteGone (s : State) (n status : Nat) : State :=
  match mget s.rte.pistes n with
  | some ps =>
    if ps.st = 4 then
      let s1 := ((s.unqueuePiste ps.outPort ps.outLabel).unholdPiste n).forgetMark n
      ({ s1 with rte := { s1.rte with pistes := mdel s1.rte.pistes n } } : State).endB (fun b => b.op == 0x31 && b.obj == n) status
    else s
  | none => s

/-- An originating piste meets a break notice, or loses its first port (R475, R476 and the table of piste states): an UP
piste becomes BROKEN, a setup fails, a teardown ends. -/
def State.pisteBreak (s : State) (n port : Nat) : State :=
  match mget s.rte.pistes n with
  | none => s
  | some ps =>
    match ps.st with
    | 1 =>
      ({ s with rte := { s.rte with pistes := mdel s.rte.pistes n } } : State).endB
        (fun b => b.op == 0x30 && b.obj == n) sNoResource s.own
    | 2 =>
      let s1 := { s with rte := { s.rte with pistes := mset s.rte.pistes n { ps with st := 3 } } }
      (((s1.unqueuePiste ps.outPort ps.outLabel).unholdPiste n).latch .RTE_FLT_PISTEBRK).raise (512 + port) 0x1006 n
    | 4 => s.pisteGone n 0
    | _ => s

/-- A port went down: transit entries on it are freed with break notices both ways, and originating pistes on it break
(R475). -/
def State.breakPistes (s : State) (p : Nat) : State :=
  let hit (kv : Nat × TransitEnt) : Bool := kv.1 / 1024 == p || kv.2.outPort == p
  let gone := s.rte.transit.filter hit
  let s1 := { s with rte := { s.rte with transit := s.rte.transit.filter (fun kv => !hit kv) } }
  let s2 := gone.foldl (fun t kv =>
    let a := if kv.1 / 1024 = p then t else t.sendBreak (kv.1 / 1024) kv.2.origin kv.2.piste false
    if kv.2.outPort = p then a else a.sendBreak kv.2.outPort kv.2.origin kv.2.piste true) s1
  let mine := s2.rte.pistes.filter (fun (kv : Nat × Piste) => kv.2.st != 0 && kv.2.outPort == p)
  mine.foldl (fun t kv => t.pisteBreak kv.1 p) s2

/-! ## The loss of a port (R466, R500) -/

/-- A packet still arriving for an output port that is gone: it joins its input's queue again if it had not started to leave, else the
rest of it is discarded as it arrives. -/
def State.unstream (s : State) (t : TxPkt) (x : PartIn) : State :=
  match t.src with
  | none => s
  | some key => if t.closed then s else s.setPart key (some x)

/-- The input whose queue a packet of a lost port joins again: the one it entered by, or the local port's. -/
def TxPkt.input (t : TxPkt) : Nat := t.via.getD (inKey 72 t.inp.pkt.minVc)

/-- A packet of a lost port as its input held it: on the second hop of a detour its channel says so (R452), one that had moved to escape
stays there (R446), another is on the minimal channel of its class. -/
def TxPkt.back (t : TxPkt) (now : Nat) : InPkt :=
  let k := { t.inp.pkt with hops := if t.inp.port < 72 then t.inp.pkt.hops - 1 else t.inp.pkt.hops }
  let v := if t.input / 8 ≠ 72 ∧ (t.input % 8 = 4 ∨ t.input % 8 = 5) then t.input % 8 else if t.inp.esc then k.escVc else k.minVc
  { t.inp with pkt := { k with vc := v }, at_ := now, flits := if t.src.isSome then t.rest.length else 0,
               part := if t.closed then none else some t.rest }

/-- A control packet queued for a lost port goes to the same neighbour through another port that is up; where there is none it is lost, and
its sender's repetition makes it good (R461, R466). -/
def State.rerouteCtl (s : State) (p : Nat) (t : TxPkt) : State :=
  match (s.linkPorts (s.fld .RTE_PORT_DIM p) (s.fld .RTE_PORT_DIGIT p)).find? (· != p) with
  | some q => s.queuePkt q 7 t.inp none none
  | none => s

/-- The head packet of an input's queue routed, if the queue has one. -/
def State.routeHead (s : State) (key : Nat) : State :=
  match mgetD s.rte.inq key [] with
  | [] => s
  | i :: t => match s.routeOne i (some key) with
    | (s1, true) => s1.setInq key t
    | (_, false) => s

/-- What a lost output port held: flits of packets that had started are gone and their slots freed; piste packets are
discarded; the others are routed again in queue order from the inputs that they entered by (R463, R466). -/
def State.requeue (s : State) (p : Nat) : State :=
  let lost := (s.port p).txq
  let all := lost.flatMap (fun kv => kv.2.map (fun t => (kv.1, t)))
  let s1 := s.modPort p (fun ps => { ps with txq := [] })
  let s2 := all.foldl (fun t (x : Nat × TxPkt) =>
    if x.2.started || x.1 = 6 then (t.unstream x.2 .discard).freeKey x.2.src x.2.rest.length
    else if x.1 = 7 then t.rerouteCtl p x.2
    else t.unstream x.2 .queued) s1
  let back := (all.filter (fun x => !x.2.started && decide (x.1 < 6))).map Prod.snd
  let order := sortAsc (back.map TxPkt.ord)
  let l := order.filterMap (fun n => back.find? (fun t => t.ord == n))
  let s3 := l.reverse.foldl (fun t x => t.setInq x.input (x.back t.tick :: mgetD t.rte.inq x.input [])) s2
  l.foldl (fun t x => t.routeHead x.input) s3

/-- The requests of this device that have left its local port and not started to leave by a fabric port come back to it (R543). -/
def State.recallReqs (s : State) : State :=
  let own (t : TxPkt) : Bool := t.inp.port == 72 && t.inp.pkt.isReq && !t.started
  let piste (p : Nat) (t : TxPkt) : Option Nat :=
    (s.rte.pistes.find? (fun (kv : Nat × Piste) => kv.2.outPort == p && kv.2.outLabel == t.inp.pkt.plabel && kv.2.st != 0)).map Prod.fst
  s.lnk.ports.foldl (fun u kv =>
    let l := kv.2.txq.flatMap (fun x => (x.2.filter own).map (fun t => (x.1, t)))
    let u1 := u.modPort kv.1 (fun ps => { ps with txq := (ps.txq.map (fun x => (x.1, x.2.filter (fun t => !own t)))).filter (fun x => x.2 != []) })
    l.reverse.foldl (fun v x =>
      match (if x.1 = 6 then piste kv.1 x.2 else none) with
      | some n => { v with rte := { v.rte with pistes := mmod v.rte.pistes n (fun (ps : Piste) => { ps with
          held := x.2.inp :: ps.held, pkts := sub32 ps.pkts 1, spent := ps.spent - flitCount x.2.inp.pkt.bytes.length * 55296 }) } }
      | none => v.setInq x.2.input (x.2.back v.tick :: mgetD v.rte.inq x.2.input [])) u1) s

/-- A flit that voids a packet (R500): EOP with ABORT. -/
def abortFlit (v : Nat) : Flit := { kind := 1, vc := v, eop := true, abort := true, body := zeros 56 }

/-- The packets that were arriving on a lost port: one that had started onward is voided with ABORT, or dropped whole if
its first flit has not left; one that had not is discarded (R500). What arrived whole keeps its place, but the slots it held
count no more, since freed counts restart at 0 when the link comes up again (R489). -/
def State.voidArriving (s : State) (p : Nat) : State :=
  let mine (t : TxPkt) : Bool := !t.closed && (match t.src with | some k => k / 8 == p | none => false)
  let fix (v : Nat) (t : TxPkt) : Option TxPkt :=
    if mine t then
      (if t.started then some { t with rest := t.rest ++ [abortFlit v], closed := true, src := none } else none)
    else some { t with src := t.src.filter (fun k => k / 8 != p) }
  let void (ps : PortSt) : PortSt :=
    { ps with txq := (ps.txq.map (fun q => (q.1, q.2.filterMap (fix q.1)))).filter (fun q => q.2 != []) }
  let s1 := { s with lnk := { s.lnk with ports := s.lnk.ports.map (fun (kv : Nat × PortSt) => (kv.1, void kv.2)) } }
  let unslot (kv : Nat × List InPkt) : Nat × List InPkt :=
    (kv.1, if kv.1 / 8 = p then (kv.2.filter (fun i => i.part.isNone)).map (fun i => { i with flits := 0 }) else kv.2)
  let s2 := { s1 with rte := { s1.rte with inq := (s1.rte.inq.map unslot).filter (fun kv => kv.2 != []) } }
  s2.modPort p (fun ps => { ps with part := [] })

/-- A port's link layer cleared: replay buffer, sequence numbers and credits (R500). -/
def PortSt.clearLink (ps : PortSt) : PortSt :=
  { ps with replay := [], resend := [], nextSeq := 0, e := 0, acked := false, nakAt := none, toCount := 0, limits := [],
            consumed := [0, 0, 0, 0, 0, 0, 0, 0], returned := [0, 0, 0, 0, 0, 0, 0, 0], lastCum := [0, 0, 0, 0, 0, 0, 0, 0],
            freed := [0, 0, 0, 0, 0, 0, 0, 0], crSent := [0, 0, 0, 0, 0, 0, 0, 0], crAge := [0, 0, 0, 0, 0, 0, 0, 0],
            crNext := 0, ackSent := none, remedy := none, tsxEcho := 0, delays := [], part := [] }

end Sys2Proof.Machine
end

