-- ==== Sys2Proof/Machine/Send.lean ====
section
/-! DEFINITION. The initiator's requests: request tags (R89, R233, R668), transmission and retransmission (R222 to R226),
congestion control (R239 to R245), and the local service of R81. -/

namespace Sys2Proof.Machine

/-! ## Congestion contexts (R240 to R244) -/

/-- CWND kept within its bounds (R243). -/
def State.clipCwnd (s : State) (w : Nat) : Nat :=
  max (256 * s.fld .RTE_CCWMIN_CWNDMIN) (min (256 * s.fld .RTE_CCWMAX_CWNDMAX) w)

/-- A congestion context in the period of BASE with number `p` (R240): the least sample of an earlier one stays only as that of the period
before. -/
def CcCtx.rotate (c : CcCtx) (p : Nat) : CcCtx :=
  if c.period = p then c
  else { c with period := p, base0 := none, base1 := if p = c.period + 1 then c.base0 else none }

/-- The number of the present period of BASE (R240). -/
def State.ccPeriod (s : State) : Nat := s.now / 8000000

/-- A congestion context in the present period, its CWND within the bounds of the moment (R243); one that has not started holds the initial
CWND. -/
def State.cc (s : State) (cell : Nat) : CcCtx :=
  let c : CcCtx := mgetD s.ini.cc cell { cwnd := 256 * s.fld .RTE_CCWINIT_CWNDINIT }
  { c.rotate s.ccPeriod with cwnd := s.clipCwnd c.cwnd }

/-- A congestion context replaced. -/
def State.setCc (s : State) (cell : Nat) (c : CcCtx) : State := { s with ini := { s.ini with cc := mset s.ini.cc cell c } }

/-- BASE: the least sample of the current and the previous period. -/
def CcCtx.base (c : CcCtx) : Nat :=
  match c.base0, c.base1 with
  | some a, some b => min a b
  | some a, none => a
  | none, some b => b
  | none, none => 0

/-- A delay sample taken with an answer of `bytes` bytes (R240, R242). DESIGN CHOICE (log 69): the last SRTT is the one that this sample has
updated, and a decrease exactly that long ago is not within it. -/
def State.ccSample (s : State) (c : CcCtx) (sample bytes : Nat) : CcCtx :=
  let srtt := if c.sampled then (7 * c.srtt + 8 * sample) / 8 else 8 * sample
  let c1 := { c with sampled := true, srtt := srtt, base0 := some (match c.base0 with | some b => min b sample | none => sample) }
  let lim := c1.base + s.fld .RTE_CCTARGETQ_TARGETQ
  if sample ≤ lim then
    { c1 with cwnd := s.clipCwnd (c.cwnd + s.fld .RTE_CCAI_AI * bytes * 65536 / c.cwnd) }
  else
    let calm := match c.lastDec with | some t => decide (srtt ≤ 8 * (s.tick - t)) | none => true
    if calm then
      let num := 256 * sample - s.fld .RTE_CCBETA_BETA * (sample - lim)
      { c1 with cwnd := s.clipCwnd (max (c.cwnd / 2) (c.cwnd * num / (256 * sample))), lastDec := some s.tick }
    else { c1 with cwnd := s.clipCwnd c.cwnd }

/-- RTO of a cell at a first transmission (R222). -/
def State.rto (s : State) (cell : Nat) : Nat := max 20000 (min 200000 (3 * (s.cc cell).srtt / 8))

/-- What a request adds to INFLIGHT (R241): its payload, the response payload it expects, and 64. -/
def inflightOf (k : Pkt) : Nat :=
  k.payload.length + 64 + (if k.ptype = 0x02 then k.rlen else if k.ptype = 0x05 ∧ k.nodata = false then 64 else 0)

/-- Queues that wait on a cell return to their run lists when INFLIGHT falls to CWND or below (R244). -/
def State.ccWake (s : State) (cell : Nat) : State :=
  let c := s.cc cell
  if 256 * c.infl ≤ c.cwnd then s.unpark (fun r => r == .cwnd cell) else s

/-- The bytes of a request leave INFLIGHT (R241). -/
def State.ccLeave (s : State) (e : TagEnt) : State :=
  if e.infl = 0 then s
  else
    let c := s.cc e.cell
    (s.setCc e.cell { c with infl := c.infl - e.infl }).ccWake e.cell

/-! ## Target contexts of requests (R45) -/

/-- A request waits on its target context, which joins its home engine's run list (R46). -/
def State.targetWait (s : State) (r : Req) : State :=
  let t := tctxOf r.pkt
  let s1 := { s with tgt := { s.tgt with tctx := mset s.tgt.tctx t (mgetD s.tgt.tctx t [] ++ [r]) } }
  s1.enqueue (.tctx t)

/-! ## Sending -/

/-- The device executes no request: it is ALIASED (R543) or FENCED (R538). -/
def State.noExec (s : State) : Bool := s.aliased || s.mir.twin == .fenced

/-- A free request tag: which one is not specified (R667); none when all 131,072 are held. -/
def State.freeTag (s : State) : Option Nat :=
  if 131072 ≤ s.ini.tags.length then none
  else
    let k := Config.tagChoice s.free % 131072
    if (mget s.ini.tags k).isNone then some k else some (mfree s.ini.tags 131072 0)

/-- A tag's record changed. -/
def State.modTag (s : State) (t : Nat) (f : TagEnt → TagEnt) : State :=
  { s with ini := { s.ini with tags := mmod s.ini.tags t f } }

/-- The first transmission of a packet of a window access is noted at the access (R327, R328). -/
def State.noteFirst (s : State) (o : Owner) : State :=
  let mark (id : Nat) : State :=
    let item (i : WItem) : WItem := if i.id = id then { i with first := some s.tick } else i
    { s with win := { s.win with blk := s.win.blk.map (fun kv => (kv.1, { kv.2 with items := kv.2.items.map item })) } }
  match o with
  | .winRead id => mark id
  | .winWrite id _ => mark id
  | _ => s

/-- The piste on which a packet of a descriptor that travels on it leaves: while it is UP, and for its teardown mark while it is
TEARING; otherwise the packet goes by slalom (R472, R476 and the table of piste states). -/
def State.pisteNow (s : State) (p : Option Nat) (k : Pkt) : Option Nat :=
  p.filter (fun n => match mget s.rte.pistes n with
    | some x => x.dest == k.dest && (x.st == 2 || (x.st == 4 && k.ptype == 0x0B))
    | none => false)

/-- A request sent for the first time with tag `t`: locally under R81, on its piste (R472), or by slalom. A packet of a piste descriptor
stays outside congestion control (R245), DESIGN CHOICE (log 69): also one that leaves by slalom because its piste broke first, of which
the spec does not speak. -/
def State.transmit (s : State) (w : TagWait) (t : Nat) : State :=
  let loc := s.isLocal w.pkt.dest
  let cell := cellNum w.pkt.dest
  let origin := w.origin.getD s.tick
  let p := if s.ncc then w.pkt else w.pkt.noLease
  let k := { p with src := s.own, tag := t, epoch := s.fld .GEN_EPOCH_EPOCH, txtime := s.now % 2 ^ 32, attempt := 0,
                        sentAgo := sat (2 ^ 21 - 1) (s.tick - origin), age := 0, divert := false }
  let n := if loc || w.piste.isSome || k.ptype == 0x0A then 0 else inflightOf k
  let e : TagEnt := { owner := w.owner, pkt := k, first := s.tick, last := s.tick, origin := origin, rto := s.rto cell,
                      loc := loc, nonIdem := w.nonIdem, infl := n, cell := cell, piste := w.piste.isSome, noInstall := w.noInstall,
                      sentNcc := s.ncc }
  let s1 := ({ s with ini := { s.ini with tags := mset s.ini.tags t e } } : State).noteFirst w.owner
  let s2 := if n = 0 then s1 else let c := s1.cc cell; s1.setCc cell { c with infl := c.infl + n }
  if loc then s2.targetWait { pkt := k, loc := true, rx := s.tick, port := 72 }
  else match s2.pisteNow w.piste k with
    | some p => s2.injectPiste p k (some t) (some w.owner)
    | none => s2.inject k (some t) none (some w.owner)

/-- Requests may leave: the steward has loaded the epoch (R93), 10 µs have passed since the reset (R94), no reset's notice is still being sent (R432), and
the device is not ALIASED (R543). -/
def State.maySend (s : State) : Bool :=
  s.rst.booted && s.rst.epoch == .loaded && decide (s.ini.quietUntil ≤ s.tick) && s.lck.notices.all (fun n => !n.all) && !s.aliased

/-- The batch of a counter context as the merged request that it leaves in (R405 to R407): the constituents before their 1.5 ms, under the
instant of the earliest; none, and no request, when all are past it. -/
def State.mergedFill (s : State) (k : Nat) (w : TagWait) : Option (State × TagWait) :=
  let c := s.ctx k
  let inTime (x : Constit) : Bool := decide (s.tick < x.origin + 1500000)
  match c.batch.filter inTime with
  | [] => none
  | x :: t =>
    let s1 := s.modCtx k (fun c => { c with batch := c.batch.filter (fun x => !inTime x), flight := x :: t })
    some ((s1.unpark (fun r => r == .batch k)).bump .COL_FWD_COUNT,
      { w with origin := some (t.foldl (fun a y => min a y.origin) x.origin)
               pkt := { w.pkt with dest := if c.parentLost then c.root else c.parent, tclass := c.tclass,
                                   ext := extColl k 3 false 0 c.setupId 0 0 0
                                   payload := leBytes 8 (((x :: t).map Constit.addend).sum % 2 ^ 64) } })

/-- A request whose turn for a tag has come leaves with tag `t`; a merged request takes its batch with it as it leaves. -/
def State.sendNow (s : State) (w : TagWait) (t : Nat) : State :=
  match w.owner with
  | .merged k => match s.mergedFill k w with
    | some x => x.1.fresh.2.transmit x.2 t
    | none => s
  | _ => s.fresh.2.transmit w t

/-- A request sent, or made to wait for a tag in the order in which it came to need one (R668). -/
def State.sendW (s : State) (w : TagWait) : State :=
  if s.ini.waiting ≠ [] ∨ s.maySend = false then { s with ini := { s.ini with waiting := s.ini.waiting ++ [w] } }
  else match s.freeTag with
    | some t => s.sendNow w t
    | none => { s with ini := { s.ini with waiting := s.ini.waiting ++ [w] } }

/-- A request of an owner sent now. -/
def State.sendReq (s : State) (o : Owner) (k : Pkt) (nonIdem : Bool := false) (piste origin : Option Nat := none)
    (noInstall : Bool := false) : State :=
  s.sendW { owner := o, pkt := k, origin := origin, piste := piste, nonIdem := nonIdem, noInstall := noInstall }

/-- A waiting request is never sent: one of which the first transmission would come more than 1.5 ms after the instant that its SENT_AGO
counts from, which is the start of its message (R258) or the first of its constituents (R407). -/
def State.tooLate (s : State) (w : TagWait) : Bool :=
  match w.origin with
  | some t => decide (t + 1500000 < s.tick)
  | none => false

/-- Waiting requests sent while tags are free (R668). -/
def wakeAux : Nat → State → State
  | 0, s => s
  | fuel + 1, s =>
    match s.ini.waiting with
    | [] => s
    | w :: rest =>
      if s.tooLate w then
        let s1 : State := { s with ini := { s.ini with waiting := rest } }
        wakeAux fuel (match w.owner with
          | .desc q cnt => s1.modDesc q cnt (fun d => { d with unsent := true })
          | _ => s1)
      else if s.maySend then
        match s.freeTag with
        | some t => wakeAux fuel (({ s with ini := { s.ini with waiting := rest } } : State).sendNow w t)
        | none => s
      else s

/-- Requests that wait for a tag are sent as far as tags are free; then the queues parked for a tag return (R668), and those
held until requests may leave. -/
def State.wakeTags (s : State) : State :=
  let s1 := wakeAux s.ini.waiting.length s
  let s2 := if s1.ini.waiting = [] ∧ s1.freeTag.isSome = true then s1.unpark (fun r => r == .tag) else s1
  if s2.maySend then s2.unpark (fun r => r == .hold) else s2

/-- A tag freed (R233): its bytes leave INFLIGHT, what waits for a tag goes on, and the queues parked for one return to their run lists
(R668). -/
def State.releaseTag (s : State) (t : Nat) : State :=
  match mget s.ini.tags t with
  | none => s
  | some e =>
    (({ s with ini := { s.ini with tags := mdel s.ini.tags t } } : State).ccLeave e).wakeTags.unpark (fun r => r == .tag)

/-- The tick at which a tag is freed by the table of R233, once it may be: none while it waits for its answer. DESIGN CHOICE (log 69): the
table has no row for an idempotent request that is never answered; its tag is freed 2.0 ms after its first transmission, when no answer can
come any more (R224). -/
def TagEnt.releaseAt (e : TagEnt) (now : Nat) : Option Nat :=
  if e.loc then (if e.answered then some now else none)
  else if e.nonIdem then some (e.first + 2100000)
  else if e.flushed then some (e.first + 2000000)
  else if e.answered || e.done then
    (if e.attempt = 0 ∧ e.answered = true then some now else some (max now (e.first + 2000000)))
  else none

/-- A tag stays held with the completion of its descriptor, which waits for DMA writes to resume (R609, R670). -/
def State.tagHeld (s : State) (e : TagEnt) : Bool :=
  s.dmaStop && (match e.owner with
    | .desc q cnt => s.qmg.cq.any (fun kv => kv.2.held.any (fun x => x.gwq == q && x.wqidx == cnt))
    | _ => false)

/-- A tag freed at once where R233 frees it when it is answered. -/
def State.maybeRelease (s : State) (t : Nat) : State :=
  match (mget s.ini.tags t).filter (fun e => !s.tagHeld e) with
  | some e => match e.releaseAt s.tick with
    | some d => if d ≤ s.tick then s.releaseTag t else s
    | none => s
  | none => s

/-- The tags of an operation that has ended take no further answer. -/
def State.closeTags (s : State) (l : List (Nat × TagEnt)) : State :=
  l.foldl (fun t kv => (t.modTag kv.1 (fun e => { e with done := true })).maybeRelease kv.1) s

/-- No request of some owners is sent any more: those that wait for a tag are dropped, and those unanswered take no answer. -/
def State.cancelReqs (s : State) (mine : Owner → Bool) : State :=
  let s1 : State := { s with ini := { s.ini with waiting := s.ini.waiting.filter (fun w => !mine w.owner) } }
  s1.closeTags (s1.ini.tags.filter (fun kv => mine kv.2.owner && !kv.2.answered && !kv.2.done))

/-- A request is answered: its bytes leave INFLIGHT, and a request that was sent once gives a delay sample from the
answer's TXTIME and RESIDENCE (R239, R241, R242). Its tag is freed once the answer has had its effects (R233). -/
def State.answered (s : State) (t : Nat) (txtime residence : Nat) : State :=
  match mget s.ini.tags t with
  | none => s
  | some e =>
    let s1 := s.modTag t (fun e => { e with answered := true, infl := 0 })
    if e.infl = 0 then s1 else
      let c := s1.cc e.cell
      let c1 := { c with infl := c.infl - e.infl }
      let c2 := if e.attempt = 0 then
        s1.ccSample c1 ((s.now + 2 * 2 ^ 32 - txtime % 2 ^ 32 - residence % 2 ^ 32) % 2 ^ 32) e.infl else c1
      (s1.setCc e.cell c2).ccWake e.cell

/-- A transmission of an unanswered request after its first (R223, R226): DIVERT set, avoiding the port and dimension of
the previous attempt, by slalom and never on a piste (R474). -/
def State.resendTag (s : State) (t : Nat) : State :=
  match mget s.ini.tags t with
  | none => s
  | some e =>
    let k := { e.pkt with txtime := s.now % 2 ^ 32, attempt := sat 7 (e.attempt + 1),
                          sentAgo := sat (2 ^ 21 - 1) (s.tick - e.origin), age := 0, divert := true, hops := 0, redir := false }
    let s1 := s.modTag t (fun e => { e with attempt := e.attempt + 1, pkt := k })
    let s2 := s1.pmuOwner 0x07 (some e.owner) k.tclass
    s2.inject k (some t) (if e.port < 72 then some (e.port, s.fld .RTE_PORT_DIM e.port) else none) (some e.owner)

/-- The last tick at which a request may be sent again: the horizon (R223), or a window access's budget (R327). -/
def State.horizon (s : State) (e : TagEnt) : Nat :=
  if e.pkt.ptype = 0x05 ∨ e.pkt.ptype = 0x06 then e.first + s.fld .GWN_BUDGET_BUDGET else e.origin + 1500000

/-- The request of a tag may be sent again: unanswered, not flushed, not local, within the horizon (R174, R202, R223); an
invalidation is sent once (R319). -/
def State.mayResend (s : State) (e : TagEnt) : Bool :=
  !e.answered && !e.flushed && !e.loc && !e.done && e.pkt.ptype != 0x07 && decide (s.tick ≤ s.horizon e) && s.maySend

/-- A port went down: every unanswered request whose latest transmission left through it is sent again at once (R225). -/
def State.resendPort (s : State) (p : Nat) : State :=
  (s.ini.tags.filter (fun kv => kv.2.port == p && s.mayResend kv.2)).foldl (fun t kv => t.resendTag kv.1) s

/-- A control packet sent toward a device of the own cell: straight, or by a detour within d0 (R430, R461). -/
def State.sendCell (s : State) (dest src ptype : Nat) (payload : List Byte) : State :=
  let x := digit dest 0
  let via := (List.range 18).find? (fun c => c != digit s.own 0 && c != x && s.upPorts 0 c != [] && s.lineUp 0 c x)
  match s.upPorts 0 x, via with
  | p :: _, _ => s.sendCtlTo p dest src ptype payload
  | [], some c => match s.upPorts 0 c with
    | p :: _ => s.sendCtlTo p dest src ptype payload
    | [] => s
  | [], none => s

/-- The d0 link to a cell peer went down: a liveness probe is sent to it (R430). -/
def State.probePeer (s : State) (x : Nat) : State :=
  let n := s.lck.probeNum
  let s1 := { s with lck := { s.lck with probeNum := add32 n 1, probes := mset s.lck.probes x (n, s.tick) } }
  s1.sendCell (setDigit s.own 0 x) s.own 0x85 (leBytes 4 n ++ zeros 4)

/-- A port leaves UP or RETRAIN (R500): its packets are voided, routed again or discarded, its link layer is cleared, the
fault is latched and sent, and R441, R475, R466, R430 and R225 apply. The caller has set the port's new state. -/
def State.portLost (s : State) (p : Nat) : State :=
  let s1 := ((s.latch .FLK_FLT_LINKDN).raise (512 + p) 0x1003 (s.port p).peer).voidArriving p
  let s2 := (s1.requeue p).modPort p (fun ps => ps.clearLink)
  let x := s.fld .RTE_PORT_DIGIT p
  let s3 := (s2.portNotice p false).breakPistes p
  let s4 := if s.fld .RTE_PORT_DIM p = 0 ∧ s3.upPorts 0 x = [] then s3.probePeer x else s3
  (s4.resendPort p).fabricRun

end Sys2Proof.Machine
end

