-- ==== Sys2Proof/Machine/Xlate.lean ====
section
/-! DEFINITION. Address translation (08_translation): page-table entries, the walk (R348), accessed and dirty bits (R353),
the two caches (R363 to R366), protection keys (R362), excluded ranges (R377) and the fault log (R380). -/

namespace Sys2Proof.Machine

/-! ## Fault kinds (XLT_FLTLOG0.KIND) -/

/-- NOTENABLED. -/
def xNotEnabled : Nat := 0x1
/-- ASIDINV. -/
def xAsidInv : Nat := 0x2
/-- VARANGE. -/
def xVaRange : Nat := 0x3
/-- NOTPRESENT. -/
def xNotPresent : Nat := 0x4
/-- BADPTE. -/
def xBadPte : Nat := 0x5
/-- WRITEPROT. -/
def xWriteProt : Nat := 0x6
/-- PKEY. -/
def xPkey : Nat := 0x7
/-- NOATOMIC. -/
def xNoAtomic : Nat := 0x8
/-- CASFAIL. -/
def xCasFail : Nat := 0x9
/-- WALK_BUS. -/
def xWalkBus : Nat := 0xA
/-- WALK_TARGET. -/
def xWalkTarget : Nat := 0xB

/-- The status of a failed translation at the initiator (R349). -/
def localStatus (kind : Nat) : Nat := if kind = xPkey then cRightsDenied else cLocalFault

/-! ## Entries (R338, R340) -/

/-- P. -/
def pteP (v : Nat) : Bool := bitAt v 0
/-- LEAF. -/
def pteLeaf (v : Nat) : Bool := bitAt v 1
/-- W. -/
def pteW (v : Nat) : Bool := bitAt v 2
/-- A. -/
def pteA (v : Nat) : Bool := bitAt v 4
/-- D. -/
def pteD (v : Nat) : Bool := bitAt v 5
/-- PS. -/
def ptePs (v : Nat) : Nat := bits v 6 6
/-- ADDR as a bus address. -/
def pteAddr (v : Nat) : Nat := bits v 12 40 * 2 ^ 12
/-- PKEY. -/
def ptePkey (v : Nat) : Nat := bits v 52 4

/-- A present entry of level `l` keeps the rules of R340, R343 and R344. -/
def pteOk (l v : Nat) : Bool :=
  !bitAt v 3 && bits v 56 7 == 0 &&
  (if pteLeaf v then
    l != 4 && decide (12 + 9 * l ≤ ptePs v) && decide (ptePs v ≤ min (20 + 9 * l) 46) && bits (pteAddr v) 12 (ptePs v - 12) == 0
   else l != 0)

/-- The address of the entry of a table of level `l` for a virtual address (R341). -/
def pteSlot (table l va : Nat) : Nat := table + 8 * bits va (12 + 9 * l) 9

/-- The ASID entry passes R339 for function F. -/
def asidOk (v f : Nat) : Bool := bitAt v 0 && bits v 1 6 == f && bits v 7 5 == 0 && bits v 55 9 == 0 && decide (bits v 52 3 ≤ 4)

/-! ## Excluded ranges (R377) -/

/-- Two ranges of bytes, both ends included, overlap. -/
def overlap (a b c d : Nat) : Bool := decide (a ≤ d) && decide (c ≤ b)

/-- The size of a BAR of a function (03): BAR0 and BAR2 of the PF and of a VF. -/
def barSize (f bar : Nat) : Nat :=
  if f = 0 then (if bar = 0 then 2 ^ 22 else 2 ^ 23) else (if bar = 0 then 2 ^ 14 else 2 ^ 17)

/-- The limit page of an excluded range, last byte included. -/
def State.exclLimit (s : State) (n : Nat) : Nat := bits (s.rdRaw .XLT_EXCLLL n) 12 20 * 2 ^ 12 + bits (s.rdRaw .XLT_EXCLLH n) 0 20 * 2 ^ 32 + 4095
/-- The base of an excluded range. -/
def State.exclBase (s : State) (n : Nat) : Nat := bits (s.rdRaw .XLT_EXCLBL n) 12 20 * 2 ^ 12 + bits (s.rdRaw .XLT_EXCLBH n) 0 20 * 2 ^ 32

/-- A range of bus addresses overlaps a BAR (one that configuration has not placed has no range: log 7), a committed HDM decoder range or an enabled excluded range (R377). -/
def State.excluded (s : State) (lo hi : Nat) : Bool :=
  s.host.bars.any (fun kv => decide (kv.1 / 8 ≤ s.host.vfs) &&
    overlap lo hi kv.2 (kv.2 + barSize (kv.1 / 8) (kv.1 % 8) - 1)) ||
  s.host.hdm.any (fun h => h.committed && decide (0 < h.size) && overlap lo hi h.base (h.base + h.size - 1)) ||
  (List.range 8).any (fun n => bitAt (s.rdRaw .XLT_EXCLBL n) 0 && decide (s.exclBase n ≤ s.exclLimit n) && overlap lo hi (s.exclBase n) (s.exclLimit n))

/-! ## Outcomes of a walk -/

/-- What a walk has come to: it waits for a read or a compare-and-swap, it has a leaf that passed every check, or it
failed with a kind at a level code of XLT_FLTLOG0 and, for WALK_BUS and WALK_TARGET, at a bus address. -/
inductive WOut where
  | wait (w : Walk)
  | got (w : Walk) (e : XEnt)
  | fail (kind level addr : Nat)
  deriving DecidableEq, Repr

/-- A failed translation is recorded and counted (R380), and its latches and messages set (R376, R377, R102). -/
def State.xltFault (s : State) (w : Walk) (kind level addr : Nat) : State :=
  let s1 := s.bump .XLT_FAULTS_COUNT
  let s2 := s1.snap .XLT_FLTLOG0_SEQ 0 (fun t =>
    let t1 := (((t.setFld .XLT_FLTLOG0_KIND kind).setFld .XLT_FLTLOG0_TARGET (b2n w.target)).setFld .XLT_FLTLOG0_WRITE
      (b2n w.write)).setFld .XLT_FLTLOG0_LEVEL level
    (((t1.setFld .XLT_FLTLOG0_FUNC w.func).setFld .XLT_FLTLOG1_ASID w.asid).wrRaw .XLT_FLTLOG2 0 (w.va % 2 ^ 32)).wrRaw
      .XLT_FLTLOG3 0 (bits w.va 32 25))
  if kind = xWalkBus then (s2.latch .XLT_FLT_WALKBUS).raise 0x61E 0x3003 addr
  else if kind = xWalkTarget then (s2.latch .XLT_FLT_WALKTARGET).raise 0x61E 0x3004 addr
  else if kind = xCasFail then s2.latch .XLT_FLT_CASFAIL
  else if kind = xNoAtomic then s2.latch .HIF_FLT_NOATOMIC
  else s2

/-! ## The caches (R363 to R365) -/

/-- An entry may still be used: its age has not reached TLIFE (R365). -/
def State.young (s : State) (at_ : Nat) : Bool :=
  s.fld .XLT_TLIFE_TLIFE == 0 || decide (s.tick < at_ + s.fld .XLT_TLIFE_TLIFE)

/-- The cached leaf for an address, if it may be used (R364, R365). -/
def State.xltLookup (s : State) (f a va : Nat) : Option (Nat × XEnt) :=
  s.xlt.cache.find? (fun kv => kv.2.func == f && kv.2.asid == a && kv.2.page == va / 2 ^ kv.2.ps && s.young kv.2.at_)

/-- The walk-cache entry of a level for an address (level 5: the ASID entry). -/
def State.wcLookup (s : State) (f a level va : Nat) : Option WcEnt :=
  (s.xlt.wcache.find? (fun kv => kv.2.func == f && kv.2.asid == a && kv.2.level == level &&
    (level == 5 || kv.2.prefix_ == va / 2 ^ (12 + 9 * level)) && s.young kv.2.at_)).map Prod.snd

/-- A table bounded by evicting its oldest entry (R366: any entry may be evicted). -/
def evict {α : Type} (cap : Nat) (m : AMap α) : AMap α := if cap ≤ m.length then m.drop 1 else m

/-- A leaf installed in the translation cache, replacing one of the same page. -/
def State.xltInstall (s : State) (e : XEnt) : State :=
  let c := s.xlt.cache.filter (fun kv => !(kv.2.func == e.func && kv.2.asid == e.asid && kv.2.page == e.page && kv.2.ps == e.ps))
  { s with xlt := { s.xlt with cache := mset (evict 65536 c) s.xlt.next { e with inv := [] }, next := s.xlt.next + 1 } }

/-- A walk-cache entry installed. -/
def State.wcInstall (s : State) (e : WcEnt) : State :=
  let c := s.xlt.wcache.filter (fun kv =>
    !(kv.2.func == e.func && kv.2.asid == e.asid && kv.2.level == e.level && kv.2.prefix_ == e.prefix_))
  { s with xlt := { s.xlt with wcache := mset (evict 4096 c) s.xlt.next e, next := s.xlt.next + 1 } }

/-! ## The steps of a walk (R348) -/

/-- A read of a walk is issued at `addr` as a function, unless the address is excluded (R337, R347, R377). -/
def State.walkRead (s : State) (w : Walk) (func addr level : Nat) : State × WOut :=
  if s.excluded addr (addr + 7) then (s, .fail xWalkTarget level addr)
  else ((s.bump .XLT_WALKRD_COUNT).emit (.hostRead func addr 8), .wait w)

/-- The descent from a table of level `l`: cached non-leaf entries are followed, then an entry is read (step 5). -/
def descend (w : Walk) : Nat → Nat → State → State × WOut
  | 0, table, s => s.walkRead { w with phase := .level 0 table } w.func (pteSlot table 0 w.va) 0
  | l + 1, table, s =>
    match s.wcLookup w.func w.asid (l + 1) w.va with
    | some e => descend w l e.table s
    | none => s.walkRead { w with phase := .level (l + 1) table } w.func (pteSlot table (l + 1) w.va) (l + 1)

/-- Step 4, then the descent from the root table (R341). -/
def State.fromRoot (s : State) (w : Walk) (root top : Nat) : State × WOut :=
  if w.va / 2 ^ (21 + 9 * top) ≠ 0 then (s, .fail xVaRange 7 0) else descend w top root s

/-- The access of a walk reads through its leaf: every access that does not write, and an atomic, which does both. -/
def Walk.reads (w : Walk) : Bool :=
  !w.write || match w.acc with
    | .target r => !([0x01, 0x02, 0x05, 0x06].contains r.pkt.ptype)
    | _ => false

/-- Steps 6 to 9 on a leaf, read or cached: the excluded ranges over the whole page, W for a write, the local key at the
initiator, and the accessed and dirty bits (R353, R356), which no compare-and-swap sets while DMA writes are stopped (R670). -/
def State.leafChecks (s : State) (w : Walk) (e : XEnt) (tries : Nat) : State × WOut :=
  let lad := bitAt w.kr (32 + 2 * e.pkey)
  let lwd := bitAt w.kr (33 + 2 * e.pkey)
  let needA := w.reads && !pteA e.val
  let needD := w.write && !e.dseen
  if s.excluded e.addr (e.addr + 2 ^ e.ps - 1) then (s, .fail xWalkTarget 6 e.addr)
  else if w.write && !e.w then (s, .fail xWriteProt e.lvl 0)
  else if !w.target && (lad || (w.write && lwd)) then (s, .fail xPkey e.lvl 0)
  else if s.flag .XLT_CTL_ADSET && (needA || needD) then
    let swap := if w.write then putBits (putBits e.val 4 1 1) 5 1 1 else putBits e.val 4 1 1
    if s.excluded e.eaddr (e.eaddr + 7) then (s, .fail xWalkTarget e.lvl e.eaddr)
    else if !s.host.atomicOp then (s, .fail xNoAtomic e.lvl 0)
    else if s.dmaStop then (s, .fail xWalkBus e.lvl e.eaddr)
    else ((s.bump .XLT_ADCAS_COUNT).emit (.hostCas w.func e.eaddr e.val swap), .wait { w with phase := .cas e e.val swap tries })
  else (s, .got w e)

/-- The leaf that an entry value makes. -/
def leafOf (w : Walk) (l eaddr v tick : Nat) : XEnt :=
  { func := w.func, asid := w.asid, page := w.va / 2 ^ ptePs v, ps := ptePs v, addr := pteAddr v, w := pteW v,
    pkey := ptePkey v, dseen := pteD v, at_ := tick, lvl := l, eaddr := eaddr, val := v }

/-- Step 5 for one entry value read at level `l`. -/
def State.onEntry (s : State) (w : Walk) (l table v tries : Nat) : State × WOut :=
  if !pteP v then (s, .fail xNotPresent l 0)
  else if !pteOk l v then (s, .fail xBadPte l 0)
  else if pteLeaf v then s.leafChecks w (leafOf w l (pteSlot table l w.va) v s.tick) tries
  else
    let e : WcEnt := { func := w.func, asid := w.asid, level := l, prefix_ := w.va / 2 ^ (12 + 9 * l), table := pteAddr v,
                       top := 0, at_ := s.tick }
    descend { w with wc := w.wc ++ [e] } (l - 1) (pteAddr v) s

/-- The start of a walk: the ASID entry from the walk cache, or its read, made as the PF (R337; step 3). -/
def State.walkBegin (s : State) (w : Walk) : State × WOut :=
  match s.wcLookup w.func w.asid 5 w.va with
  | some e => s.fromRoot w e.table e.top
  | none =>
    let addr := s.fld .XLT_ASIDLO_BASE * 2 ^ 12 + s.fld .XLT_ASIDHI_BASE * 2 ^ 32 + 8 * w.asid
    s.walkRead { w with phase := .asid addr } 0 addr 5

/-- A read that a walk waited for returned (R339, R348, R376). -/
def State.walkRet (s : State) (w : Walk) (rd : ReadStatus) : State × WOut :=
  match w.phase with
  | .asid addr =>
    if rd ≠ .ok then (s, .fail xWalkBus 5 addr)
    else
      let v := leNat (s.read addr 8)
      if !asidOk v w.func then (s, .fail xAsidInv 5 0)
      else
        let root := bits v 12 40 * 2 ^ 12
        let e : WcEnt := { func := w.func, asid := w.asid, level := 5, prefix_ := 0, table := root, top := bits v 52 3,
                           at_ := s.tick }
        s.fromRoot { w with wc := w.wc ++ [e] } root (bits v 52 3)
  | .level l table =>
    if rd ≠ .ok then (s, .fail xWalkBus l (pteSlot table l w.va))
    else s.onEntry w l table (leNat (s.read (pteSlot table l w.va) 8)) 0
  | _ => (s, .wait w)

/-- A compare-and-swap that a walk waited for returned (R353 to R355): the swap is made when the entry still holds the
compare value; otherwise the returned value is a fresh read, for at most eight attempts. -/
def State.casRet (s : State) (w : Walk) (rd : ReadStatus) : State × WOut :=
  match w.phase with
  | .cas e compare swap tries =>
    if rd ≠ .ok then (s, .fail xWalkBus e.lvl e.eaddr)
    else
      let v := leNat (s.read e.eaddr 8)
      if v = compare then
        (s.write e.eaddr (leBytes 8 swap), .got w { e with dseen := pteD swap, at_ := s.tick, val := swap })
      else if 8 ≤ tries + 1 then (s, .fail xCasFail e.lvl 0)
      else if !pteP v then (s, .fail xNotPresent e.lvl 0)
      else if !pteOk e.lvl v then (s, .fail xBadPte e.lvl 0)
      else if pteLeaf v then s.leafChecks w (leafOf w e.lvl e.eaddr v s.tick) (tries + 1)
      else
        let c : WcEnt := { func := w.func, asid := w.asid, level := e.lvl, prefix_ := w.va / 2 ^ (12 + 9 * e.lvl),
                           table := pteAddr v, top := 0, at_ := s.tick }
        descend { w with wc := w.wc ++ [c] } (e.lvl - 1) (pteAddr v) s
  | _ => (s, .wait w)

/-! ## A whole access -/

/-- What the translation of an access has come to: the bus segments of a prefix of its bytes, and whether the rest waits
for a walk or failed with a kind. -/
structure XRes where
  segs : List (Nat × Nat) := []
  wait : Bool := false
  fail : Option Nat := none
  deriving DecidableEq, Repr

/-- The bus address of a byte through a leaf (R346). -/
def XEnt.bus (e : XEnt) (va : Nat) : Nat := e.addr / 2 ^ e.ps * 2 ^ e.ps + va % 2 ^ e.ps

/-- A leaf covers an address. -/
def XEnt.covers (e : XEnt) (va : Nat) : Bool := e.page == va / 2 ^ e.ps

/-- The engine that an access works for (R615): the one that holds the turn of its queue or target context. Which one places an answer, a
stored message packet or a collective result is not specified. -/
def State.accEngine (s : State) (a : Acc) : Nat :=
  match a with
  | .payload q => match (s.wq q).turn with | some t => t.engine | none => q % 288
  | .target r => r.eng
  | .message r => r.eng
  | _ => Config.openNat s.free % 288

/-- Page by page: a translation already obtained for the access whose age allows its use (R365), a cached leaf, or a walk (R348). A translation unit
in a block reset takes none, and the access waits (R580, log 74). -/
def xlateAux (q : Walk) : Nat → Nat → Nat → List XEnt → List (Nat × Nat) → State → State × XRes
  | 0, _, _, _, segs, s => (s, { segs := segs })
  | fuel + 1, va, n, got, segs, s =>
    if n = 0 then (s, { segs := segs })
    else
      let take (e : XEnt) : Nat := min n (2 ^ e.ps - va % 2 ^ e.ps)
      match got.find? (fun e => e.covers va && s.young e.at_) with
      | some e => xlateAux q fuel (va + take e) (n - take e) got (segs ++ [(e.bus va, take e)]) s
      | none =>
        let w := { q with va := va, got := got }
        let r : State × WOut :=
          if s.blockBusy 0x21 then (s, .wait { w with phase := .held })
          else if !s.flag .XLT_CTL_EN then (s, .fail xNotEnabled 7 0)
          else match s.xltLookup q.func q.asid va with
            | some (_, e) => (s.bump .XLT_HIT_COUNT).leafChecks w e 0
            | none => (((s.bump .XLT_MISS_COUNT).pmu_
                { code := 0x0D, func := some q.func, engine := some (s.accEngine q.acc), addr := some va }).fresh.2).walkBegin w
        match r with
        | (s1, .got _ e) => xlateAux q fuel (va + take e) (n - take e) (got ++ [e]) (segs ++ [(e.bus va, take e)]) s1
        | (s1, .fail kind level addr) => (s1.xltFault w kind level addr, { segs := segs, fail := some kind })
        | (s1, .wait w1) =>
          ({ s1 with xlt := { s1.xlt with walks := mset s1.xlt.walks s1.xlt.next w1, next := s1.xlt.next + 1 } },
           { segs := segs, wait := true })

/-- An access of `n` bytes at a virtual address translated as far as it can be at once (R334, R348). -/
def State.xlate (s : State) (acc : Acc) (func asid va n : Nat) (write target : Bool) (kr : Nat) (got : List XEnt) :
    State × XRes :=
  let q : Walk := { acc := acc, func := func, asid := asid, va := va, write := write, target := target, kr := kr, phase := .asid 0 }
  xlateAux q (n / 4096 + 2) va n got [] s

/-- Bytes read through bus segments. -/
def State.readSegs (s : State) (l : List (Nat × Nat)) : List Byte := l.flatMap (fun x => s.read x.1 x.2)

/-- Bytes written through bus segments. -/
def writeSegs : List (Nat × Nat) → List Byte → State → State
  | [], _, s => s
  | (a, n) :: t, b, s => writeSegs t (b.drop n) (s.write a (b.take n))

/-! ## Invalidation (R367 to R370) -/

/-- Whether a cached leaf is covered by an invalidation of a range of an ASID, of a whole ASID, or of everything. -/
def coversLeaf (f : Nat) (all : Bool) (asid va len : Nat) (e : XEnt) : Bool :=
  (f == 0 || e.func == f) &&
  (all || (e.asid == asid && (len == 0 || overlap (e.page * 2 ^ e.ps) (e.page * 2 ^ e.ps + 2 ^ e.ps - 1) va (va + len - 1))))

/-- Whether a walk-cache entry is covered: a range leaves the ASID entry (R368). -/
def coversWc (f : Nat) (all : Bool) (asid len : Nat) (e : WcEnt) : Bool :=
  (f == 0 || e.func == f) && (all || (e.asid == asid && (len == 0 || e.level != 5)))

/-- The covered entries discarded, with their number (R369). What goes on at that instant under a covered ASID takes the number of the
invalidation or flush, which waits for it: walks, which install nothing, with the translations that their accesses hold, and reads of
payloads. The number is `xlt.next`. -/
def State.xltDiscard (s : State) (f : Nat) (all : Bool) (asid va len : Nat) : Nat × State :=
  let x := s.xlt
  let c := x.cache.filter (fun kv => !coversLeaf f all asid va len kv.2)
  let wc := x.wcache.filter (fun kv => !coversWc f all asid len kv.2)
  let n := (x.cache.length - c.length) + (x.wcache.length - wc.length)
  let hit (g a : Nat) : Bool := (f == 0 || g == f) && (all || a == asid)
  let mark (kv : Nat × Walk) : Nat × Walk :=
    (kv.1, if hit kv.2.func kv.2.asid then { kv.2 with noInstall := true, inv := x.next :: kv.2.inv } else kv.2)
  let turn (t : Turn) : Turn := { t with inv := x.next :: t.inv }
  let markQ (kv : Nat × WQ) : Nat × WQ :=
    (kv.1, if hit (s.wqOwner kv.1) kv.2.asid then { kv.2 with turn := kv.2.turn.map turn } else kv.2)
  (n, { s with xlt := { x with cache := c, wcache := wc, walks := x.walks.map mark, next := x.next + 1 }
               qmg := { s.qmg with wq := s.qmg.wq.map markQ } })

/-- Translations as an access holds them after a walk that invalidations `ids` wait for. -/
def heldOver (ids : List Nat) (got : List XEnt) : List XEnt := got.map (fun e => { e with inv := ids ++ e.inv })

/-- An access that an invalidation or flush waits for goes on: in a walk, or in the read of a payload (R369). -/
def State.xltWaits (s : State) (id : Nat) : Bool :=
  s.xlt.walks.any (fun kv => kv.2.inv.contains id || kv.2.got.any (fun e => e.inv.contains id)) ||
  s.qmg.wq.any (fun kv => match kv.2.turn with | some t => t.wait == .payload && t.inv.contains id | none => false)

/-- Every cached translation discarded (R336, R373). -/
def State.xltClear (s : State) : State :=
  let mark (kv : Nat × Walk) : Nat × Walk := (kv.1, { kv.2 with noInstall := true })
  { s with xlt := { s.xlt with cache := [], wcache := [], walks := s.xlt.walks.map mark } }

end Sys2Proof.Machine
end

