-- ==== Sys2Proof/Machine/Lease.lean ====
section
/-! DEFINITION. Answers of the target (R221, R514), and the lease table of a home: grants (R316), writes that wait to
become visible (R317), invalidations (R319, R320) and the start wait (R325). -/

namespace Sys2Proof.Machine

/-! ## Answers -/

/-- The RESIDENCE of a request at this moment. -/
def State.residence (s : State) (r : Req) : Nat := s.tick - r.rx

/-- RES of an answer (R517): an answer to ATOMIC, GET, WRD and COLL of CTYPE 3 carries it whatever its STATUS. Where the answer gives
nothing to put there, a read's DATA0 is 0 for no grant, and the rest are free values. -/
def State.resExt (s : State) (k : Pkt) (ext : List Byte) : List Byte × State :=
  if ext ≠ [] then (ext, s)
  else if k.ptype = 0x05 then (extRes 0 0, s)
  else if k.ptype = 0x02 ∨ k.ptype = 0x03 ∨ (k.ptype = 0x0A ∧ k.ctype = 3) then
    (extRes (Config.openNat s.free) (Config.openNat (s.free + 1)), s.fresh.2.fresh.2)
  else ([], s)

/-- A response to a request with given RESIDENCE and AGE: it echoes TAG, EPOCH and TXTIME and goes to the request's SRC; an
answer to a request served locally stays on the device (R81, R514). -/
def State.respond (s0 : State) (r : Req) (status res age : Nat) (ext payload : List Byte := []) : State :=
  let x := s0.resExt r.pkt ext
  let s := x.2
  let k : Pkt := { dest := r.pkt.src, src := s.own, ptype := 0x40, tclass := r.pkt.tclass, tag := r.pkt.tag,
                   epoch := r.pkt.epoch, txtime := r.pkt.txtime, sentAgo := sat (2 ^ 21 - 1) res,
                   age := if r.loc then 0 else sat (2 ^ 20 - 1) age, status := status, vc := 1,
                   ext := x.1, payload := payload }
  if r.loc then s.toLocal { pkt := k, port := 72, rx := s.tick } else s.inject k

/-- A request is answered: the response starts with the AGE of the request plus RESIDENCE (R221). -/
def State.answer (s : State) (r : Req) (status : Nat) (ext payload : List Byte := []) : State :=
  s.respond r status (s.residence r) (r.pkt.age + s.residence r) ext payload

/-- The request is addressed to the alias: the alias's tables serve it (R96). -/
def State.reqAlias (s : State) (r : Req) : Bool := s.isAlias r.pkt.dest

/-- The key of an entry of a table that both coordinates have: the alias's entries lie 2^24 higher. -/
def tableKey (al : Bool) (i : Nat) : Nat := if al then i + 2 ^ 24 else i

/-! ## The lease table (R315) -/

/-- ε (R299). -/
def epsilon : Nat := 25

/-- The key of a lease entry: region key × 2^36 + block. -/
def leaseKey (rkey blk : Nat) : Nat := rkey * 2 ^ 36 + blk

/-- A lease entry; the default when the block has none. -/
def State.lease (s : State) (k : Nat) : Lease := mgetD s.win.leases k {}

/-- A lease entry replaced. -/
def State.setLease (s : State) (k : Nat) (l : Lease) : State := { s with win := { s.win with leases := mset s.win.leases k l } }

/-- The tick at which a lease entry's latest lease has ended everywhere: LATEST + ε, and M more while TIME is 0 (R322). A step of the
reading moves it not (R552). -/
def State.leaseEnd (s : State) (l : Lease) : Nat :=
  let m := match s.win.lockLostAt with
    | some t => if s.timeLocked then 0 else 1000 + (l.latest - t + 255) / 256
    | none => 0
  l.latest + epsilon + m

/-- The start wait of a coordinate is in force (R325). -/
def State.startWait (s : State) (al : Bool) : Bool := (if al then s.win.startEndAlias else s.win.startEnd).isSome

/-- The duplicate-suppression entry of a request no longer waits: its answer goes out. -/
def State.dupDone (s : State) (r : Req) : State :=
  if r.loc then s
  else { s with tgt := { s.tgt with dup := mmod s.tgt.dup r.pkt.rid.packed (fun e => { e with pending := false }) } }

/-- A write at the home becomes visible: its response is sent (R201, R312). -/
def State.visible (s : State) (h : HomeWrite) : State :=
  (s.dupDone h.req).answer h.req h.status (if h.res then extRes h.d0 h.d1 else [])

/-- The invalidations of an entry that ends are settled: one not yet sent is not sent, and a late acknowledgement counts for no later
entry of the block. -/
def State.linvClose (s : State) (k : Nat) : State :=
  s.cancelReqs (fun o => match o with | .linv j _ => j == k | _ => false)

/-- A lease entry ends: the writes that wait on it become visible, the entry is freed, and the accesses held behind them
are released in order (R317, R318). -/
def State.leaseDone (s0 : State) (k : Nat) : State :=
  let s := s0.linvClose k
  let l := s.lease k
  let s1 := { s with win := { s.win with leases := mdel s.win.leases k, released := s.win.released ++ l.held } }
  l.writing.foldl (fun t h => t.visible h) s1

/-- The generation of the region whose lease entry has key `k`. -/
def State.leaseGen (s : State) (k : Nat) : Nat := (mgetD s.tgt.regions (k / 2 ^ 36) {}).gen

/-- An invalidation sent to a holder, once (R317, R319). -/
def State.sendLinv (s : State) (k holder : Nat) : State :=
  let p : Pkt := { dest := holder, ptype := 0x07, ext := extInv (k / 2 ^ 36 % 2 ^ 24) (s.leaseGen k) (k % 2 ^ 36) }
  (s.bump .NCC_INVTX_COUNT).sendReq (.linv k holder) p

/-- A write placed in the posted stream at the home becomes visible at once, or waits for the start wait of its coordinate
(R325) or for the leases of its block (R317). -/
def State.homeWrite (s : State) (al : Bool) (rkey blk : Nat) (window : Bool) (h : HomeWrite) : State :=
  let k := leaseKey rkey blk
  if window && s.startWait al then
    { s with win := { s.win with startWrites := s.win.startWrites ++ [{ al := al, key := k, write := some h }] } }
  else
    match mget s.win.leases k with
    | none => s.visible h
    | some l =>
      if s.tick < s.leaseEnd l then
        let s1 := s.setLease k { l with writing := l.writing ++ [h] }
        let s2 := l.holders.foldl (fun t c => t.sendLinv k c) s1
        if l.holders = [] ∧ l.ovf = false then s2.leaseDone k else s2
      else (s.setLease k { l with writing := l.writing ++ [h] }).leaseDone k

/-- A write of a block waits for the end of a start wait. -/
def State.startHeld (s : State) (k : Nat) : Bool := s.win.startWrites.any (fun x => x.key == k)

/-- An access to a block is held while a write to that block waits (R318, R325). -/
def State.blockHeld (s : State) (k : Nat) : Bool := (s.lease k).writing != [] || s.startHeld k

/-- An access held behind a waiting write. -/
def State.holdAccess (s : State) (k : Nat) (r : Req) : State :=
  if s.startHeld k then
    { s with win := { s.win with startWrites := s.win.startWrites ++ [{ al := s.reqAlias r, key := k, held := some r }] } }
  else
    let l := s.lease k
    s.setLease k { l with held := l.held ++ [r] }

/-- The grant that a window read with LEASEREQ takes (R316): the expiry, or 0 for none. -/
def State.grant (s : State) (al : Bool) (rkey blk who : Nat) (st : RgnState) : Nat × State :=
  let k := leaseKey rkey blk
  let none_ := (0, s.bump .NCC_NOLEASE_COUNT)
  if !s.flag .NCC_CFG_HOMEEN || !s.timeLocked || s.startWait al then none_
  else if st = .revoking then none_
  else match mget s.win.leases k with
    | none =>
      if 2097152 ≤ s.win.leases.length then (0, (s.bump .NCC_NOLEASE_COUNT).latch .NCC_FLT_LTFULL)
      else
        let d := s.fld .NCC_LEASEDUR_DUR
        (s.now + d, s.setLease k { holders := [who], latest := s.tick + d })
    | some l =>
      if l.holders.contains who || decide (l.holders.length < 4) then
        let d := s.fld .NCC_LEASEDUR_DUR
        (s.now + d, s.setLease k { l with holders := if l.holders.contains who then l.holders else l.holders ++ [who],
                                          latest := max l.latest (s.tick + d) })
      else
        let d := min (s.fld .NCC_LEASEDUR_DUR) (s.fld .NCC_OVFDUR_DUR)
        (s.now + d, s.setLease k { l with ovf := true, latest := max l.latest (s.tick + d) })

/-- A holder has acknowledged an invalidation while a write of the block waits: it leaves the list; with the list empty and OVF 0 the
entry ends (R317). An entry without a waiting write keeps its leases to their end (the lease entry state table). -/
def State.linvAcked (s : State) (k holder : Nat) : State :=
  match mget s.win.leases k with
  | none => s
  | some l =>
    if l.writing = [] then s
    else
      let hs := l.holders.filter (· != holder)
      let s1 := s.setLease k { l with holders := hs }
      if hs = [] ∧ l.ovf = false then s1.leaseDone k else s1

/-- The lease entries of a region. -/
def State.regionLeases (s : State) (rkey : Nat) : List (Nat × Lease) := s.win.leases.filter (fun kv => kv.1 / 2 ^ 36 == rkey)

/-- Invalidations for every lease block of a region that enters REVOKING (R320). -/
def State.recallRegion (s : State) (rkey : Nat) : State :=
  (s.regionLeases rkey).foldl (fun t kv => kv.2.holders.foldl (fun u c => u.sendLinv kv.1 c) t) s

end Sys2Proof.Machine
end

