-- ==== Sys2Proof/Machine/Checks.lean ====
section
/-! DEFINITION. The checks that requests of several types pass at the target: age and suppression start (R220, R228, R232),
duplicate suppression (R229, R230, R274, R408), and region keys, rights and range (R88, R195, R210, R211, R362). -/

namespace Sys2Proof

/-- The tick 2.0 ms after a request's first-transmission instant (R228). -/
def Req.expire (r : Req) : Nat := r.rx + 2000000 - r.pkt.sentAgo - r.pkt.age

/-- The bytes of the whole operation that a request packet belongs to (R195). -/
def Pkt.opLen (k : Pkt) : Nat :=
  match k.ptype with
  | 0x03 => if k.sub = 0x14 ∨ k.sub = 0x15 ∨ k.sub = 0x16 then 16 else 8
  | 0x05 => 64
  | 0x06 => 64
  | _ => k.length

/-- A request changes its target at most once: a non-idempotent request of R227. -/
def Pkt.nonIdem (k : Pkt) : Bool := k.ptype == 0x03 || k.ptype == 0x06

/-- The answer of a request other than a read carries a result in RES with a status (R517). DEDUCED (log 82): R517 names a status for LOCKOP
only; an answer that did not succeed has no result, and carries none. -/
def Pkt.resFor (k : Pkt) (status : Nat) : Bool :=
  match k.ptype with
  | 0x03 => status == 0
  | 0x08 => status == aGranted
  | 0x0A => k.ctype == 3 && status == 0
  | _ => false

end Sys2Proof

namespace Sys2Proof.Machine

/-! ## Age and start (R220, R228, R232) -/

/-- Step 1 of R227: the AGE of a request plus its wait at the target exceeds 250 µs; never of a local one (R202). -/
def State.tooOld (s : State) (r : Req) : Bool := !r.loc && decide (250000 < r.pkt.age + s.residence r)

/-- Step 3: the first-transmission instant lies before the suppression start of the addressed coordinate. -/
def State.beforeStart (s : State) (r : Req) : Bool :=
  !r.loc && decide (r.rx < (if s.reqAlias r then s.tgt.supStartAlias else s.tgt.supStart) + r.pkt.sentAgo + r.pkt.age)

/-! ## Duplicate suppression (R229, R230) -/

/-- The live entry of an identity. -/
def State.dupGet (s : State) (i : ReqId) : Option DupEnt :=
  (mget s.tgt.dup i.packed).filter (fun e => decide (s.tick < e.expire))

/-- Every entry of the cache is live. -/
def State.dupFull (s : State) : Bool := decide (1048576 ≤ s.tgt.dup.countP (fun kv => decide (s.tick < kv.2.expire)))

/-- An entry written. -/
def State.dupPut (s : State) (i : ReqId) (e : DupEnt) : State :=
  { s with tgt := { s.tgt with dup := mset s.tgt.dup i.packed e } }

/-- An entry changed, if the identity has one. -/
def State.dupMod (s : State) (i : ReqId) (f : DupEnt → DupEnt) : State :=
  { s with tgt := { s.tgt with dup := mmod s.tgt.dup i.packed f } }

/-- The entry of a non-idempotent request that is executed (R229); a local request makes none (R202). -/
def State.remember (s : State) (r : Req) (pending : Bool) (status : Nat) (d0 d1 : Nat := 0) : State :=
  if r.loc then s
  else s.dupPut r.pkt.rid { pending := pending, status := status, d0 := d0, d1 := d1, expire := r.expire }

/-- The stored answer of a duplicate: none while the answer is pending (R408). DESIGN CHOICE (log 69): so too for a copy of any executed
request whose write is not yet visible, which R201 keeps from being answered and of which step 4 of R227 does not speak. -/
def State.answerDup (s : State) (r : Req) (e : DupEnt) : State :=
  if e.pending then s else s.answer r e.status (if r.pkt.resFor e.status then extRes e.d0 e.d1 else [])

/-! ## Region keys (R88) -/

/-- The region descriptor that an index names in the table of the addressed coordinate. -/
def State.region (s : State) (k : Nat) : Region := mgetD s.tgt.regions k {}

/-- A region descriptor changed. -/
def State.modRegion (s : State) (k : Nat) (f : Region → Region) : State :=
  { s with tgt := { s.tgt with regions := mset s.tgt.regions k (f (s.region k)) } }

/-- The region key of the table that a request's region key names. -/
def State.rkey (s : State) (r : Req) (key : Nat) : Nat := tableKey (s.reqAlias r) (key % 2 ^ 24)

/-- The checks of R88 in order: 0 when the key is accepted, else the status; a wrong CHECK of a peer is reported. -/
def State.checkKey (s : State) (r : Req) (key : Nat) : State × Nat :=
  let g := s.region (s.rkey r key)
  if g.st = .free then (s, cKeyInvalid)
  else if bits key 24 8 ≠ g.gen then (s, cKeyInvalid)
  else if bits key 32 32 ≠ g.check then
    (if r.loc || r.pkt.src == s.own then s else s.raise (s.peerSrc r.pkt.src) 0x5002 r.pkt.src, cKeyInvalid)
  else if g.st = .revoking then (s, cKeyRevoked)
  else (s, 0)

/-- RREAD, RWRITE, RATOMIC, RCOMBINE and WINDOW of a RIGHTS byte. -/
def Region.right (g : Region) (i : Nat) : Bool := bitAt g.rights i

/-- The protection-key test at the target (R362). -/
def Region.keyOk (g : Region) (kr : Nat) (write : Bool) : Bool :=
  !bitAt kr (2 * g.pkey) && !(write && bitAt kr (2 * g.pkey + 1))

/-- The region's size in bytes. -/
def Region.size (g : Region) : Nat := (g.pages + 1) * 4096

/-- Step 6 of R227 for a request packet (R197, R208, R210, R211). -/
def Region.permits (g : Region) (k : Pkt) : Bool :=
  match k.ptype with
  | 0x01 => g.right 1 && g.keyOk k.krights true
  | 0x02 => g.right 0 && g.keyOk k.krights false
  | 0x03 => g.right 2 && (k.sub != 0x18 || g.right 3) && g.keyOk k.krights true
  | 0x05 => g.right 4 && g.right 0
  | 0x06 => g.right 4 && g.right 1
  | _ => false

/-- The function that a request's region belongs to, for the counters (R615). -/
def State.regionFunc (s : State) (r : Req) : Option Nat :=
  if r.pkt.ptype = 0x03 ∨ r.pkt.ptype = 0x06 then some (s.region (s.rkey r r.pkt.key)).func else none

/-- Steps 1 to 4 of R227: age, readiness, and, for a non-idempotent request, the suppression start and a stored answer. -/
def State.admitReq (s : State) (r : Req) (nonIdem : Bool) (go : State → State) : State :=
  if s.tooOld r then s
  else if !s.targetReady then s.answer r cNotReady
  else if nonIdem && s.beforeStart r then s
  else match (if nonIdem && !r.loc then s.dupGet r.pkt.rid else none) with
    | some e => (s.pmu_ { code := 0x0C, func := s.regionFunc r, tclass := some r.pkt.tclass }).answerDup r e
    | none => go s

/-- The in-flight count of a region (R212) raised or lowered. -/
def State.inflight (s : State) (k : Nat) (up : Bool) : State :=
  s.modRegion k (fun g => { g with inflight := if up then g.inflight + 1 else g.inflight - 1 })

/-- A request waits for a walk: its engine holds the turn of its target context, which serves nothing behind it (R46). -/
def State.markBusy (s : State) (r : Req) (t : Nat) : State := { s with tgt := { s.tgt with busy := mset s.tgt.busy t r.eng } }

/-- A turn of a target context is held across a walk. -/
def State.tctxBusy (s : State) (t : Nat) : Bool := (mget s.tgt.busy t).isSome

/-- The turn of a target context held across a walk ends its wait. -/
def State.unmarkBusy (s : State) (t : Nat) : State :=
  { s with tgt := { s.tgt with busy := mdel s.tgt.busy t, tleft := mdel s.tgt.tleft t } }

/-- A request while no cluster takes turns: discarded for its age, else answered TARGET_NOT_READY (R67, R227). -/
def State.notReady (s : State) (r : Req) : State := if s.tooOld r then s else s.answer r cNotReady

/-- Answers of this device that wait at its local port, and requests that execute and have none yet: each holds a place in the buffer of
responses (R462). -/
def State.respHeld (s : State) : Nat := (mgetD s.rte.inq (inKey 72 1) []).length + s.tgt.busy.length

/-- No place is left for the answer of one more request (R462). The spec does not give the size of the buffer: at least one place, and a
free number more (DESIGN CHOICE, log 8). -/
def State.respFull (s : State) : Bool := s.respHeld != 0 && decide (Config.respRoom < s.respHeld)

end Sys2Proof.Machine
end

