-- ==== Sys2Proof/Machine/Coll.lean ====
section
/-! DEFINITION. Collectives (09_collectives): the tree (R382), contributions and results (R393 to R396), losses (R397 to
R402), completion at a member (R391, R392, R403), and counter batches (R404 to R409). -/

namespace Sys2Proof.Machine

/-! ## The tree (R381, R382) -/

/-- The leader of the level-`l` set of `c` within a list of candidates in ascending order. -/
def leader (cands : List Nat) (root l c : Nat) : Nat :=
  let set := cands.filter (fun x => x / 2 ^ (5 * l) == c / 2 ^ (5 * l))
  if set.contains root then root else set.headD c

/-- The leaders of the level-`l` sets. -/
def leaders (cands : List Nat) (root l : Nat) : List Nat := cands.filter (fun c => leader cands root l c == c)

/-- The parent of a member: the leader of the lowest-level set in which it is not the leader. -/
def treeParent (members : List Nat) (root c : Nat) : Option Nat :=
  let l2 := leaders members root 1
  let l3 := leaders l2 root 2
  let l4 := leaders l3 root 3
  [leader members root 1 c, leader l2 root 2 c, leader l3 root 3 c, leader l4 root 4 c].find? (· != c)

/-- The children of a member, ascending. -/
def treeChildren (members : List Nat) (root c : Nat) : List Nat :=
  members.filter (fun x => x != c && treeParent members root x == some c)

/-! ## Contributions -/

/-- The first 64 coordinates of LIST: no-voters, then lost members (R396). -/
def clip (c : Contrib) : Contrib :=
  let v := c.novoters.take 64
  { c with novoters := v, lost := c.lost.take (64 - v.length) }

/-- Two contributions combined (R392, R393). -/
def combine (x : ColCtx) (a b : Contrib) : Contrib :=
  { value := match x.kind with
      | 0 => reduceBytes x.operator x.type x.nelem a.value b.value
      | 1 => leBytes 8 (Nat.land (leNat a.value) (leNat b.value))
      | _ => []
    noCount := a.noCount + b.noCount
    lostCount := a.lostCount + b.lostCount
    novoters := sortAsc (a.novoters ++ b.novoters)
    lost := sortAsc (a.lost ++ b.lost) }

/-- The contribution or result that a packet carries (R516). -/
def contribOf (k : Pkt) : Contrib :=
  let v := k.payload.length - 4 * k.listn
  let coords := (List.range k.listn).map (fun i => leAt k.payload (v + 4 * i) 4 % 2 ^ 20)
  let n := min k.nocount k.listn
  { value := k.payload.take v, noCount := k.nocount, lostCount := k.lostcount, novoters := coords.take n, lost := coords.drop n }

/-- A collective packet to a member: 0 contribution, 1 result, 2 probe (R394, R516). -/
def State.sendColl (s : State) (k peer ctype n : Nat) (orphan : Bool) (x : Contrib) : State :=
  let c := s.ctx k
  let y := clip x
  let list := y.novoters ++ y.lost
  let p : Pkt := { dest := peer, ptype := 0x0A, tclass := c.tclass,
                   ext := extColl k ctype orphan list.length c.setupId n x.noCount x.lostCount,
                   payload := x.value ++ list.flatMap (leBytes 4) }
  s.sendReq (.coll k peer n ctype) p

/-- An instance of a context, if one is held. -/
def ColCtx.inst (c : ColCtx) (n : Nat) : Option Inst := c.insts.find? (fun i => i.n == n)

/-- Instance `n` lies before the completed count (R391). -/
def ColCtx.old (c : ColCtx) (n : Nat) : Bool := decide (2 ^ 31 ≤ sub32 n c.completed)

/-- An instance record inserted in instance order, if absent. -/
def instInsert (base : Nat) (i : Inst) : List Inst → List Inst
  | [] => [i]
  | j :: t =>
    if j.n = i.n then j :: t else if sub32 i.n base < sub32 j.n base then i :: j :: t else j :: instInsert base i t

/-- An instance changed, created if it is not held. -/
def State.modInst (s : State) (k n : Nat) (f : Inst → Inst) : State :=
  s.modCtx k (fun c => { c with insts := (instInsert c.completed { n := n } c.insts).map (fun i => if i.n = n then f i else i) })

/-- `x` is an ancestor of `y` in the tree, at most four edges away. -/
def isAncestor (members : List Nat) (root x : Nat) : Nat → Nat → Bool
  | 0, _ => false
  | n + 1, y => match treeParent members root y with
    | some p => p == x || isAncestor members root x n p
    | none => false

/-- A member is accounted for as lost: it was declared lost, or orphans name it as their lost parent and its own contribution is not
held (R398, R399). -/
def ColCtx.gone (c : ColCtx) (i : Inst) (x : Nat) : Bool := c.lost.contains x || (c.missing.contains x && (mget i.got x).isNone)

/-- The members whose contributions an instance waits for at this device, and the lost ones met on the way: its children
that are not lost; at the root also the children of every lost member, each an orphan (R396, R399). Below a living child the lost ones are
those in its LIST and, where that is cut short of its LOSTCOUNT, those that orphans name. -/
def expectAux (c : ColCtx) (own : Nat) (i : Inst) : Nat → List Nat → List Nat × List Nat
  | 0, _ => ([], [])
  | _, [] => ([], [])
  | fuel + 1, x :: t =>
    let kids (y : Nat) : List Nat := if own = c.root then treeChildren c.members c.root y else []
    if c.gone i x then
      let r := expectAux c own i fuel (kids x ++ t)
      (r.1, x :: r.2)
    else
      let more := match mget i.got x with
        | some y =>
          (y.lost ++ (if y.lost.length < y.lostCount then c.missing.filter (isAncestor c.members c.root x 4) else [])).eraseDups.flatMap kids
        | none => []
      let r := expectAux c own i fuel (more ++ t)
      (x :: r.1, r.2)

/-- The members waited for, and the lost ones that this device accounts for itself. -/
def ColCtx.expect (c : ColCtx) (own : Nat) (i : Inst) : List Nat × List Nat :=
  let r := expectAux c own i (c.members.length + c.children.length) c.children
  (r.1.eraseDups, r.2.eraseDups)

/-- The combined contribution of an instance (R393): the own one, the children ascending, then orphans ascending. -/
def ColCtx.total (c : ColCtx) (own : Nat) (i : Inst) : Contrib :=
  let e := c.expect own i
  let kids := sortAsc (e.1.filter (fun x => c.children.contains x))
  let orph := sortAsc (e.1.filter (fun x => !c.children.contains x))
  let lost : Contrib := { lostCount := e.2.length, lost := sortAsc e.2 }
  let s := (kids ++ orph).foldl (fun a x => match mget i.got x with | some y => combine c a y | none => a) (i.own.getD {})
  { s with lostCount := s.lostCount + lost.lostCount, lost := sortAsc (s.lost ++ lost.lost) }

/-! ## Completion at a member (R391, R392, R402, R403) -/

/-- A loss record (R402); not written while DMA writes are stopped (R670). -/
def State.lossRecord (s : State) (k n : Nat) (x : Contrib) : State :=
  let c := s.ctx k
  let l := x.lost.take c.lossCap
  if s.dmaStop then s
  else s.write (c.lossAddr + n % 8 * (8 + 4 * c.lossCap))
    (leBytes 4 n ++ leBytes 3 x.lostCount ++ leBytes 1 (128 * b2n (decide (l.length < x.lostCount))) ++ l.flatMap (leBytes 4))

/-- The bytes that an instance writes at LADDR: the elements, or the no-voters that fit (R392, R403). -/
def resultBytes (kind len : Nat) (x : Contrib) : List Byte :=
  match kind with
  | 0 => x.value
  | 1 => (x.novoters.take (len / 4)).flatMap (leBytes 4)
  | _ => []

/-- The oldest instance leaves the context: the next one's waits begin, and the queues that wait return (R390). -/
def State.instDone (s : State) (k : Nat) : State :=
  let s1 := s.modCtx k (fun c => { c with
    completed := add32 c.completed 1
    insts := match c.insts.drop 1 with | i :: t => { i with since := s.tick } :: t | [] => [] })
  (s1.bump .COL_INSTDONE_COUNT).unpark (fun r => r == .inst k)

/-- The oldest instance of a context completes with its result: result bytes, loss record, completion. `none` while the
result's translation waits for a walk; `failed` is the kind of a walk's failure. -/
def State.instFinish (s : State) (k : Nat) (i : Inst) (x : Contrib) (got : List XEnt) (failed : Option Nat := none) :
    Option State × State :=
  match (if i.flushed then none else s.desc i.q i.cnt) with
  | none => (some (s.instDone k), s)
  | some d =>
    let c := s.ctx k
    let b := resultBytes c.kind d.raw.len x
    let r : State × XRes :=
      if b = [] then (s, {})
      else if failed.isSome then (s, { fail := failed })
      else if s.dmaStop then (s, { fail := some 0 })
      else s.xlate (.result k i.n) (s.wqOwner i.q) (s.wq i.q).asid d.raw.laddr b.length true false d.kr got
    if r.2.wait then (none, r.1)
    else
      let s1 := if r.2.fail.isSome then r.1 else writeSegs r.2.segs b r.1
      let s2 := if x.lostCount ≠ 0 then s1.lossRecord k i.n x else s1
      let st := match r.2.fail with | some k => localStatus k | none => if x.lostCount ≠ 0 then cMemberLost else 0
      let vote := c.kind == 1
      (some ((s2.finish i.q d st (if vote && x.noCount != 0 then 1 else 0) (if vote then x.noCount else 0)).instDone k), s2)

/-- Instances that have their result complete in order (R391), the first with the translations obtained by a walk. -/
def instRunAux (k : Nat) : Nat → List XEnt → State → State
  | 0, _, s => s
  | fuel + 1, got, s =>
    match (s.ctx k).insts with
    | [] => s
    | i :: _ =>
      match i.res, i.own with
      | some x, some _ =>
        if i.n ≠ (s.ctx k).completed ∨ (got = [] ∧ s.xlt.walks.any (fun w => w.2.acc == .result k i.n) = true) then s
        else match s.instFinish k i x got with
          | (some s1, _) => instRunAux k fuel [] s1
          | (none, s1) => s1
      | _, _ => s

/-- The instances of a context completed as far as they can be. -/
def State.instRun (s : State) (k : Nat) (got : List XEnt := []) : State := instRunAux k ((s.ctx k).insts.length + 1) got s

/-- The translation of the oldest instance's result failed (R392). -/
def State.instFailed (s : State) (k n kind : Nat) : State :=
  match (s.ctx k).insts with
  | i :: _ =>
    match i.res with
    | some x => if i.n = n then match s.instFinish k i x [] (some kind) with
        | (some s1, _) => s1.instRun k
        | (none, s1) => s1 else s
    | none => s
  | [] => s

/-- A result reaches a member: it is kept for the instance and forwarded to the children that are not lost (R396). -/
def State.instResult (s : State) (k n : Nat) (x : Contrib) : State :=
  let c := s.ctx k
  let s1 := s.modInst k n (fun i => { i with res := some x })
  let s2 := (c.children.filter (fun y => !c.lost.contains y)).foldl (fun t y => t.sendColl k y 1 n false x) s1
  s2.instRun k

/-- The root resolves an instance: the result, with the LIST that its packets carry (R391), goes to every child that is not lost and to every
orphan, is kept, and completes the own descriptor (R396, R400). -/
def State.rootResolve (s : State) (k : Nat) (i : Inst) : State :=
  let c := s.ctx k
  let x := clip (c.total s.own i)
  let peers := ((c.expect s.own i).1 ++ i.orph).eraseDups
  let s1 := s.modCtx k (fun c => { c with kept := (c.kept ++ [(i.n, x)]).drop (c.kept.length + 1 - 8) })
  let s2 := s1.modInst k i.n (fun i => { i with res := some x, sent := some s.tick })
  (peers.foldl (fun t y => t.sendColl k y 1 i.n false x) s2).instRun k

/-- The oldest instance not yet sent upward is sent, or resolved at the root, once it is complete here (R395). -/
def collSendAux (k : Nat) : Nat → State → State
  | 0, s => s
  | fuel + 1, s =>
    let c := s.ctx k
    match c.insts.find? (fun i => i.sent.isNone && i.res.isNone) with
    | none => s
    | some i =>
      if i.own.isSome && (c.expect s.own i).1.all (fun x => (mget i.got x).isSome) then
        if s.own = c.root then collSendAux k fuel (s.rootResolve k i)
        else
          let s1 := s.modInst k i.n (fun i => { i with sent := some s.tick })
          collSendAux k fuel (s1.sendColl k (if c.parentLost then c.root else c.parent) 0 i.n c.parentLost (c.total s.own i))
      else s

/-- A context goes on after a contribution or a loss. -/
def State.collRun (s : State) (k : Nat) : State := collSendAux k ((s.ctx k).insts.length + 1) s

/-! ## Posting (R389, R390, R400, R401) -/

/-- The result of an instance that this member cannot take part in: itself, or the root, listed as lost (R400, R401). The bytes of its VALUE,
which R516 lays out for every packet of the context and which nobody computed, are free values. -/
def State.lostResult (s : State) (k c : Nat) : Contrib :=
  let x := s.ctx k
  { value := if x.kind = 0 then leBytes (8 * x.nelem) (Config.openNat s.free) else if x.kind = 1 then leBytes 8 (Config.openNat s.free) else [],
    lostCount := 1, lost := [c] }

/-- A collective descriptor issued on a context: the next instance of this member (R389). The contribution is handed to the
local port; on a context that excludes the member or has lost its root, the instance completes at once. -/
def State.collIssue (s : State) (k q cnt : Nat) (x : Contrib) : State :=
  let c := s.ctx k
  let n := c.issued
  let s1 := s.modInst k n (fun i => { i with q := q, cnt := cnt, since := s.tick })
  let s2 := s1.modCtx k (fun c => { c with issued := add32 n 1 })
  if c.excluded then (s2.modInst k n (fun i => { i with own := some x, res := some (s.lostResult k s.own) })).fresh.2.instRun k
  else if c.rootLost then (s2.modInst k n (fun i => { i with own := some x })).fresh.2.instResult k n (s.lostResult k c.root)
  else s2.sendColl k s.own 0 n false x

/-! ## Losses (R398, R401) -/

/-- Waiting constituents of a batch answered with a status, RESIDENCE 0 and an AGE (R406, R407, R409). -/
def State.constitAnswer (s : State) (x : Constit) (status v age : Nat) : State :=
  let s1 := s.dupMod x.req.pkt.rid (fun e => { e with pending := false, status := status, d0 := v })
  (if x.req.loc then s else s1).respond x.req status 0 age (if status = 0 then extRes v 0 else [])

/-- Every waiting constituent answered UNKNOWN_OUTCOME (R386, R401); the queues that the full batch kept waiting return. -/
def State.batchFail (s : State) (k : Nat) : State :=
  let l := (s.ctx k).batch
  (l.foldl (fun t x => t.constitAnswer x cUnknown 0 x.req.pkt.age) (s.modCtx k (fun c => { c with batch := [] }))).unpark
    (fun r => r == .batch k)

/-- An instance of this member is issued and not completed (R390). -/
def ColCtx.pending (c : ColCtx) (i : Inst) : Bool := decide (sub32 i.n c.completed < sub32 c.issued c.completed)

/-- Every pending instance of this member completes MEMBER_LOST with one coordinate listed and no result (R386, R401), but for those whose
result is being written; one whose result has gone on to the children already is not sent to them again. -/
def State.pendingLost (s : State) (k lost : Nat) (forward : Bool) : State :=
  let c := s.ctx k
  let mine := c.insts.filter (fun i => c.pending i && (i.res.isNone || i.own.isNone))
  let s1 := s.modCtx k (fun c => { c with insts := c.insts.filter c.pending })
  let s2 := mine.foldl (fun t i =>
    let x := t.lostResult k lost
    let u := (t.modInst k i.n (fun j => { j with own := some (j.own.getD {}), res := some x })).fresh.2
    if forward && i.res.isNone then
      (c.children.filter (fun y => !c.lost.contains y)).foldl (fun v y => v.sendColl k y 1 i.n false x) u
    else u) s1
  s2.instRun k

/-- The instances sent to a lost parent go to the root as an orphan's (R399). -/
def State.resendOrphans (s : State) (k : Nat) : State :=
  let c := s.ctx k
  (c.insts.filter (fun i => i.sent.isSome && i.res.isNone)).foldl (fun t i =>
    t.sendColl k c.root 0 i.n true (c.total s.own i)) s

/-- A parent or child declared lost (R398): latched, counted and raised, once. -/
def State.declareLost (s : State) (k peer : Nat) : State :=
  let c := s.ctx k
  let isRoot := peer == c.root
  let isParent := peer == c.parent
  if c.st ≠ .set ∨ peer = s.own ∨ (if isRoot then c.rootLost else if isParent then c.parentLost else c.lost.contains peer) = true then s
  else
    let sub := if isRoot then 2 else if isParent then 1 else 0
    let s1 := ((s.latch .COL_FLT_LOST).bump .COL_LOSTCNT_COUNT).event0 0x30 sub k peer
    if isRoot then
      let s2 := (s1.modCtx k (fun c => { c with rootLost := true })).latch .COL_FLT_ROOTLOST
      (s2.pendingLost k c.root true).batchFail k
    else if isParent then ((s1.modCtx k (fun c => { c with parentLost := true })).resendOrphans k).collRun k
    else (s1.modCtx k (fun c => { c with lost := insertAsc c.lost peer })).collRun k

/-- This member is answered EXCLUDED for an instance (R400): it completes with the member itself listed, unless it has its result. -/
def State.excludedAt (s : State) (k n : Nat) : State :=
  let s1 := (s.modCtx k (fun c => { c with excluded := true })).event0 0x31 0 k n
  match (s.ctx k).inst n with
  | some i => if i.res.isSome then s1 else (s1.modInst k n (fun i => { i with res := some (s.lostResult k s.own) })).fresh.2.instRun k
  | none => s1

/-! ## Collective packets (R385, R394 to R400) -/

/-- The checks of every collective packet (R227, R385, R397); a packet for the alias finds no context. -/
def State.collAdmit (s : State) (r : Req) (go : State → State) : State :=
  let k := r.pkt.cctx
  let c := s.ctx k
  if s.tooOld r then s
  else if !s.targetReady then s.answer r cNotReady
  else if s.reqAlias r ∨ c.st ≠ .set then s.answer r aNoctx
  else if c.setupId ≠ r.pkt.setupid then ((s.latch .COL_FLT_MISMATCH).event0 0x32 0 k r.pkt.src).answer r aNoctx
  else go s

/-- A contribution: of the member itself, of a child, or of an orphan at the root (R394, R395, R399, R400). -/
def State.collContrib (s : State) (r : Req) : State :=
  s.collAdmit r (fun t =>
    let k := r.pkt.cctx
    let n := r.pkt.inst
    let src := r.pkt.src
    let c := t.ctx k
    let x := contribOf r.pkt
    let put (u : State) : State :=
      ((u.modInst k n (fun i => { i with got := if (mget i.got src).isSome then i.got else mset i.got src x })).answer r 0).collRun k
    if src = t.own then
      if c.old n then t.answer r 0 else (((t.modInst k n (fun i => { i with own := some x })).answer r 0).collRun k).instRun k
    else if r.pkt.orphan then
      match c.kept.find? (fun y => y.1 == n) with
      | some y => (t.answer r 0).sendColl k src 1 n false y.2
      | none =>
        if c.lost.contains src || c.old n then t.answer r aExcluded
        else match treeParent c.members c.root src with
          | some p =>
            put ((if p = t.own then t else t.modCtx k (fun c => { c with missing := insertAsc c.missing p })).modInst k n
              (fun i => { i with orph := insertAsc i.orph src }))
          | none => t.answer r aNoctx
    else if c.lost.contains src then t.answer r aExcluded
    else if !c.children.contains src then t.answer r aNoctx
    else if c.old n then t.answer r 0
    else put t)

/-- A result (R396): a copy changes nothing (R394). -/
def State.collResultIn (s : State) (r : Req) : State :=
  s.collAdmit r (fun t =>
    let k := r.pkt.cctx
    let n := r.pkt.inst
    let c := t.ctx k
    let held := match c.inst n with | some i => i.res.isSome | none => false
    if held || c.old n then t.answer r 0 else (t.answer r 0).instResult k n (contribOf r.pkt))

/-- A probe (R397). -/
def State.collProbeIn (s : State) (r : Req) : State := s.collAdmit r (fun t => t.answer r aAlive)

/-! ## Counter batches (R405 to R409) -/

/-- Local CFADD64s that were issued to a context and have not yet reached its batch. -/
def State.localMerges (s : State) (k : Nat) : Nat :=
  (mgetD s.tgt.tctx (12288 + k) []).countP (fun r => r.loc && r.pkt.ptype == 0x0A && r.pkt.ctype == 3)

/-- The batch of a context holds, or is promised to, 1,024 constituents (R405). -/
def State.batchFull (s : State) (k : Nat) : Bool := decide (1024 ≤ (s.ctx k).batch.length + s.localMerges k)

/-- A constituent placed in its context's batch. -/
def State.constitJoin (s : State) (k : Nat) (x : Constit) : State :=
  let s1 := s.modCtx k (fun c => { c with batch := c.batch ++ [x], batchAt := if c.batch = [] then s.tick else c.batchAt })
  s1.bump .COL_CONSTIT_COUNT

/-- A counter request at a member that is not the root: a child's, or a local CFADD64 (R405, R407, R408). A full batch turns a child's away;
a local one was issued with a place in it. -/
def State.mergedJoin (s : State) (r : Req) : State :=
  s.collAdmit r (fun t =>
    let k := r.pkt.cctx
    let c := t.ctx k
    if t.beforeStart r then t
    else match (if r.loc then none else t.dupGet r.pkt.rid) with
      | some e => (t.pmu_ { code := 0x0C, tclass := some r.pkt.tclass }).answerDup r e
      | none =>
        let x : Constit := { addend := leNat (r.pkt.payload.take 8), origin := r.rx - r.pkt.sentAgo - r.pkt.age, req := r }
        if c.rootLost then t.constitAnswer x cUnknown 0 r.pkt.age
        else if !r.loc && t.batchFull k then (t.latch .COL_FLT_BATCHFULL).answer r aBusy
        else if !r.loc && t.dupFull then t.answer r aBusy
        else
          let q := match (if r.loc then mget t.ini.tags r.pkt.tag else none) with | some e => e.owner.queue | none => none
          ((t.remember r true 0).pmu_ { code := 0x14, queue := q, func := q.map t.wqOwner }).constitJoin k x)

/-- Constituents that have waited 1.5 ms since their instant are answered UNKNOWN_OUTCOME (R407). -/
def State.constitExpire (s : State) (k : Nat) : State :=
  let late (x : Constit) : Bool := decide (x.origin + 1500000 ≤ s.tick)
  let l := (s.ctx k).batch.filter late
  let s1 := s.modCtx k (fun c => { c with batch := c.batch.filter (fun x => !late x) })
  (l.foldl (fun t x => t.constitAnswer x cUnknown 0 x.req.pkt.age) s1).unpark (fun r => r == .batch k)

/-- A batch whose time has come, with no merged request in flight, needs a tag for its merged request and takes its place among what waits
for one (R405, R668): constituents past their 1.5 ms are answered UNKNOWN_OUTCOME first (R407). -/
def State.batchSend (s : State) (k : Nat) : State :=
  let s1 := s.constitExpire k
  if (s1.ctx k).batch = [] ∨ s1.ini.waiting.any (fun w => w.owner == .merged k) = true then s1
  else s1.sendW { owner := .merged k, pkt := { dest := 0, ptype := 0x0A }, nonIdem := true }

/-- The values of the constituents of a merged request (R406). -/
def batchValues : Nat → List Constit → List (Constit × Nat)
  | _, [] => []
  | v, x :: t => (x, v % 2 ^ 64) :: batchValues (v + x.addend) t

/-- A merged request is answered: each constituent takes its value, or the status (R406, R408, R409). -/
def State.mergedDone (s : State) (k status v age : Nat) : State :=
  let l := (s.ctx k).flight
  (batchValues v l).foldl (fun t x => t.constitAnswer x.1 status x.2 age) (s.modCtx k (fun c => { c with flight := [] }))

end Sys2Proof.Machine
end

