-- ==== Sys2Proof/Machine/Lock.lean ====
section
/-! DEFINITION. The hardware lock service (10_locks): lock words and lift lines at the home (R411 to R420, R425), grants
and their settlement (R423, R426, R427), waiting records, probes and withdrawal at the initiator (R421, R422, R428, R429),
and dead owners (R430 to R433). -/

namespace Sys2Proof.Machine

/-! ## Lock words -/

/-- A lock word; DISABLED when not listed. -/
def State.lock (s : State) (k : Nat) : Lock := mgetD s.lck.words k {}

/-- A LOCKWORD record of a lock of the own coordinate (R434, R528). -/
def State.recLock (s : State) (k : Nat) (l : Lock) : State :=
  if k < 2 ^ 24 then
    let code := match l.st with | .disabled => 0 | .free => 1 | .held => 2 | .granting => 3
    s.record 2 (leBytes 4 k ++ leBytes 4 (code + 8 * b2n l.aband + 16 * b2n l.forced) ++
      leBytes 4 (l.owner % 2 ^ 20 + 2 ^ 20 * l.func) ++ leBytes 4 l.wq ++ leBytes 4 l.gseq)
  else s

/-- A LIFTLINE record: 1 append, 2 remove head, 3 remove entry (R528). -/
def State.recLine (s : State) (k op : Nat) (w : Waiter) : State :=
  if k < 2 ^ 24 then
    s.record 3 (leBytes 4 k ++ leBytes 1 op ++ zeros 3 ++ leBytes 4 w.coord ++ leBytes 4 (w.wq + 2 ^ 18 * w.func) ++
      leBytes 4 w.wqidx)
  else s

/-- A lock word replaced and mirrored. -/
def State.setLock (s : State) (k : Nat) (l : Lock) : State :=
  ({ s with lck := { s.lck with words := mset s.lck.words k l } } : State).recLock k l

/-- Lift-line entries in use. -/
def State.lineUsed (s : State) : Nat := (s.lck.words.map (fun kv => kv.2.line.length)).sum

/-- A word without an owner (R412). -/
def Lock.freed (l : Lock) : Lock := { l with st := .free, owner := nullCoord, func := 0, wq := 0, granteeIdx := 0 }

/-- The grant of a word in GRANTING sent to its grantee (R423, R425, R426), with WAITED, ABANDONED and FORCED in `flags`. -/
def State.sendGrant (s : State) (k flags : Nat) : State :=
  let l := s.lock k
  let p : Pkt := { dest := l.owner, ptype := 0x09,
                   ext := extGrant (k % 2 ^ 24) l.wq l.func l.granteeIdx l.gseq (if k < 2 ^ 24 then s.own else s.alias_)
                     (bitAt flags 0) (bitAt flags 1) (bitAt flags 2) }
  s.sendReq (.grant k) p true

/-- A lock passed on: the head waiter is granted, or the lock becomes FREE (R425). A grant that was under way is settled: it is not sent again,
and its answer is discarded (R420). -/
def State.lockPass (s0 : State) (k : Nat) (l : Lock) : State :=
  let s := s0.cancelReqs (fun o => o == .grant k)
  match l.line with
  | [] => s.setLock k l.freed
  | w :: t =>
    let flags := 1 + 2 * b2n l.aband + 4 * b2n l.forced
    let l1 : Lock := { st := .granting, owner := w.coord, func := w.func, wq := w.wq, gseq := add32 l.gseq 1,
                       granteeIdx := w.wqidx, line := t }
    (((s.recLine k 2 w).setLock k l1).bump .LCK_GRANT_COUNT).whenProtected (.grant k l1.gseq flags) (fun u => u.sendGrant k flags)

/-! ## Requests at the home (R419, R420) -/

/-- The identity that a lock request carries, with its WQIDX (R413). -/
def waiterOf (k : Pkt) : Waiter := { coord := k.src, func := k.lfunc, wq := k.lwq, wqidx := k.lidx }

/-- The word is owned by, or being granted to, an identity. -/
def Lock.ownedBy (l : Lock) (w : Waiter) : Bool := l.owner == w.coord && l.func == w.func && l.wq == w.wq

/-- Two identities are equal. -/
def Waiter.same (a b : Waiter) : Bool := a.coord == b.coord && a.func == b.func && a.wq == b.wq

/-- An answer that reveals lock state: it waits for protection while the pair is mirrored (R434), with the suppression
entry of a request that changes the lock pending until then (R229). -/
def State.lockAnswer (s : State) (r : Req) (nonIdem : Bool) (status d0 : Nat) (res : Bool) : State :=
  let s1 := if nonIdem then s.remember r true status d0 else s
  s1.whenProtected (.answer r status d0 res)
    (fun t => (if nonIdem then t.dupDone r else t).answer r status (if res then extRes d0 0 else []))

/-- ACQUIRE or TRY (R420). -/
def State.lockTake (s : State) (r : Req) (k : Nat) (l : Lock) (try_ : Bool) : State :=
  let w := waiterOf r.pkt
  if l.st = .free then
    let g := add32 l.gseq 1
    let l1 : Lock := { l with st := .held, aband := false, forced := false, owner := w.coord, func := w.func, wq := w.wq, gseq := g }
    ((s.setLock k l1).bump .LCK_GRANT_COUNT).lockAnswer r true aGranted
      (2 * b2n l.aband + 4 * b2n l.forced + 2 ^ 32 * g) true
  else if l.ownedBy w then s.lockAnswer r true aGranted (8 + 2 ^ 32 * l.gseq) true
  else if try_ || l.line.any (fun x => x.same w) then s.lockAnswer r true cLockBusy 0 false
  else if 1048576 ≤ s.lineUsed then (s.latch .LCK_FLT_LLFULL).answer r aBusy
  else
    (((s.recLine k 1 w).setLock k { l with line := l.line ++ [w] }).bump .LCK_WAIT_COUNT |>.pmu_ { code := 0x13 }).lockAnswer
      r true aQueued 0 false

/-- RELEASE (R420): by the owner, or the grantee, whose grant then counts as settled. -/
def State.lockGive (s : State) (r : Req) (k : Nat) (l : Lock) : State :=
  if (l.st = .held ∨ l.st = .granting) ∧ l.ownedBy (waiterOf r.pkt) = true then
    (s.lockPass k l).lockAnswer r true 0 0 false
  else (s.bump .LCK_NOTOWNER_COUNT).lockAnswer r true cNotOwner 0 false

/-- CANCEL (R429): a matching lift-line entry is removed. -/
def State.lockCancel (s : State) (r : Req) (k : Nat) (l : Lock) : State :=
  let w := waiterOf r.pkt
  let s1 := if l.line.contains w then (s.recLine k 3 w).setLock k { l with line := l.line.filter (· != w) } else s
  s1.lockAnswer r false 0 0 false

/-- PROBE (R429). -/
def State.lockProbe (s : State) (r : Req) (l : Lock) : State :=
  let w := waiterOf r.pkt
  let a := if l.line.contains w then aWaiting
    else if l.st = .granting ∧ l.ownedBy w = true ∧ l.granteeIdx = w.wqidx then aGranting else aNotWaiting
  s.lockAnswer r false a 0 false

/-- A lock request at the home, with its operation (R419). -/
def State.lockExec (s : State) (r : Req) (op : State → Nat → Lock → State) : State :=
  let nonIdem := decide (r.pkt.sub < 3)
  s.admitReq r nonIdem (fun t =>
    let k := tableKey (t.reqAlias r) r.pkt.lock
    let l := t.lock k
    if l.st = .disabled then t.lockAnswer r false cKeyInvalid 0 false
    else if nonIdem && !r.loc && t.dupFull then t.answer r aBusy
    else op t k l)

/-! ## Grants (R427) -/

/-- A grant settled: HELD by the grantee, or passed on (R427); ignored once the lock has moved on. -/
def State.grantSettle (s : State) (k gseq : Nat) (accepted : Bool) : State :=
  let l := s.lock k
  if l.st = .granting ∧ l.gseq = gseq then
    if accepted then s.setLock k { l with st := .held, granteeIdx := 0 }
    else (s.bump .LCK_DECLINE_COUNT).lockPass k l
  else s

/-- A grant unanswered at 2.0 ms (R427). -/
def State.grantUnknown (s : State) (k gseq : Nat) : State :=
  let l := s.lock k
  if l.st = .granting ∧ l.gseq = gseq then
    ((s.setLock k { l with st := .held, granteeIdx := 0 }).latch .LCK_FLT_GRANTUNK).event0 0x21 0 (k % 2 ^ 24) l.owner
  else s

/-! ## Waiting records (R421, R422, R428) -/

/-- The waiting record of an acquire. -/
def State.waitRec (s : State) (q cnt : Nat) : Option (Nat × WaitRec) :=
  s.lck.recs.find? (fun kv => kv.2.q == q && kv.2.cnt == cnt)

/-- A waiting record changed. -/
def State.modRec (s : State) (n : Nat) (f : WaitRec → WaitRec) : State :=
  { s with lck := { s.lck with recs := mmod s.lck.recs n f } }

/-- A waiting record freed: a queue that waits for one returns (R421). -/
def State.freeRec (s : State) (n : Nat) : State :=
  ({ s with lck := { s.lck with recs := mdel s.lck.recs n } } : State).unpark (fun r => r == .waitRec)

/-- A waiting acquire completes with SUCCESS: its record is ACCEPTED (R418, R422). -/
def State.acquired (s : State) (n : Nat) (x : WaitRec) (d0 : Nat) : State :=
  let s1 := s.modRec n (fun x => { x with accepted := some (s.tick, d0 / 2 ^ 32) })
  match s1.desc x.q x.cnt with
  | some d => s1.finish x.q d 0 d0 0
  | none => s1

/-- A waiting acquire completes with another status: its record is removed (R422). -/
def State.acquireFail (s : State) (n : Nat) (x : WaitRec) (status d1 : Nat) : State :=
  let s1 := s.freeRec n
  match s1.desc x.q x.cnt with
  | some d => s1.finish x.q d status 0 d1
  | none => s1

/-- A lock operation of a waiting record: 3 CANCEL, 4 PROBE (R429). -/
def State.sendLockop (s : State) (o : Owner) (x : WaitRec) (sub : Nat) : State :=
  let p : Pkt := { dest := x.home, ptype := 0x08, sub := sub, ext := extLock x.lock x.q (s.wqOwner x.q) x.cnt }
  s.sendReq o p

/-- The waiting acquires of a queue withdrawn when it enters DRAINING: a cancel goes to each home (R428). -/
def State.cancelWaits (s : State) (q : Nat) : State :=
  (s.lck.recs.filter (fun kv => kv.2.q == q && kv.2.accepted.isNone && !kv.2.cancelling)).foldl (fun t kv =>
    (t.modRec kv.1 (fun x => { x with cancelling := true })).sendLockop (.cancel q kv.2.cnt) kv.2 3) s

/-- The waiting records of a queue that enters ERROR: each is dropped and a cancel sent (R428). -/
def State.dropWaits (s : State) (q : Nat) (cancel : Bool) : State :=
  (s.lck.recs.filter (fun kv => kv.2.q == q && kv.2.accepted.isNone)).foldl (fun t kv =>
    let u := t.freeRec kv.1
    if cancel then u.sendLockop (.cancel q kv.2.cnt) kv.2 3 else u) s

/-- A grant at the waiter (R423). -/
def State.grantExec (s : State) (r : Req) : State :=
  let k := r.pkt
  s.admitReq r true (fun t =>
    if !r.loc && t.dupFull then t.answer r aBusy
    else
      let same (x : WaitRec) : Bool := x.home == k.lhome && x.lock == k.lock
      let done := t.lck.recs.any (fun kv => same kv.2 &&
        (match kv.2.accepted with | some (_, g) => g == k.gseq | none => false))
      let hit := t.lck.recs.find? (fun kv => same kv.2 && kv.2.accepted.isNone && kv.2.q == k.lwq && kv.2.cnt == k.lidx)
      let w := t.wq k.lwq
      if done then (t.remember r false aAccepted).answer r aAccepted
      else match hit with
        | some (n, x) =>
          if w.st = .active ∨ w.st = .suspended then
            ((t.remember r false aAccepted).acquired n x (k.gflags + 2 ^ 32 * k.gseq)).answer r aAccepted
          else (t.remember r false aDeclined).answer r aDeclined
        | none => (t.remember r false aDeclined).answer r aDeclined)

/-! ## Dead owners (R430, R431) -/

/-- The lift line of a word without the entries of a dead owner. -/
def State.purgeLine (s : State) (k c : Nat) (f : Option Nat) : State :=
  let l := s.lock k
  let gone := l.line.filter (fun w => w.coord == c && (match f with | some x => w.func == x | none => true))
  if gone = [] then s
  else
    let s1 := gone.foldl (fun t w => t.recLine k 3 w) s
    s1.setLock k { l with line := l.line.filter (fun w => !gone.contains w) }

/-- The locks of a dead owner, or of one of its functions, are freed with ABANDONED and passed on, and its lift-line entries
removed; `sub` says how the death was found (R430). -/
def State.ownerDead (s : State) (c : Nat) (f : Option Nat) (sub : Nat) : State :=
  if !s.flag .LCK_CTL_CELLABAND then s
  else
    let s1 := s.lck.words.foldl (fun t kv => t.purgeLine kv.1 c f) s
    let mine := s1.lck.words.filter (fun kv => (kv.2.st == .held || kv.2.st == .granting) && kv.2.owner == c &&
      (match f with | some x => kv.2.func == x | none => true))
    let s2 := mine.foldl (fun t kv => (t.bump .LCK_ABANDON_COUNT).lockPass kv.1 { t.lock kv.1 with aband := true }) s1
    (s2.latch .LCK_FLT_ABANDON).event0 0x20 sub c mine.length

/-- A cell peer is declared dead, at the first of the events of R430: a liveness probe still in flight declares it no more. Its fault message
goes to the collector. -/
def State.peerDead (s : State) (c : Nat) (f : Option Nat) (sub : Nat) : State :=
  let s1 : State := if f.isSome then s else { s with lck := { s.lck with probes := mdel s.lck.probes (digit c 0) } }
  (if s.isLocal c then s1 else s1.raise (s.peerSrc c) 0x5001 c).ownerDead c f sub

/-- Bytes of an owner-reset notice (R431, R519). -/
def oresetBytes (n : Oreset) (epoch : Nat) : List Byte :=
  leBytes 1 (b2n n.all + 2 * n.func) ++ leBytes 1 epoch ++ zeros 2 ++ leBytes 4 n.num

/-- Digits of d0 neighbours whose port is up. -/
def State.cellDigits (s : State) : List Nat := (List.range 18).filter (fun x => s.upPorts 0 x != [])

/-- The up d0 neighbours that a notice is for. -/
def State.noticeTo (s : State) (n : Oreset) : List Nat := s.cellDigits.filter (fun x => match n.only with | some y => x == y | none => true)

/-- A notice sent to every up d0 neighbour that has not answered (R432). -/
def State.sendOreset (s : State) (n : Oreset) : State :=
  ((s.noticeTo n).filter (fun x => !n.answered.contains x)).foldl (fun t x =>
    t.sendCell (setDigit t.own 0 x) t.own 0x87 (oresetBytes n (t.fld .GEN_EPOCH_EPOCH))) s

/-- A notice is over: every up neighbour has answered, or 100,000 ticks have passed (R432). -/
def State.noticeOver (s : State) (n : Oreset) : Bool :=
  (s.noticeTo n).all (fun x => n.answered.contains x) || decide (n.first + 100000 ≤ s.tick)

/-- The notices that are over are dropped, and what waited for them goes on (R432). -/
def State.endNotices (s : State) : State :=
  if s.lck.notices.any s.noticeOver then
    let s1 := { s with lck := { s.lck with notices := s.lck.notices.filter (fun n => !s.noticeOver n) } }
    s1.wakeTags.unpark (fun r => r == .hold)
  else s

/-- An owner-reset notice of this device: applied to its own locks and sent to every d0 neighbour (R431). -/
def State.ownReset (s : State) (all : Bool) (func : Nat) : State :=
  let n : Oreset := { num := s.lck.noticeNum, all := all, func := func, first := s.tick, last := s.tick }
  let s1 := { s with lck := { s.lck with notices := s.lck.notices ++ [n], noticeNum := add32 s.lck.noticeNum 1 } }
  ((s1.peerDead s.own (if all then none else some func) 1).sendOreset n).endNotices

/-- A port has come up: a d0 neighbour to which the notice of the last full reset is still owed gets it, and no request leaves until it has
answered (R431, R432). DEDUCED (log 81): a full reset takes every port down, so that its notice goes to each neighbour as its port comes up. -/
def State.portCame (s : State) (p : Nat) : State :=
  let x := s.fld .RTE_PORT_DIGIT p
  if s.fld .RTE_PORT_DIM p = 0 ∧ s.lck.owed.contains x = true ∧ (s.upPorts 0 x).isEmpty = false then
    let n : Oreset := { num := 0, all := true, func := 0, first := s.tick, last := s.tick, only := some x }
    ({ s with lck := { s.lck with notices := s.lck.notices ++ [n], owed := s.lck.owed.filter (· != x) } } : State).sendOreset n
  else s

end Sys2Proof.Machine
end

