-- ==== Sys2Proof/Machine/Msg.lean ====
section
/-! DEFINITION. Tagged messages at the target (06_messages): posted receives and unexpected messages (R263 to R265,
R275 to R277), placement (R267 to R272), the order of handling (R273, R274), deadlines (R278, R279) and changes of the
receiving queue's state (R282, R283). -/

namespace Sys2Proof

/-- The identity of a packet's message (R255). -/
def Pkt.mid (k : Pkt) : ReqId := { src := k.src, tag := k.msgtag, epoch := k.epoch }

end Sys2Proof

namespace Sys2Proof.Machine

/-- The receiving queue of a message (R248). -/
def rqOf (tag : Nat) : Nat := bits tag 46 18

/-- The packet count of a message (R253). -/
def pktCount (total : Nat) : Nat := max 1 ((total + 511) / 512)

/-- A message matches a posted receive (R250). -/
def Recv.matches_ (x : Recv) (tag src : Nat) : Bool :=
  bits (Nat.land (Nat.xor tag x.tag) x.mask) 0 46 == 0 && (x.src == nullCoord || x.src == src)

/-- Every index of the message is in the set (R270). -/
def MsgCtx.complete (c : MsgCtx) : Bool :=
  match c.total with
  | some n => decide (pktCount n ≤ c.set.length)
  | none => false

/-- The context that a packet of an identity joins: of a message that is not complete, before its deadline. A complete message on an
unexpected list outlives its identity, which a later message may carry again (R233, R276). -/
def State.msgCtx (s : State) (i : ReqId) : Option MsgCtx :=
  s.msg.ctxs.find? (fun c => c.id == i && !c.complete && decide (s.tick < c.deadline))

/-- The message context of a number. -/
def State.msgAt (s : State) (n : Nat) : Option MsgCtx := s.msg.ctxs.find? (fun c => c.key == n)

/-- A message context changed. -/
def State.modMsg (s : State) (n : Nat) (f : MsgCtx → MsgCtx) : State :=
  { s with msg := { s.msg with ctxs := s.msg.ctxs.map (fun c => if c.key == n then f c else c) } }

/-- A message context discarded. -/
def State.dropMsg (s : State) (n : Nat) : State :=
  { s with msg := { s.msg with ctxs := s.msg.ctxs.filter (fun c => c.key != n) } }

/-- The suppression entry that a message's first packet reserved changed (R274); a later message's under the same identity is not
touched. -/
def State.msgDup (s : State) (c : MsgCtx) (f : DupEnt → DupEnt) : State :=
  s.dupMod c.id (fun e => if e.expire = c.deadline then f e else e)

/-- Posted-receive entries in use: unmatched receives and matched ones (R263). -/
def State.postedUsed (s : State) : Nat := s.msg.posted.length + s.msg.ctxs.countP (fun c => c.recv.isSome)

/-- Unexpected-message headers in use. -/
def State.headersUsed (s : State) : Nat := s.msg.ctxs.countP (fun c => c.recv.isNone)

/-- Slots of the unexpected store in use. -/
def State.slotsUsed (s : State) : Nat := (s.msg.ctxs.map (fun c => c.store.length)).sum

/-- The receive of a message completes with a status (R270): TAG, TOTAL and the message's source. -/
def State.recvEnd (s : State) (c : MsgCtx) (x : Recv) (status : Nat) : State :=
  let s1 := match if x.gone then none else s.desc x.q x.cnt with
    | some d => s.finish x.q d status c.tag (c.total.getD 0) (some c.id.src)
    | none => s
  s1.unpark (fun r => r == .posted)

/-- What becomes complete is settled: the suppression entry holds SUCCESS (R279), and a matched receive whose packets are
all placed ends (R270 to R272). -/
def State.msgSettle (s : State) (n : Nat) : State :=
  match s.msgAt n with
  | none => s
  | some c =>
    if !c.complete then s
    else
      let s1 := s.msgDup c (fun e => { e with pending := false, status := 0 })
      match c.recv with
      | none => s1
      | some x =>
        if c.store ≠ [] then s1
        else (s1.dropMsg n).recvEnd c x
          (if c.failed then cLocalFault else if x.cap < c.total.getD 0 then cTruncated else 0)

/-- The bytes of packet `i` that lie below a capacity (R267). -/
def kept (cap i : Nat) (l : List Byte) : List Byte := l.take (cap - 512 * i)

/-- The bytes of a packet placed in a receive's buffer (R267, R361): done, waiting for a walk, or failed. -/
def State.placeMsg (s : State) (acc : Acc) (x : Recv) (i : Nat) (l : List Byte) (got : List XEnt) : State × XRes :=
  let b := kept x.cap i l
  if b = [] then (s, {})
  else if s.dmaStop then (s, { fail := some 0 })
  else
    let r := s.xlate acc x.func x.asid (x.laddr + 512 * i) b.length true false x.kr got
    if r.2.wait ∨ r.2.fail.isSome then r else (writeSegs r.2.segs b r.1, r.2)

/-- A stored packet copied to its place (R275); its slot is freed when the copy is in the posted stream, or has failed. -/
def State.msgCopy (s : State) (n : Nat) (idx : Nat) (got : List XEnt) : State :=
  match s.msgAt n with
  | none => s
  | some c =>
    match c.recv, mget c.store idx with
    | some x, some b =>
      let r : State × XRes := if c.failed then (s, {}) else s.placeMsg (.copy n idx) x idx b got
      if r.2.wait then r.1
      else (r.1.modMsg n (fun c => { c with store := mdel c.store idx, failed := c.failed || r.2.fail.isSome })).msgSettle n
    | _, _ => s

/-- A receive placed on its queue's list (R263): it takes the first unexpected message that matches, whose stored packets
are then copied (R265, R275), or joins the tail of the posted-receive list. -/
def State.recvPlace (s : State) (x : Recv) : State :=
  match s.msg.ctxs.find? (fun c => c.recv.isNone && c.q == x.q && x.matches_ c.tag c.id.src) with
  | some c =>
    let s1 := s.modMsg c.key (fun c => { c with recv := some x })
    (c.store.foldl (fun t kv => t.msgCopy c.key kv.1 []) s1).msgSettle c.key
  | none => { s with msg := { s.msg with posted := s.msg.posted ++ [x] } }

/-- Step 9 of R273: a packet joins its context (R267 to R269, R272) and is answered; a packet that waits for a walk keeps
its target context. -/
def State.msgPlace (s : State) (r : Req) (got : List XEnt) : State :=
  let k := r.pkt
  match s.msgCtx k.mid with
  | none => s
  | some c =>
    let past := match c.total with | some n => decide (pktCount n ≤ k.index) | none => false
    if past then ({ s with msg := { s.msg with beyond := s.msg.beyond + 1 } } : State).answer r 0
    else if c.set.contains k.index then s.answer r 0
    else
      let take (c : MsgCtx) : MsgCtx :=
        { c with set := insertAsc c.set k.index, total := if k.last then some k.total else c.total }
      match c.recv with
      | some x =>
        if c.failed then ((s.modMsg c.key take).answer r 0).msgSettle c.key
        else
          let p := s.placeMsg (.message r) x k.index k.payload got
          if p.2.wait then p.1.markBusy r (tctxOf k)
          else if p.2.fail.isSome then
            ((p.1.modMsg c.key (fun c => { take c with failed := true })).answer r cRemoteFault).msgSettle c.key
          else ((p.1.modMsg c.key take).answer r 0).msgSettle c.key
      | none =>
        if 524288 ≤ s.slotsUsed then s.answer r aBusy
        else ((s.modMsg c.key (fun c => { take c with store := mset c.store k.index k.payload })).answer r 0).msgSettle c.key

/-- The translation of a message packet's place failed (R272). -/
def State.msgPlaceFailed (s : State) (r : Req) : State :=
  let k := r.pkt
  match s.msgCtx k.mid with
  | none => s
  | some c =>
    ((s.modMsg c.key (fun c => { c with
      set := insertAsc c.set k.index, total := if k.last then some k.total else c.total, failed := true })).answer r
      cRemoteFault).msgSettle c.key

/-- The translation of a stored packet's place failed (R272, R275): its slot is freed. -/
def State.msgCopyFailed (s : State) (n : Nat) (idx : Nat) : State :=
  (s.modMsg n (fun c => { c with store := mdel c.store idx, failed := true })).msgSettle n

/-- A new message at steps 7 to 9 of R273: the first receive that matches, or an unexpected-message header; with it a
suppression entry is reserved (R264, R265, R274). -/
def State.msgNew (s : State) (r : Req) : State :=
  let k := r.pkt
  let q := rqOf k.mtag
  let hit := s.msg.posted.find? (fun x => x.q == q && x.matches_ k.mtag k.src)
  if !r.loc && s.dupFull then s.answer r aBusy
  else if hit.isNone && decide (262144 ≤ s.headersUsed) then s.answer r aBusy
  else
    let c : MsgCtx := { key := s.msg.next, id := k.mid, q := q, tag := k.mtag, recv := hit, deadline := r.expire, tclass := k.tclass }
    let posted := match hit with
      | some x => s.msg.posted.filter (fun y => !(y.q == x.q && y.cnt == x.cnt))
      | none => s.msg.posted
    let s1 := { s with msg := { s.msg with posted := posted, ctxs := s.msg.ctxs ++ [c], next := s.msg.next + 1 } }
    let s2 := if r.loc then s1 else s1.dupPut k.mid { pending := true, expire := r.expire }
    let s3 := if hit.isNone then s2.pmuQ 0x11 1 q none none (some k.tclass) else s2
    s3.msgPlace r []

/-- The order of handling a message packet (R273). -/
def State.msgExec (s : State) (r : Req) : State :=
  let k := r.pkt
  if s.tooOld r then s
  else if !s.targetReady then s.answer r cNotReady
  else if s.beforeStart r then s
  else
    match (if r.loc then none else (s.dupGet k.mid).filter (fun e => !e.pending)) with
    | some e => s.answer r e.status
    | none =>
      if (s.msgCtx k.mid).isSome then s.msgPlace r []
      else
        let w := s.wq (rqOf k.mtag)
        if w.st ≠ .active ∧ w.st ≠ .suspended then s.answer r cNotReady else s.msgNew r

/-- A message still incomplete at S + 2.0 ms is discarded (R278). -/
def State.msgTimeout (s : State) (c : MsgCtx) : State :=
  let s1 := s.dropMsg c.key
  let s2 := { s1 with tgt := { s1.tgt with dup := s1.tgt.dup.filter (fun kv => !(kv.1 == c.id.packed && kv.2.expire == c.deadline)) } }
  match c.recv with
  | some x => s2.recvEnd c x (if c.failed then cLocalFault else cReassembly)
  | none => s2.pmuQ 0x12 1 c.q none none (some c.tclass)

/-- A message of a queue discarded: its suppression entry holds TARGET_NOT_READY until it expires (R282, R283). -/
def State.msgDiscard (s : State) (c : MsgCtx) : State :=
  (s.dropMsg c.key).msgDup c (fun e => { e with pending := false, status := cNotReady })

/-- The posted-receive entries of a queue freed. -/
def State.unpost (s : State) (q : Nat) : State :=
  { s with msg := { s.msg with posted := s.msg.posted.filter (fun x => x.q != q) } }

/-- A receiving queue leaves ACTIVE for DRAINING, ERROR or an FLR (R282): unmatched receives complete CANCELLED, or
without a completion, and unexpected messages are discarded. -/
def State.recvCancel (s : State) (q : Nat) (silent : Bool) : State :=
  let mine := s.msg.posted.filter (fun x => x.q == q)
  let s1 := s.unpost q
  let s2 := (s1.msg.ctxs.filter (fun c => c.q == q && c.recv.isNone)).foldl (fun t c => t.msgDiscard c) s1
  let s3 := if silent then s2 else mine.foldl (fun t x =>
    match t.desc x.q x.cnt with
    | some d => t.finish x.q d cCancelled
    | none => t) s2
  s3.unpark (fun r => r == .posted)

/-- A queue is cleared by an FLR: its matched receives go on to their ends and write no completion (R176, R282). -/
def State.recvOrphan (s : State) (q : Nat) : State :=
  { s with msg := { s.msg with ctxs := s.msg.ctxs.map (fun (c : MsgCtx) =>
      if c.q = q then { c with recv := c.recv.map (fun x => { x with gone := true }) } else c) } }

/-- The source of the message that a posted receive has matched (R162). -/
def State.recvSrc (s : State) (q cnt : Nat) : Option Nat :=
  (s.msg.ctxs.find? (fun c => match c.recv with | some x => x.q == q && x.cnt == cnt | none => false)).map (fun c => c.id.src)

/-- The matched messages of a queue that enters ERROR: their contexts are discarded (R283); the receives complete FLUSHED
with the queue's other descriptors (R172). -/
def State.recvAbandon (s : State) (q : Nat) : State :=
  (s.msg.ctxs.filter (fun c => c.q == q && c.recv.isSome)).foldl (fun t c => t.msgDiscard c) s

end Sys2Proof.Machine
end

