-- ==== Sys2Proof/Machine/Target.lean ====
section
/-! DEFINITION. Requests at the target: the order of handling of R227 for PUT, GET, atomics, window reads and writes and
merged counter requests (R192 to R202, R308 to R318, R404), lease invalidations at a holder (R319), and turns on target
contexts (R45, R46, R673). -/

namespace Sys2Proof.Machine

/-! ## Cutting (R192, R193, R253) -/

/-- The pieces of `n` bytes that start at offset `off`, cut at multiples of `step`: position and length of each. -/
def cutAux (step : Nat) : Nat → Nat → Nat → Nat → List (Nat × Nat)
  | 0, _, _, _ => []
  | fuel + 1, off, pos, n =>
    if n = 0 then []
    else
      let m := min n (step - off % step)
      (pos, m) :: cutAux step fuel (off + m) (pos + m) (n - m)

/-- The pieces of `n` bytes at offset `off`; one empty piece when there is none. -/
def cuts (step off n : Nat) : List (Nat × Nat) := if n = 0 then [(0, 0)] else cutAux step (n / step + 2) off 0 n

/-! ## Memory access at the home (step 9 of R227) -/

/-- What a request does at step 9: its region key, region offset, bytes, and whether it writes. -/
structure HomeAcc where
  key : Nat
  off : Nat
  n : Nat
  write : Bool
  deriving DecidableEq, Repr

/-- The access of a request; a merged counter request acts on its context's word (R404). -/
def State.access (s : State) (r : Req) : HomeAcc :=
  let k := r.pkt
  match k.ptype with
  | 0x01 => ⟨k.key, k.offset + k.poff, k.payload.length, true⟩
  | 0x02 => ⟨k.key, k.offset + k.poff, k.rlen, false⟩
  | 0x03 => ⟨k.key, k.offset, atomicWidth k.sub, true⟩
  | 0x05 => ⟨k.key, k.offset, 64, false⟩
  | 0x06 => ⟨k.key, k.offset, 64, true⟩
  | _ => ⟨(s.ctx k.cctx).ckey, (s.ctx k.cctx).coff, 8, true⟩

/-- The atomic opcode of a request. -/
def atomicOpOf (k : Pkt) : Nat := if k.ptype = 0x03 then k.sub else 0x18

/-- The bytes of a line that a mask marks, over the old ones (R516). -/
def maskBytes (mask : Nat) (old new : List Byte) : List Byte :=
  (old.zip new).zipIdx.map (fun x => if bitAt mask x.2 then x.1.2 else x.1.1)

/-- The responses of a GET, cut at remote offsets that are multiples of 512 (R193, R517). -/
def State.getAnswers (s : State) (r : Req) (off : Nat) (data : List Byte) : State :=
  (cuts 512 off data.length).foldl (fun t x =>
    t.answer r 0 (extRes (r.pkt.poff + x.1) 0) ((data.drop x.1).take x.2)) s

/-- A request fails at step 9 (R229, R349, R670). -/
def State.accessFail (s : State) (r : Req) (rk : Nat) (nonIdem : Bool) : State :=
  let s1 := s.inflight rk false
  (if nonIdem then s1.remember r false cRemoteFault else s1).answer r cRemoteFault

/-- The memory access of a request whose bytes are translated (R198, R201, R212, R229, R312, R316). -/
def State.accessDo (s : State) (r : Req) (a : HomeAcc) (segs : List (Nat × Nat)) : State :=
  let k := r.pkt
  let rk := s.rkey r a.key
  let g := s.region rk
  let blk := a.off / 4096
  let al := s.reqAlias r
  match k.ptype with
  | 0x01 => ((writeSegs segs k.payload s).inflight rk false).homeWrite al rk blk (g.right 4) { req := r }
  | 0x02 => (s.inflight rk false).getAnswers r a.off (s.readSegs segs)
  | 0x05 =>
    let data := if k.nodata then [] else s.readSegs segs
    let s1 := s.inflight rk false
    let e : Nat × State := if k.leasereq then s1.grant al rk blk k.src g.st else (0, s1)
    e.2.answer r 0 (extRes e.1 0) data
  | 0x06 =>
    let s1 := writeSegs segs (maskBytes k.bytemask (s.readSegs segs) k.payload) s
    ((s1.inflight rk false).remember r true 0).homeWrite al rk blk (g.right 4) { req := r }
  | _ =>
    let op := atomicOpOf k
    let old := leNat (s.readSegs segs)
    let new := atomicNew op old k.payload
    let s1 := if new = old then s else writeSegs segs (leBytes a.n new) s
    let d0 := old % 2 ^ 64
    let d1 := old / 2 ^ 64
    ((s1.inflight rk false).remember r true 0 d0 d1).homeWrite al rk blk (g.right 4)
      { req := r, d0 := d0, d1 := d1, res := true }

/-- The access of a packet reads host memory: a GET, a window read, an atomic. -/
def Pkt_readsHost (k : Pkt) : Bool := k.ptype == 0x02 || k.ptype == 0x03 || k.ptype == 0x05 || k.ptype == 0x0A

/-- Step 9 of R227: an access behind a waiting write is held (R318); one that waits for a walk keeps its target context. DESIGN CHOICE
(log 69): a request that passed step 8 reserves no suppression entry while it waits, and step 8 is not applied again (R230). -/
def State.perform (s : State) (r : Req) (got : List XEnt) : State :=
  let a := s.access r
  let rk := s.rkey r a.key
  let g := s.region rk
  let nonIdem := r.pkt.nonIdem || r.pkt.ptype == 0x0A
  let lk := leaseKey rk (a.off / 4096)
  if s.blockHeld lk then s.holdAccess lk r
  else
    let x := s.xlate (.target r) g.func g.asid (g.base + a.off) a.n a.write true 0 got
    if x.2.wait then x.1.markBusy r (tctxOf r.pkt)
    else if x.2.fail.isSome ∨ (a.write && s.dmaStop) = true then x.1.accessFail r rk nonIdem
    else if Pkt_readsHost r.pkt = true ∧ r.rd ≠ .ok then (x.1.poisonRx r.rd).accessFail r rk nonIdem
    else x.1.accessDo r a x.2.segs

/-- A held access that is released: step 1 of R227 applies again (R318), and step 4 to a request that another copy has
overtaken. -/
def State.release (s : State) (r : Req) : State :=
  let rk := s.rkey r (s.access r).key
  if s.tooOld r then s.inflight rk false
  else match (if r.loc || !(r.pkt.nonIdem || r.pkt.ptype == 0x0A) then none else s.dupGet r.pkt.rid) with
    | some e => (s.inflight rk false).answerDup r e
    | none => s.perform r []

/-- Steps 5 to 9 of R227 for an access to a region with a rights test. -/
def State.accessChecks (s : State) (r : Req) (nonIdem : Bool) (permits : Region → Bool) (opLen : Nat) : State :=
  let a := s.access r
  let c := s.checkKey r a.key
  let rk := s.rkey r a.key
  let g := s.region rk
  let start := if r.pkt.ptype = 0x0A then a.off else r.pkt.offset
  if c.2 ≠ 0 then c.1.answer r c.2
  else if !permits g then s.answer r cRightsDenied
  else if g.size < start + opLen then s.answer r cOffsetRange
  else if nonIdem && !r.loc && s.dupFull then s.answer r aBusy
  else
    let s1 := s.pmu_ { code := 0x0B, func := some g.func, engine := some r.eng,
                       tclass := some r.pkt.tclass, addr := some (g.base + a.off) }
    if a.n = 0 then s1.answer r 0 (if r.pkt.ptype = 0x02 then extRes 0 0 else []) else (s1.inflight rk true).perform r []

/-- The order of handling of R227 for PUT, GET, atomic, WRD and WWR packets. -/
def State.regionExec (s : State) (r : Req) : State :=
  s.admitReq r r.pkt.nonIdem (fun t => t.accessChecks r r.pkt.nonIdem (fun g => g.permits r.pkt) r.pkt.opLen)

/-- A merged counter request: applied as one FADD64 at the root (R404), joined to the batch elsewhere (R405). -/
def State.mergedExec (s : State) (r : Req) : State :=
  let c := s.ctx r.pkt.cctx
  if s.own = c.root then
    s.collAdmit r (fun t => t.admitReq r true (fun u => u.accessChecks r true (fun g => g.right 2 && g.right 3) 8))
  else s.mergedJoin r

/-! ## Lease invalidations at a holder (R319) -/

/-- A global block: coordinate, region index, generation and block number, as one number. -/
def gblock (coord index gen blk : Nat) : Nat := ((coord * 2 ^ 24 + index) * 2 ^ 8 + gen) * 2 ^ 36 + blk

/-- A change of every read or renewal that was sent and meets `p`. -/
def State.markReads (s : State) (p : Pkt → Bool) (f : TagEnt → TagEnt) : State :=
  let mark (kv : Nat × TagEnt) : Nat × TagEnt := (kv.1, if kv.2.pkt.ptype == 0x05 && p kv.2.pkt then f kv.2 else kv.2)
  { s with ini := { s.ini with tags := s.ini.tags.map mark } }

/-- An invalidation at a holder: the block's frame is invalidated, its outstanding reads marked, and it is acknowledged (R319). DEDUCED (log
71): the home names itself by SRC and the block by index, GEN and number only; the block is one whose lease SRC granted, under its own
coordinate or its alias's, and an outstanding read is one that SRC comes to answer. -/
def State.linvExec (s : State) (r : Req) : State :=
  let k := r.pkt
  s.admitReq r false (fun t =>
    let low := gblock 0 k.invIndex k.invGen k.invBlock
    let mine (f : Nat × Frame) : Bool := f.1 % 2 ^ 68 == low && f.2.home == k.src
    let t1 := { t with win := { t.win with frames := t.win.frames.filter (fun f => !mine f) } }
    let read (p : Pkt) : Bool := sameCell p.dest k.src && p.key % 2 ^ 32 == k.invIndex + 2 ^ 24 * k.invGen &&
      p.offset / 4096 == k.invBlock
    ((t1.markReads read (fun e => { e with inv := k.src :: e.inv })).bump .NCC_INVRX_COUNT).answer r 0)

/-! ## Turns on target contexts (R46, R673) -/

/-- The unit that a request needs is in a block reset: the lock unit for lock operations and grants, the collective unit for
collective packets (R580). -/
def State.unitReset (s : State) (ptype : Nat) : Bool :=
  ((ptype == 0x08 || ptype == 0x09) && s.blockBusy 0x22) || (ptype == 0x0A && s.blockBusy 0x23)

/-- A request of any type that changes its target at most once (R227, R404, R419). -/
def Pkt_changes (k : Pkt) : Bool :=
  k.nonIdem || k.ptype == 0x09 || (k.ptype == 0x08 && decide (k.sub < 3)) || (k.ptype == 0x0A && k.ctype == 3)

/-- A request executed by its packet type, or, where steps 1 to 4 of R227 do not end it, answered BUSY while its unit is reset; a packet
whose SUB names no operation is discarded. -/
def State.targetExec (s : State) (r : Req) : State :=
  let k := r.pkt
  if s.unitReset k.ptype then s.admitReq r (Pkt_changes k) (fun t => t.answer r aBusy)
  else match k.ptype with
  | 0x03 => if k.atomicOk then s.regionExec r else s
  | 0x04 => s.msgExec r
  | 0x07 => s.linvExec r
  | 0x08 => match k.sub with
    | 0 => s.lockExec r (fun t n l => t.lockTake r n l false)
    | 1 => s.lockExec r (fun t n l => t.lockTake r n l true)
    | 2 => s.lockExec r (fun t n l => t.lockGive r n l)
    | 3 => s.lockExec r (fun t n l => t.lockCancel r n l)
    | 4 => s.lockExec r (fun t _ l => t.lockProbe r l)
    | _ => s
  | 0x09 => s.grantExec r
  | 0x0A => match k.ctype with
    | 0 => s.collContrib r
    | 1 => s.collResultIn r
    | 2 => s.collProbeIn r
    | _ => s.mergedExec r
  | _ => s.regionExec r

/-- The request at the head of a target context taken from its list: one that has passed its checks already, before the engine that held it
was reset, goes on from there (R214); any other is executed by its type. -/
def State.takeReq (s : State) (t : Nat) (r : Req) (rest : List Req) : State :=
  let s1 : State := { s with tgt := { s.tgt with tctx := if rest = [] then mdel s.tgt.tctx t else mset s.tgt.tctx t rest } }
  if s1.tgt.accepted.contains t then
    let s2 : State := { s1 with tgt := { s1.tgt with accepted := s1.tgt.accepted.filter (· != t) } }
    if r.pkt.ptype = 0x04 then s2.msgPlace r [] else s2.perform r []
  else s1.targetExec r

/-- A turn held across a walk may take `n` more requests when it goes on (R673). -/
def State.turnHeld (s : State) (t n : Nat) : State :=
  if s.tctxBusy t then { s with tgt := { s.tgt with tleft := mset s.tgt.tleft t n } } else s

/-- The requests of a target context served in order by engine `e`, at most `n` of them (R673); their reads of host memory end with
`rd`. A request of this device itself, which is never sent again (R202), waits for the end of a block reset of its unit, and one whose answer
would find no place waits for it (R462). -/
def serveTctx (e t : Nat) (rd : ReadStatus) : Nat → State → State
  | 0, s => s
  | n + 1, s =>
    if s.noExec || s.tctxBusy t then s
    else match mgetD s.tgt.tctx t [] with
      | [] => s
      | r :: rest =>
        if (r.loc && s.unitReset r.pkt.ptype) || (!r.loc && s.respFull) then s
        else serveTctx e t rd n ((s.takeReq t { r with rd := rd, eng := e } rest).turnHeld t n)

/-- A turn on a target context of which `n` requests are left; then its list entry again while work remains. -/
def State.continueTctx (s : State) (e t : Nat) (rd : ReadStatus) (n : Nat) : State :=
  let s1 := serveTctx e t rd n s
  if s1.tctxBusy t || mgetD s1.tgt.tctx t [] == [] then s1 else s1.enqueue (.tctx t)

/-- A turn on a target context: 16 requests (R673). -/
def State.turnTctx (s : State) (e t : Nat) (rd : ReadStatus) : State :=
  (s.pmu_ { code := 0x05, engine := some e }).continueTctx e t rd 16

/-- The turn of a request that waited for a walk goes on with the request, then with those behind it (R673). -/
def State.turnGoOn (s : State) (r : Req) (go : State → State) : State :=
  let t := tctxOf r.pkt
  let n := mgetD s.tgt.tleft t 15
  let s1 := (go (s.unmarkBusy t)).turnHeld t n
  if s1.tctxBusy t then s1 else s1.continueTctx r.eng t r.rd n

end Sys2Proof.Machine
end

