-- ==== Sys2Proof/Machine/Window.lean ====
section
/-! DEFINITION. The Global Window at the requester (07_global_window): map entries (R286 to R294), loads and stores (R298,
R308 to R314), the near-cache (R302 to R307), budgets and settlement (R327, R328), and failed accesses (R332, R672). -/

namespace Sys2Proof.Machine

/-! ## BAR4 and the map (R116, R288, R290) -/

/-- The size of a committed decoder. -/
def Hdm.bytes (h : Hdm) : Nat := if h.committed then h.size else 0

/-- The start of window `d` in BAR4: the sizes of the lower-numbered committed decoders. -/
def State.winStart (s : State) (d : Nat) : Nat := ((s.host.hdm.take d).map Hdm.bytes).sum

/-- The decoder that a host physical address falls in. -/
def State.decoderOf (s : State) (hpa : Nat) : Option Nat :=
  (List.range 4).find? (fun d => match s.host.hdm[d]? with
    | some h => h.committed && decide (h.base ≤ hpa) && decide (hpa < h.base + h.size)
    | none => false)

/-- The BAR4 offset of an address of decoder `d` (R116). -/
def State.bar4 (s : State) (d hpa : Nat) : Nat := hpa - ((s.host.hdm[d]?).getD {}).base + s.winStart d

/-- The map entry number of a BAR4 offset (R290). -/
def State.entryNo (s : State) (d a : Nat) : Nat :=
  s.fld .GWN_WMAP_MBASE d + (a - s.winStart d) / 2 ^ s.fld .GWN_WCFG_GLOG2 d

/-- The region offset of a BAR4 offset through an entry (R290). -/
def State.regionOff (s : State) (d a : Nat) (e : WEnt) : Nat :=
  e.roff * 2 ^ 21 + (a - s.winStart d) % 2 ^ s.fld .GWN_WCFG_GLOG2 d

/-- The valid entry that an access of window `d` uses (R287, R294). -/
def State.winEntry (s : State) (d a : Nat) : Option WEnt :=
  if s.flag .GWN_WCFG_EN d then mget s.win.map (s.entryNo d a) else none

/-! ## Failed accesses (R294, R332, R672) -/

/-- A Global Window event, at most one of each type in 10,000 ticks (R332). -/
def State.winEvent (s : State) (type sub object data : Nat) : State :=
  match mget s.win.evAt type with
  | some t => if s.tick < t + 10000 then s else
      ({ s with win := { s.win with evAt := mset s.win.evAt type s.tick } } : State).event0 type sub object data
  | none => ({ s with win := { s.win with evAt := mset s.win.evAt type s.tick } } : State).event0 type sub object data

/-- A failed access recorded in GWN_ERRLOG and counted: kinds 1 UNMAPPED, 2 REFUSED, 3 UNREACH, 4 NOTREADY, 5 SAFE. -/
def State.winFail (s : State) (kind d a : Nat) (write : Bool) (status : Nat) : State :=
  let s1 := if write then (s.bump .GWN_FENCE_LOST d).bump .GWN_ERRCNT_WFAILED else s.bump .GWN_ERRCNT_POISONED
  let s2 := s1.snap .GWN_ERRLOG0_SEQ 0 (fun t =>
    let t1 := ((t.setFld .GWN_ERRLOG0_KIND kind).setFld .GWN_ERRLOG0_WRITE (b2n write)).setFld .GWN_ERRLOG0_WINDOW d
    ((t1.setFld .GWN_ERRLOG0_STATUS status).wrRaw .GWN_ERRLOG1 0 (a % 2 ^ 32)).setFld .GWN_ERRLOG2_OFFSETHI (a / 2 ^ 32))
  let obj := d + 256 * b2n write
  match kind with
  | 1 => (s2.latch .GWN_FLT_UNMAPPED).winEvent 0x10 0 obj (a / 2 ^ 16)
  | 2 => (s2.latch .GWN_FLT_REFUSED).winEvent 0x11 status obj (a / 2 ^ 16)
  | 3 => (s2.latch .GWN_FLT_UNREACH).winEvent 0x12 0 obj (a / 2 ^ 16)
  | 4 => s2.winEvent 0x13 0 obj (a / 2 ^ 16)
  | _ => s2

/-- A read returned with poison (R301). -/
def State.poison (s : State) (mid : Nat) : State := s.emit (.cxlData mid (zeros 64) true)

/-! ## Frames (R303 to R306) -/

/-- The global block that an offset through an entry lies in (R304). -/
def WEnt.block (e : WEnt) (off : Nat) : Nat := gblock e.coord (bits e.key 0 24) (bits e.key 24 8) (off / 4096)

/-- A frame's lease is usable (R298). -/
def State.frameUsable (s : State) (f : Frame) : Bool := f.epoch == s.win.cacheEpoch && decide (s.now + epsilon < f.expiry)

/-- A frame replaced. -/
def State.setFrame (s : State) (g : Nat) (f : Frame) : State := { s with win := { s.win with frames := mset s.win.frames g f } }

/-- The frames of the set that a block maps to. -/
def State.setOf (s : State) (g : Nat) : List (Nat × Frame) :=
  let n := s.fld .NCC_CFG_SIZE * 32768
  s.win.frames.filter (fun kv => Config.nccSet kv.1 % n == Config.nccSet g % n)

/-- Room made in the set of a block: the frame whose lease has expired, else the least recently hit; among equals the choice
is not specified (R305). -/
def State.makeRoom (s : State) (g : Nat) : State :=
  let l := s.setOf g
  if l.length < 8 then s
  else
    let dead := l.filter (fun kv => !s.frameUsable kv.2)
    let least := (minBy (fun (kv : Nat × Frame) => kv.2.hit) l).map (fun kv => kv.2.hit)
    let cands := if dead = [] then l.filter (fun kv => some kv.2.hit == least) else dead
    match cands[Config.nccVictim s.free % cands.length]? with
    | some kv => { s.fresh.2 with win := { s.win with frames := mdel s.win.frames kv.1 } }
    | none => s

/-- A lease grant of the device `src` installed (R306): `line` is the line and its data, none for a renewal. -/
def State.install (s : State) (e : TagEnt) (src g expiry : Nat) (line : Option (Nat × List Byte)) : State :=
  let f := mget s.win.frames g
  let usable := match f with | some x => s.frameUsable x | none => false
  if expiry = 0 ∨ !e.sentNcc ∨ e.noInstall ∨ e.inv.contains src ∨ !s.ncc ∨ (line.isNone ∧ !usable) ∨ expiry ≤ s.now + epsilon then s
  else
    match f, usable, line with
    | some x, true, some (n, b) => s.setFrame g { x with lines := mset x.lines n b, expiry := max x.expiry expiry, renewed := false }
    | some x, true, none => s.setFrame g { x with expiry := max x.expiry expiry, renewed := false }
    | _, _, some (n, b) =>
      ({ s with win := { s.win with frames := mdel s.win.frames g } } : State).makeRoom g |>.setFrame g
        { expiry := expiry, home := src, lines := [(n, b)], epoch := s.win.cacheEpoch, hit := s.tick }
    | _, _, none => s

/-- A window read request (R300). -/
def winRead (e : WEnt) (off : Nat) (lease nodata : Bool) : Pkt :=
  { dest := e.coord, ptype := 0x05, ext := extWin e.key (off / 64 * 64) lease nodata 0 }

/-- A renewal of a frame close to the end of its lease, once per lease (R302). -/
def State.renew (s : State) (e : WEnt) (off g : Nat) (f : Frame) : State :=
  if s.flag .NCC_CFG_RENEW && !f.renewed && decide (f.expiry < s.now + 5000) then
    ((s.setFrame g { f with renewed := true }).bump .GWN_RDCNT_COUNT).sendReq (.renew g) (winRead e off true true)
  else s

/-! ## Accesses by lease block (R48, R49, R309, R310) -/

/-- The accesses of a BAR4 lease block. -/
def State.wblk (s : State) (b : Nat) : WBlk := mgetD s.win.blk b {}

/-- The accesses of a block replaced; an idle block is not listed. -/
def State.setBlk (s : State) (b : Nat) (w : WBlk) : State :=
  { s with win := { s.win with blk := if w.items = [] ∧ w.settle = none then mdel s.win.blk b else mset s.win.blk b w } }

/-- An access changed. -/
def State.modItem (s : State) (b id : Nat) (f : WItem → WItem) : State :=
  let w := s.wblk b
  s.setBlk b { w with items := w.items.map (fun i => if i.id = id then f i else i) }

/-- The access with a number, and its block. -/
def State.findItem (s : State) (id : Nat) : Option (Nat × WItem) :=
  s.win.blk.findSome? (fun kv => (kv.2.items.find? (fun i => i.id == id)).map (fun i => (kv.1, i)))

/-- An access may be issued: the block is not settling (R328), and nothing accepted before it is left that it must not overtake. A read
waits for every earlier write to end and never for reads (R310); a write waits for the write in flight (R309) and, so that accesses
of one block take effect in the order of acceptance (R330), for the earlier reads. -/
def WBlk.mayIssue (w : WBlk) (id : Nat) : Bool :=
  let before := w.items.takeWhile (fun i => i.id != id)
  let write := w.items.any (fun i => i.id == id && i.write)
  w.settle.isNone && before.all (fun i => i.issued && !i.write) && (!write || before == [])

/-- The lines of a block that a write holds bytes of, ascending. -/
def WItem.lines (i : WItem) : List Nat := (i.bytes.map (fun kv => kv.1 / 64)).eraseDups

/-- The bytes and BYTEMASK of one line of a write (R309). -/
def WItem.line (i : WItem) (n : Nat) : List Byte × Nat :=
  ((List.range 64).map (fun j => mgetD i.bytes (64 * n + j) 0),
   (List.range 64).foldl (fun m j => if (mget i.bytes (64 * n + j)).isSome then m + 2 ^ j else m) 0)

/-- An access issued to the fabric (R300, R309). -/
def State.issueItem (s : State) (b : Nat) (i : WItem) : State :=
  let off := i.off
  if i.write then
    let base := off / 4096 * 4096
    let ls := i.lines
    let s1 := ((s.modItem b i.id (fun i => { i with issued := true, left := ls.length })).bump
      .GWN_WRCNT_COUNT).pmu_ { code := 0x10, addr := some i.a }
    ls.foldl (fun t n =>
      let x := i.line n
      let k : Pkt := { dest := i.ent.coord, ptype := 0x06, payload := x.1,
                       ext := extWin i.ent.key (base + 64 * n) false false x.2 }
      t.sendReq (.winWrite i.id n) k true) s1
  else
    let lease := s.ncc && !i.ent.nocache && !s.isLocal i.ent.coord
    ((s.modItem b i.id (fun i => { i with issued := true, left := 1 })).bump .GWN_RDCNT_COUNT).sendReq
      (.winRead i.id) (winRead i.ent off lease false) (noInstall := i.noInstall)

/-- The accesses of an internal window queue issued in order as far as they may be, at most `n` (R673); those that must
wait keep their place. -/
def serveWinq : List Nat → Nat → List Nat → State → List Nat × State
  | [], _, kept, s => (kept, s)
  | id :: t, n, kept, s =>
    if n = 0 then (kept ++ id :: t, s)
    else match s.findItem id with
      | none => serveWinq t n kept s
      | some (b, i) =>
        if (s.wblk b).mayIssue id then serveWinq t (n - 1) kept (s.issueItem b i)
        else serveWinq t n (kept ++ [id]) s

/-- A turn on an internal window queue. -/
def State.turnWinq (s : State) (e w : Nat) : State :=
  let r := serveWinq (mgetD s.win.winq w []) 16 [] (s.pmu_ { code := 0x05, engine := some e })
  let s1 : State := { r.2 with win := { r.2.win with winq := if r.1 = [] then mdel r.2.win.winq w else mset r.2.win.winq w r.1 } }
  let more := r.1.any (fun id => match s1.findItem id with | some (b, _) => (s1.wblk b).mayIssue id | none => false)
  if more then s1.enqueue (.winq w) else s1

/-- A block goes on: its window queue joins a run list if an access of it may now be issued. -/
def State.wakeBlk (s : State) (b : Nat) : State :=
  let w := s.wblk b
  if w.items.any (fun i => !i.issued && w.mayIssue i.id) then s.enqueue (.winq (b % 288)) else s

/-- A new access joins its block and its window queue (R48). -/
def State.addItem (s : State) (b : Nat) (i : WItem) : State :=
  let w := s.wblk b
  let s1 := s.setBlk b { w with items := w.items ++ [i] }
  let q := b % 288
  ({ s1 with win := { s1.win with nextId := s1.win.nextId + 1,
                                  winq := mset s1.win.winq q (mgetD s1.win.winq q [] ++ [i.id]) } } : State).wakeBlk b

/-! ## Fences (R314) -/

/-- Reads of fence registers that wait for no write any more return them. -/
def State.fenceRun (s : State) : State :=
  let done := s.win.fences.filter (fun f => f.ids.isEmpty)
  done.foldl (fun t f => t.emit (.pcieRead (some ((f.regs.map (fun x => 2 ^ x.1 * t.rdRaw .GWN_FENCE x.2)).sum))))
    { s with win := { s.win with fences := s.win.fences.filter (fun f => !f.ids.isEmpty) } }

/-- A write no longer counts for the fences that wait. -/
def State.fenceDrop (s : State) (id : Nat) : State :=
  ({ s with win := { s.win with fences := s.win.fences.map (fun f => { f with ids := f.ids.filter (· != id) }) } } : State).fenceRun

/-! ## Loads and stores (R298, R308) -/

/-- The kind of refusal of a window access for want of readiness, 0 when it may go on (R672). -/
def State.winRefused (s : State) : Nat := if s.flt.safe then 5 else if !s.hif || !s.dstate then 4 else 0

/-- A load: served from the near-cache, or by a fabric read (R298). While its block settles it is held (R328), and then served by a fabric
read. -/
def State.winLoad (s : State) (mid d a : Nat) : State :=
  if s.winRefused ≠ 0 then (s.winFail s.winRefused d a false 0).poison mid
  else match s.winEntry d a with
    | none => (s.winFail 1 d a false 0).poison mid
    | some e =>
      let off := s.regionOff d a e
      let g := e.block off
      let n := off % 4096 / 64
      let cacheable := !e.nocache && !s.isLocal e.coord
      let f := mget s.win.frames g
      let miss (_ : Unit) : State :=
        let exp := match f with | some x => !s.frameUsable x | none => false
        let s1 := if cacheable then (s.bump .NCC_MISS_COUNT).pmu_ { code := 0x0F, addr := some a } else s
        let s2 := if cacheable && exp then s1.bump .NCC_EXPMISS_COUNT else s1
        s2.addItem (a / 4096) { id := s2.win.nextId, d := d, a := a, off := off, write := false, mids := [(mid, n)], ent := e, entNo := s.entryNo d a }
      match f with
      | some x =>
        if cacheable && s.ncc && s.frameUsable x && (s.wblk (a / 4096)).settle.isNone then
          match mget x.lines n with
          | some b =>
            let x1 := { x with hit := s.tick }
            ((((s.setFrame g x1).bump .NCC_HIT_COUNT).pmu_ { code := 0x0E, addr := some a }).renew e off g x1).emit
              (.cxlData mid b false)
          | none => miss ()
        else miss ()
      | none => miss ()

/-- Bytes of a store by their place in the lease block. -/
def storeBytes (a mask : Nat) (data : List Byte) (m : AMap Byte) : AMap Byte :=
  data.zipIdx.foldl (fun t x => if bitAt mask x.2 then mset t (a % 4096 / 64 * 64 + x.2) x.1 else t) m

/-- A write of a lease block is accepted: every read and renewal of the block that is outstanding installs nothing, whether it was sent,
waits for a tag or is not yet issued (R307). -/
def State.storeMark (s : State) (e : WEnt) (off : Nat) : State :=
  let p (k : Pkt) : Bool := k.dest == e.coord && k.key % 2 ^ 32 == e.key % 2 ^ 32 && k.offset / 4096 == off / 4096
  let s1 := s.markReads p (fun t => { t with noInstall := true })
  let wait (w : TagWait) : TagWait := if w.pkt.ptype == 0x05 && p w.pkt then { w with noInstall := true } else w
  let item (i : WItem) : WItem := if !i.write && i.ent.block i.off == e.block off then { i with noInstall := true } else i
  { s1 with ini := { s1.ini with waiting := s1.ini.waiting.map wait }
            win := { s1.win with blk := s1.win.blk.map (fun kv => (kv.1, { kv.2 with items := kv.2.items.map item })) } }

/-- A store accepted by the host interface (R307 to R311): the written line leaves the frames, outstanding reads of the
block install nothing, and the bytes join the block's buffer. One without a byte enabled needs no packet, and completes at once. -/
def State.winStore (s : State) (mid d a : Nat) (data : List Byte) (mask : Nat) : State :=
  if s.winRefused ≠ 0 then (s.winFail s.winRefused d a true 0).emit (.cxlDone mid)
  else match s.winEntry d a with
    | none => (s.winFail 1 d a true 0).emit (.cxlDone mid)
    | some e =>
      let off := s.regionOff d a e
      let g := e.block off
      let n := off % 4096 / 64
      let s1 := match mget s.win.frames g with
        | some x => if mask % 2 ^ 64 = 0 then s else s.setFrame g { x with lines := mdel x.lines n }
        | none => s
      let s2 := s1.storeMark e off
      let s3 := if e.fast ∨ mask % 2 ^ 64 = 0 then s2.emit (.cxlDone mid) else s2
      let mids := if e.fast then [] else [(mid, a % 4096 / 64)]
      let b := a / 4096
      let new : WItem := { id := s3.win.nextId, d := d, a := a, off := off, write := true, mids := mids,
                           bytes := storeBytes a mask data [], ent := e, entNo := s.entryNo d a }
      if mask % 2 ^ 64 = 0 then s3
      else match (s3.wblk b).items.getLast? with
        | some i =>
          if i.write && !i.issued && i.d == d && i.entNo == s.entryNo d a && i.ent == e && i.off / 4096 == off / 4096 then
            s3.modItem b i.id (fun i => { i with mids := i.mids ++ mids, bytes := storeBytes a mask data i.bytes })
          else s3.addItem b new
        | none => s3.addItem b new

/-! ## Answers (R301, R306, R311, R313) -/

/-- An access leaves its block. -/
def State.dropItem (s : State) (b id : Nat) : State :=
  let w := s.wblk b
  ((s.setBlk b { w with items := w.items.filter (fun i => i.id != id) }).fenceDrop id).wakeBlk b

/-- The answer of a window read (R301, R306). -/
def State.winReadDone (s : State) (e : TagEnt) (src id status expiry : Nat) (data : List Byte) : State :=
  match s.findItem id with
  | none => s
  | some (b, i) =>
    let mid := match i.mids with | (m, _) :: _ => m | [] => 0
    let off := i.off
    if status ≠ 0 then ((s.winFail 2 i.d i.a false status).poison mid).dropItem b id
    else
      let s1 := s.install e src (i.ent.block off) expiry (some (off % 4096 / 64, data))
      (s1.emit (.cxlData mid data false)).dropItem b id

/-- One line of a window write is answered, or has passed its budget: its STRICT host writes complete (R311, R313). -/
def State.winLineDone (s : State) (b id line : Nat) : State :=
  match (s.wblk b).items.find? (fun i => i.id == id) with
  | none => s
  | some i =>
    let s1 := (i.mids.filter (fun m => m.2 == line)).foldl (fun t m => t.emit (.cxlDone m.1)) s
    let s2 := s1.modItem b id (fun i => { i with left := i.left - 1, mids := i.mids.filter (fun m => m.2 != line) })
    if i.left ≤ 1 ∧ i.expired = false then s2.dropItem b id else s2

/-- The answer of one packet of a window write. -/
def State.winWriteDone (s : State) (id line status : Nat) : State :=
  match s.findItem id with
  | none => s
  | some (b, i) =>
    let s1 := if status ≠ 0 then s.winFail 2 i.d i.a true status else s
    s1.winLineDone b id line

/-- The request serves a window access. -/
def Owner.winId (o : Owner) (id : Nat) : Bool := match o with | .winRead i => i == id | .winWrite i _ => i == id | _ => false

/-- The tags of a window access that are not answered. -/
def State.openTags (s : State) (id : Nat) : List (Nat × TagEnt) :=
  s.ini.tags.filter (fun kv => !kv.2.answered && !kv.2.done && kv.2.owner.winId id)

/-- A packet of a window access waits for a tag. -/
def State.winWaits (s : State) (id : Nat) : Bool := s.ini.waiting.any (fun w => w.owner.winId id)

/-- An access that has failed sends nothing more and takes no further answer. -/
def State.cutItem (s : State) (id : Nat) : State := s.cancelReqs (fun o => o.winId id)

/-- A window write is lost: each unanswered packet of it counts, its host writes complete, and the block settles until 2.0 ms
after its first transmission (R313, R328). -/
def State.winLost (s : State) (b : Nat) (i : WItem) : State :=
  let s1 := (List.range i.left).foldl (fun t _ => t.winFail 3 i.d i.a true 0) (s.cutItem i.id)
  let s2 := i.mids.foldl (fun t m => t.emit (.cxlDone m.1)) s1
  let at_ := match i.first with | some t => t + 2000000 | none => s.tick
  let s3 := s2.modItem b i.id (fun i => { i with expired := true, mids := [] })
  (s3.setBlk b { s3.wblk b with settle := some at_ }).fenceDrop i.id

/-- A packet of an access is unanswered at the budget, which counts from its first transmission (R309, R327); where the tags were cleared,
from the latest one of the access. -/
def State.overBudget (s : State) (i : WItem) : Bool :=
  let late (t : Nat) : Bool := decide (t + s.fld .GWN_BUDGET_BUDGET ≤ s.tick)
  let l := s.openTags i.id
  l.any (fun kv => late kv.2.first) ||
    (l == [] && !s.winWaits i.id && (match i.first with | some t => late t | none => false))

/-- A window access is unanswered at its budget (R327): a read returns poison, a write is lost. -/
def State.winExpire (s : State) (id : Nat) : State :=
  match s.findItem id with
  | none => s
  | some (b, i) =>
    if !i.issued || i.expired || !s.overBudget i then s
    else if i.write then s.winLost b i
    else
      let mid := match i.mids with | (m, _) :: _ => m | [] => 0
      (((s.cutItem id).winFail 3 i.d i.a false 0).poison mid).dropItem b id

/-- A lost write of a block is settled: the block resumes in acceptance order (R328). -/
def State.winSettle (s : State) (b : Nat) : State :=
  let w := s.wblk b
  match w.settle with
  | some t =>
    if t ≤ s.tick then (s.setBlk b { items := w.items.filter (fun i => !i.expired), settle := none }).wakeBlk b else s
  | none => s

/-! ## The near-cache and time (R321, R333) -/

/-- GEN_READY.NCC as its dependencies allow: EN, initialisation complete, DSTATE and TIME (R333), and no block reset (R63). -/
def State.nccReady (s : State) : State :=
  s.setFld .GEN_READY_NCC (b2n (s.flag .NCC_CFG_EN && s.win.nccInit && s.dstate && s.timeLocked && !s.blockBusy 0x25))

/-- GEN_READY.TIME becomes 0 (R321). -/
def State.timeLost (s : State) : State :=
  if !s.timeLocked then s
  else
    let s1 := (s.setFld .GEN_READY_TIME 0).nccReady.latch .NCC_FLT_TIMELOST
    ({ s1 with win := { s1.win with cacheEpoch := s1.win.cacheEpoch + 1, frames := [], lockLostAt := some s.tick } } : State).winEvent
      0x14 0 0 0

/-- GEN_READY.TIME becomes 1 again (R321). -/
def State.timeGained (s : State) : State :=
  if s.timeLocked then s
  else
    let s1 := (s.setFld .GEN_READY_TIME 1).nccReady
    let s2 := { s1 with win := { s1.win with lockLostAt := none } }
    if s.win.lockLostAt.isSome then s2.winEvent 0x14 1 0 0 else s2

end Sys2Proof.Machine
end

