-- ==== Sys2Proof/Machine/Resp.lean ====
section
/-! DEFINITION. Answers at the initiator: which answers count (R221, R674), what each request's answer does (R246, R247,
R260, R351, R396 to R400, R406, R422 to R429), and what an unanswered request comes to (R222 to R224). -/

namespace Sys2Proof.Machine

/-! ## Legal answers (R518, R674) -/

/-- The statuses that end a request to a region. -/
def regionCodes : List Nat := [0, cKeyInvalid, cKeyRevoked, cRightsDenied, cOffsetRange, cNotReady, cRemoteFault]

/-- The answers that this manual gives to a request, a unit in a block reset among those who answer (R582). -/
def answersOf (k : Pkt) : List Nat :=
  match k.ptype with
  | 0x01 => regionCodes
  | 0x02 => regionCodes
  | 0x03 => aBusy :: regionCodes
  | 0x04 => [0, cRemoteFault, cNotReady, aBusy]
  | 0x05 => regionCodes
  | 0x06 => aBusy :: regionCodes
  | 0x07 => [0, cNotReady]
  | 0x08 => match k.sub with
    | 0 => [cKeyInvalid, cNotReady, aBusy, aGranted, aQueued, cLockBusy]
    | 1 => [cKeyInvalid, cNotReady, aBusy, aGranted, cLockBusy]
    | 2 => [0, cKeyInvalid, cNotReady, aBusy, cNotOwner]
    | 3 => [0, cKeyInvalid, cNotReady, aBusy]
    | _ => [aWaiting, aGranting, aNotWaiting, cKeyInvalid, cNotReady, aBusy]
  | 0x09 => [aAccepted, aDeclined, aBusy, cNotReady]
  | 0x0A => match k.ctype with
    | 0 => [0, aNoctx, aExcluded, cNotReady, aBusy]
    | 1 => [0, aNoctx, cNotReady, aBusy]
    | 2 => [aAlive, aNoctx, cNotReady, aBusy]
    | _ => [aBusy, aNoctx, cUnknown] ++ regionCodes
  | _ => [0]

/-- The codes that this manual gives as an answer to a packet type, whatever its SUB or CTYPE (R674). -/
def typeAnswers (ptype : Nat) : List Nat :=
  match ptype with
  | 0x08 => [0, cKeyInvalid, cNotReady, aBusy, aGranted, aQueued, cLockBusy, cNotOwner, aWaiting, aGranting, aNotWaiting]
  | 0x0A => [aNoctx, aExcluded, aAlive, cUnknown, aBusy] ++ regionCodes
  | _ => answersOf { dest := 0, ptype := ptype }

/-- A reserved STATUS code (R518). -/
def codeReserved (c : Nat) : Bool := (decide (0x12 ≤ c) && decide (c ≤ 0x7F)) || decide (0x8B ≤ c)

/-! ## Descriptors (R246, R247, R260) -/

/-- The status and data with which a descriptor whose packets are all accounted for completes. -/
def Desc.outcome (d : Desc) : Nat × Nat × Nat :=
  let st := if d.status ≠ cUnknown ∧ d.unsent = true then cReassembly else d.status
  if d.op = 0x01 ∨ d.op = 0x02 ∨ d.op = 0x03 then (st, d.given, 0)
  else if st = 0 then (st, d.d0, d.d1) else (st, 0, 0)

/-- `n` parts of a descriptor are accounted for with a status and bytes; the last completes it. -/
def State.descPart (s : State) (q cnt n status bytes : Nat) : State :=
  match s.desc q cnt with
  | none => s
  | some d =>
    let d1 := { d with left := d.left - n, status := worse d.status status, bytes := d.bytes + bytes }
    if d1.left = 0 then
      let o := d1.outcome
      s.finish q d1 o.1 o.2.1 o.2.2
    else s.modDesc q cnt (fun _ => d1)

/-- The pieces that the answers of a GET packet come in (R193). -/
def getPieces (k : Pkt) : List (Nat × Nat) := (cuts 512 (k.offset + k.poff) k.rlen).map (fun x => (k.poff + x.1, x.2))

/-- The request packet of a GET that holds a position: its own position and length (R193). -/
def getPacketAt (raw : Raw) (pos : Nat) : Nat × Nat :=
  ((cuts 4096 raw.offset raw.len).find? (fun x => decide (x.1 ≤ pos) && decide (pos < x.1 + x.2))).getD (0, 0)

/-- `n` bytes of a GET placed at a position: those of a request packet count once all of it is placed, since it then ends with SUCCESS
(R247). -/
def State.getPlaced (s : State) (q cnt pos n : Nat) : State :=
  match s.desc q cnt with
  | none => s
  | some d =>
    let k := getPacketAt d.raw pos
    let m := mgetD d.placed k.1 0 + n
    (s.modDesc q cnt (fun d => { d with placed := mset d.placed k.1 m })).descPart q cnt 1 0 (if m = k.2 then m else 0)

/-- The data of a GET answer placed at LADDR (R351), with the translations a walk has obtained. -/
def State.placeGet (s : State) (q cnt : Nat) (pkt : Pkt) (got : List XEnt) : State :=
  match s.desc q cnt with
  | none => s
  | some d =>
    let n := pkt.payload.length
    if n = 0 then s.descPart q cnt 1 0 0
    else if s.dmaStop then s.descPart q cnt 1 cLocalFault 0
    else
      let x := s.xlate (.place q cnt pkt) (s.wqOwner q) (s.wq q).asid (d.raw.laddr + pkt.d0) n true false d.kr got
      if x.2.wait then x.1
      else match x.2.fail with
        | some k => x.1.descPart q cnt 1 (localStatus k) 0
        | none => (writeSegs x.2.segs pkt.payload x.1).getPlaced q cnt pkt.d0 n

/-- An answer to a GET packet taken in: the packet is answered by an error, or once every piece is held (R224). -/
def State.getTake (s : State) (t : Nat) (e : TagEnt) (pkt : Pkt) : State :=
  let n := (getPieces e.pkt).length
  if pkt.status ≠ 0 then s.answered t pkt.txtime pkt.sentAgo
  else
    let s1 := s.modTag t (fun e => { e with got := e.got ++ [pkt.d0] })
    if n ≤ e.got.length + 1 then s1.answered t pkt.txtime pkt.sentAgo else s1

/-- An answer to a GET packet brings nothing new: a piece already held, or none of the packet's. -/
def getStale (e : TagEnt) (pkt : Pkt) : Bool :=
  pkt.status == 0 && (e.got.contains pkt.d0 || !(getPieces e.pkt).any (fun x => x.1 == pkt.d0 && x.2 == pkt.payload.length))

/-- An answer to a GET packet: an error ends it; data is placed (R224, R351). -/
def State.getAnswer (s : State) (t : Nat) (e : TagEnt) (q cnt : Nat) (pkt : Pkt) : State :=
  if getStale e pkt then s
  else if pkt.status ≠ 0 then (s.getTake t e pkt).descPart q cnt ((getPieces e.pkt).length - e.got.length) pkt.status 0
  else (s.getTake t e pkt).placeGet q cnt pkt []

/-- The answer to a lock descriptor (R418, R420 to R423). -/
def State.lockDone (s : State) (q cnt op status d0 : Nat) : State :=
  if op = 0x30 then
    match s.waitRec q cnt with
    | none => s
    | some (n, x) =>
      if x.accepted.isSome then s
      else if status = aGranted then s.acquired n x d0
      else if status = aQueued then s.modRec n (fun x => { x with queued := true, since := s.tick })
      else s.acquireFail n x status 0
  else match s.desc q cnt with
    | none => s
    | some d => if status = aGranted then s.finish q d 0 d0 0 else s.finish q d status

/-- The answer to a request packet of a descriptor. -/
def State.descAnswer (s : State) (e : TagEnt) (q cnt : Nat) (pkt : Pkt) : State :=
  match s.desc q cnt with
  | none => s
  | some d =>
    if d.op = 0x30 ∨ d.op = 0x31 ∨ d.op = 0x32 then s.lockDone q cnt d.op pkt.status pkt.d0
    else
      let n := if pkt.status = 0 then e.pkt.payload.length else 0
      let s1 := if pkt.status = 0 ∧ pkt.ext ≠ [] then s.modDesc q cnt (fun d => { d with d0 := pkt.d0, d1 := pkt.d1 }) else s
      s1.descPart q cnt 1 pkt.status n

/-- A tagged descriptor's answer is noted (R620), with the engine that matched it: one of cluster TAG mod 18, which one is not
specified (R47). -/
def State.tagAnswer (s : State) (t q cnt : Nat) : State :=
  match s.pmu.tagged with
  | some r =>
    if r.q = q ∧ r.cnt = cnt then
      { s.fresh.2 with pmu := { s.pmu with
          tagged := some { r with answer := some s.now, done := some (16 * (t % 18) + Config.openNat s.free % 16) } } }
    else s
  | none => s

/-! ## Every owner -/

/-- A collective packet of this context's present setup. -/
def State.collCurrent (s : State) (k : Nat) (e : TagEnt) : Bool := (s.ctx k).st == .set && (s.ctx k).setupId == e.pkt.setupid

/-- What an answer does for the owner of its request. -/
def State.ownerAnswer (s : State) (t : Nat) (e : TagEnt) (pkt : Pkt) : State :=
  let done := s.answered t pkt.txtime pkt.sentAgo
  match e.owner with
  | .desc q cnt =>
    if e.pkt.ptype = 0x02 then (s.tagAnswer t q cnt).getAnswer t e q cnt pkt else (done.tagAnswer t q cnt).descAnswer e q cnt pkt
  | .winRead id => done.winReadDone e pkt.src id pkt.status pkt.d0 pkt.payload
  | .winWrite id line => done.winWriteDone id line pkt.status
  | .renew g => if pkt.status = 0 then done.install e pkt.src g pkt.d0 none else done
  | .linv k holder => if pkt.status = 0 then done.linvAcked k holder else done
  | .grant k => done.grantSettle k e.pkt.gseq (pkt.status == aAccepted)
  | .cancel q cnt => match done.waitRec q cnt with
    | some (n, x) => if x.cancelling && x.accepted.isNone then done.acquireFail n x cCancelled 1 else done
    | none => done
  | .lockProbe q cnt => match done.waitRec q cnt with
    | some (n, x) =>
      if x.accepted.isNone ∧ (pkt.status = aNotWaiting ∨ pkt.status = cKeyInvalid) then done.acquireFail n x cCancelled 2 else done
    | none => done
  | .coll k peer n _ =>
    if !done.collCurrent k e then done
    else if pkt.status = aNoctx then done.declareLost k peer
    else if pkt.status = aExcluded then done.excludedAt k n
    else done
  | .merged k => done.mergedDone k pkt.status pkt.d0 pkt.age
  | .pmark n => done.pisteGone n 0

/-- An answer to a request whose operation has ended: it has no effect but on the tag, which it frees, and on congestion control (R233,
R239, R241). -/
def State.lateAnswer (s : State) (t : Nat) (e : TagEnt) (pkt : Pkt) : State :=
  if e.pkt.ptype = 0x02 then (if getStale e pkt then s else s.getTake t e pkt) else s.answered t pkt.txtime pkt.sentAgo

/-- A packet discarded at the initiator for its STATUS counts at the port that it came by (R674). -/
def State.badCode (s : State) (port : Nat) : State := if port < 72 then s.badPkt port else s

/-- An answer reaches the initiator (R221, R246, R674): one too old, one addressed to the alias (R97: this device issues no
request under it, R91), one of no open tag, or of a code that its request's packet type never has is discarded, the one to the alias and the
one of such a code counted too, and a BUSY leaves its request
unanswered (R231), DESIGN CHOICE (log 83): a packet of a local SEND too, whose end R202 and R273 leave open. DESIGN CHOICE (log 69): a code
that its packet type has, but never for its SUB or CTYPE, is discarded uncounted. -/
def State.respIn (s : State) (port : Nat) (pkt : Pkt) : State :=
  if s.isAlias pkt.dest then { s with ini := { s.ini with aliasDrops := s.ini.aliasDrops + 1 } }
  else if 500000 < pkt.age then s
  else match (mget s.ini.tags pkt.tag).filter (fun e => e.pkt.epoch == pkt.epoch) with
    | none => if codeReserved pkt.status then s.badCode port else s
    | some e =>
      if !(typeAnswers e.pkt.ptype).contains pkt.status then s.badCode port
      else if e.answered || (e.flushed && !e.loc) || !(answersOf e.pkt).contains pkt.status then s
      else if pkt.status = aBusy then s.pmuOwner 0x09 (some e.owner) e.pkt.tclass
      else (if e.done || e.flushed then s.lateAnswer pkt.tag e pkt else s.ownerAnswer pkt.tag e pkt).maybeRelease pkt.tag

/-! ## Requests that stay unanswered (R222, R224) -/

/-- The tick of the next scheduled attempt (R222). -/
def TagEnt.nextAt (e : TagEnt) : Nat := e.last + min 400000 (e.rto * 2 ^ e.sched)

/-- A scheduled attempt (R222, R243). DESIGN CHOICE (log 69): the fall of CWND to CWND_MIN is no decrease in the sense of R242, which forbids
a second within the last SRTT. -/
def State.retransmit (s : State) (t : Nat) : State :=
  match mget s.ini.tags t with
  | none => s
  | some e =>
    if s.mayResend e && decide (e.nextAt ≤ s.tick) then
      let s1 := s.modTag t (fun e => { e with sched := e.sched + 1, last := s.tick })
      let s2 := if e.infl = 0 then s1 else
        s1.setCc e.cell { s1.cc e.cell with cwnd := 256 * s.fld .RTE_CCWMIN_CWNDMIN }
      s2.resendTag t
    else s

/-- No packet of a descriptor is sent any more: those that wait for a tag are dropped, and those unanswered are not sent again, since
its operation is settled when it completes (R234). -/
def State.closeDesc (s : State) (q cnt : Nat) : State := s.cancelReqs (fun o => o == Owner.desc q cnt)

/-- What 2.0 ms without an answer does for the owner of a request. -/
def State.ownerUnknown (s : State) (e : TagEnt) : State :=
  match e.owner with
  | .desc q cnt => match s.desc q cnt with
    | some d =>
      if d.op = 0x30 then match s.waitRec q cnt with
        | some (n, x) => s.acquireFail n x cUnknown 0
        | none => s
      else
        let d1 := { d with status := cUnknown }
        let o := d1.outcome
        (s.closeDesc q cnt).finish q d1 o.1 o.2.1 o.2.2
    | none => s
  | .cancel q cnt => match s.waitRec q cnt with
    | some (n, x) => if x.cancelling && x.accepted.isNone then s.acquireFail n x cCancelled 1 else s
    | none => s
  | .lockProbe q cnt => match s.waitRec q cnt with
    | some (n, x) => if x.accepted.isNone then s.acquireFail n x cCancelled 3 else s
    | none => s
  | .grant k => s.grantUnknown k e.pkt.gseq
  | .coll k peer _ _ => if s.collCurrent k e then s.declareLost k peer else s
  | .merged k => s.mergedDone k cUnknown 0 e.pkt.age
  | _ => s

/-- A request is unanswered 2.0 ms after its first transmission (R224, R407); SENDs and window accesses have rules of their
own (R260, R327), and a request served locally never comes to this (R202). -/
def State.unknownTag (s : State) (t : Nat) : State :=
  match mget s.ini.tags t with
  | none => s
  | some e =>
    if e.answered || e.done || e.flushed || e.loc || e.pkt.ptype == 0x04 || e.pkt.ptype == 0x05 || e.pkt.ptype == 0x06 ||
        decide (s.tick < e.origin + 2000000) then s
    else ((s.modTag t (fun e => { e with done := true })).ownerUnknown e).maybeRelease t

/-- The tags of a SEND. -/
def State.sendTags (s : State) (q cnt : Nat) : List (Nat × TagEnt) :=
  s.ini.tags.filter (fun kv => kv.2.owner == Owner.desc q cnt)

/-- S + 2.0 ms of a SEND (R258, R260): an unanswered packet makes it UNKNOWN_OUTCOME, one never sent REASSEMBLY_TIMEOUT; what
waits for a tag is never sent. A packet served locally never makes it UNKNOWN_OUTCOME (R202): the SEND completes when the last of these is
answered. -/
def State.sendDeadline (s : State) (q cnt : Nat) : State :=
  match s.desc q cnt with
  | none => s
  | some d =>
    if d.op ≠ 0x03 ∨ s.tick < d.start + 2000000 then s
    else
      let open_ := (s.sendTags q cnt).filter (fun kv => !kv.2.answered && !kv.2.done && !kv.2.loc)
      let loc := (s.sendTags q cnt).countP (fun kv => !kv.2.answered && kv.2.loc)
      let unsent := s.ini.waiting.any (fun w => w.owner == Owner.desc q cnt) || d.unsent
      let s1 := { s with ini := { s.ini with waiting := s.ini.waiting.filter (fun w => w.owner != Owner.desc q cnt) } }
      let s2 := s1.closeTags open_
      let d1 := { d with status := if open_ = [] then d.status else cUnknown, unsent := unsent, left := loc }
      let o := d1.outcome
      if loc = 0 then s2.finish q d1 o.1 o.2.1 o.2.2 else s2.modDesc q cnt (fun _ => d1)

end Sys2Proof.Machine
end

