-- ==== Sys2Proof/Machine/Fabric.lean ====
section
/-! DEFINITION. Control packets (11_routing, 10_locks, 13_twin): line notices (R442, R443), piste setup, confirm, reject and
break (R469 to R475), liveness probes and owner-reset notices (R430 to R432), and alias announcements (R542, R543). -/

namespace Sys2Proof.Machine

/-- `n` bytes of a packet's payload. -/
def pay (k : Pkt) (off n : Nat) : Nat := leAt k.payload off n

/-! ## Line notices (R442, R443) -/

/-- A sequence number is later than the latest applied. -/
def later (new : Nat) (old : Option Nat) : Bool :=
  match old with
  | none => true
  | some o => decide (1 ≤ sub32 new o) && decide (sub32 new o < 2 ^ 31)

/-- A line notice applied unless its number is stale. -/
def State.lnoticeIn (s : State) (k : Pkt) : State :=
  let d := bits (pay k 4 1) 0 2
  let key := 18 * d + digit k.src d
  let old := match mget s.rte.rows key with | some r => r.1 | none => none
  if later (pay k 0 4) old then
    let s1 := { s with rte := { s.rte with rows := mset s.rte.rows key (some (pay k 0 4), bits (pay k 8 4) 0 18) } }
    s1.watchTwin
  else s

/-- Every dimension's full row sent on its UP ports (R443). -/
def State.lnoticeAll (s : State) : State :=
  let s1 := [0, 1, 2, 3].foldl (fun t d => t.sendRow d (t.noticeRow d) ((t.dimPorts d).filter (fun p => (t.port p).isUp))) s
  { s1 with rte := { s1.rte with lastRefresh := s.tick } }

/-! ## Pistes (R467 to R475) -/

/-- A free label of an input port: which one is not specified. -/
def State.freeLabel (s : State) (p : Nat) : Option Nat :=
  let used := (s.rte.transit.filter (fun kv => kv.1 / 1024 == p)).length
  if 1024 ≤ used then none
  else
    let c := Config.openNat s.free % 1024
    if (mget s.rte.transit (pisteKey p c)).isNone then some c
    else some (mfree s.rte.transit 1024 (pisteKey p 0) % 1024)

/-- The output port of a hop to a digit of a dimension, if a port is up and the share still fits under RTE_PCAP.CAP (R471). -/
def State.pistePort (s : State) (dim dg share : Nat) : Option Nat :=
  (s.upPorts dim dg).find? (fun p => decide (s.reserved p + share ≤ s.fld .RTE_PCAP_CAP))

/-- Dimension and digit of hop `i` of a PATH. -/
def pathHop (k : Pkt) (i : Nat) : Nat × Nat := (bits (pay k (8 + i) 1) 0 2, bits (pay k (8 + i) 1) 2 5)

/-- A setup at a device of its path (R471): the destination confirms; a transit device allocates an entry, reserves its
share and passes the setup on, or rejects it. -/
def State.psetupIn (s : State) (p : Nat) (k : Pkt) : State :=
  let id := k.payload.take 5
  let origin := bits (pay k 0 4) 0 20
  let piste := pay k 4 1
  let share := pay k 5 1
  let hops := bits (pay k 6 1) 0 4
  let i := bits (pay k 7 1) 0 4
  if hops ≤ i then s.sendCtl p 0x82 (id ++ zeros 11)
  else
    let h := pathHop k i
    match s.freeLabel p, s.pistePort h.1 h.2 share with
    | some l, some q =>
      let e : TransitEnt := { outPort := q, outLabel := 0, share := share, origin := origin, piste := piste }
      let s1 := { s.fresh.2 with rte := { s.rte with transit := mset s.rte.transit (pisteKey p l) e } }
      s1.sendCtl q 0x81 (k.payload.take 7 ++ leBytes 1 (i + 1) ++ k.payload.drop 8)
    | _, _ => s.sendCtl p 0x83 (id ++ zeros 3 ++ leBytes 4 s.own ++ zeros 4)

/-- The transit entry of a piste that leaves through a port. -/
def State.entryOut (s : State) (p origin piste : Nat) : Option (Nat × TransitEnt) :=
  s.rte.transit.find? (fun kv => kv.2.outPort == p && kv.2.origin == origin && kv.2.piste == piste)

/-- The transit entry of a piste that came in by a port. -/
def State.entryIn (s : State) (p origin piste : Nat) : Option (Nat × TransitEnt) :=
  s.rte.transit.find? (fun kv => kv.1 / 1024 == p && kv.2.origin == origin && kv.2.piste == piste)

/-- A transit entry freed. -/
def State.freeEntry (s : State) (key : Nat) : State := { s with rte := { s.rte with transit := mdel s.rte.transit key } }

/-- A confirm (R471): a transit device writes the downstream label and passes it back; at the origin the piste is UP. -/
def State.pconfirmIn (s : State) (p : Nat) (k : Pkt) : State :=
  let origin := bits (pay k 0 4) 0 20
  let n := pay k 4 1
  let label := bits (pay k 8 2) 0 10
  if origin = s.own then
    match mget s.rte.pistes n with
    | some ps =>
      if ps.st = 1 ∧ ps.outPort = p then
        let s1 := { s with rte := { s.rte with pistes := mset s.rte.pistes n { ps with st := 2, outLabel := label } } }
        s1.endB (fun b => b.op == 0x30 && b.obj == n) 0 ps.hops (ps.outPort + 2 ^ 16 * label)
      else s
    | none => s
  else match s.entryOut p origin n with
    | some (key, e) =>
      let s1 := { s with rte := { s.rte with transit := mset s.rte.transit key { e with outLabel := label } } }
      s1.sendCtl (key / 1024) 0x82 (k.payload.take 5 ++ zeros 3 ++ leBytes 2 (key % 1024) ++ zeros 6)
    | none => s

/-- A reject (R471): each device frees what it reserved; at the origin the setup fails. -/
def State.prejectIn (s : State) (p : Nat) (k : Pkt) : State :=
  let origin := bits (pay k 0 4) 0 20
  let n := pay k 4 1
  if origin = s.own then
    match mget s.rte.pistes n with
    | some ps =>
      if ps.st = 1 ∧ ps.outPort = p then
        ({ s with rte := { s.rte with pistes := mdel s.rte.pistes n } } : State).endB
          (fun b => b.op == 0x30 && b.obj == n) sNoResource (bits (pay k 8 4) 0 20)
      else s
    | none => s
  else match s.entryOut p origin n with
    | some (key, _) => (s.freeEntry key).sendCtl (key / 1024) 0x83 k.payload
    | none => s

/-- A break notice (R475): each device it reaches frees its entry and passes it on; at the origin the piste breaks. -/
def State.pbreakIn (s : State) (p : Nat) (k : Pkt) : State :=
  let origin := bits (pay k 0 4) 0 20
  let n := pay k 4 1
  if bitAt (pay k 8 1) 0 then
    match s.entryIn p origin n with
    | some (key, e) => (s.freeEntry key).sendBreak e.outPort origin n true
    | none => s
  else if origin = s.own then
    (match mget s.rte.pistes n with
    | some ps => if ps.outPort = p then s.pisteBreak n p else s
    | none => s)
  else match s.entryOut p origin n with
    | some (key, _) => (s.freeEntry key).sendBreak (key / 1024) origin n false
    | none => s

/-! ## Liveness and owner reset (R430 to R432) -/

/-- A packet for another device of the cell, sent on (R461). -/
def State.relayCell (s : State) (k : Pkt) : State := s.sendCell k.dest k.src k.ptype k.payload

/-- A liveness probe is answered (R430). -/
def State.lprobeIn (s : State) (k : Pkt) : State :=
  if s.isLocal k.dest then s.sendCell k.src s.own 0x86 (k.payload.take 4 ++ zeros 4) else s.relayCell k

/-- An answer to a liveness probe, or to an owner-reset notice (R430, R432). -/
def State.lanswerIn (s : State) (k : Pkt) : State :=
  let x := digit k.src 0
  let n := pay k 0 4
  if !s.isLocal k.dest then s.relayCell k
  else if bitAt (pay k 4 1) 0 then
    let s1 := { s with lck := { s.lck with notices := s.lck.notices.map (fun (o : Oreset) =>
      if o.num = n then { o with answered := insertAsc o.answered x } else o) } }
    s1.endNotices
  else match mget s.lck.probes x with
    | some (m, _) => if m = n then { s with lck := { s.lck with probes := mdel s.lck.probes x } } else s
    | none => s

/-- An owner-reset notice: applied once, and answered (R432). -/
def State.oresetIn (s : State) (k : Pkt) : State :=
  let x := digit k.src 0
  let b := pay k 0 1
  let epoch := pay k 1 1
  let n := pay k 4 4
  if !s.isLocal k.dest then s.relayCell k
  else
    let s1 := if mget s.lck.applied x = some (epoch, n) then s
      else ({ s with lck := { s.lck with applied := mset s.lck.applied x (epoch, n) } } : State).peerDead k.src
        (if bitAt b 0 then none else some (bits b 1 6)) 1
    s1.sendCell k.src s.own 0x86 (leBytes 4 n ++ leBytes 1 1 ++ zeros 3)

/-! ## Aliases (R542, R543) -/

/-- An ALIAS announcement sent on every UP d0 port (R542). -/
def State.sendAlias (s : State) (dg : Nat) (set_ : Bool) : State :=
  let p := leBytes 4 s.own ++ leBytes 1 dg ++ leBytes 1 (b2n set_) ++ zeros 2 ++ leBytes 4 s.rte.annNum ++ zeros 4
  let s1 := { s with rte := { s.rte with annNum := add32 s.rte.annNum 1 } }
  ((s1.dimPorts 0).filter (fun q => (s1.port q).isUp)).foldl (fun t q => t.sendCtl q 0x88 p) s1

/-- An ALIAS packet (R543): a cell peer's alias entry, or, for the own coordinate, ALIASED. -/
def State.aliasIn (s : State) (k : Pkt) : State :=
  let holder := bits (pay k 0 4) 0 20
  let d := bits (pay k 4 1) 0 5
  let set_ := bitAt (pay k 5 1) 0
  if d = digit s.own 0 then
    if set_ then
      let s1 := { s with mir := { s.mir with aliasedAt := some s.tick } }
      if s.aliased then s1 else (s1.event0 0x43 0 holder 0).recallReqs
    else ({ s with mir := { s.mir with aliasedAt := none } } : State).wakeTags
  else if 18 ≤ d then s
  else if set_ then
    let s1 := (s.setFld .RTE_ALIAS_DIGIT (digit holder 0) d).setFld .RTE_ALIAS_VALID 1 d
    if s.lck.aliasSeen.contains d then s1
    else ({ s1 with lck := { s1.lck with aliasSeen := insertAsc s1.lck.aliasSeen d } } : State).peerDead (setDigit s.own 0 d) none 2
  else
    ({ s with lck := { s.lck with aliasSeen := s.lck.aliasSeen.filter (· != d) } } : State).setFld .RTE_ALIAS_VALID 0 d

/-- A control packet at the control stop (R461). -/
def State.ctlIn (s : State) (p : Nat) (k : Pkt) : State :=
  match k.ptype with
  | 0x80 => s.lnoticeIn k
  | 0x81 => s.psetupIn p k
  | 0x82 => s.pconfirmIn p k
  | 0x83 => s.prejectIn p k
  | 0x84 => s.pbreakIn p k
  | 0x85 => s.lprobeIn k
  | 0x86 => s.lanswerIn k
  | 0x87 => s.oresetIn k
  | 0x88 => s.aliasIn k
  | _ => s

/-! ## What leaves the crossbar at the local port (R47, R56, R461) -/

/-- A teardown mark at its destination is answered, once the device executes requests (R476, R543). -/
def State.markIn (s : State) (r : Req) : State :=
  if s.noExec then { s with tgt := { s.tgt with marks := s.tgt.marks ++ [r] } } else s.answer r 0

/-- A packet for this device handled at its place: a request, which came over the fabric or is the device's own sent again, waits on its target context with its receipt noted (R219, R228), a PMARK is
answered (R476), a response reaches its tag, a control packet the control stop. -/
def State.deliver (s : State) (i : InPkt) : State :=
  let k := i.pkt
  if k.isCtl then s.ctlIn i.port k
  else
    let s1 := s.pmu_ { code := 0x16, tclass := some k.tclass }
    let age := if i.port = 72 then k.age else sat (2 ^ 20 - 1) (k.age + i.delay + (s.tick - i.rx))
    if k.isResp then s1.respIn i.port { k with age := age }
    else
      let r : Req := { pkt := { k with age := age }, rx := s.tick, port := i.port }
      if k.ptype = 0x0B then s1.markIn r else s1.targetWait r

/-- The first target context, of those whose first request has not been accepted, that holds a request while no cluster takes turns. -/
def State.unserved (s : State) : Option (Nat × List Req) :=
  if s.anyCluster || s.noExec then none
  else s.tgt.tctx.find? (fun kv => kv.2 != [] && !s.tctxBusy kv.1 && !s.tgt.accepted.contains kv.1)

/-- A request that waits while no cluster takes turns ends there (R67, R227). -/
def State.refuse (s : State) (t : Nat) (l : List Req) : State :=
  let s1 : State := { s with tgt := { s.tgt with tctx := if l.tail = [] then mdel s.tgt.tctx t else mset s.tgt.tctx t l.tail } }
  match l with
  | r :: _ => s1.notReady r
  | [] => s1

/-- Teardown marks that waited are answered once the device executes requests (R543). -/
def State.answerMarks (s : State) : State :=
  if s.noExec then s
  else s.tgt.marks.foldl (fun t r => t.answer r 0) { s with tgt := { s.tgt with marks := [] } }

/-- The packets that left the crossbar for this device, and the accesses that a visible write released, handled until none is
left or the fuel is used; what is left waits for the next command. -/
def settleFuel : Nat → State → State
  | 0, s => s
  | fuel + 1, s =>
    match s.rte.deliver with
    | i :: t => settleFuel fuel (({ s with rte := { s.rte with deliver := t } } : State).deliver i)
    | [] =>
      match s.win.released.find? (fun r => !s.noExec && !s.tctxBusy (tctxOf r.pkt)) with
      | some r => settleFuel fuel (({ s with win := { s.win with released := s.win.released.erase r } } : State).release r)
      | none =>
        match s.unserved with
        | some (t, l) => settleFuel fuel (s.refuse t l)
        | none => s.answerMarks

/-- What follows a command at once: deliveries, routing, and what the ports send. -/
def State.settle (s : State) : State := (settleFuel 256 (settleFuel 256 s).fabricRun).fabricRun

end Sys2Proof.Machine
end

