-- ==== Sys2Proof/Machine/WqCmds.lean ====
section
/-! DEFINITION. The states of work queues (R171): entering ERROR, DRAINING, DISABLED and SUSPENDED, and the admin commands
on work queues (R180 to R185), which the admin engine and the end of a turn (R41) both run. -/

namespace Sys2Proof.Machine

/-! ## Leaving ACTIVE -/

/-- The unissued copies of a queue discarded: nothing is fetched, and it stands on no run list and waits nowhere. -/
def State.dropFetched (s : State) (q : Nat) : State :=
  let n := (s.wq q).cq
  let s1 := s.modWq q (fun w => { w with fetched := [], fetching := [], failed := [] })
  let s2 := ({ s1 with qmg := { s1.qmg with parked := s1.qmg.parked.filter (fun x => x.2 != q) } } : State).leaveRun q
  if s.qmg.parked.contains (.cqRoom n, q) then s2.cqRelease n else s2

/-- The request packets of a queue's descriptors are sent no more (R174), and what answers one of them that was served locally serves no
descriptor; the collective unit goes on with what it has (R410). -/
def State.flushTags (s : State) (q : Nat) : State :=
  let mine (o : Owner) : Bool := match o with | .desc x _ => x == q | _ => false
  let tags := s.ini.tags.map (fun (kv : Nat × TagEnt) =>
    (kv.1, if mine kv.2.owner then { kv.2 with flushed := true } else kv.2))
  let waiting := s.ini.waiting.filter (fun w => !mine w.owner)
  let col := s.col.map (fun (kv : Nat × ColCtx) =>
    (kv.1, { kv.2 with insts := kv.2.insts.map (fun (i : Inst) => if kv.2.pending i ∧ i.q = q then { i with flushed := true } else i) }))
  { s with ini := { s.ini with tags := tags, waiting := waiting }, col := col }

/-- Every issued entry of a queue without completion completes in ring order: FLUSHED (R172), or CANCELLED for a receive that no packet
had matched in `s0` (R283). -/
def State.endAll (s s0 : State) (q : Nat) : State :=
  (s.wq q).outst.foldl (fun t d =>
    t.finish q d (if s0.msg.posted.any (fun x => x.q == q && x.cnt == d.cnt) then cCancelled else cFlushed) d.given 0 (s0.recvSrc q d.cnt)) s

/-- The issued entries of a queue that enters ERROR (R172, R174, R283). -/
def State.flushAll (s : State) (q : Nat) : State :=
  ((((s.flushTags q).recvAbandon q).recvCancel q true).dropWaits q true).endAll s q

/-- The walks for the payload of a queue's turn end with the turn: nothing goes on with what they find. -/
def State.dropWalks (s : State) (q : Nat) : State :=
  { s with xlt := { s.xlt with walks := s.xlt.walks.filter (fun kv => kv.2.acc != .payload q) } }

/-- A queue enters ERROR with a kind at an entry (R171, R666). -/
def State.wqError (s : State) (q kind idx : Nat) : State :=
  let s1 := (s.dropWalks q).modWq q (fun w =>
    { w with st := .error, errKind := kind, turn := none, badBell := false, suspendDue := false, reserved := w.head })
  let s2 := ((s1.dropFetched q).qerr q kind idx).bump .QMG_EVCNT_WQERR
  ((((s2.flushAll q).headWb q).recWqHead q).recWq q).wqEvent q 0x02 kind idx

/-- Every issued entry of a queue has completed, its completion written (R171). -/
def State.allDone (s : State) (q : Nat) : Bool :=
  let w := s.wq q
  w.outst.isEmpty && (s.cq w.cq).held.all (fun c => c.gwq != q)

/-- A draining queue without outstanding entries reaches DISABLED (R171): tail and fetch index at the published head,
WQ_DRAINED raised, DISABLE_WQ completed. -/
def State.drainDone (s : State) (q : Nat) : State :=
  let s1 := s.modWq q (fun w => { w with st := .disabled, tail := w.head, fidx := w.head, tails := [] })
  let s2 := ((s1.recWq q).recWqTail q).wqEvent q 0x03 0 (s1.wq q).head
  s2.endBProt (fun b => b.op == 3 && b.obj == q) 0

/-- A queue leaves ACTIVE or SUSPENDED for DRAINING at a turn boundary (R171, R282, R428). -/
def State.disableNow (s : State) (q : Nat) : State :=
  let s1 := (s.modWq q (fun w => { w with st := .draining, suspendDue := false })).dropFetched q
  let s2 := ((s1.recvCancel q false).cancelWaits q).recWq q
  if s2.allDone q then s2.drainDone q else s2

/-- A queue leaves ACTIVE for SUSPENDED at a turn boundary (R171). -/
def State.suspendNow (s : State) (q : Nat) : State :=
  let s1 := (s.modWq q (fun w => { w with st := .suspended, suspendDue := false, fidx := w.head })).dropFetched q
  (s1.recWq q).wqEvent q 0x06 0 (s1.wq q).head

/-! ## Checks common to admin commands (R177, R181, R182) -/

/-- The admin engine may act for contexts of the pool. -/
def State.poolReady (s : State) : Bool := s.hif && s.ctxpool

/-- A lane block is ready and one of its ports is trained; a machine of one device needs none. -/
def State.linkReady (s : State) : Bool :=
  s.rdRaw .GEN_SHAPE == 0x01010101 ||
  (List.range 72).any (fun p => (s.port p).routable && s.lbReady (p / 8))

/-- The checks that come first for every command: the function, the ready bits, and the reserved bytes. -/
def preCheck (c : AdminCmd) (pfOnly ready : Bool) (used : List (Nat × Nat)) : Option Nat :=
  if pfOnly && c.func != 0 then some sNotPermitted
  else if !ready then some sStateConflict
  else if !c.raw.onlyBytes used then some sInvalidField
  else none

/-- The first check of a list that fails. -/
def firstFail : List (Bool × Nat) → Option Nat
  | [] => none
  | (bad, st) :: t => if bad then some st else firstFail t

/-! ## The twin's ranges (R535) -/

/-- The twin's mirrored ranges are closed. -/
def State.twinClosed (s : State) : Bool :=
  match s.mir.twin with
  | .pairing => true
  | .paired => true
  | .isolated => true
  | _ => false

/-- Two ranges of numbers, given by base and count, meet. -/
def rangesMeet (a m b n : Nat) : Bool := decide (a < b + n) && decide (b < a + m) && decide (0 < m) && decide (0 < n)

/-- A range meets one of the twin's closed ranges, which `base` and `count` name. -/
def State.meetsTwin (s : State) (base count : TwinParams → Nat) (a m : Nat) : Bool :=
  s.twinClosed && (match s.mir.peerCfg with | some p => rangesMeet a m (base p) (count p) | none => false)

/-! ## Commands on a work queue -/

/-- A queue command on work queue `q` whose changes are mirrored ends: its completion waits for protection on a mirrored
queue (R529). -/
def State.wqEnd (s : State) (c : AdminCmd) (q status : Nat) (r0 r1 : Nat := 0) : State :=
  if s.mirWq q then s.adminCplProt c.func { cid := c.raw.cid, status := status, r0 := r0 % 2 ^ 32, r1 := r1 % 2 ^ 32 }
  else s.adminEnd c status r0 r1

/-- The queue context in the on-chip pool, or GDDR7 ready (R68). -/
def State.wqStore (s : State) (q : Nat) : Bool := decide (q < 3072) || s.dstate

/-- What an initiator queue needs to be created or enabled (the dependency table of 01, R70). -/
def State.queueReady (s : State) (q cq eq : Nat) : Bool :=
  s.anyCluster && s.linkReady && (s.dstate || (decide (q < 3072) && decide (cq < 896) && decide (eq < 128)))

/-- The parameters of CONFIG_WQ keep R183. -/
def wqParamsOk (r : Raw) : Bool :=
  r.at_ 8 8 % 4096 == 0 && decide (6 ≤ r.at_ 16 1) && decide (r.at_ 16 1 ≤ 16) && r.at_ 22 2 == 0 &&
  decide (r.at_ 24 2 < 2048) && decide (r.at_ 26 1 < 2) && r.at_ 32 8 % 8 == 0 &&
  (r.at_ 26 1 == 1 || r.at_ 32 8 == 0) && decide (r.at_ 40 2 ≤ r.at_ 42 2)

/-- CONFIG_WQ (R171, R183, R360). DESIGN CHOICE (log 68): the shaper's credit, for which the spec gives no first value, starts at 0. -/
def State.cmdConfigWq (s : State) (c : AdminCmd) (q : Nat) : State :=
  let r := c.raw
  let w := s.wq q
  match s.cqOf c.func (r.at_ 20 2), s.eqOf c.func (r.at_ 24 2) with
  | some cq, some eq =>
    match firstFail [(!wqParamsOk r, sInvalidField), (w.st != .disabled, sStateConflict),
        (!(s.cq cq).configured || !(s.eq eq).configured, sStateConflict), (!s.queueReady q cq eq, sStateConflict),
        (s.meetsTwin TwinParams.wqBase TwinParams.wqCount q 1, sStateConflict)] with
    | some st => s.wqEnd c q st
    | none =>
      let start := r.at_ 28 4
      let n : WQ := { configured := true, base := r.at_ 8 8, log2 := r.at_ 16 1, turnq := r.at_ 17 1, asid := r.at_ 18 2, cq := cq,
                      eq := eq, headwb := r.at_ 26 1 == 1, start := start, hwaddr := r.at_ 32 8, rate := r.at_ 40 2,
                      burst := r.at_ 42 2, head := start, fidx := start, tail := start, reserved := start }
      ((((s.modWq q (fun _ => n)).recWq q).recWqTail q).recWqHead q).wqEnd c q 0
  | _, _ => s.wqEnd c q sInvalidField

/-- ENABLE_WQ (R171). -/
def State.cmdEnableWq (s : State) (c : AdminCmd) (q : Nat) : State :=
  let w := s.wq q
  if w.st = .disabled ∧ w.configured = true ∧ s.queueReady q w.cq w.eq = true then
    (((s.modWq q (fun w => { w with st := .active })).recWq q).joinRun q).wqEnd c q 0
  else s.wqEnd c q sStateConflict

/-- DISABLE_WQ (R171): it completes when the queue reaches DISABLED. -/
def State.cmdDisableWq (s : State) (c : AdminCmd) (q : Nat) : State :=
  let w := s.wq q
  if w.st = .active ∨ w.st = .suspended then
    (s.startB { func := c.func, cid := c.raw.cid, op := 3, obj := q, start := s.tick, raw := c.raw }).disableNow q
  else s.wqEnd c q sStateConflict

/-- RESET_WQ (R171). -/
def State.cmdResetWq (s : State) (c : AdminCmd) (q : Nat) : State :=
  if (s.wq q).st = .error then
    let s1 := s.modWq q (fun w => { w with st := .disabled, errKind := 0, tail := w.head, fidx := w.head, tails := [] })
    ((s1.recWq q).recWqTail q).wqEnd c q 0
  else s.wqEnd c q sStateConflict

/-- SUSPEND_WQ (R171). -/
def State.cmdSuspendWq (s : State) (c : AdminCmd) (q : Nat) : State :=
  if (s.wq q).st = .active then (s.suspendNow q).wqEnd c q 0 else s.wqEnd c q sStateConflict

/-- RESUME_WQ (R171). -/
def State.cmdResumeWq (s : State) (c : AdminCmd) (q : Nat) : State :=
  if (s.wq q).st = .suspended then
    (((s.modWq q (fun w => { w with st := .active })).recWq q).joinRun q).wqEnd c q 0
  else s.wqEnd c q sStateConflict

/-- SET_SHAPER (R188): the values take effect at the next refill. -/
def State.cmdSetShaper (s : State) (c : AdminCmd) (q : Nat) : State :=
  let rate := c.raw.at_ 8 2
  let burst := c.raw.at_ 10 2
  if burst < rate then s.wqEnd c q sInvalidField
  else if (s.wq q).configured then
    ((s.modWq q (fun w => { w with newShape := some (rate, burst) })).recWq q).wqEnd c q 0
  else s.wqEnd c q sStateConflict

/-- The state code of a work queue. -/
def WqState.code : WqState → Nat
  | .disabled => 0
  | .active => 1
  | .draining => 2
  | .error => 3
  | .suspended => 4

/-- QUERY_WQ (R185). -/
def State.cmdQueryWq (s : State) (c : AdminCmd) (q : Nat) : State :=
  let w := s.wq q
  s.adminEnd c 0 w.head (w.st.code + 8 * w.errKind + 256 * b2n w.configured)

/-- The command that opcode `op` names, once it has its queue's context lock. -/
def State.wqAct (s : State) (op : Nat) (c : AdminCmd) (q : Nat) : State :=
  match op with
  | 1 => s.cmdConfigWq c q
  | 2 => s.cmdEnableWq c q
  | 3 => s.cmdDisableWq c q
  | 4 => s.cmdResetWq c q
  | 5 => s.cmdSuspendWq c q
  | 6 => s.cmdResumeWq c q
  | 7 => s.cmdQueryWq c q
  | _ => s.cmdSetShaper c q

/-- The parameter bytes that opcode `op` uses. -/
def wqUsed (op : Nat) : List (Nat × Nat) :=
  match op with
  | 1 => [(8, 19), (28, 16)]
  | 8 => [(8, 4)]
  | _ => []

/-- The commands that waited for the context lock of a queue, run at the turn boundary in order. -/
def State.runWaitCmds (s : State) (q : Nat) : State :=
  (s.wq q).waitCmds.foldl (fun t x =>
    if x.1 = 3 then (t.dropB (fun b => b.op == 3 && b.obj == q)).wqAct 3 x.2 q
    else (t.modAq x.2.func (fun a => { a with blocked := false })).wqAct x.1 x.2 q)
    (s.modWq q (fun w => { w with waitCmds := [] }))

/-- A turn ends (R38 to R41): the head is written back, what waited for the context lock runs, and the queue stands on its
home run list again if it has work. A BADDOORBELL that came during the turn takes effect first (R666). -/
def State.endTurn (s : State) (q : Nat) : State :=
  if (s.wq q).badBell then (s.wqError q 0x07 (s.wq q).head).runWaitCmds q
  else
    let s1 := (s.dropWalks q).modWq q (fun w => { w with turn := none, reserved := w.head })
    let s2 := ((s1.headWb q).recWqHead q).runWaitCmds q
    let s3 := if (s2.wq q).suspendDue ∧ (s2.wq q).st = .active then s2.suspendNow q else s2
    s3.joinRun q

/-- A turn stands at a descriptor boundary: it waits for a fetch, or for the protection of its reservation. -/
def WQ.atBoundary (w : WQ) : Bool :=
  match w.turn with
  | some t => t.wait == .fetch || t.wait == .protect
  | none => false

/-- A queue command taken by the admin engine: the common checks, then at once, or at the turn boundary while an engine
holds the queue's context lock (R41), which keeps the admin engine from the next command unless the command is B (R179). -/
def State.wqCommand (s : State) (op : Nat) (c : AdminCmd) : State :=
  match preCheck c false s.poolReady (wqUsed op) with
  | some st => s.adminEnd c st
  | none =>
    match s.wqOf c.func c.raw.object with
    | none => s.adminEnd c sInvalidObject
    | some q =>
      if !s.wqStore q then s.wqEnd c q sStateConflict
      else if s.qmg.bcmds.any (fun b => b.op == 3 && b.obj == q) then s.wqEnd c q sBusy
      else if op ≠ 7 ∧ (s.wq q).turn.isSome = true then
        let s1 := s.modWq q (fun w => { w with waitCmds := w.waitCmds ++ [(op, c)] })
        let s2 := if op = 3 then s1.startB { func := c.func, cid := c.raw.cid, op := 3, obj := q, start := s.tick, raw := c.raw }
          else s1.modAq c.func (fun a => { a with blocked := true })
        if (s.wq q).atBoundary then s2.endTurn q else s2
      else s.wqAct op c q

end Sys2Proof.Machine
end

