-- ==== Sys2Proof/Machine/Issue.lean ====
section
/-! DEFINITION. Turns of engines on work queues (R35 to R43): fetching (R155, R156), the tests before an issue (R154, R159,
R165, R187, R244, R263, R390, R405, R421, R668), and the issue of every opcode (R157). -/

namespace Sys2Proof.Machine

/-! ## Fetching (R155, R156) -/

/-- The address of the ring slot of a count. -/
def WQ.slot (w : WQ) (c : Nat) : Nat := w.base + c % 2 ^ w.log2 * 64

/-- The quantum of a turn (R38, R183). -/
def WQ.quantum (w : WQ) : Nat := if w.turnq = 0 then 16 else w.turnq

/-- Entries from the published head that a turn fetches: up to its quantum, up to PFAHEAD beyond the tail, up to the ring's
size. -/
def State.fetchSpan (s : State) (q : Nat) : Nat :=
  let w := s.wq q
  min (min w.quantum (sub32 w.tail w.head + s.fld .QMG_CTL_PFAHEAD)) (2 ^ w.log2)

/-- The entries of the span not held and not on their way are read, one 64-byte read each. -/
def State.fetchMore (s : State) (q : Nat) : State :=
  let w := s.wq q
  let n := s.fetchSpan q
  let want := ((numsFrom 0 n).map (add32 w.head)).filter (fun c =>
    !w.fetching.contains c && !w.failed.contains c && !w.fetched.any (fun x => x.1 == c))
  let s1 := want.foldl (fun t c => t.emit (.hostRead (s.wqOwner q) (w.slot c) 64)) s
  s1.modWq q (fun w => { w with fetching := w.fetching ++ want })

/-- The copy held of the entry at a count, with the time of its fetch. -/
def WQ.copy (w : WQ) (c : Nat) : Option (Raw × Nat) := (w.fetched.find? (fun x => x.1 == c)).map Prod.snd

/-- A copy dropped. -/
def State.dropCopy (s : State) (q c : Nat) : State :=
  s.modWq q (fun w => { w with fetched := w.fetched.filter (fun x => x.1 != c) })

/-! ## What an issue records -/

/-- The LFSR of R620 advanced one step. -/
def lfsrStep (x : Nat) : Nat :=
  let b := (b2n (bitAt x 31) + b2n (bitAt x 21) + b2n (bitAt x 1) + b2n (bitAt x 0)) % 2
  (2 * x + b) % 2 ^ 32

/-- A descriptor is issued while tagging is on (R620). -/
def State.tagIssue (s : State) (q cnt engine fetch : Nat) : State :=
  if !s.flag .PMU_TAGCTL_EN then s
  else
    let p := s.pmu
    let lg := s.fld .PMU_TAGCTL_PLOG2
    let l := if p.countdown = 0 then lfsrStep p.lfsr else p.lfsr
    let c := if p.countdown = 0 then l % 2 ^ lg + 2 ^ lg / 2 else p.countdown
    let r : TagRec := { q := q, cnt := cnt, engine := engine, fetch := fetch, issue := s.now }
    { s with pmu := { p with lfsr := l, countdown := c - 1,
                             tagged := if c ≤ 1 ∧ p.tagged = none then some r else p.tagged } }

/-- The tick at which the doorbell came that first covered the entry at a count (R189). -/
def WQ.coveredAt (w : WQ) (c : Nat) : Option Nat := (w.tails.find? (fun x => decide (sub32 c x.1 ≥ 2 ^ 31))).map Prod.snd

/-- The delay of a queue (R189). -/
def State.wqDelay (s : State) (q : Nat) : Nat :=
  let w := s.wq q
  if w.tail = w.head then 0 else match w.coveredAt w.head with | some t => s.tick - t | none => 0

/-- The entry at the published head is issued: head and fetch index go past it in one step (R158), the shaper is charged
(R186), its record is kept, and the counters run. DESIGN CHOICE (log 68): a queue with RATE 0 is not charged, nor clipped nor refilled
(`WQ.refill`): the spec does not say what becomes of the credit of an unshaped queue. -/
def State.markIssued (s : State) (q : Nat) (raw : Raw) (kr fetch left status : Nat) : State :=
  let w := s.wq q
  let cnt := w.head
  let eng := match w.turn with | some t => t.engine | none => q % 288
  let d : Desc := { cnt := cnt, op := raw.opcode, raw := raw, kr := kr, left := left, status := status, start := s.tick, engine := eng }
  let delay := s.wqDelay q
  let s1 := s.modWq q (fun w => { w with
    head := add32 cnt 1
    fidx := add32 cnt 1
    fetched := w.fetched.filter (fun x => x.1 != cnt)
    credit := if w.rate = 0 then w.credit else w.credit - (raw.len + 64 : Nat)
    outst := w.outst ++ [d]
    turn := w.turn.map (fun t => { t with left := t.left - 1 })
    tails := w.tails.dropWhile (fun x => decide (sub32 (add32 cnt 1) x.1 < 2 ^ 31)) })
  let tc := some raw.tclass
  let s2 := ((s1.pmuQ 0x01 1 q (some eng) (some cnt) tc (some raw.laddr)).pmuQ 0x02 raw.len q (some eng) (some cnt) tc
    (some raw.laddr)).pmuQ 0x03 delay q (some eng) (some cnt) tc
  (s2.skidTake q eng cnt).tagIssue q cnt eng fetch

/-- A turn ends before the entry at the published head, and the queue waits for a reason. -/
def State.waitFor (s : State) (q : Nat) (p : Park) : State :=
  let s1 := match p with
    | .cwnd _ => s.pmuQ 0x0A 1 q ((s.wq q).turn.map Turn.engine)
    | .batch _ => s.latch .COL_FLT_BATCHFULL
    | .waitRec => s.latch .LCK_FLT_WRFULL
    | .cqRoom n => s.cqHold n
    | _ => s
  (s1.park p q).endTurn q

/-- A descriptor that completes with a status before any packet is sent: its issue is the writing of its completion (R157), which
waits until its completion queue can take it. -/
def State.issueDone (s : State) (q : Nat) (raw : Raw) (fetch status : Nat) : State :=
  let cnt := (s.wq q).head
  if (status != 0 || raw.sig) && !s.cqReady (s.wq q).cq then s.waitFor q (.cqRoom (s.wq q).cq)
  else
    let s1 := s.markIssued q raw (s.wq q).kr fetch 0 status
    match s1.desc q cnt with
    | some d => s1.finish q d status
    | none => s1

/-! ## Pistes of a descriptor (R154, R472) -/

/-- PISTENUM names no piste set up for the queue's function. -/
def State.noPiste (s : State) (q : Nat) (raw : Raw) : Bool :=
  match mget s.rte.pistes raw.pistenum with
  | some ps => ps.st == 0 || ps.func != s.wqOwner q
  | none => true

/-- The piste that a descriptor travels on. -/
def State.pisteFor (s : State) (raw : Raw) : Option Nat :=
  let o := raw.opcode
  if raw.piste && (o == 1 || o == 2 || o == 3 || isAtomicOp o) then
    match mget s.rte.pistes raw.pistenum with
    | some ps => if ps.st = 2 ∧ ps.dest = raw.dest then some raw.pistenum else none
    | none => none
  else none

/-- A descriptor with PISTE set that does not travel on its piste is counted. -/
def State.countOff (s : State) (raw : Raw) : State :=
  if raw.piste && (s.pisteFor raw).isNone then s.bump .RTE_PSTOFF_COUNT else s

/-! ## The packets of each opcode -/

/-- The COUNTER context that a CFADD64 is handed to (R404): not at the root. -/
def State.counterOf (s : State) (raw : Raw) : Option Nat :=
  if raw.opcode ≠ 0x18 then none
  else (s.col.find? (fun kv => kv.2.st == .set && kv.2.kind == 3 && kv.2.root == raw.dest && kv.2.ckey == raw.key &&
    kv.2.coff == raw.offset && kv.2.root != s.own)).map Prod.fst

/-- The operand bytes of an atomic packet (R515); `swap` holds the 16 bytes that CAS128 reads. -/
def atomicBytes (raw : Raw) (swap : List Byte) : List Byte :=
  match raw.opcode with
  | 0x12 => leBytes 8 raw.op0 ++ leBytes 8 raw.op1
  | 0x14 => leBytes 8 raw.op0 ++ leBytes 8 raw.op1
  | 0x15 => leBytes 8 raw.op0 ++ leBytes 8 raw.op1
  | 0x16 => leBytes 8 raw.op0 ++ leBytes 8 raw.op1 ++ swap
  | _ => leBytes 8 raw.op0

/-- The packets of a PUT of which all data is held (R192, R195, R196). -/
def putPackets (raw : Raw) (kr : Nat) (data : List Byte) : List Pkt :=
  ((cuts 512 raw.offset raw.len).filter (fun x => decide (x.1 + x.2 ≤ data.length))).map (fun x =>
    { dest := raw.dest, ptype := 0x01, tclass := raw.tclass, ext := extOne raw.key raw.offset 0 raw.len x.1 kr,
      payload := (data.drop x.1).take x.2 })

/-- The packets of a GET (R193, R195, R196). -/
def getPackets (raw : Raw) (kr : Nat) : List Pkt :=
  (cuts 4096 raw.offset raw.len).map (fun x =>
    { dest := raw.dest, ptype := 0x02, tclass := raw.tclass, ext := extOne raw.key raw.offset x.2 raw.len x.1 kr })

/-- The packet of an atomic (R194, R197). -/
def atomicPacket (raw : Raw) (kr : Nat) (swap : List Byte) : Pkt :=
  { dest := raw.dest, ptype := 0x03, sub := raw.opcode, tclass := raw.tclass,
    ext := extOne raw.key raw.offset 0 (if isAtomic128 raw.opcode then 16 else 8) 0 kr, payload := atomicBytes raw swap }

/-- The tag of a SEND: OPERAND0, or bytes 24 to 31 with INLINE (R153). -/
def Raw.sendTag (raw : Raw) : Nat := if raw.inline then raw.laddr else raw.op0

/-- The packets of a SEND of which all data is held, in index order (R253, R254); `m` is the tag of packet 0. -/
def sendPackets (raw : Raw) (m : Nat) (data : List Byte) : List Pkt :=
  let n := pktCount raw.len
  ((List.range n).filter (fun i => decide (min (512 * i + 512) raw.len ≤ data.length))).map (fun i =>
    { dest := raw.dest, ptype := 0x04, tclass := raw.tclass,
      ext := extMsg (Raw.sendTag raw) m i (decide (i + 1 = n)) (if i + 1 = n then raw.len else 0),
      payload := (data.drop (512 * i)).take 512 })

/-- What the request packets of a descriptor would add to INFLIGHT, were all sent at once (R241, R244). -/
def cwndNeed (raw : Raw) : Nat :=
  match raw.opcode with
  | 0x01 => raw.len + 64 * (cuts 512 raw.offset raw.len).length
  | 0x02 => raw.len + 64 * (cuts 4096 raw.offset raw.len).length
  | 0x03 => raw.len + 64 * pktCount raw.len
  | 0x30 => 64
  | 0x31 => 64
  | 0x32 => 64
  | o => atomicLen o + 64

/-- The requests of a descriptor sent in order. The packets of a message (`msg`) count SENT_AGO from this instant, at which packet 0
leaves (R257), and packet 0 alone is non-idempotent. -/
def State.sendAll (s : State) (q cnt : Nat) (pst : Option Nat) (nonIdem msg : Bool) : List Pkt → State
  | [] => s
  | k :: t =>
    let o := if msg then some s.tick else none
    t.foldl (fun u x => u.sendReq (.desc q cnt) x nonIdem pst o) (s.sendReq (.desc q cnt) k (nonIdem || msg) pst o)

/-- The context that a collective descriptor may use (R388). -/
def State.collFor (s : State) (q : Nat) (raw : Raw) : Option Nat :=
  let k := raw.key % 4096
  let c := s.ctx k
  let ok := c.st == .set && c.kind == raw.opcode - 0x20 && s.wqOwner q == c.useFunc &&
    (raw.opcode != 0x20 || (bits raw.key 16 4 == c.operator && bits raw.key 20 2 == c.type && raw.len == c.nelem * 8))
  if ok then some k else none

/-! ## The tests before an issue -/

/-- An opcode's requests take request tags. -/
def takesTag (o : Nat) : Bool := o != 0 && o != 4

/-- The entry needs state that GDDR7 holds: a receive, a lock operation, a collective, or a CFADD64 handed to a counter context. The
others run from the pool alone (R66, R69). -/
def State.needsDstate (s : State) (raw : Raw) : Bool :=
  let o := raw.opcode
  o == 0x04 || decide (0x20 ≤ o ∧ o ≤ 0x22) || decide (0x30 ≤ o ∧ o ≤ 0x32) || (s.counterOf raw).isSome

/-- The entry's destination breaks R80 or R251. -/
def State.badDest (s : State) (raw : Raw) : Bool :=
  usesDest raw.opcode && !s.valid raw.dest && !(raw.opcode == 4 && raw.dest == nullCoord)

/-- The entry names a collective context that it may not use (R388). -/
def State.badContext (s : State) (q : Nat) (raw : Raw) : Bool :=
  decide (0x20 ≤ raw.opcode ∧ raw.opcode ≤ 0x22) && (s.collFor q raw).isNone

/-- Why no entry at the published head may be processed now, if so: its fence (R159), the owner-reset notice of its function (R432), a
completion that waits (R165), or state in GDDR7 that is not ready (R66). -/
def State.entryWait (s : State) (q : Nat) (raw : Raw) : Option Park :=
  let w := s.wq q
  if raw.fence && w.outst != [] then some .fence
  else if s.lck.notices.any (fun n => !n.all && n.func == s.wqOwner q) then some .hold
  else if s.cqBlocked w.cq then some (.cqFull w.cq)
  else if !s.dstate && s.needsDstate raw then some .dstate
  else none

/-- Why the entry's first packet, or its receive, may not go now: what it takes is used up (R244, R263, R390, R405, R421, R668), or
requests may not leave. -/
def State.sendWait (s : State) (q : Nat) (raw : Raw) : Option Park :=
  let o := raw.opcode
  let c := s.cc (cellNum raw.dest)
  if o == 4 && decide (1048576 ≤ s.postedUsed) then some .posted
  else if o == 0x30 && decide (65536 ≤ s.lck.recs.length) then some .waitRec
  else if takesTag o && !s.maySend then some .hold
  else if takesTag o && (s.ini.waiting != [] || s.freeTag.isNone) then some .tag
  else if decide (0x20 ≤ o ∧ o ≤ 0x22) then
    let k := raw.key % 4096
    (if (s.collFor q raw).isSome && decide (8 ≤ sub32 (s.ctx k).issued (s.ctx k).completed) then some (.inst k) else none)
  else match s.counterOf raw with
    | some k => if s.batchFull k then some (.batch k) else none
    | none =>
      if takesTag o && !s.isLocal raw.dest && (s.pisteFor raw).isNone && c.infl != 0 &&
          decide (c.cwnd / 256 < c.infl + cwndNeed raw) then some (.cwnd (cellNum raw.dest))
      else none

/-- Why the entry at the published head may not be issued now, if it may not: the turn ends before it and the queue waits. An entry that
completes at once sends nothing. -/
def State.issueWait (s : State) (q : Nat) (raw : Raw) : Option Park :=
  match s.entryWait q raw with
  | some p => some p
  | none => if s.badDest raw || s.badContext q raw then none else s.sendWait q raw

/-! ## Issue of the entry at the published head -/

/-- The entry issued with the data that it carries: of a PUT or SEND, of a CAS128, or of a COLL_REDUCE. `fail` is the kind
of the translation failure behind the data (R350). -/
def State.issueData (s : State) (q : Nat) (raw : Raw) (kr fetch : Nat) (data : List Byte) (fail : Option Nat) : State :=
  let cnt := (s.wq q).head
  let pst := s.pisteFor raw
  let st := match fail with | some k => localStatus k | none => 0
  match raw.opcode with
  | 0x01 =>
    let l := putPackets raw kr data
    if l = [] then s.issueDone q raw fetch st
    else ((s.countOff raw).markIssued q raw kr fetch l.length st).sendAll q cnt pst false false l
  | 0x03 =>
    let s1 := (s.countOff raw).markIssued q raw kr fetch (sendPackets raw 0 data).length st
    let l := sendPackets raw (s1.freeTag.getD 0) data
    if l = [] then s.issueDone q raw fetch st else s1.sendAll q cnt pst false true l
  | 0x20 =>
    match fail, s.collFor q raw with
    | none, some k => ((s.countOff raw).markIssued q raw kr fetch 1 0).collIssue k q cnt { value := data }
    | _, _ => s.issueDone q raw fetch (if fail.isSome then st else cKeyInvalid)
  | _ =>
    if fail.isSome then s.issueDone q raw fetch st
    else ((s.countOff raw).markIssued q raw kr fetch 1 0).sendAll q cnt pst true true [atomicPacket raw kr data]

/-- The bytes of host memory that the entry's issue reads. -/
def payloadLen (raw : Raw) : Nat :=
  match raw.opcode with
  | 0x01 => if raw.inline then 0 else raw.len
  | 0x03 => if raw.inline then 0 else raw.len
  | 0x16 => 16
  | 0x20 => raw.len
  | _ => 0

/-- The turn of a queue changed. -/
def State.modTurn (s : State) (q : Nat) (f : Turn → Turn) : State := s.modWq q (fun w => { w with turn := w.turn.map f })

/-- What follows the translation of a payload: a wait for a walk, the read of the bytes whose pages are known, or, when
none is, the end of the descriptor. The read keeps the invalidations that wait for the translations it was given (R369). -/
def State.payloadGo (s : State) (q : Nat) (raw : Raw) (kr fetch : Nat) (got : List XEnt) (r : XRes) : State :=
  if r.wait then s.modTurn q (fun t => { t with wait := .walk, kr := kr })
  else if r.segs = [] then
    let s1 := s.modTurn q (fun t => { t with wait := .none })
    match s1.entryWait q raw with
    | some p => s1.waitFor q p
    | none => s1.issueData q raw kr fetch [] r.fail
  else (r.segs.foldl (fun u x => u.emit (.hostRead (s.wqOwner q) x.1 x.2)) s).modTurn q (fun t =>
    { t with wait := .payload, kr := kr, segs := r.segs, fail := r.fail, inv := got.flatMap XEnt.inv })

/-- The pages of the payload translated (R350) and its bytes read; the turn waits meanwhile, and keeps the key rights that the
translation was judged with. -/
def State.payloadStart (s : State) (q : Nat) (raw : Raw) (kr fetch : Nat) (got : List XEnt) : State :=
  let r := s.xlate (.payload q) (s.wqOwner q) (s.wq q).asid raw.laddr (payloadLen raw) false false kr got
  r.1.payloadGo q raw kr fetch got r.2

/-- A receive placed on its queue's list (R251, R263). -/
def State.issueRecv (s : State) (q : Nat) (raw : Raw) (kr fetch : Nat) : State :=
  let cnt := (s.wq q).head
  (s.markIssued q raw kr fetch 1 0).recvPlace
    { q := q, cnt := cnt, sig := raw.sig, tag := raw.op0, mask := raw.op1, src := raw.dest, laddr := raw.laddr, cap := raw.len, kr := kr,
      func := s.wqOwner q, asid := (s.wq q).asid }

/-- A lock operation sent to its home (R419); an acquire makes its waiting record (R421). -/
def State.issueLock (s : State) (q : Nat) (raw : Raw) (kr fetch : Nat) : State :=
  let cnt := (s.wq q).head
  let lk := raw.key % 2 ^ 24
  let p : Pkt := { dest := raw.dest, ptype := 0x08, sub := raw.opcode - 0x30, tclass := raw.tclass,
                   ext := extLock lk q (s.wqOwner q) cnt }
  let s1 := (s.countOff raw).markIssued q raw kr fetch 1 0
  let x : WaitRec := { home := raw.dest, lock := lk, q := q, cnt := cnt }
  let s2 := if raw.opcode = 0x30 then
      { s1 with lck := { s1.lck with recs := mset s1.lck.recs (mfree s1.lck.recs 65536 0) x } } else s1
  s2.sendAll q cnt none true true [p]

/-- A CFADD64: to its counter context, or to its home (R404). -/
def State.issueCfadd (s : State) (q : Nat) (raw : Raw) (kr fetch : Nat) : State :=
  let cnt := (s.wq q).head
  match s.counterOf raw with
  | some k =>
    let p : Pkt := { dest := s.own, ptype := 0x0A, tclass := raw.tclass,
                     ext := extColl k 3 false 0 (s.ctx k).setupId 0 0 0, payload := leBytes 8 raw.op0 }
    ((s.countOff raw).markIssued q raw kr fetch 1 0).sendAll q cnt none true true [p]
  | none => ((s.countOff raw).markIssued q raw kr fetch 1 0).sendAll q cnt none true true [atomicPacket raw kr []]

/-- A vote or a barrier (R389). -/
def State.issueColl (s : State) (q : Nat) (raw : Raw) (kr fetch : Nat) : State :=
  let cnt := (s.wq q).head
  let yes := bitAt raw.op0 0
  let x : Contrib := if raw.opcode = 0x21 then
      { value := leBytes 8 (b2n yes), noCount := if yes then 0 else 1, novoters := if yes then [] else [s.own] } else {}
  match s.collFor q raw with
  | some k => ((s.countOff raw).markIssued q raw kr fetch 1 0).collIssue k q cnt x
  | none => s.issueDone q raw fetch cKeyInvalid

/-- The entry at the published head processed: an error of the queue, a wait, a completion at once, or its issue. -/
def State.issueAt (s : State) (q : Nat) (raw : Raw) (fetch : Nat) : State :=
  let kr := (s.wq q).kr
  let o := raw.opcode
  let bad := raw.malformed (s.noPiste q raw)
  if bad ≠ 0 then (s.wqError q bad (s.wq q).head).runWaitCmds q
  else match s.issueWait q raw with
    | some p => s.waitFor q p
    | none =>
      if s.badDest raw then s.issueDone q raw fetch cDestInvalid
      else if s.badContext q raw then s.issueDone q raw fetch cKeyInvalid
      else if payloadLen raw ≠ 0 then s.payloadStart q raw kr fetch []
      else match o with
        | 0x00 => s.issueDone q raw fetch 0
        | 0x01 => s.issueData q raw kr fetch raw.inlineBytes none
        | 0x02 =>
          let l := getPackets raw kr
          let n := (l.map (fun k => (getPieces k).length)).sum
          ((s.countOff raw).markIssued q raw kr fetch n 0).sendAll q (s.wq q).head (s.pisteFor raw) false false l
        | 0x03 => s.issueData q raw kr fetch raw.inlineBytes none
        | 0x04 => s.issueRecv q raw kr fetch
        | 0x18 => s.issueCfadd q raw kr fetch
        | 0x21 => s.issueColl q raw kr fetch
        | 0x22 => s.issueColl q raw kr fetch
        | 0x30 => s.issueLock q raw kr fetch
        | 0x31 => s.issueLock q raw kr fetch
        | 0x32 => s.issueLock q raw kr fetch
        | _ => s.issueData q raw kr fetch [] none

/-! ## Turns -/

/-- A queue's turns may run: its contexts lie in the pool, or GDDR7 is ready (R65, R69). -/
def State.runsNow (s : State) (q : Nat) : Bool :=
  s.dstate || (decide (q < 3072) && decide ((s.wq q).cq < 896) && decide ((s.wq q).eq < 128))

/-- A turn goes on from a descriptor boundary (R38, R41, R156, R666). -/
def turnAux (q : Nat) : Nat → State → State
  | 0, s => s
  | fuel + 1, s =>
    let w := s.wq q
    match w.turn with
    | none => s
    | some t =>
      if t.wait ≠ .none then s
      else if w.badBell then (s.wqError q 0x07 w.head).runWaitCmds q
      else if w.st ≠ .active ∨ t.left = 0 ∨ w.waitCmds ≠ [] ∨ w.suspendDue = true ∨ w.hasWork = false ∨ s.runsNow q = false then s.endTurn q
      else if w.failed.contains w.head then (s.wqError q 0x06 w.head).runWaitCmds q
      else match w.copy w.head with
        | none => (s.fetchMore q).endTurn q
        | some (raw, at_) =>
          if raw.mark ≠ markOf w.log2 w.head then ((s.dropCopy q w.head).fetchMore q).endTurn q
          else turnAux q fuel (s.issueAt q raw at_)

/-- A turn run as far as it can go. -/
def State.turnRun (s : State) (q : Nat) : State := turnAux q ((s.wq q).quantum + 1) s

/-- A turn begins to process: the entries are fetched first when the head's copy is not held or does not match. -/
def State.turnGo (s : State) (q : Nat) : State :=
  let s0 := s.modTurn q (fun t => { t with wait := .none })
  let w := s0.wq q
  match w.copy w.head with
  | some (raw, _) =>
    if raw.mark = markOf w.log2 w.head then s0.turnRun q
    else ((s0.dropCopy q w.head).fetchMore q).modTurn q (fun t => { t with wait := .fetch })
  | none =>
    if w.failed.contains w.head then s0.turnRun q
    else (s0.fetchMore q).modTurn q (fun t => { t with wait := .fetch })

/-- An engine takes the context lock of a queue and starts a turn, or the queue waits for its shaper or its completion queue
(R43, R165, R187), for the end of its function's owner-reset notice (R432), or for
GDDR7 where it or its queues lie outside the pool (R65, R69); on a mirrored queue the reservation of its entries is protected first (R530). -/
def State.takeTurn (s : State) (e q left : Nat) : State :=
  let w := s.wq q
  if w.st ≠ .active ∨ w.hasWork = false then s
  else if w.rate ≠ 0 ∧ w.credit ≤ 0 then s.park .shaper q
  else if s.cqBlocked w.cq then s.park (.cqFull w.cq) q
  else if !s.runsNow q then s.park .dstate q
  else if s.lck.notices.any (fun n => !n.all && n.func == s.wqOwner q) = true then s.park .hold q
  else
    let s1 := (s.modWq q (fun w => { w with turn := some { engine := e, left := left } })).pmuQ 0x05 1 q (some e)
    if s.mirWq q then
      let s2 := (s1.modWq q (fun w => { w with reserved := add32 w.head left, turn := w.turn.map (fun t => { t with wait := .protect }) })).recWqHead q
      s2.whenProtected (.turn q) (fun t => t.turnGo q)
    else s1.turnGo q

/-- Engine `e` holds no turn, on a work queue or on a target context. -/
def State.engineFree (s : State) (e : Nat) : Bool :=
  s.qmg.wq.all (fun kv => match kv.2.turn with | some t => t.engine != e | none => true) && s.tgt.busy.all (fun kv => kv.2 != e)

/-- Engine `e` may take a turn: its cluster is ready and, like the queue manager, in no block reset, and it holds none. -/
def State.engineIdle (s : State) (e : Nat) : Bool :=
  decide (e < 288) && s.clusterReady (e / 16) && s.engineFree e && !s.blockBusy (e / 16) && !s.blockBusy 0x20

/-- The engine that serves an entry homed on engine `h` at once, with the counts of a steal: the home engine when it is idle; while
its cluster is not ready, an idle engine without entries of its own, which one is not specified (R42, R67). None: the entry waits. -/
def State.serverOf (s : State) (h : Nat) : Option (Nat × State) :=
  if s.engineIdle h then some (h, s)
  else if s.clusterReady (h / 16) then none
  else
    let l := (List.range 288).filter (fun e => s.engineIdle e && s.runList e == [])
    (l[Config.openNat s.free % l.length]?).map (fun e => (e, (s.fresh.2.bump .ENG_STEAL_COUNT e).bump .ENG_STOLEN_COUNT h))

/-- The engine that serves a request on a target context homed on engine `h` at once, with the counts of its turn. -/
def State.turnServer (s : State) (h : Nat) : Option (Nat × State) :=
  (s.serverOf h).map (fun x => (x.1,
    (if x.1 = h then x.2 else x.2.pmu_ { code := 0x06, engine := some x.1 }).pmu_ { code := 0x05, engine := some x.1 }))

/-! ## Rows of single descriptors -/

/-- The entry at a queue's published head as the device holds it, or as the ring does. -/
def State.headEntry (s : State) (q : Nat) : Raw :=
  let w := s.wq q
  match w.copy w.head with
  | some (raw, _) => raw
  | none => Raw.ofBytes (s.read (w.slot w.head) 64)

/-- The queue's entry at its published head may be processed now: below the tail, its MARK as expected, no turn in progress,
and the queue waits for nothing. -/
def State.issuable (s : State) (q : Nat) (d : Raw) : Bool :=
  let w := s.wq q
  w.st == .active && w.hasWork && w.turn == none && s.qmg.parked.all (fun p => p.2 != q) && s.headEntry q == d &&
  d.mark == markOf w.log2 w.head

/-- One descriptor of an opcode processed as a turn of one entry, by its queue's home engine or by the engine that steals it. -/
def State.issueOne (s : State) (q : Nat) (d : Raw) (op : Nat) : State :=
  if s.issuable q d && d.opcode == op then
    match s.serverOf (q % 288) with
    | none => s
    | some (e, s0) =>
      let s1 := (if e = q % 288 then s0 else s0.pmuQ 0x06 1 q (some e)).leaveRun q
      let w := s1.wq q
      let s2 := if (w.copy w.head).isSome then s1
        else s1.modWq q (fun w => { w with fetched := w.fetched ++ [(w.head, d, s.now)] })
      s2.takeTurn e q 1
  else s

end Sys2Proof.Machine
end

