-- ==== Sys2Proof/Machine/Walks.lean ====
section
/-! DEFINITION. The ends of walks (R348 to R354, R369, R376): the access that waited goes on with what was found, or fails. -/

namespace Sys2Proof.Machine

/-- The bus segments of the pages already translated, from an address on. -/
def prefixSegs (got : List XEnt) : Nat → Nat → Nat → List (Nat × Nat)
  | 0, _, _ => []
  | fuel + 1, va, n =>
    if n = 0 then []
    else match got.find? (fun e => e.covers va) with
      | some e =>
        let m := min n (2 ^ e.ps - va % 2 ^ e.ps)
        (e.bus va, m) :: prefixSegs got fuel (va + m) (n - m)
      | none => []

/-- The payload of a turn whose walk has ended: more pages, the read, or the failure (R350); where the key rights have changed since it
began, it is judged again from its first page (R361), but for a failure WALK_BUS, which is not tried again (R376). -/
def State.payloadWalked (s : State) (q : Nat) (got : List XEnt) (fail : Option Nat) : State :=
  let w := s.wq q
  match w.turn, w.copy w.head with
  | some t, some (raw, at_) =>
    if t.wait ≠ .walk then s
    else
      let s1 := if w.kr ≠ t.kr then
          (if fail = some xWalkBus then s.payloadGo q raw w.kr at_ got { fail := fail } else s.payloadStart q raw w.kr at_ [])
        else match fail with
        | none => s.payloadStart q raw t.kr at_ got
        | some k => s.payloadGo q raw t.kr at_ got
            { segs := prefixSegs (got.filter (fun e => s.young e.at_)) (payloadLen raw / 4096 + 2) raw.laddr (payloadLen raw), fail := some k }
      s1.turnRun q
  | _, _ => s

/-- The access of a walk goes on with the translations obtained. -/
def State.walkGot (s : State) (a : Acc) (got : List XEnt) : State :=
  match a with
  | .payload q => s.payloadWalked q got none
  | .target r => s.turnGoOn r (fun t => t.perform r got)
  | .place q cnt pkt => s.placeGet q cnt pkt got
  | .message r => s.turnGoOn r (fun t => t.msgPlace r got)
  | .copy i idx => s.msgCopy i idx got
  | .result k n => if (s.ctx k).completed = n then s.instRun k got else s

/-- The access of a walk fails with a kind (R349 to R351, R272, R392). -/
def State.walkFailed (s : State) (a : Acc) (got : List XEnt) (kind : Nat) : State :=
  match a with
  | .payload q => s.payloadWalked q got (some kind)
  | .target r => s.turnGoOn r (fun t => t.accessFail r (t.rkey r (t.access r).key) (r.pkt.nonIdem || r.pkt.ptype == 0x0A))
  | .place q cnt _ => s.descPart q cnt 1 (localStatus kind) 0
  | .message r => s.turnGoOn r (fun t => t.msgPlaceFailed r)
  | .copy i idx => s.msgCopyFailed i idx
  | .result k n => s.instFailed k n kind

/-- What a walk has come to, for the walk of number `n`. -/
def State.walkOut (s : State) (n : Nat) (out : WOut) (old : Walk) : State :=
  let s0 : State := { s with xlt := { s.xlt with walks := mdel s.xlt.walks n } }
  match out with
  | .wait w => { s with xlt := { s.xlt with walks := mset s.xlt.walks n w } }
  | .got w e =>
    let s1 := if w.noInstall then s0 else (w.wc.foldl (fun t x => t.wcInstall x) s0).xltInstall e
    if w.lost then s1.walkFailed w.acc (heldOver w.inv (w.got ++ [e])) xWalkBus else s1.walkGot w.acc (heldOver w.inv (w.got ++ [e]))
  | .fail kind level addr => (s0.xltFault old kind level addr).walkFailed old.acc (heldOver old.inv old.got) kind

/-- A table or ASID read of a walk returned. -/
def State.walkRead1 (s : State) (n : Nat) (rd : ReadStatus) : State :=
  match mget s.xlt.walks n with
  | none => s
  | some w =>
    match w.phase with
    | .cas _ _ _ _ => s
    | .held => s
    | _ =>
      let r := (s.poisonRx rd).walkRet w rd
      (r.1.walkOut n r.2 w).settle

/-- A compare-and-swap of a walk returned. -/
def State.walkCas1 (s : State) (n : Nat) (rd : ReadStatus) : State :=
  match mget s.xlt.walks n with
  | none => s
  | some w =>
    match w.phase with
    | .cas _ _ _ _ =>
      let r := (s.poisonRx rd).casRet w rd
      (r.1.walkOut n r.2 w).settle
    | _ => s

/-- The translation unit has left its block reset: the accesses that it did not take go on (R580). -/
def State.walksTaken (s : State) : State :=
  (s.xlt.walks.filter (fun kv => kv.2.phase == .held)).foldl (fun t kv => match mget t.xlt.walks kv.1 with
    | some w =>
      let t1 : State := { t with xlt := { t.xlt with walks := mdel t.xlt.walks kv.1 } }
      if w.lost then t1.walkFailed w.acc (heldOver w.inv w.got) xWalkBus else t1.walkGot w.acc (heldOver w.inv w.got)
    | none => t) s

/-- WALK_READ_DONE (R348, R376). -/
def execWalkReadDone (w : Nat) (rd : ReadStatus) (s : State) : Host.Outcome State Fault Refusal := .next (s.walkRead1 w rd)

/-- AD_CAS_DONE (R353 to R355). -/
def execAdCasDone (w : Nat) (rd : ReadStatus) (s : State) : Host.Outcome State Fault Refusal := .next (s.walkCas1 w rd)

/-- An entry of the translation cache reaches its age, and is discarded and counted (R365). -/
def State.xltAged (s : State) (k : Nat) : State :=
  let t := s.bump .XLT_AGED_COUNT
  match mget s.xlt.cache k with
  | some e => if s.young e.at_ then s else { t with xlt := { s.xlt with cache := mdel s.xlt.cache k } }
  | none =>
    match mget s.xlt.wcache k with
    | some e => if s.young e.at_ then s else { t with xlt := { s.xlt with wcache := mdel s.xlt.wcache k } }
    | none => s

/-- XLT_ENTRY_AGED (R365). -/
def execXltEntryAged (k : Nat) (s : State) : Host.Outcome State Fault Refusal := .next (s.xltAged k)

end Sys2Proof.Machine
end

