-- ==== Sys2Proof/Machine/Engines.lean ====
section
/-! DEFINITION. The engines (01 R35 to R48, R67, R673): turns, steals, the ends of fetches and payload reads, one-descriptor
turns for each opcode, and the shaper's refill (04 R186 to R189). -/

namespace Sys2Proof.Machine

/-! ## Turns (R36, R43, R46) -/

/-- The head of an engine's run list taken as a turn on a work queue. -/
def State.turnHead (s : State) (e : Nat) : State :=
  match s.runList e with
  | .wq q :: t => if s.engineIdle e then ((s.setRun e t).takeTurn e q (s.wq q).quantum).settle else s
  | _ => s

/-- TURN: an engine takes the work queue at the head of its run list (R36). -/
def execTurn (e : Nat) (s : State) : Host.Outcome State Fault Refusal := .next (s.turnHead e)

/-- The entry that an engine took is served: a work queue's turn, a target context's (R46), or a window queue's (R48). -/
def State.serve (s : State) (e : Nat) (x : RunEnt) (rd : ReadStatus) : State :=
  match x with
  | .wq q => s.takeTurn e q (s.wq q).quantum
  | .tctx t => s.turnTctx e t rd
  | .winq w => s.turnWinq e w

/-- The head of an engine's run list taken as a turn on a target context or a window queue. -/
def State.targetHead (s : State) (e : Nat) (rd : ReadStatus) : State :=
  match s.runList e with
  | .tctx c :: t => if s.engineIdle e then ((s.setRun e t).serve e (.tctx c) rd).settle else s
  | .winq w :: t => if s.engineIdle e then ((s.setRun e t).serve e (.winq w) rd).settle else s
  | _ => s

/-- TARGET_TURN: an engine takes the target context or window queue at the head of its run list (R46, R48). -/
def execTargetTurn (e : Nat) (rd : ReadStatus) (s : State) : Host.Outcome State Fault Refusal := .next (s.targetHead e rd)

/-- The ring distance between the stops of two clusters. -/
def ringDist (a b : Nat) : Nat :=
  let d := if a ≤ b then b - a else a - b
  min d (32 - d)

/-- The clusters in the order in which an engine of cluster `c` searches them: its own, then by ring distance, the lower
number first. -/
def searchOrder (c : Nat) : List Nat :=
  (List.range 17).flatMap (fun d => (List.range 18).filter (fun x => ringDist (c + 1) (x + 1) == d))

/-- The victim of a steal by an engine of cluster `c` (R42, R67). -/
def State.victim (s : State) (c : Nat) : Option Nat :=
  let order := (searchOrder c).flatMap (fun k => numsFrom (16 * k) 16)
  let orphan (e : Nat) : Bool := !s.clusterReady (e / 16) && s.runList e != []
  let rich (e : Nat) : Bool := s.clusterReady (e / 16) && decide (s.fld .ENG_CTL_STEALMIN c ≤ (s.runList e).length) &&
    (!s.flag .ENG_CTL_SCOPE c || e / 16 == c)
  match order.find? orphan with
  | some e => some e
  | none => if s.flag .ENG_CTL_STEALEN c then order.find? rich else none

/-- An engine whose run list is empty takes the entry at the tail of a victim's (R42 to R44). -/
def State.steal (s : State) (e : Nat) (rd : ReadStatus) : State :=
  if s.engineIdle e ∧ s.runList e = [] then
    match s.victim (e / 16) with
    | some v =>
      match (s.runList v).getLast? with
      | some x =>
        let s1 := ((s.setRun v (s.runList v).dropLast).bump .ENG_STEAL_COUNT e).bump .ENG_STOLEN_COUNT v
        let s2 := match x with | .wq q => s1.pmuQ 0x06 1 q (some e) | _ => s1.pmu_ { code := 0x06, engine := some e }
        (s2.serve e x rd).settle
      | none => s
    | none => s
  else s

/-- STEAL: an idle engine steals a turn (R42). -/
def execSteal (e : Nat) (rd : ReadStatus) (s : State) : Host.Outcome State Fault Refusal := .next (s.steal e rd)

/-! ## Reads that return -/

/-- A descriptor read returned: the copy is held, or the failure takes effect when the entry is reached (R155, R171, R666); a
turn that waited for it goes on. -/
def State.fetchDone (s : State) (q cnt : Nat) (rd : ReadStatus) : State :=
  let w := s.wq q
  if !w.fetching.contains cnt then s
  else
    let raw := Raw.ofBytes (s.read (w.slot cnt) 64)
    let s1 := (s.poisonRx rd).modWq q (fun w => { w with
      fetching := w.fetching.filter (· != cnt)
      fetched := if rd = .ok then w.fetched ++ [(cnt, raw, s.now)] else w.fetched
      failed := if rd = .ok then w.failed else w.failed ++ [cnt] })
    match w.turn with
    | some t => if t.wait = .fetch ∧ cnt = w.head then ((s1.modTurn q (fun t => { t with wait := .none })).turnRun q).settle else s1
    | none => if rd ≠ .ok ∧ cnt = w.head ∧ w.st = .active ∧ w.hasWork = true then (s1.wqError q 0x06 cnt).settle else s1

/-- DESCRIPTOR_FETCH_DONE (R155, R171). -/
def execDescriptorFetchDone (q cnt : Nat) (rd : ReadStatus) (s : State) : Host.Outcome State Fault Refusal :=
  .next (s.fetchDone q cnt rd)

/-- The payload of the entry at a queue's published head was read, or its read failed with LOCAL_DMA (R162): this is its moment of issue
(R157), so what an issue waits for is tested, and where the key rights have changed since, the payload is judged and read again with those
of this moment (R361). The turn goes on. -/
def State.payloadDone (s : State) (q : Nat) (rd : ReadStatus) : State :=
  let w := s.wq q
  match w.turn, w.copy w.head with
  | some t, some (raw, at_) =>
    if t.wait ≠ .payload then s
    else
      let s1 := (s.poisonRx rd).modTurn q (fun t => { t with wait := .none, segs := [], fail := none, inv := [] })
      let s2 := match if rd = ReadStatus.ok then s1.issueWait q raw else s1.entryWait q raw with
        | some p => s1.waitFor q p
        | none =>
          if rd ≠ ReadStatus.ok then s1.issueDone q raw at_ cLocalDma
          else if w.kr ≠ t.kr ∧ t.fail ≠ some xWalkBus then s1.payloadStart q raw w.kr at_ []
          else s1.issueData q raw t.kr at_ (s1.readSegs t.segs) t.fail
      (s2.turnRun q).settle
  | _, _ => s

/-- PAYLOAD_READ_DONE (R157, R162, R350). -/
def execPayloadReadDone (q : Nat) (rd : ReadStatus) (s : State) : Host.Outcome State Fault Refusal := .next (s.payloadDone q rd)

/-! ## One descriptor of each opcode (R153, R157) -/

/-- NOP: its completion is written, or would be with SIG (R157). -/
def execNop (q : Nat) (d : Raw) (s : State) : Host.Outcome State Fault Refusal := .next (s.issueOne q d 0x00)
/-- PUT (R192, R195, R196). -/
def execPut (q : Nat) (d : Raw) (s : State) : Host.Outcome State Fault Refusal := .next (s.issueOne q d 0x01).settle
/-- GET (R193, R195, R196). -/
def execGet (q : Nat) (d : Raw) (s : State) : Host.Outcome State Fault Refusal := .next (s.issueOne q d 0x02).settle
/-- SEND (R252 to R257). -/
def execSend (q : Nat) (d : Raw) (s : State) : Host.Outcome State Fault Refusal := .next (s.issueOne q d 0x03).settle
/-- RECV (R251, R263, R265). -/
def execRecv (q : Nat) (d : Raw) (s : State) : Host.Outcome State Fault Refusal := .next (s.issueOne q d 0x04).settle
/-- FADD64 (R194, R197). -/
def execFadd64 (q : Nat) (d : Raw) (s : State) : Host.Outcome State Fault Refusal := .next (s.issueOne q d 0x10).settle
/-- SWAP64 (R194, R197). -/
def execSwap64 (q : Nat) (d : Raw) (s : State) : Host.Outcome State Fault Refusal := .next (s.issueOne q d 0x11).settle
/-- CAS64 (R194, R197). -/
def execCas64 (q : Nat) (d : Raw) (s : State) : Host.Outcome State Fault Refusal := .next (s.issueOne q d 0x12).settle
/-- FADD128 (R194, R197). -/
def execFadd128 (q : Nat) (d : Raw) (s : State) : Host.Outcome State Fault Refusal := .next (s.issueOne q d 0x14).settle
/-- SWAP128 (R194, R197). -/
def execSwap128 (q : Nat) (d : Raw) (s : State) : Host.Outcome State Fault Refusal := .next (s.issueOne q d 0x15).settle
/-- CAS128: its swap value is read at LADDR (R153, R194, R197). -/
def execCas128 (q : Nat) (d : Raw) (s : State) : Host.Outcome State Fault Refusal := .next (s.issueOne q d 0x16).settle
/-- CFADD64 (R200, R404). -/
def execCfadd64 (q : Nat) (d : Raw) (s : State) : Host.Outcome State Fault Refusal := .next (s.issueOne q d 0x18).settle
/-- COLL_REDUCE (R387 to R389). -/
def execCollReduce (q : Nat) (d : Raw) (s : State) : Host.Outcome State Fault Refusal := .next (s.issueOne q d 0x20).settle
/-- COLL_VOTE (R388, R389, R403). -/
def execCollVote (q : Nat) (d : Raw) (s : State) : Host.Outcome State Fault Refusal := .next (s.issueOne q d 0x21).settle
/-- COLL_BARRIER (R388, R389). -/
def execCollBarrier (q : Nat) (d : Raw) (s : State) : Host.Outcome State Fault Refusal := .next (s.issueOne q d 0x22).settle
/-- LOCK_ACQUIRE (R417, R421). -/
def execLockAcquire (q : Nat) (d : Raw) (s : State) : Host.Outcome State Fault Refusal := .next (s.issueOne q d 0x30).settle
/-- LOCK_TRY (R417). -/
def execLockTry (q : Nat) (d : Raw) (s : State) : Host.Outcome State Fault Refusal := .next (s.issueOne q d 0x31).settle
/-- LOCK_RELEASE (R417). -/
def execLockRelease (q : Nat) (d : Raw) (s : State) : Host.Outcome State Fault Refusal := .next (s.issueOne q d 0x32).settle

/-! ## The shaper (R186 to R189) -/

/-- One queue at a refill: new values first (R188), then the credit (R186). -/
def WQ.refill (w : WQ) : WQ :=
  let w1 : WQ := match w.newShape with
    | some (r, b) => { w with rate := r, burst := b, credit := min w.credit (256 * b : Nat), newShape := none }
    | none => w
  if w1.rate = 0 then w1 else { w1 with credit := min (256 * w1.burst : Nat) (w1.credit + (256 * w1.rate : Nat)) }

/-- The sample of the selected queue at a refill (R189). -/
def State.sampleQueue (s : State) : State :=
  if !s.flag .QMG_SMPSEL_EN then s
  else
    let q := s.fld .QMG_SMPSEL_WQ
    let w := s.wq q
    s.snap .QMG_SMP0_SEQ 0 (fun t =>
      (((t.setFld .QMG_SMP0_STATE w.st.code).wrRaw .QMG_SMP1 0 (sub32 w.tail w.head)).wrRaw .QMG_SMP2 0
        (min (2 ^ 32 - 1) (s.wqDelay q))).wrRaw .QMG_SMP3 0 (ofInt32 w.credit))

/-- Every queue refilled, the sample taken, and the queues whose credit is above 0 back on their run lists (R187). DESIGN CHOICE (log 68):
the sample shows the credit before this refill (R189), and of several queues that return to one run list the one parked first comes
first: the spec orders neither. -/
def State.refill (s : State) : State :=
  let s1 := s.sampleQueue
  let s2 : State := { s1 with qmg := { s1.qmg with wq := s1.qmg.wq.map (fun (kv : Nat × WQ) => (kv.1, kv.2.refill)) } }
  (s2.qmg.parked.filter (fun p => p.1 == .shaper)).foldl (fun t p =>
    let w := t.wq p.2
    if w.rate = 0 ∨ 0 < w.credit then t.unparkQ .shaper p.2 else t) s2

/-- SHAPER_REFILL, at a fabric-time multiple of 1,024 ticks (R186). -/
def execShaperRefill (s : State) : Host.Outcome State Fault Refusal := .next (if s.now % 1024 = 0 then s.refill else s)

end Sys2Proof.Machine
end

