-- ==== Sys2Proof/Machine/Nv.lean ====
section
/-! DEFINITION. The nonvolatile store (14 R585 to R588, 15 R612): its rows, their check code, the epoch rows, the two copies of the boot
settings, the history rows, and the start and the end of a write pulse. DESIGN CHOICE (log 28): the spec gives a check code to the history
rows only; the model uses the same one for the epoch rows and the copies of the settings, and gives their bytes places of its own. -/

namespace Sys2Proof.Machine

/-! ## The check code (R612) -/

/-- One bit of the CRC-64 of R612, the most significant first. -/
def crc64Bit (c : Nat) : Nat :=
  if c.testBit 63 then (2 * c % 2 ^ 64) ^^^ 0x42F0E1EBA9EA3693 else 2 * c % 2 ^ 64

/-- One byte of the CRC-64. -/
def crc64Byte (c : Nat) (b : Byte) : Nat := (List.range 8).foldl (fun x _ => crc64Bit x) (c ^^^ (b.toNat * 2 ^ 56))

/-- The check code of a row (R612). -/
def crc64 (l : List Byte) : Nat := l.foldl crc64Byte 0

/-- Bytes followed by their check code. -/
def crcSeal (b : List Byte) : List Byte := b ++ leBytes 8 (crc64 b)

/-- The 64 bytes of a history row: a log entry, the boot count, RST_CAUSE, zeros, and the check code (R612). -/
def histRow (entry : List Byte) (boots cause : Nat) : List Byte :=
  crcSeal (entry ++ leBytes 4 boots ++ leBytes 4 cause ++ zeros 16)

/-! ## The epoch rows (R587) -/

/-- The 64 bytes of an epoch row: the write count, the epoch, zeros, and the check code (log 28). -/
def epochRow (count e : Nat) : List Byte := crcSeal (leBytes 4 count ++ leBytes 1 e ++ zeros 51)

/-- The count and the epoch of a valid epoch row. -/
def epochOf (l : List Byte) : Option (Nat × Nat) :=
  if l.length = 64 ∧ leAt l 56 8 = crc64 (l.take 56) then some (leAt l 0 4, leAt l 4 1) else none

/-- The valid epoch row with the highest count: its row, count and epoch. DESIGN CHOICE (log 28): a store without one reads as row 0, count 0
and epoch 0. -/
def RstSt.epochLast (r : RstSt) : Nat × Nat × Nat :=
  (List.range 16).foldl (fun (b : Nat × Nat × Nat) k => match (mget r.nv k).bind epochOf with
    | some x => if b.2.1 ≤ x.1 then (k, x.1, x.2) else b
    | none => b) (0, 0, 0)

/-! ## The boot settings (R588, R622) -/

/-- The first row of a copy of the settings. -/
def setBase (k : Nat) : Nat := 16 + 248 * k

/-- The record of a copy of the settings and its number, where its check code holds. The first row of a copy holds the number, the record's
length and the check code over both and the record (log 28). -/
def RstSt.setCopy (r : RstSt) (k : Nat) : Option (Nat × List Byte) :=
  match mget r.nv (setBase k) with
  | none => none
  | some h =>
    let len := leAt h 4 4
    let body := ((numsFrom (setBase k + 1) (min 247 (len / 64))).flatMap (fun i => mgetD r.nv i []))
    if body.length = len ∧ leAt h 8 8 = crc64 (h.take 8 ++ body) then some (leAt h 0 4, body) else none

/-- The rows of a record written to a copy, the copy's first row last. -/
def setRows (k num : Nat) (record : List Byte) : List (Nat × List Byte) :=
  let h := leBytes 4 num ++ leBytes 4 record.length
  (List.range (record.length / 64)).map (fun i => (setBase k + 1 + i, (record.drop (64 * i)).take 64)) ++
  [(setBase k, h ++ leBytes 8 (crc64 (h ++ record)) ++ zeros 48)]

/-- The fields of a boot settings record that the device uses: the spec gives no layout of it (log 28). -/
def settingsOf (b : List Byte) : SiteRec :=
  { coord := Config.recordField 0 b % 2 ^ 20, shape := Config.recordField 1 b % 2 ^ 32, ports := Config.recordList 0 b,
    pmap := Config.recordList 1 b, presets := (Config.recordList 2 b).map (fun x => x.2), regs := Config.recordList 3 b }

/-- The signing key slot that a record names (R622). -/
def recordSlot (b : List Byte) : Nat := Config.recordField 2 b % 4

/-- What R622 asks of a record beside its signature: its key slot holds a key that is not revoked, and its version is at least
SEC_MINVER.MIN. -/
def State.recordOk (s : State) (slot version : Nat) : Bool :=
  decide (slot < 4) && bitAt s.sec.present slot && !bitAt s.sec.revoked slot && decide (s.sec.minVer ≤ version / 2 ^ 16)

/-- A copy of the settings that the device accepts: its number and record (R588, R622). -/
def State.setCopy (s : State) (k : Nat) : Option (Nat × List Byte) :=
  match s.rst.setCopy k with
  | some x => if !s.rst.setBad.contains k && s.recordOk (recordSlot x.2) (Config.recordField 3 x.2 % 2 ^ 32) then some x else none
  | none => none

/-- The copy of the settings that the steward uses: the valid one with the higher number (R588). -/
def State.setBest (s : State) : Option (Nat × Nat × List Byte) :=
  match s.setCopy 0, s.setCopy 1 with
  | some a, some b => if a.1 < b.1 then some (1, b) else some (0, a)
  | some a, none => some (0, a)
  | none, some b => some (1, b)
  | none, none => none

/-- The boot settings in use. -/
def State.settings (s : State) : Option SiteRec := s.setBest.map (fun x => settingsOf x.2.2)

/-! ## The history (R612) -/

/-- The readable history rows, oldest first, each with its number: the rows 512 to 1,023, used in rotation. -/
def RstSt.histRows (r : RstSt) : List (Nat × List Byte) :=
  (List.range 512).filterMap (fun i =>
    let n := (r.histNum + (2 ^ 32 - 512) + i) % 2 ^ 32
    (mget r.nv (512 + n % 512)).map (fun b => (n, b)))

/-! ## Write pulses (R585, R586) -/

/-- The steward starts the next write pulse, one row at a time: the epoch row that is due, with the next count and E + 1 modulo 256 (R587),
else the next row of a settings record. -/
def State.nvStart (s : State) : State :=
  if s.rst.nvRow.isSome || !s.rst.steward then s
  else if s.rst.epoch = .due then
    let l := s.rst.epochLast
    { s with rst := { s.rst with nvRow := some ((l.1 + 1) % 16, epochRow (l.2.1 + 1) ((l.2.2 + 1) % 256)) } }
  else match s.rst.nvQ with
    | [] => s
    | x :: t => { s with rst := { s.rst with nvRow := some x, nvQ := t } }

/-- A write pulse has stored its row. RST_NVSTAT.EPOCHROW names the epoch row last written. -/
def State.nvCommit (s : State) (row : Nat × List Byte) : State :=
  let r := { s.rst with nv := mset s.rst.nv row.1 row.2 }
  if row.1 < 16 then
    ({ s with rst := { r with epoch := if r.epoch = .due then .written else r.epoch } } : State).setFld .RST_NVSTAT_EPOCHROW row.1
  else if row.1 < 512 then { s with rst := r }
  else { s with rst := { r with histNum := add32 r.histNum 1 } }

/-- A loss of VAON cuts a write pulse short (R586): the row is unreadable, or holds its old or its new content, as free values say
(log 26). -/
def State.nvCut (s : State) : State :=
  match s.rst.nvRow with
  | none => s
  | some row =>
    let (n, s1) := s.fresh
    if Config.nvTorn n then { s1 with rst := { s1.rst with nv := mdel s1.rst.nv row.1 } }
    else if Config.openNat n % 2 = 0 then s1
    else s1.nvCommit row

end Sys2Proof.Machine
end

