-- ==== Sys2Proof/Machine/AdminObjs.lean ====
section
/-! DEFINITION. The admin commands on completion and event queues and allotments (04 R183, R184), regions (05 R204 to R217),
window maps (07 R291 to R297), translations (08 R367 to R370), collective contexts (09 R383 to R386), pistes (11 R468 to
R476) and locks (10 R415, R416). -/

namespace Sys2Proof.Machine

/-! ## Readiness of commands (the dependency table of 01) -/

/-- What a command on state in GDDR7 needs. -/
def State.gddrReady (s : State) : Bool := s.hif && s.ctxpool && s.dstate

/-- What a command on state in GDDR7 that needs firmware needs (R59). -/
def State.fwReady (s : State) : Bool := s.gddrReady && s.rst.steward && !s.blockBusy 0x26

/-- A background command of one of some opcodes concerns an object (R180). -/
def State.objBusy (s : State) (ops : List Nat) (obj : Nat) : Bool := s.qmg.bcmds.any (fun b => ops.contains b.op && b.obj == obj)

/-! ## Completion queues, event queues, allotments -/

/-- CONFIG_CQ (R183). Completions held for the queue are never dropped (R165): DESIGN CHOICE (log 68), they go to its new ring. -/
def State.cmdConfigCq (s : State) (c : AdminCmd) : State :=
  let r := c.raw
  match preCheck c false s.poolReady [(8, 9), (20, 2)] with
  | some st => s.adminEnd c st
  | none =>
    match s.cqOf c.func r.object with
    | none => s.adminEnd c sInvalidObject
    | some n =>
      let log := r.at_ 16 1
      match s.eqOf c.func (r.at_ 20 2) with
      | none => s.adminEnd c sInvalidField
      | some eq =>
        match firstFail [(!s.dstate && decide (896 ≤ n), sStateConflict),
            (r.at_ 8 8 % 4096 != 0 || decide (log < 6) || decide (20 < log), sInvalidField),
            (s.qmg.wq.any (fun kv => kv.2.st != .disabled && kv.2.cq == n), sStateConflict),
            (s.meetsTwin TwinParams.cqBase TwinParams.cqCount n 1, sStateConflict)] with
        | some st => s.adminEnd c st
        | none =>
          let s1 := s.modCq n (fun q => { configured := true, base := r.at_ 8 8, log2 := log, eq := eq, held := q.held })
          let s2 := (if s.mirCq n then s1.recQctx false n else s1).cqDrain n
          if s.mirCq n then s2.adminCplProt c.func { cid := r.cid, status := 0 } else s2.adminEnd c 0

/-- CONFIG_EQ (R183). -/
def State.cmdConfigEq (s : State) (c : AdminCmd) : State :=
  let r := c.raw
  match preCheck c false s.poolReady [(8, 9), (20, 2)] with
  | some st => s.adminEnd c st
  | none =>
    match s.eqOf c.func r.object with
    | none => s.adminEnd c sInvalidObject
    | some n =>
      let log := r.at_ 16 1
      let v := r.at_ 20 2
      match firstFail [(!s.dstate && decide (128 ≤ n), sStateConflict),
          (r.at_ 8 8 % 4096 != 0 || decide (log < 4) || decide (16 < log), sInvalidField),
          (if c.func = 0 then decide (v < 3) || decide (2047 < v) else decide (v < 1) || decide (63 < v), sInvalidField),
          (s.qmg.cq.any (fun kv => kv.2.configured && kv.2.eq == n) ||
            s.qmg.wq.any (fun kv => kv.2.st != .disabled && kv.2.eq == n), sStateConflict),
          (s.meetsTwin TwinParams.eqBase TwinParams.eqCount n 1, sStateConflict)] with
      | some st => s.adminEnd c st
      | none =>
        let s1 := s.modEq n (fun _ => { configured := true, base := r.at_ 8 8, log2 := log, vector := v })
        let s2 := if s.mirEq n then s1.recQctx true n else s1
        if s.mirEq n then s2.adminCplProt c.func { cid := r.cid, status := 0 } else s2.adminEnd c 0

/-- Ranges of one kind in an allotment: the old range of a VF, the new one, and those of the other VFs. -/
def State.allotClash (s : State) (base cnt : Fld) (vf b n : Nat) : Bool :=
  (numsFrom 1 63).any (fun v => v != vf && rangesMeet b n (s.fld base v) (s.fld cnt v))

/-- A number lies in the old or the new range of an allotment. -/
def inEither (b0 n0 b1 n1 x : Nat) : Bool := inRange b0 n0 x || inRange b1 n1 x

/-- A queue kind's mirrored ranges of this device or its twin meet a range (R184). -/
def State.mirRange (s : State) (base cnt : TwinParams → Nat) (a m : Nat) : Bool :=
  s.twinClosed && ((match s.mir.cfg with | some p => rangesMeet a m (base p) (cnt p) | none => false) ||
    (match s.mir.peerCfg with | some p => rangesMeet a m (base p) (cnt p) | none => false))

/-- SET_VF_ALLOT (R110, R184). -/
def State.cmdSetVfAllot (s : State) (c : AdminCmd) : State :=
  let r := c.raw
  match preCheck c true s.poolReady [(8, 13), (24, 4)] with
  | some st => s.adminEnd c st
  | none =>
    let v := r.object
    let wb := r.at_ 8 4
    let wn := r.at_ 12 2
    let cb := r.at_ 14 2
    let cn := r.at_ 16 2
    let eb := r.at_ 18 2
    let en := r.at_ 20 1
    let quota := r.at_ 24 4
    let wb0 := s.fld .QMG_VFWQ_BASE v
    let wn0 := s.fld .QMG_VFWQ_COUNT v
    let cb0 := s.fld .QMG_VFCQ_BASE v
    let cn0 := s.fld .QMG_VFCQ_COUNT v
    let eb0 := s.fld .QMG_VFEQ_BASE v
    let en0 := s.fld .QMG_VFEQ_COUNT v
    let inW := inEither wb0 wn0 wb wn
    let inC := inEither cb0 cn0 cb cn
    let inE := inEither eb0 en0 eb en
    let live (q : WQ) : Bool := q.st != .disabled
    match firstFail [(v == 0 || decide (63 < v), sInvalidObject),
        (decide (4096 < wn) || decide (1024 < cn) || decide (32 < en) || decide (2 ^ 24 < quota) ||
          decide (2 ^ 18 ≤ wb) || decide (2 ^ 11 ≤ eb) || decide (262144 < wb + wn) || decide (65536 < cb + cn) ||
          decide (2048 < eb + en), sInvalidField),
        (s.allotClash .QMG_VFWQ_BASE .QMG_VFWQ_COUNT v wb wn || s.allotClash .QMG_VFCQ_BASE .QMG_VFCQ_COUNT v cb cn ||
          s.allotClash .QMG_VFEQ_BASE .QMG_VFEQ_COUNT v eb en, sInvalidField),
        (s.host.vfs != 0, sStateConflict),
        (s.qmg.wq.any (fun kv => live kv.2 && (inW kv.1 || inC kv.2.cq || inE kv.2.eq)), sStateConflict),
        (s.mirRange TwinParams.wqBase TwinParams.wqCount wb wn || s.mirRange TwinParams.wqBase TwinParams.wqCount wb0 wn0 ||
          s.mirRange TwinParams.cqBase TwinParams.cqCount cb cn || s.mirRange TwinParams.cqBase TwinParams.cqCount cb0 cn0 ||
          s.mirRange TwinParams.eqBase TwinParams.eqCount eb en || s.mirRange TwinParams.eqBase TwinParams.eqCount eb0 en0,
          sStateConflict)] with
    | some st => s.adminEnd c st
    | none =>
      let moved (b0 n0 b1 n1 x : Nat) : Bool := inRange b0 n0 x != inRange b1 n1 x
      let g := s.qmg
      let s1 : State := { s with qmg := { g with
        wq := g.wq.filter (fun kv => !moved wb0 wn0 wb wn kv.1)
        cq := g.cq.filter (fun kv => !moved cb0 cn0 cb cn kv.1)
        eq := g.eq.filter (fun kv => !moved eb0 en0 eb en kv.1) } }
      let s2 := ((s1.setFld .QMG_VFWQ_BASE wb v).setFld .QMG_VFWQ_COUNT wn v).setFld .QMG_VFCQ_BASE cb v
      let s3 := ((s2.setFld .QMG_VFCQ_COUNT cn v).setFld .QMG_VFEQ_BASE eb v).setFld .QMG_VFEQ_COUNT en v
      (s3.setFld .QMG_VFRGN_QUOTA quota v).adminEnd c 0

/-! ## Regions (R204 to R217) -/

/-- The admin engine works on the alias's tables (R548). -/
def State.asel (s : State) : Bool := s.flag .MIR_CTL_ASEL && s.mir.twin == .solo

/-- The 32-byte region descriptor (R207) with a CHECK field. -/
def Region.bytes (g : Region) (check : Nat) : List Byte :=
  let st := match g.st with | .free => 0 | .valid => 1 | .revoking => 2
  leBytes 8 g.base ++ leBytes 8 g.pages ++ leBytes 2 g.asid ++ leBytes 1 st ++ leBytes 1 g.gen ++ leBytes 1 g.rights ++
  leBytes 1 g.pkey ++ leBytes 1 g.func ++ zeros 1 ++ leBytes 4 check ++ zeros 4

/-- A REGION record (R528). -/
def State.recRegion (s : State) (i : Nat) : State := s.record 1 (leBytes 4 i ++ (s.region i).bytes (s.region i).check)

/-- A command on a region ends: its completion waits until its change is protected (R529). -/
def State.regionEnd (s : State) (c : AdminCmd) (r0 : Nat) : State :=
  s.adminCplProt c.func { cid := c.raw.cid, status := 0, r0 := r0 % 2 ^ 32 }

/-- The regions of a VF that count against its quota. -/
def State.quotaUsed (s : State) (f : Nat) : Nat :=
  s.tgt.regions.countP (fun kv => kv.1 < 2 ^ 24 && kv.2.st != .free && kv.2.func == f)

/-- REGISTER_REGION (R204 to R206). -/
def State.cmdRegisterRegion (s : State) (c : AdminCmd) : State :=
  let r := c.raw
  let o := r.object
  let i := tableKey s.asel o
  let size := r.at_ 16 8
  let check := r.at_ 28 4
  let g := s.region i
  if !s.gddrReady then s.adminEnd c sStateConflict
  else match firstFail [(decide (2 ^ 24 ≤ o), sInvalidObject), (!r.onlyBytes [(8, 24)], sInvalidField),
      (s.objBusy [0x12] i, sBusy),
      (r.at_ 8 8 % 4096 != 0 || size == 0 || size % 4096 != 0 || decide (2 ^ 48 < size) || decide (32 ≤ r.at_ 26 1) ||
        decide (16 ≤ r.at_ 27 1) || check == 0 || g.lastCheck == some check, sInvalidField),
      (g.st != .free || (c.func != 0 && decide (s.fld .QMG_VFRGN_QUOTA c.func ≤ s.quotaUsed c.func)), sStateConflict)] with
    | some st => s.adminEnd c st
    | none =>
      let n : Region := { g with base := r.at_ 8 8, pages := size / 4096 - 1, asid := r.at_ 24 2, st := .valid, rights := r.at_ 26 1,
                                 pkey := r.at_ 27 1, func := c.func, check := check, lastCheck := some check, inflight := 0 }
      ((s.modRegion i (fun _ => n)).recRegion i).regionEnd c (o + 2 ^ 24 * g.gen)

/-- A region enters REVOKING (R213, R320). -/
def State.revokeStart (s : State) (i : Nat) (who : Option (Nat × Nat)) : State :=
  let g := s.region i
  let s1 := (s.modRegion i (fun g => { g with st := .revoking, revoke := who, recorded := g.inflight })).recRegion i
  if bitAt g.rights 4 then s1.recallRegion i else s1

/-- REVOKE_REGION (R209, R213, R215). -/
def State.cmdRevokeRegion (s : State) (c : AdminCmd) : State :=
  let r := c.raw
  let i := tableKey s.asel r.object
  let g := s.region i
  match preCheck c false s.gddrReady [(8, 1)] with
  | some st => s.adminEnd c st
  | none =>
    match firstFail [(decide (2 ^ 24 ≤ r.object) || (c.func != 0 && g.func != c.func), sInvalidObject), (s.objBusy [0x12] i, sBusy),
        (g.st != .valid || r.at_ 8 1 != g.gen, sStateConflict)] with
    | some st => s.adminEnd c st
    | none => (s.startB { func := c.func, cid := r.cid, op := 0x12, obj := i, start := s.tick }).revokeStart i (some (c.func, r.cid))

/-- The flush of a region that is being revoked begins, once, when its accepted packets have finished and its lease entries are freed
(R213, R320): a range invalidation of its ASID (R370). -/
def State.revokeFlush (s : State) (i : Nat) : State :=
  let g := s.region i
  if g.st = .revoking ∧ g.inflight = 0 ∧ s.regionLeases i = [] ∧ g.flush = none then
    (s.xltDiscard g.func false g.asid g.base g.size).2.modRegion i (fun g => { g with flush := some s.xlt.next })
  else s

/-- The flush of a region has begun, and what it waits for has ended (R369). -/
def State.flushed (s : State) (i : Nat) : Bool := match (s.region i).flush with | some id => !s.xltWaits id | none => false

/-- The flush of a region that is being revoked begins or ends; at its end the generation increments, the region is FREE, and the command
completes (R85, R213, R216, R217, R369, R370). -/
def State.revokeDone (s0 : State) (i : Nat) : State :=
  let s := s0.revokeFlush i
  let g := s.region i
  if g.st = .revoking ∧ s.flushed i = true then
    let gen := if g.gen = 255 then 1 else g.gen + 1
    let s2 := (s.modRegion i (fun g => { g with st := .free, gen := gen, revoke := none, flush := none })).recRegion i
    if g.revoke.isSome then s2.endBProt (fun b => b.op == 0x12 && b.obj == i) 0 gen (min (2 ^ 32 - 1) g.recorded) else s2
  else s

/-- QUERY_REGION (R208, R209). -/
def State.cmdQueryRegion (s : State) (c : AdminCmd) : State :=
  let r := c.raw
  let i := tableKey s.asel r.object
  let g := s.region i
  let dump := r.at_ 8 8
  match preCheck c false s.gddrReady [(8, 8)] with
  | some st => s.adminEnd c st
  | none =>
    match firstFail [(decide (2 ^ 24 ≤ r.object) || (c.func != 0 && g.func != c.func), sInvalidObject), (s.objBusy [0x12] i, sBusy),
        (dump % 32 != 0, sInvalidField)] with
    | some st => s.adminEnd c st
    | none =>
      let s1 := if dump = 0 then s else s.write dump (g.bytes 0)
      let st := match g.st with | .free => 0 | .valid => 1 | .revoking => 2
      s1.adminEnd c 0 (st + 2 ^ 8 * g.gen + 2 ^ 16 * (g.rights % 32) + 2 ^ 24 * (g.pkey % 16)) (min (2 ^ 32 - 1) g.inflight)

/-! ## Window maps (R291 to R297) -/

/-- A map entry from its 16 bytes (R291), if it is one that MAP_WINDOW takes (R295). -/
def State.mapEntry (s : State) (l : List Byte) : Option WEnt :=
  let k := leAt l 0 8
  let w := leAt l 8 4
  let o := leAt l 12 4
  let e : WEnt := { key := k, coord := bits w 0 20, fast := bitAt w 21, nocache := bitAt w 22, roff := bits o 0 27 }
  if bitAt w 20 && bits w 23 9 == 0 && bits o 27 5 == 0 && s.valid e.coord && bits k 24 8 != 0 then some e else none

/-- The entries of a source array, if each may be mapped. -/
def State.mapEntries (s : State) : Nat → Nat → Option (List WEnt)
  | _, 0 => some []
  | a, n + 1 =>
    match s.mapEntry (s.read a 16), s.mapEntries (a + 16) n with
    | some e, some t => some (e :: t)
    | _, _ => none

/-- The 16 bytes of a map entry (R291). -/
def WEnt.bytes (e : WEnt) : List Byte :=
  leBytes 8 e.key ++ leBytes 4 (e.coord + 2 ^ 20 + 2 ^ 21 * b2n e.fast + 2 ^ 22 * b2n e.nocache) ++ leBytes 4 e.roff

/-- A MAPENT record of a mirrored entry (R528); an invalid entry is 16 bytes of 0. -/
def State.recMap (s : State) (n : Nat) : State :=
  if s.mirMap n then
    s.record 4 (leBytes 4 n ++ (match mget s.win.map n with | some e => e.bytes | none => zeros 16))
  else s

/-- Map entries written in ascending order (R296). -/
def State.mapPut (s : State) : Nat → List WEnt → State
  | _, [] => s
  | n, e :: t => (({ s with win := { s.win with map := mset s.win.map n e } } : State).recMap n).mapPut (n + 1) t

/-- A range of entries meets one that an UNMAP_WINDOW still works on. -/
def State.mapBusy (s : State) (first n : Nat) : Bool := s.win.unmaps.any (fun u => rangesMeet first n u.first u.count)

/-- MAP_WINDOW (R295, R296, R535). -/
def State.cmdMapWindow (s : State) (c : AdminCmd) (rd : ReadStatus) : State :=
  let r := c.raw
  let first := r.object
  let n := r.at_ 16 4
  let src := r.at_ 8 8
  match firstFail [(c.func != 0, sNotPermitted), (!s.gddrReady, sStateConflict), (decide (2 ^ 24 < first + n), sInvalidObject),
      (!r.onlyBytes [(8, 12)] || n == 0 || decide (65536 < n) || src % 16 != 0, sInvalidField),
      (s.mapBusy first n, sBusy), (rd != .ok, sDmaError)] with
  | some st => (if st = sDmaError then s.poisonRx rd else s).adminEnd c st
  | none =>
    match s.mapEntries src n with
    | none => s.adminEnd c sInvalidField
    | some l =>
      if s.win.map.any (fun kv => inRange first n kv.1) || s.meetsTwin TwinParams.mapBase TwinParams.mapCount first n then
        s.adminEnd c sStateConflict
      else (s.mapPut first l).adminCplProt c.func { cid := r.cid, status := 0, r0 := n }

/-- The entries of a range made invalid in ascending order (R297). -/
def State.mapDrop (s : State) (l : List Nat) : State :=
  l.foldl (fun t n => ({ t with win := { t.win with map := mdel t.win.map n } } : State).recMap n) s

/-- UNMAP_WINDOW (R295, R297, R535): it completes when the accesses that used its entries are over. -/
def State.cmdUnmapWindow (s : State) (c : AdminCmd) : State :=
  let r := c.raw
  let first := r.object
  let n := r.at_ 16 4
  match firstFail [(c.func != 0, sNotPermitted), (!s.gddrReady, sStateConflict), (decide (2 ^ 24 < first + n), sInvalidObject),
      (!r.onlyBytes [(16, 4)] || n == 0 || decide (65536 < n), sInvalidField), (s.mapBusy first n, sBusy),
      (s.meetsTwin TwinParams.mapBase TwinParams.mapCount first n, sStateConflict)] with
  | some st => s.adminEnd c st
  | none =>
    let ids := s.win.blk.flatMap (fun kv => (kv.2.items.filter (fun i => inRange first n i.entNo)).map WItem.id)
    let gone := (s.win.map.filter (fun kv => inRange first n kv.1)).map Prod.fst
    let s1 := s.mapDrop gone
    { s1 with win := { s1.win with unmaps := s1.win.unmaps ++ [{ func := c.func, cid := r.cid, first := first, count := n, ids := ids }] } }

/-- An UNMAP_WINDOW whose accesses are over completes (R297). -/
def State.unmapDone (s : State) (first : Nat) : State :=
  match s.win.unmaps.find? (fun u => u.first == first) with
  | none => s
  | some u =>
    let live := s.win.blk.flatMap (fun kv => kv.2.items.map WItem.id)
    if u.ids.any (fun i => live.contains i) then s
    else
      let s1 : State := { s with win := { s.win with unmaps := s.win.unmaps.filter (fun v => v.first != first) } }
      s1.adminCplProt u.func { cid := u.cid, status := 0, r0 := u.count, b := true }

/-! ## Translations (R367 to R370) -/

/-- An INVALIDATE_XLT of a function is in progress that this one may not join (R367). -/
def State.invalBusy (s : State) (f : Nat) (all : Bool) (asid : Nat) : Bool :=
  s.xlt.invals.any (fun x => x.func == f && (all || x.all || x.asid == asid))

/-- INVALIDATE_XLT (R367 to R369). -/
def State.cmdInvalidateXlt (s : State) (c : AdminCmd) : State :=
  let r := c.raw
  let o := r.object
  let asid := bits o 0 16
  let all := bitAt o 31
  let va := r.at_ 8 8
  let len := r.at_ 16 8
  match preCheck c false s.poolReady [(8, 16)] with
  | some st => s.adminEnd c st
  | none =>
    match firstFail [(bits o 16 15 != 0, sInvalidField), (all && (asid != 0 || va != 0 || len != 0), sInvalidField),
        (va % 4096 != 0 || len % 4096 != 0 || (len == 0 && va != 0) || decide (2 ^ 57 < va + len), sInvalidField),
        (s.invalBusy c.func all asid, sBusy)] with
    | some st => s.adminEnd c st
    | none =>
      let d := s.xltDiscard c.func all asid va len
      let x : Inval := { id := s.xlt.next, func := c.func, cid := r.cid, all := all, asid := asid, count := d.1 }
      { d.2 with xlt := { d.2.xlt with invals := d.2.xlt.invals ++ [x] } }

/-- An INVALIDATE_XLT whose accesses and walks are over completes (R367, R369). -/
def State.invalDone (s : State) (id : Nat) : State :=
  match s.xlt.invals.find? (fun x => x.id == id) with
  | none => s
  | some x =>
    if s.xltWaits x.id then s
    else
      let s1 : State := { s with xlt := { s.xlt with invals := s.xlt.invals.filter (fun y => y.id != id) } }
      s1.adminCpl x.func { cid := x.cid, status := 0, r0 := min (2 ^ 32 - 1) x.count, b := true }

/-! ## Collective contexts (R383 to R386) -/

/-- The parameters of COLL_SETUP keep R383 and R384. -/
def collParamsOk (r : Raw) : Bool :=
  let kind := r.at_ 24 1
  let op := bits (r.at_ 25 1) 0 4
  let ty := bits (r.at_ 25 1) 4 2
  let n := r.at_ 26 1
  r.at_ 8 8 % 4 == 0 && decide (1 ≤ r.at_ 16 4) && decide (r.at_ 16 4 ≤ 104976) && decide (kind < 4) &&
  decide (r.at_ 25 1 < 64) && decide (r.at_ 27 1 < 8) && r.at_ 28 4 != 0 && r.at_ 32 8 % 8 == 0 && decide (r.at_ 40 4 ≤ 104975) &&
  decide (r.at_ 58 1 < 64) &&
  (if kind = 0 then decide (op ≤ 5) && decide (ty ≤ 2) && (decide (op < 3) || ty == 0) && decide (1 ≤ n) && decide (n ≤ 32)
   else op == 0 && ty == 0 && n == 0) &&
  (if kind = 3 then r.at_ 52 6 % 8 == 0 else r.at_ 44 8 == 0 && r.at_ 52 6 == 0)

/-- The member list of a COLL_SETUP. -/
def State.memberList (s : State) : Nat → Nat → List Nat
  | _, 0 => []
  | a, n + 1 => leNat (s.read a 4) % 2 ^ 20 :: s.memberList (a + 4) n

/-- A list of numbers rises strictly. -/
def rising : List Nat → Bool
  | [] => true
  | x :: t => (match t with | y :: _ => decide (x < y) | [] => true) && rising t

/-- COLL_SETUP (R383, R384): the context is derived and set when the command completes. -/
def State.cmdCollSetup (s : State) (c : AdminCmd) (rd : ReadStatus) : State :=
  let r := c.raw
  let k := r.object
  let l := s.memberList (r.at_ 8 8) (r.at_ 16 4)
  let root := r.at_ 20 4 % 2 ^ 20
  match firstFail [(c.func != 0, sNotPermitted),
      (!s.fwReady || (s.ctx k).st == .set || (s.ctx k).st == .teardown, sStateConflict), (decide (4096 ≤ k), sInvalidObject),
      (s.objBusy [0x28] k, sBusy), (!r.onlyBytes [(8, 51)] || !collParamsOk r, sInvalidField), (rd != .ok, sDmaError),
      (!rising l || !l.all s.valid || !l.contains s.own || !l.contains root, sInvalidField),
      (r.at_ 24 1 == 3 && s.col.any (fun kv => kv.1 != k && kv.2.st != .free && kv.2.kind == 3 &&
        kv.2.root == root && kv.2.ckey == r.at_ 44 8 && kv.2.coff == r.at_ 52 6), sInvalidField)] with
  | some st => (if st = sDmaError then s.poisonRx rd else s).adminEnd c st
  | none =>
    let x : ColCtx := { st := .setting, kind := r.at_ 24 1, operator := bits (r.at_ 25 1) 0 4, type := bits (r.at_ 25 1) 4 2,
                        nelem := r.at_ 26 1, tclass := r.at_ 27 1, setupId := r.at_ 28 4, lossAddr := r.at_ 32 8,
                        lossCap := r.at_ 40 4, ckey := r.at_ 44 8, coff := r.at_ 52 6, useFunc := r.at_ 58 1, root := root,
                        parent := (treeParent l root s.own).getD nullCoord, members := l, children := treeChildren l root s.own }
    (s.modCtx k (fun _ => x)).startB { func := c.func, cid := r.cid, op := 0x28, obj := k, start := s.tick }

/-- A COLL_SETUP completes: its context is SET (R384). -/
def State.collSetupDone (s : State) (k : Nat) : State :=
  let x := s.ctx k
  if x.st = .setting then
    (s.modCtx k (fun c => { c with st := .set })).endB (fun b => b.op == 0x28 && b.obj == k) 0
      (x.children.length + 128 * b2n (x.root == s.own)) x.parent
  else s

/-- COLL_TEARDOWN (R386): what is pending ends, and the queues that wait for room in the context return. -/
def State.cmdCollTeardown (s : State) (c : AdminCmd) : State :=
  let k := c.raw.object
  match firstFail [(c.func != 0, sNotPermitted), (!s.gddrReady, sStateConflict), (!c.raw.onlyBytes [], sInvalidField),
      (decide (4096 ≤ k), sInvalidObject), (s.objBusy [0x28, 0x29] k, sBusy), ((s.ctx k).st != .set, sStateConflict)] with
  | some st => s.adminEnd c st
  | none =>
    let s1 := ((s.pendingLost k s.own false).batchFail k).unpark (fun r => r == .inst k)
    (s1.modCtx k (fun c => { c with st := .teardown })).startB
      { func := c.func, cid := c.raw.cid, op := 0x29, obj := k, start := s.tick }

/-- A teardown whose last merged request is settled completes, once its pending instances have completed: the context is FREE (R386). -/
def State.collTeardownDone (s : State) (k : Nat) : State :=
  let x := s.ctx k
  if x.st = .teardown ∧ x.flight = [] ∧ x.insts = [] then
    (({ s with col := mdel s.col k } : State).endB (fun b => b.op == 0x29 && b.obj == k) 0)
  else s

/-! ## Pistes (R468 to R476) -/

/-- The coordinates that a path reaches from `at_`, hop by hop; none when a hop breaks R468. `dim` is the least dimension
still allowed and `n` the hops made in it. -/
def pathEnd (sh dest : Nat) : List (Nat × Nat) → Nat → Nat → Nat → Option Nat
  | [], at_, _, _ => some at_
  | (d, x) :: t, at_, dim, n =>
    let m := if d = dim then n + 1 else 1
    if d < dim ∨ shapeDim sh d ≤ x ∨ digit at_ d = x ∨ 2 < m then none
    else if m = 2 ∧ x ≠ digit dest d then none
    else pathEnd sh dest t (setDigit at_ d x) d m

/-- The path of a PISTE_SETUP with HOPS above 0: each hop's dimension and digit. -/
def givenPath (r : Raw) (hops : Nat) : List (Nat × Nat) :=
  (List.range hops).map (fun i => (bits (r.at_ (16 + i) 1) 0 2, bits (r.at_ (16 + i) 1) 2 5))

/-- The path that the steward chooses (R469), if there is one. -/
def State.choosePath (s : State) (dest : Nat) : Option (List (Nat × Nat)) :=
  [0, 1, 2, 3].foldl (fun acc d =>
    let a := digit s.own d
    let x := digit dest d
    match acc with
    | none => none
    | some l =>
      if a = x then some l
      else if s.lineUp d a x then some (l ++ [(d, x)])
      else match (List.range 18).find? (fun m => m != a && m != x && s.lineUp d a m && s.lineUp d m x) with
        | some m => some (l ++ [(d, m), (d, x)])
        | none => none) (some [])

/-- PISTE_SETUP (R468 to R471): the origin reserves its share and sends the setup packet. -/
def State.cmdPisteSetup (s : State) (c : AdminCmd) : State :=
  let r := c.raw
  let n := r.object
  let dest := r.at_ 8 4
  let share := r.at_ 12 1
  let hops := r.at_ 13 1
  let bytesOk := (List.range 8).all (fun i => if i < hops then decide (r.at_ (16 + i) 1 < 128) else r.at_ (16 + i) 1 == 0)
  let path : Option (List (Nat × Nat)) := if hops = 0 then s.choosePath dest else some (givenPath r hops)
  match firstFail [(c.func != 0, sNotPermitted), (!s.fwReady || (mget s.rte.pistes n).isSome, sStateConflict),
      (decide (256 ≤ n), sInvalidObject),
      (!r.onlyBytes [(8, 7), (16, 8)] || !s.valid dest || dest == s.own || share == 0 || decide (224 < share) || decide (8 < hops) || decide (64 ≤ r.at_ 14 1) ||
        !bytesOk, sInvalidField),
      ((match path with | some l => pathEnd (s.rdRaw .GEN_SHAPE) dest l s.own 0 0 != some dest | none => true), sInvalidField)] with
  | some st => s.adminEnd c st
  | none =>
    let l := path.getD []
    match l with
    | [] => s.adminEnd c sInvalidField
    | (d, x) :: _ =>
      match s.pistePort d x share with
      | none => s.adminEnd c sNoResource s.own
      | some p =>
        let ps : Piste := { st := 1, hops := l.length, dest := dest, func := r.at_ 14 1, share := share, outPort := p, path := l,
                            since := s.tick }
        let pb := l.flatMap (fun h => leBytes 1 (h.1 + 4 * h.2))
        let s1 := ({ s with rte := { s.rte with pistes := mset s.rte.pistes n ps } } : State).startB
          { func := c.func, cid := r.cid, op := 0x30, obj := n, start := s.tick }
        s1.sendCtl p 0x81 (pisteId s.own n ++ leBytes 1 share ++ leBytes 1 l.length ++ leBytes 1 1 ++ pb ++ zeros (16 - l.length))

/-- PISTE_TEARDOWN (R476): a teardown mark follows the packets already sent; a broken piste is freed at once. -/
def State.cmdPisteTeardown (s : State) (c : AdminCmd) : State :=
  let n := c.raw.object
  match firstFail [(c.func != 0, sNotPermitted), (!s.gddrReady, sStateConflict), (!c.raw.onlyBytes [], sInvalidField),
      (decide (256 ≤ n), sInvalidObject), (s.objBusy [0x30, 0x31] n, sBusy)] with
  | some st => s.adminEnd c st
  | none =>
    match mget s.rte.pistes n with
    | none => s.adminEnd c sStateConflict
    | some ps =>
      if ps.st = 3 then ({ s with rte := { s.rte with pistes := mdel s.rte.pistes n } } : State).adminEnd c 0
      else if ps.st ≠ 2 then s.adminEnd c sStateConflict
      else
        let s1 := ({ s with rte := { s.rte with pistes := mset s.rte.pistes n { ps with st := 4, since := s.tick } } } : State).startB
          { func := c.func, cid := c.raw.cid, op := 0x31, obj := n, start := s.tick }
        s1.sendReq (.pmark n) { dest := ps.dest, ptype := 0x0B } false (some n)

/-- A setup without an answer for 10 ms fails (R470). -/
def State.pisteSetupLate (s : State) (n : Nat) : State :=
  match mget s.rte.pistes n with
  | some ps =>
    if ps.st = 1 ∧ ps.since + 10000000 ≤ s.tick then
      ({ s with rte := { s.rte with pistes := mdel s.rte.pistes n } } : State).endB (fun b => b.op == 0x30 && b.obj == n) sTimeout
    else s
  | none => s

/-- A teardown without its answer for 10 ms ends (R476). -/
def State.pisteTeardownLate (s : State) (n : Nat) : State :=
  match mget s.rte.pistes n with
  | some ps => if ps.st = 4 ∧ ps.since + 10000000 ≤ s.tick then s.pisteGone n sTimeout else s
  | none => s

/-! ## Locks (R415, R416) -/

/-- Lock words set FREE or DISABLED with flags 0 (R415). -/
def State.lockRange (s : State) (on : Bool) : Nat → Nat → State
  | _, 0 => s
  | k, n + 1 =>
    let l := s.lock k
    let s1 := s.setLock k { l.freed with st := if on then .free else .disabled, aband := false, forced := false }
    s1.lockRange on (k + 1) n

/-- The words of a range all meet a state: DISABLED words may be unlisted. -/
def State.lockRangeIs (s : State) (first n : Nat) (st : LkState) : Bool :=
  let l := s.lck.words.filter (fun kv => inRange first n kv.1)
  l.all (fun kv => kv.2.st == st) && (st == .disabled || l.length == n)

/-- LOCK_CONFIG (R415). -/
def State.cmdLockConfig (s : State) (c : AdminCmd) : State :=
  let r := c.raw
  let first := r.object % 2 ^ 24
  let n := r.at_ 8 4
  let on := bitAt (r.at_ 12 1) 0
  match firstFail [(c.func != 0, sNotPermitted), (!s.gddrReady, sStateConflict), (decide (2 ^ 24 < first + n), sInvalidObject),
      (n == 0 || decide (2 ^ 24 ≤ r.object) || decide (2 ≤ r.at_ 12 1) || !r.onlyBytes [(8, 5)], sInvalidField),
      (!s.lockRangeIs (tableKey s.asel first) n (if on then .disabled else .free), sStateConflict)] with
  | some st => s.adminEnd c st
  | none => (s.lockRange on (tableKey s.asel first) n).adminEnd c 0

/-- LOCK_FORCE_RELEASE (R416). -/
def State.cmdLockForceRelease (s : State) (c : AdminCmd) : State :=
  let r := c.raw
  let k := tableKey s.asel (r.object % 2 ^ 24)
  let l := s.lock k
  match firstFail [(c.func != 0, sNotPermitted), (!s.gddrReady, sStateConflict),
      (decide (2 ^ 24 ≤ r.object) || !r.onlyBytes [], sInvalidField), (l.st != .held, sStateConflict)] with
  | some st => s.adminEnd c st
  | none => ((s.bump .LCK_FORCE_COUNT).lockPass k { l with forced := true }).adminEnd c 0 l.owner (l.wq + 2 ^ 18 * l.func)

end Sys2Proof.Machine
end

