-- ==== Sys2Proof/Machine/Transit.lean ====
section
/-! DEFINITION. The commands of routing and control (11 R441 to R476, 10 R430 to R432, 13 R542, R543): packets in transit,
control packets, and their timers. -/

namespace Sys2Proof.Machine

/-- A fabric port hands packets to the crossbar: it is trained, and the device is not in the safe state (R609). -/
def State.portIn (s : State) (p : Nat) : Bool := decide (p < 72) && (s.port p).routable && !s.flt.safe

/-- A packet from a neighbour at its input queue, routed as far as it can be (R444 to R458, R467); a control packet goes to the control
stop (R461), and one whose type or lengths are not of its table is discarded (R513). -/
def State.transit (s : State) (p : Nat) (k : Pkt) : State :=
  if !s.portIn p then s
  else if !k.legal then s.badPkt p
  else
    let i : InPkt := { pkt := k, port := p, rx := s.tick, delay := s.fld .FLK_PDELAY_DELAY p, at_ := s.tick }
    (if k.vc = 6 then s.pistePkt (inKey p 6) i else s.arrive (inKey p k.vc) i).settle

/-- TRANSIT_PACKET (R444). -/
def execTransitPacket (p : Nat) (pkt : Pkt) (s : State) : Host.Outcome State Fault Refusal := .next (s.transit p pkt)

/-- The head packet of an input queue routed again once it has waited ESCWAIT (R446). -/
def State.escwait (s : State) (p vc : Nat) : State :=
  match mgetD s.rte.inq (inKey p vc) [] with
  | i :: _ => if i.at_ + s.fld .RTE_CTL_ESCWAIT ≤ s.tick then (s.routeKey (inKey p vc)).settle else s
  | [] => s

/-- ESCWAIT_EXPIRE (R446). -/
def execEscwaitExpire (p vc : Nat) (s : State) : Host.Outcome State Fault Refusal := .next (s.escwait p vc)

/-- A control packet of a type at the control stop, dropped where its buffer is full (R461); one whose lengths are not of its type is
discarded (R513). -/
def State.control (s : State) (t p : Nat) (k : Pkt) : State :=
  if !s.portIn p || k.ptype != t then s
  else if !k.legal then s.badPkt p
  else if s.ctlFull then s
  else (s.ctlIn p k).settle

/-- LNOTICE (R442). -/
def execLnotice (p : Nat) (pkt : Pkt) (s : State) : Host.Outcome State Fault Refusal := .next (s.control 0x80 p pkt)
/-- PSETUP (R471). -/
def execPsetup (p : Nat) (pkt : Pkt) (s : State) : Host.Outcome State Fault Refusal := .next (s.control 0x81 p pkt)
/-- PCONFIRM (R471). -/
def execPconfirm (p : Nat) (pkt : Pkt) (s : State) : Host.Outcome State Fault Refusal := .next (s.control 0x82 p pkt)
/-- PREJECT (R471). -/
def execPreject (p : Nat) (pkt : Pkt) (s : State) : Host.Outcome State Fault Refusal := .next (s.control 0x83 p pkt)
/-- PBREAK (R475). -/
def execPbreak (p : Nat) (pkt : Pkt) (s : State) : Host.Outcome State Fault Refusal := .next (s.control 0x84 p pkt)
/-- LPROBE (R430). -/
def execLprobe (p : Nat) (pkt : Pkt) (s : State) : Host.Outcome State Fault Refusal := .next (s.control 0x85 p pkt)
/-- LANSWER (R430, R432). -/
def execLanswer (p : Nat) (pkt : Pkt) (s : State) : Host.Outcome State Fault Refusal := .next (s.control 0x86 p pkt)
/-- ORESET (R432). -/
def execOreset (p : Nat) (pkt : Pkt) (s : State) : Host.Outcome State Fault Refusal := .next (s.control 0x87 p pkt)
/-- ALIAS (R543). -/
def execAliasPkt (p : Nat) (pkt : Pkt) (s : State) : Host.Outcome State Fault Refusal := .next (s.control 0x88 p pkt)

/-- LNOTICE_REFRESH: every 100,000 ticks (R443). -/
def execLnoticeRefresh (s : State) : Host.Outcome State Fault Refusal :=
  .next (if s.rte.lastRefresh + 100000 ≤ s.tick then s.lnoticeAll.settle else s)

/-- PISTE_SETUP_TIMEOUT (R470). -/
def execPisteSetupTimeout (n : Nat) (s : State) : Host.Outcome State Fault Refusal := .next (s.pisteSetupLate n)

/-- PISTE_TEARDOWN_TIMEOUT (R476). -/
def execPisteTeardownTimeout (n : Nat) (s : State) : Host.Outcome State Fault Refusal := .next (s.pisteTeardownLate n)

/-- Notices that are due go again to the neighbours that have not answered; those that are over end (R432). -/
def State.oresetRepeat (s : State) : State :=
  let due (n : Oreset) : Bool := decide (n.last + 10000 ≤ s.tick) && decide (s.tick < n.first + 100000)
  let l := s.lck.notices.filter due
  let s1 : State := { s with lck := { s.lck with
    notices := s.lck.notices.map (fun (n : Oreset) => if due n then { n with last := s.tick } else n) } }
  ((l.foldl (fun t n => t.sendOreset n) s1).endNotices).settle

/-- ORESET_REPEAT (R432). -/
def execOresetRepeat (s : State) : Host.Outcome State Fault Refusal := .next s.oresetRepeat

/-- A liveness probe unanswered for LCK_DEADWIN.WIN ticks: the peer is declared dead (R430). -/
def State.livenessLate (s : State) (dg : Nat) : State :=
  match mget s.lck.probes dg with
  | some (_, t) =>
    if t + s.fld .LCK_DEADWIN_WIN ≤ s.tick then
      (({ s with lck := { s.lck with probes := mdel s.lck.probes dg } } : State).peerDead (setDigit s.own 0 dg) none 0).settle
    else s
  | none => s

/-- LIVENESS_TIMEOUT (R430). -/
def execLivenessTimeout (dg : Nat) (s : State) : Host.Outcome State Fault Refusal := .next (s.livenessLate dg)

/-- The interval at which the holder's announcements go (R542). -/
def State.aliasInterval (s : State) : Nat := if s.tick < s.rte.annFirst + 1000000 then 100000 else 1000000

/-- The holder's announcement falls due (R542): SET for as long as it holds the alias, a clear for 1,000,000 ticks. -/
def State.aliasDue (s : State) : State :=
  match s.rte.annSet with
  | some on =>
    if !on && decide (s.rte.annFirst + 1000000 ≤ s.tick) then { s with rte := { s.rte with annSet := none } }
    else if s.rte.annLast + s.aliasInterval ≤ s.tick then
      (({ s with rte := { s.rte with annLast := s.tick } } : State).sendAlias s.rte.annDigit on).settle
    else s
  | none => s

/-- ALIAS_REPEAT (R542). -/
def execAliasRepeat (s : State) : Host.Outcome State Fault Refusal := .next s.aliasDue

/-- ALIASED ends 3,000,000 ticks after the latest SET (R543). -/
def State.aliasedEnd (s : State) : State :=
  match s.mir.aliasedAt with
  | some t => if t + 3000000 ≤ s.tick then (({ s with mir := { s.mir with aliasedAt := none } } : State).wakeTags).settle else s
  | none => s

/-- ALIASED_TIMEOUT (R543). -/
def execAliasedTimeout (s : State) : Host.Outcome State Fault Refusal := .next s.aliasedEnd

end Sys2Proof.Machine
end

