-- ==== Sys2Proof/Machine/Training.lean ====
section
/-! DEFINITION. Port training (12_fabric_links R482 to R487, R506 to R510, R669): the states of a port, the training exchange of
its lanes, spares, and the loss and return of a port. Training frames are sent without a break; the model sends one frame on
each lane whenever what the frames carry changes. -/

namespace Sys2Proof.Machine

/-! ## Lanes -/

/-- The lanes that a port is configured with, by logical index (R436). -/
def State.confLanes (s : State) (p : Nat) : List Nat := numsFrom p (2 ^ s.fld .RTE_PORT_WIDTH p)

/-- A lane's training exchange. -/
def State.lane (s : State) (l : Nat) : LaneSt := mgetD s.lnk.lanes l {}
/-- A lane's training exchange changed. -/
def State.modLane (s : State) (l : Nat) (f : LaneSt → LaneSt) : State :=
  { s with lnk := { s.lnk with lanes := mset s.lnk.lanes l (f (s.lane l)) } }

/-- A port of width code `w` at lane `p` keeps R436. -/
def portFits (p w : Nat) : Bool := decide (w < 3) && p % 2 ^ w == 0 && p / 8 == (p + 2 ^ w - 1) / 8

/-- A lane lies in an enabled port (R506). -/
def State.inEnabled (s : State) (l : Nat) : Bool :=
  (List.range 72).any (fun p => s.flag .RTE_PORT_EN p && decide (p ≤ l) && decide (l < p + 2 ^ s.fld .RTE_PORT_WIDTH p))

/-- The lanes of a port of width code `w` at lane `p` meet those of another enabled port. -/
def State.lanesOverlap (s : State) (p w : Nat) : Bool :=
  (List.range 72).any (fun q => q != p && s.flag .RTE_PORT_EN q && rangesMeet p (2 ^ w) q (2 ^ s.fld .RTE_PORT_WIDTH q))

/-- The lane is a spare (R506). -/
def State.isSpare (s : State) (l : Nat) : Bool := s.flag .FLK_LANECTL_SPARE l && !s.inEnabled l

/-- The port whose present lane set holds a lane, and the lane's logical index. -/
def State.portOfLane (s : State) (l : Nat) : Option (Nat × Nat) :=
  (s.lnk.ports.find? (fun (kv : Nat × PortSt) => kv.2.lanes.contains l)).map (fun kv => (kv.1, kv.2.lanes.idxOf l))

/-- FLK_LANESTAT of the lanes of a list, which carry port `p` from logical index `i` upward. -/
def State.markLanes (s : State) (p : Nat) : Nat → List Nat → State
  | _, [] => s
  | i, l :: t => (((s.setFld .FLK_LANESTAT_INUSE 1 l).setFld .FLK_LANESTAT_PORT p l).setFld .FLK_LANESTAT_LIDX i l).markLanes p (i + 1) t

/-- FLK_LANESTAT of lanes that carry no port. -/
def State.clearLanes (s : State) (l : List Nat) : State :=
  l.foldl (fun t x => (((t.setFld .FLK_LANESTAT_INUSE 0 x).setFld .FLK_LANESTAT_PORT 0x7F x).setFld .FLK_LANESTAT_LIDX 0 x).setFld
    .FLK_LANESTAT_CWLOCK 0 x) s

/-- Lanes no longer kept out of their port (R510). -/
def State.clearBad (s : State) (l : List Nat) : State := l.foldl (fun t x => t.setFld .FLK_LANESTAT_BAD 0 x) s

/-! ## Training frames (R483, R487) -/

/-- The training control word of a lane. -/
def ctlWord (phase : Nat) (x : LaneSt) : Nat :=
  phase + b2n x.rxdone * 2 ^ 2 + x.myreq * 2 ^ 3 + b2n x.mytog * 2 ^ 17 + b2n x.reqtog * 2 ^ 18 + x.tapstat * 2 ^ 19

/-- The identity word of a lane of a port. -/
def State.identWord (s : State) (p lidx : Nat) : Nat :=
  s.own + s.dim 0 * 2 ^ 20 + s.dim 1 * 2 ^ 25 + s.dim 2 * 2 ^ 30 + s.dim 3 * 2 ^ 35 + (s.port p).awidth * 2 ^ 40 + lidx * 2 ^ 42 +
  p * 2 ^ 44 + s.fld .RTE_PORT_DIM p * 2 ^ 51 + s.fld .RTE_PORT_DIGIT p * 2 ^ 53

/-- A training frame on a lane. -/
def State.trainLane (s : State) (phase l ident : Nat) : State :=
  s.emit (.train l (ctlWord phase (s.lane l)) ident)

/-- A training frame on each lane of a port, from logical index `i` upward. -/
def State.trainFrom (s : State) (p phase : Nat) : Nat → List Nat → State
  | _, [] => s
  | i, l :: t => (s.trainLane phase l (s.identWord p i)).trainFrom p phase (i + 1) t

/-- A training frame on each lane of a port. -/
def State.trainPort (s : State) (p phase : Nat) : State := s.trainFrom p phase 0 (s.port p).lanes

/-- The lanes of a port fall silent. -/
def State.silence (s : State) (p : Nat) : State := (s.port p).lanes.foldl (fun t l => t.emit (.silent l)) s

/-! ## Taps (R484 to R486) -/

/-- The taps of a preset: preset 0 sets MAIN to 63/64; the others come from the site record. -/
def State.presetTaps (s : State) (n : Nat) : Nat := if n = 0 then 63 * 2 ^ 12 else s.lnk.presets.getD (n - 1) 0

/-- A tap's value in 1/64: MAIN (tap 2) unsigned, the others two's complement. -/
def tapVal (taps i : Nat) : Int :=
  let v := bits taps (6 * i) 6
  if i = 2 ∨ v < 32 then (v : Int) else (v : Int) - 64

/-- The taps with one of them set. -/
def setTap (taps i : Nat) (v : Int) : Nat := putBits taps (6 * i) 6 (v % 64).toNat

/-- A tap's range (R485). -/
def tapIn (i : Nat) (v : Int) : Bool := if i = 2 then decide (0 ≤ v) && decide (v ≤ 63) else decide (-16 ≤ v) && decide (v ≤ 31)

/-- The sum of the magnitudes of the five taps. -/
def tapSum (taps : Nat) : Nat := ((List.range 5).map (fun i => (tapVal taps i).natAbs)).sum

/-- A TAPREQ applied tap by tap, and its TAPSTAT (R483, R485). -/
def tapStep (req : Nat) : List Nat → Nat → Nat → Nat × Nat
  | [], taps, st => (taps, st)
  | i :: t, taps, st =>
    let q := bits req (2 * i) 2
    if q = 1 ∨ q = 2 then
      let v := tapVal taps i + (if q = 1 then 1 else -1)
      let n := setTap taps i v
      if tapIn i v && decide (tapSum n ≤ 64) then tapStep req t n (st + 4 ^ i)
      else tapStep req t taps (st + (if q = 1 then 3 else 2) * 4 ^ i)
    else tapStep req t taps st

/-- TAPSTAT of a preset: 1 for each tap that it changed. -/
def tapDiff (a b : Nat) : Nat := ((List.range 5).map (fun i => if bits a (6 * i) 6 = bits b (6 * i) 6 then 0 else 4 ^ i)).sum

/-- Taps within their ranges and their sum (R485). -/
def tapLegal (taps : Nat) : Bool := (List.range 5).all (fun i => tapIn i (tapVal taps i)) && decide (tapSum taps ≤ 64)

/-- A preset applied tap by tap: one that would leave its range or break the sum stays, at its limit (R485). -/
def presetStep (new : Nat) : List Nat → Nat → Nat → Nat × Nat
  | [], taps, st => (taps, st)
  | i :: t, taps, st =>
    let v := tapVal new i
    if v = tapVal taps i then presetStep new t taps st
    else if tapIn i v && decide (tapSum (setTap taps i v) ≤ 64) then presetStep new t (setTap taps i v) (st + 4 ^ i)
    else presetStep new t taps (st + (if tapVal taps i < v then 3 else 2) * 4 ^ i)

/-- A preset applied, and its TAPSTAT. DESIGN CHOICE (log 41): a preset of the record that R485 does not allow as a whole is applied tap by
tap in the order of TAPREQ. -/
def presetApply (old new : Nat) : Nat × Nat :=
  if tapLegal new then (new, tapDiff old new) else presetStep new (List.range 5) old 0

/-- A request for taps in a control word is applied if its REQTOG is new, and echoed (R484). -/
def State.tapRequest (s : State) (l ctl : Nat) : State :=
  let tog := bitAt ctl 17
  if tog = (s.lane l).reqtog then s
  else
    let old := s.fld .FLK_TAPS_TAPS l
    let r := if bitAt ctl 16 then presetApply old (s.presetTaps (bits ctl 13 3)) else tapStep (bits ctl 3 10) (List.range 5) old 0
    ((s.setFld .FLK_TAPS_TAPS r.1 l).modLane l (fun x => { x with reqtog := tog, tapstat := r.2 })).trainLane 0 l 0

/-- A request of the own receiver (R483, R484), which is free: a preset in bits [12:10] with bit 13, or an increase, a decrease or none
for each tap in bits [9:0]. -/
def ownRequest (n : Nat) : Nat :=
  if n % 2 = 0 then 2 ^ 13 + 2 ^ 10 * (n / 2 % 8) else ((List.range 5).map (fun i => n / 2 / 3 ^ i % 3 * 4 ^ i)).sum

/-- The own receiver adapts (R484): once the peer's ACKTOG matches its REQTOG it makes a new request or has finished; which of them is
its analogue matter, a free value. -/
def State.adapt (s : State) (l ctl : Nat) : State :=
  let x := s.lane l
  if x.rxdone || bitAt ctl 18 != x.mytog then s
  else
    let (n, s1) := s.fresh
    let v := Config.openNat n
    (s1.modLane l (fun y => if v % 2 = 0 then { y with rxdone := true } else { y with mytog := !y.mytog, myreq := ownRequest (v / 2) })).trainLane 0 l 0

/-- Lanes start at their presets (R486), which R485 bounds. -/
def State.startTaps (s : State) (l : List Nat) : State :=
  l.foldl (fun t x => (t.setFld .FLK_TAPS_TAPS (presetApply 0 (t.presetTaps (t.fld .FLK_LANECTL_PRESET x))).1 x).modLane x
    (fun y => { y with reqtog := false, tapstat := 0, mytog := false, myreq := 0, rxdone := false })) s

/-! ## States (R482) -/

/-- A port's state changed. -/
def State.portTo (s : State) (p st : Nat) : State := s.modPort p (fun ps => { ps with st := st, since := s.tick })

/-- A port trains on its configured lanes from DETECT (R482, R510). -/
def State.portDetect (s : State) (p : Nat) : State :=
  let l := s.confLanes p
  let s1 := s.modPort p (fun ps => { ps with lanes := l, awidth := s.fld .RTE_PORT_WIDTH p, identOk := [] })
  ((((s1.clearBad l).markLanes p 0 l).startTaps l).portTo p 1).trainPort p 0

/-- A port in OFF starts once it is enabled, its lane block is ready and R77 holds. -/
def State.portStart (s : State) (p : Nat) : State :=
  if (s.port p).st = 0 ∧ s.flag .RTE_PORT_EN p = true ∧ s.lbReady (p / 8) = true ∧ s.valid s.own = true then s.portDetect p else s

/-- Lanes that have become spares of a ready block train as such, and lanes that are spares no more stop (R507). -/
def State.spareSync (s : State) (l : List Nat) : State :=
  l.foldl (fun t x =>
    let y := t.lane x
    if t.isSpare x && t.lbReady (x / 8) then
      if y.sparing || (t.portOfLane x).isSome then t
      else ((t.startTaps [x]).modLane x (fun z => { z with sparing := true, standby := false })).trainLane 0 x 0
    else if y.sparing then t.modLane x (fun z => { z with sparing := false, standby := false }) else t) s

/-- The lanes of the lane block of a port. -/
def blockLanes (p : Nat) : List Nat := numsFrom (p / 8 * 8) 8

/-- The ports and spares of a lane block start (R77, R477, R507). -/
def State.blockStart (s : State) (b : Nat) : State :=
  if s.lbReady b then
    let l := numsFrom (8 * b) 8
    (l.foldl (fun t p => t.portStart p) s).spareSync l
  else s

/-- The spares that serve a port, or that went bad as they served it: those among its lanes, and those of its block cabled to its
neighbour that are BAD (R510). -/
def State.portSpares (s : State) (p : Nat) : List Nat :=
  (blockLanes p).filter (fun x => s.isSpare x && ((s.port p).lanes.contains x ||
    (s.flag .FLK_LANESTAT_BAD x && s.fld .FLK_LANECTL_SPDIM x == s.fld .RTE_PORT_DIM p &&
      s.fld .FLK_LANECTL_SPDIGIT x == s.fld .RTE_PORT_DIGIT p)))

/-- What a port's lanes do as it leaves its training states for DOWN, OFF or HELD: they carry it no more, and its spares return to standby
and send PHASE 3 frames again (R507, R510). -/
def State.portLanesEnd (s : State) (p : Nat) : State :=
  let l := (s.port p).lanes
  let sp := s.portSpares p
  let s1 := ((s.clearLanes l).clearBad sp).modPort p (fun ps => { ps with lanes := [], wasLanes := [], remedy := none, retrainMine := false })
  sp.foldl (fun t x => if t.lbReady (x / 8) then
    (t.modLane x (fun y => { y with sparing := true, standby := true })).trainLane 3 x 0 else t) s1

/-- A port goes DOWN (R482, R500): from UP or RETRAIN with all that the loss of a link entails. -/
def State.goDown (s : State) (p : Nat) : State :=
  let old := (s.port p).st
  let s1 := ((s.portLanesEnd p).portTo p 8).bump .FLK_PLINK_DOWNS p
  if old = 6 ∨ old = 7 then s1.portLost p else s1

/-- A port goes OFF: its lanes stop sending (R482). -/
def State.goOff (s : State) (p : Nat) : State :=
  let old := (s.port p).st
  let s1 := (((s.silence p).portLanesEnd p).clearBad (s.confLanes p)).portTo p 0
  if old = 6 ∨ old = 7 then s1.portLost p else s1

/-- A training limit passed: TRAINFAIL latched, TRAIN_FAIL sent, the port DOWN (R482, R669). -/
def State.trainFail (s : State) (p : Nat) : State :=
  ((s.latch .FLK_FLT_TRAINFAIL).raise (512 + p) 0x1005 (s.port p).st).goDown p

/-! ## Identity (R78, R487) -/

/-- The SHAPE of an identity word equals this device's. -/
def State.identShape (s : State) (w : Nat) : Bool :=
  bits w 20 5 == s.dim 0 && bits w 25 5 == s.dim 1 && bits w 30 5 == s.dim 2 && bits w 35 5 == s.dim 3

/-- The dimensions in which two coordinates differ. -/
def diffDims (a b : Nat) : List Nat := (List.range 4).filter (fun k => digit a k != digit b k)

/-- An identity word passes R487 on port `p`, given the logical indices taken by its other lanes. -/
def State.identPass (s : State) (p w : Nat) (taken : List Nat) : Bool :=
  let dim := s.fld .RTE_PORT_DIM p
  s.identShape w && diffDims (bits w 0 20) s.own == [dim] && bits w 53 5 == digit s.own dim && bits w 51 2 == dim &&
  bits w 40 2 == (s.port p).awidth && digit (bits w 0 20) dim == s.fld .RTE_PORT_DIGIT p &&
  decide (bits w 42 2 < (s.port p).lanes.length) && !taken.contains (bits w 42 2)

/-- A port enters DESKEW: codewords begin on its lanes, which carry IDLE flits (R479, R482). -/
def State.codewords (s : State) (p : Nat) : State :=
  let s1 := (s.portTo p 4).modPort p (fun ps => { ps with txNum := 0 })
  (numsFrom 0 (s1.port p).width).foldl (fun t _ => t.xmitKind p 0 (zeros 56)) s1

/-- The identity word of a lane in IDENT: once it has passed on every lane the port enters DESKEW; where it fails, the port
is HELD (R482, R487). `identOk` holds 4 × lane + LIDX. -/
def State.identIn (s : State) (p l w : Nat) : State :=
  let ps := s.port p
  let others := ps.identOk.filter (fun x => x / 4 != l)
  let s1 := s.modPort p (fun ps => { ps with peer := bits w 0 20 })
  if s.identPass p w (others.map (· % 4)) then
    let ok := (4 * l + bits w 42 2) :: others
    let s2 := s1.modPort p (fun ps => { ps with identOk := ok })
    if ok.length = ps.lanes.length then s2.codewords p else s2
  else
    let s2 := ((s1.silence p).portLanesEnd p).portTo p 9
    (s2.latch .FLK_FLT_MISMATCH).raise (512 + p) 0x1004 (bits w 0 20)

/-! ## The commands of training -/

/-- A write that sets RTE_PORT(p).EN (R436, R482): dropped with LOCKVIOL while the port is up and it would change a field, with
BADVAL where the port would break R436 or overlap another; a port that is HELD leaves for OFF. -/
def State.portEnable (s : State) (p w dim dg : Nat) : State :=
  let off := RegName.RTE_PORT.addr p
  let v := 1 + 2 * w + 8 * dim + 32 * dg
  if 72 ≤ p then s
  else if (s.port p).isUp && bits (s.rdRaw .RTE_PORT p) 0 10 != v % 2 ^ 10 then
    s.lockViol 0 off
  else if !portFits p w || s.lanesOverlap p w then s.accLog 4 true 0 0 off
  else
    let s1 := s.wrRaw .RTE_PORT p (putBits (s.rdRaw .RTE_PORT p) 0 10 v)
    let s2 := if (s1.port p).st = 9 then s1.portTo p 0 else s1
    (s2.portStart p).spareSync (blockLanes p)

/-- A write that clears RTE_PORT(p).EN (R482): dropped with LOCKVIOL while the port is up; else the port is OFF. -/
def State.portDisable (s : State) (p : Nat) : State :=
  let off := RegName.RTE_PORT.addr p
  if 72 ≤ p then s
  else if (s.port p).isUp && s.flag .RTE_PORT_EN p then s.lockViol 0 off
  else
    let s1 := s.setFld .RTE_PORT_EN 0 p
    (if (s1.port p).st = 0 then s1 else s1.goOff p).spareSync (blockLanes p)

/-- SIGNAL_DETECT: signal on every lane of a port in DETECT; each lane starts EQ at its preset (R482, R486). -/
def State.signalDetect (s : State) (p : Nat) : State :=
  if (s.port p).st = 1 then
    let l := (s.port p).lanes
    (((l.foldl (fun t l => t.setFld .FLK_LANESTAT_SIGDET 1 l) s).startTaps l).portTo p 2).trainPort p 0
  else s

/-- EQ_COMPLETE: both ends report RXDONE on every lane (R482, R484). -/
def State.eqComplete (s : State) (p : Nat) : State :=
  if (s.port p).st = 2 then
    let s1 := (s.port p).lanes.foldl (fun t l => t.modLane l (fun x => { x with rxdone := true })) s
    ((s1.modPort p (fun ps => { ps with identOk := [] })).portTo p 3).trainPort p 1
  else s

/-- TRAINING_FRAME: tap requests and the own receiver's adaptation in EQ and of a spare, the identity word in IDENT, and the first frames on the lane set of a
RETRAIN (R484, R487, R507, R508). -/
def State.trainingFrame (s : State) (l ctl ident : Nat) : State :=
  match s.portOfLane l with
  | some (p, _) =>
    match (s.port p).st with
    | 2 => (s.tapRequest l ctl).adapt l ctl
    | 3 => if bits ctl 0 2 = 1 then (s.identIn p l ident).settle else s
    | 7 => s.modPort p (fun ps => { ps with retrainMine := false })
    | _ => s
  | none =>
    if s.isSpare l && s.lbReady (l / 8) then
      let s1 := ((s.setFld .FLK_LANESTAT_SIGDET 1 l).tapRequest l ctl).adapt l ctl
      if (bitAt ctl 2 || bits ctl 0 2 == 3) && !(s1.lane l).standby then
        (s1.modLane l (fun x => { x with standby := true })).trainLane 3 l 0
      else s1
    else s

/-- The body of an INIT flit (R489). -/
def State.initBody (s : State) (p : Nat) : List Byte :=
  (List.range 8).flatMap (fun v => leBytes 2 (s.fld .FLK_CRALLOC_FLITS v * (s.port p).width)) ++ zeros 40

/-- DESKEW_LOCK: every lane aligned and in codeword lock; the link layer starts and an INIT is sent (R482, R489). -/
def State.deskewLock (s : State) (p : Nat) : State :=
  if (s.port p).st = 4 then
    let s1 := (s.port p).lanes.foldl (fun t l => t.setFld .FLK_LANESTAT_CWLOCK 1 l) s
    ((s1.modPort p (fun ps => ps.clearLink)).portTo p 5).xmitKind p 4 (s.initBody p)
  else s

/-- EQ_TIMEOUT (R482). -/
def State.eqTimeout (s : State) (p : Nat) : State :=
  if (s.port p).st = 2 ∧ (s.port p).since + s.fld .FLK_EQTO_TO ≤ s.tick then s.trainFail p else s

/-- TRAIN_TIMEOUT: 1,000,000 ticks in IDENT, DESKEW or LINKUP (R482, R669). -/
def State.trainTimeout (s : State) (p : Nat) : State :=
  let st := (s.port p).st
  if (st = 3 ∨ st = 4 ∨ st = 5) ∧ (s.port p).since + 1000000 ≤ s.tick then s.trainFail p else s

/-- HOLDOFF_EXPIRE: DOWN ends (R482, R510). -/
def State.holdoffExpire (s : State) (p : Nat) : State :=
  if (s.port p).st = 8 ∧ (s.port p).since + s.fld .FLK_HOLDOFF_HOLD ≤ s.tick ∧ s.flag .RTE_PORT_EN p = true ∧
      s.lbReady (p / 8) = true then s.portDetect p
  else s

/-! ## Sparing and degrade (R504 to R509) -/

/-- The spare that may take the place of a bad lane of port `p` (R506). -/
def State.spareFor (s : State) (p l : Nat) : Option Nat :=
  if s.flag .FLK_CTL_SPAREEN then
    (numsFrom (l / 8 * 8) 8).find? (fun x => s.isSpare x && s.fld .FLK_LANECTL_SPDIM x == s.fld .RTE_PORT_DIM p &&
      s.fld .FLK_LANECTL_SPDIGIT x == s.fld .RTE_PORT_DIGIT p && !s.flag .FLK_LANESTAT_BAD x && (s.lane x).standby &&
      (s.portOfLane x).isNone)
  else none

/-- The half of a port's logical lanes that is kept when lane index `i` is bad, if it holds no bad lane (R506). -/
def State.halfFor (s : State) (p i : Nat) : Option (List Nat) :=
  let l := (s.port p).lanes
  let n := l.length / 2
  let half := if i < n then l.drop n else l.take n
  if s.flag .FLK_CTL_DEGRADEEN && decide (1 < l.length) && half.all (fun x => !s.flag .FLK_LANESTAT_BAD x) then some half else none

/-- A RETRAIN flit (R508). -/
def State.sendRetrain (s : State) (p kind i : Nat) : State :=
  (s.xmitKind p 5 (zeros 8 ++ leBytes 1 kind ++ leBytes 1 i ++ zeros 46)).modPort p (fun ps => { ps with remedyAt := s.tick })

/-- A port takes a new lane set and retrains on it (R508, R509). -/
def State.retrainOn (s : State) (p kind i : Nat) (l : List Nat) (mine : Bool) : State :=
  let s1 := s.modPort p (fun ps => { ps with lanes := l, awidth := if kind = 1 then ps.awidth - 1 else ps.awidth,
                                             remedy := some (kind, i), retrainMine := mine, txNum := 0,
                                             wasLanes := ps.lanes })
  let gone := (s.port p).lanes.filter (fun x => !l.contains x)
  let s2 := gone.foldl (fun t x => ((t.setFld .FLK_LANESTAT_INUSE 0 x).setFld .FLK_LANESTAT_PORT 0x7F x).setFld .FLK_LANESTAT_LIDX 0 x) s1
  (((s2.markLanes p 0 l).portTo p 7).trainPort p 1).watchTwin

/-- The remedy of R506 for logical lane `i` of a port in UP: a spare, a degrade, or the port DOWN. -/
def State.remedyFor (s : State) (p i : Nat) : State :=
  match (s.port p).lanes[i]? with
  | none => s
  | some l =>
    match s.spareFor p l, s.halfFor p i with
    | some x, _ => (s.sendRetrain p 0 i).retrainOn p 0 i (setAt (s.port p).lanes i x) true
    | none, some h => (s.sendRetrain p 1 i).retrainOn p 1 i h true
    | none, none => s.goDown p

/-- A bad lane marked, latched and reported with its window's error events (R504). -/
def State.markBad (s : State) (l : Nat) (report : Bool) : State :=
  let s1 := (s.setFld .FLK_LANESTAT_BAD 1 l).latch .FLK_FLT_LANEBAD
  if report then s1.raise l 0x1001 (s.fld .FLK_LANEERR_WINCNT l) else s1

/-- A lane of a port in UP becomes bad (R504), and its port takes the remedy. -/
def State.laneBad (s : State) (l : Nat) (report : Bool) : State :=
  match s.portOfLane l with
  | some (p, i) => if (s.port p).st = 6 ∧ s.flag .FLK_LANESTAT_BAD l = false then (s.markBad l report).remedyFor p i else s
  | none => s

/-- Every lane of a port that was UP has lost its signal at one instant (R482): with the loss of one of them it may have entered RETRAIN at
that instant. DEDUCED (log 80): a port of one lane takes the first row, the spare, where it has one. -/
def State.allLost (s : State) (l : Nat) : Option Nat :=
  (s.lnk.ports.find? (fun (kv : Nat × PortSt) =>
    let set := if kv.2.st = 7 then kv.2.wasLanes else kv.2.lanes
    (kv.2.st == 6 || (kv.2.st == 7 && kv.2.since == s.tick)) && decide (1 < set.length) && set.contains l &&
      set.all (fun x => s.fld .FLK_LANESTAT_SIGDET x == 0))).map Prod.fst

/-! ## Flits that fail (R493, R495, R503) -/

/-- The link layer of a port runs. -/
def State.linkUp (s : State) (p : Nat) : Bool := (s.port p).st == 5 || (s.port p).routable

/-- A NAK is sent unless one is outstanding (R495). -/
def State.sendNak (s : State) (p : Nat) : State :=
  if (s.port p).nakAt.isSome then s
  else (s.xmitKind p 2 (zeros 56)).modPort p (fun ps => { ps with nakAt := some s.tick })

/-- Error events of a lane counted (R503), and a bad lane once the window's count reaches its threshold (R504). -/
def State.laneErrors (s : State) (l n : Nat) : State :=
  let s1 := (s.bump .FLK_LANEERR_WINCNT l n).bump .FLK_LANEERR_TOTAL l n
  if s.fld .FLK_ERRTHR_BAD ≤ s1.fld .FLK_LANEERR_WINCNT l then s1.laneBad l true else s1

/-- Corrected symbols of a lane's codeword (R505): counted, and the lane is reported marginal once in a window. -/
def State.corrected (s : State) (l n : Nat) : State :=
  if n = 0 then s
  else
    let s1 := (s.bump .FLK_LANEFEC_CORR l n).modLane l (fun x => { x with corr := x.corr + n })
    let c := (s1.lane l).corr
    if (s1.lane l).marg = false ∧ s.fld .FLK_ERRTHR_MARG * 4096 ≤ c then
      (((s1.modLane l (fun x => { x with marg := true })).latch .FLK_LANESTAT_MARGFLT l).latch .FLK_FLT_MARGINAL).raise l 0x1002 c
    else s1

/-- BAD_FLIT (R493): a flit that fails is discarded, none of its fields used; its error events count against its lane, in DESKEW too
(R479, R503), and where the link layer runs a NAK is sent (R495). -/
def State.badFlit (s : State) (p : Nat) (b : BadFlit) : State :=
  if !b.fails then s
  else if s.linkUp p then ((((s.corrected b.lane b.corr).bump .FLK_PERR_CRCERR p).sendNak p).laneErrors b.lane b.events).settle
  else if (s.port p).st = 4 then (s.corrected b.lane b.corr).laneErrors b.lane b.events
  else s

/-- A flit of a kind other than DATA that fails. -/
def State.badRx (s : State) (p : Nat) (f : RxFlit) : State := s.badFlit p { lane := f.lane, cw := false, fl := f.toFlit, corr := f.corr }

/-- A flit that passes: its codeword's corrected symbols, and its acknowledgement and credit fields (R494, R505). -/
def State.passRx (s : State) (p : Nat) (f : RxFlit) : State := (s.corrected f.lane f.corr).applyFields p f.toFlit

/-- INIT_FLIT: its fields are applied (R494); in LINKUP the peer's limits are set and the port is UP (R482, R489, R493), and the line
map's notices follow (R441). -/
def State.initFlit (s : State) (p : Nat) (f : RxFlit) : State :=
  if !f.intact then s.badRx p f
  else if s.linkUp p = true ∧ f.kind = 4 then
    let s0 := s.passRx p f
    if (s.port p).st = 5 then
      let lim := (List.range 8).map (fun v => leAt f.body (2 * v) 2)
      ((((s0.modPort p (fun ps => { ps with limits := lim })).portTo p 6).portNotice p true).portCame p).settle
    else s0.settle
  else s

/-- RETRAIN_FLIT: the peer's remedy is applied with the own lanes; where no spare can be, the answer is a degrade (R508). -/
def State.retrainFlit (s : State) (p : Nat) (f : RxFlit) : State :=
  let ps := s.port p
  let kind := leAt f.body 8 1
  let i := leAt f.body 9 1
  if !f.intact then s.badRx p f
  else if s.linkUp p = true ∧ f.kind = 5 then
    let s1 := s.passRx p f
    if ps.st = 6 then
      match ps.lanes[i]? with
      | none => s1.goDown p
      | some l =>
        match kind, s1.spareFor p l, s1.halfFor p i with
        | 0, some x, _ => s1.retrainOn p 0 i (setAt ps.lanes i x) false
        | 0, none, some h => (s1.sendRetrain p 1 i).retrainOn p 1 i h false
        | 1, _, some h => s1.retrainOn p 1 i h false
        | _, _, _ => s1.goDown p
    else if ps.st = 7 ∧ ps.remedy = some (0, i) ∧ kind = 1 then
      match s1.halfFor p i with
      | some h => s1.retrainOn p 1 i h false
      | none => s1.goDown p
    else s1
  else s

/-- RETRAIN_REPEAT: the flit goes again every 1,000 ticks until frames arrive on the new lane set (R508). -/
def State.retrainRepeat (s : State) (p : Nat) : State :=
  let ps := s.port p
  match ps.remedy with
  | some (k, i) => if ps.st = 7 ∧ ps.retrainMine = true ∧ ps.remedyAt + 1000 ≤ s.tick then s.sendRetrain p k i else s
  | none => s

/-- The identity words of a port's lanes, in logical order, all pass R487. -/
def State.identAll (s : State) (p : Nat) : List Nat → List Nat → Bool
  | [], _ => true
  | w :: t, taken => s.identPass p w taken && s.identAll p t (bits w 42 2 :: taken)

/-- RETRAIN_COMPLETE: the new lane set passed IDENT and locked; the port is UP again and replays every unacknowledged flit
(R482, R509). -/
def State.retrainComplete (s : State) (p : Nat) (w : List Nat) : State :=
  let ps := s.port p
  if ps.st = 7 ∧ w.length = ps.lanes.length ∧ s.identAll p w [] = true then
    let s1 := ps.lanes.foldl (fun t l => t.setFld .FLK_LANESTAT_CWLOCK 1 l) s
    let s2 := (s1.portTo p 6).modPort p (fun ps => { ps with
      resend := ps.replay, remedy := none, retrainMine := false, lastAck := s.tick, wasLanes := [] })
    ((s2.watchTwin).bump .FLK_PLINK_RETRAINS p).settle
  else s

/-- RETRAIN_TIMEOUT: FLK_RTRTO passes in RETRAIN (R482). -/
def State.retrainTimeout (s : State) (p : Nat) : State :=
  if (s.port p).st = 7 ∧ (s.port p).since + s.fld .FLK_RTRTO_TO ≤ s.tick then (s.goDown p).settle else s

/-- LANE_SIGNAL_LOSS: a lane has had no signal or codeword lock for 1,000 ticks (R504); a spare trains again (R507), and a port all of
whose lanes are lost goes DOWN (R482). -/
def State.laneSignalLoss (s : State) (l : Nat) : State :=
  let s1 := ((s.setFld .FLK_LANESTAT_SIGDET 0 l).setFld .FLK_LANESTAT_CWLOCK 0 l)
  let s2 := if (s1.lane l).sparing ∧ (s1.portOfLane l).isNone = true then
    (s1.modLane l (fun x => { x with sparing := false, standby := false })).spareSync [l] else s1
  (match s2.allLost l with
    | some p => (if s2.flag .FLK_LANESTAT_BAD l then s2 else s2.markBad l true).goDown p
    | none => s2.laneBad l true).settle

/-- PORT_ENABLE (R482). -/
def execPortEnable (p width dim dg : Nat) (s : State) : Host.Outcome State Fault Refusal :=
  .next (s.regRow .RTE_PORT p (fun t => t.portEnable p width dim dg))
/-- TRAINING_FRAME (R484). -/
def execTrainingFrame (lane ctl ident : Nat) (s : State) : Host.Outcome State Fault Refusal := .next (s.trainingFrame lane ctl ident)
/-- SIGNAL_DETECT (R482). -/
def execSignalDetect (p : Nat) (s : State) : Host.Outcome State Fault Refusal := .next (s.signalDetect p)
/-- EQ_COMPLETE (R484). -/
def execEqComplete (p : Nat) (s : State) : Host.Outcome State Fault Refusal := .next (s.eqComplete p)
/-- DESKEW_LOCK (R481). -/
def execDeskewLock (p : Nat) (s : State) : Host.Outcome State Fault Refusal := .next (s.deskewLock p)
/-- EQ_TIMEOUT (R482). -/
def execEqTimeout (p : Nat) (s : State) : Host.Outcome State Fault Refusal := .next (s.eqTimeout p)
/-- TRAIN_TIMEOUT (R669). -/
def execTrainTimeout (p : Nat) (s : State) : Host.Outcome State Fault Refusal := .next (s.trainTimeout p)
/-- HOLDOFF_EXPIRE (R482). -/
def execHoldoffExpire (p : Nat) (s : State) : Host.Outcome State Fault Refusal := .next (s.holdoffExpire p)
/-- RETRAIN_REPEAT (R508). -/
def execRetrainRepeat (p : Nat) (s : State) : Host.Outcome State Fault Refusal := .next (s.retrainRepeat p)
/-- RETRAIN_COMPLETE (R509). -/
def execRetrainComplete (p : Nat) (idents : List Nat) (s : State) : Host.Outcome State Fault Refusal := .next (s.retrainComplete p idents)

end Sys2Proof.Machine
end

