-- ==== Sys2Proof/Machine/Flits.lean ====
section
/-! DEFINITION. Received flits (12_fabric_links R493 to R503, R513): acceptance, duplicates, NAKs and replays, the packets that
DATA flits carry, and the lane error windows. -/

namespace Sys2Proof.Machine

/-! ## Packets arriving on an input channel -/

/-- A packet that has come from port `p` on channel `v`, its first flit received at tick `since` (R219). -/
def State.inPkt (s : State) (p v : Nat) (k : Pkt) (n since : Nat) (part : Option (List Flit)) : InPkt :=
  { pkt := { k with vc := v }, port := p, rx := since, delay := s.fld .FLK_PDELAY_DELAY p, at_ := s.tick, flits := n, part := part }

/-- The packet that flits hold keeps R513. -/
def pktFits (k : Pkt) (n : Nat) : Bool := k.legal && flitCount k.bytes.length == n

/-- A packet that has arrived whole in `n` flits, the first at tick `since`: checked (R513), discarded in the safe state (R609), or
handed to the crossbar. -/
def State.pktArrived (s : State) (p v : Nat) (l : List Byte) (n since : Nat) : State :=
  let k := decodePkt l
  let key := inKey p v
  if s.flt.safe then s.freeSlots key n
  else if !pktFits k n then (s.badPkt p).freeSlots key n
  else if v = 6 then s.pistePkt key (s.inPkt p v k n since none) else s.arrive key (s.inPkt p v k n since none)

/-- The first flit of a longer packet: it waits at its input, and passes onward as soon as its output port is free (R465); one of the
piste channel follows its label at once, or is collected for this device (R467). -/
def State.pktBegins (s : State) (p v : Nat) (f : Flit) : State :=
  let key := inKey p v
  let k := decodePkt (f.body ++ zeros 520)
  let i := s.inPkt p v k 1 s.tick (some [f])
  if s.flt.safe then (s.setPart key (some .discard)).freeSlots key 1
  else if !k.legal then ((s.badPkt p).setPart key (some .discard)).freeSlots key 1
  else if v = 6 then
    if s.isLocal k.dest then s.setPart key (some (.collect f.body 1 s.tick)) else s.pistePkt key i
  else (s.setPart key (some .queued)).arrive key i

/-- A further flit of the packet at the tail of an input's queue, which waits there. When its last has arrived the packet is checked whole
(R513) and routed; one that ends in ABORT is gone (R501). -/
def State.queuedFlit (s : State) (p v : Nat) (f : Flit) : State :=
  let key := inKey p v
  let s1 := if f.eop then s.setPart key none else s
  match (mgetD s.rte.inq key []).reverse with
  | [] => s1.freeSlots key 1
  | i :: r =>
    let l := i.part.getD [] ++ [f]
    let k := { decodePkt (l.flatMap Flit.body) with vc := v }
    if !f.eop then s1.setInq key (({ i with part := some l, flits := i.flits + 1 } :: r).reverse)
    else if f.abort then (s1.setInq key r.reverse).freeSlots key (i.flits + 1)
    else if s.flt.safe then (s1.setInq key r.reverse).freeSlots key (i.flits + 1)
    else if !pktFits k l.length then ((s1.badPkt p).setInq key r.reverse).freeSlots key (i.flits + 1)
    else ((s1.setInq key (({ i with pkt := k, part := none, flits := i.flits + 1 } :: r).reverse)).routeKey key).routeReinj

/-- A further flit of a packet that is passed onward as it arrives; its last closes it. A packet that is voided before its
first flit has left is gone; else the flit with ABORT follows it (R501). -/
def State.streamFlit (s : State) (p v q u : Nat) (f : Flit) : State :=
  let key := inKey p v
  let s1 := if f.eop then s.setPart key none else s
  let mine (t : TxPkt) : Bool := !t.closed && t.src == some key
  match ((s.port q).queue u).find? mine with
  | none => s1.freeSlots key 1
  | some t =>
    if f.eop && f.abort && !t.started then
      (s1.modPort q (fun ps => ps.setQueue u ((ps.queue u).filter (fun x => !mine x)))).freeSlots key (t.rest.length + 1)
    else
      s1.modPort q (fun ps => ps.setQueue u ((ps.queue u).map (fun (x : TxPkt) =>
        if mine x then { x with rest := x.rest ++ [f], closed := f.eop } else x)))

/-- An accepted DATA flit's part in the packets of its channel (R492, R501, R502). -/
def State.takeFlit (s : State) (p : Nat) (f : Flit) : State :=
  let key := inKey p f.vc
  match mget (s.port p).part f.vc with
  | none =>
    if !f.sop || (f.eop && f.abort) then s.freeSlots key 1
    else if f.eop then s.pktArrived p f.vc f.body 1 s.tick
    else s.pktBegins p f.vc f
  | some (.collect l n since) =>
    if f.eop && f.abort then (s.setPart key none).freeSlots key (n + 1)
    else if f.eop then (s.setPart key none).pktArrived p f.vc (l ++ f.body) (n + 1) since
    else s.setPart key (some (.collect (l ++ f.body) (n + 1) since))
  | some .queued => s.queuedFlit p f.vc f
  | some (.stream q u) => s.streamFlit p f.vc q u f
  | some .discard => (if f.eop then s.setPart key none else s).freeSlots key 1

/-! ## NAK and replay -/

/-- DATA_FLIT (R493, R494): the first row of its table that applies, once its fields are applied. -/
def State.dataFlit (s : State) (p : Nat) (f : Flit) (lane corr : Nat) : State :=
  if !f.intact then s.badFlit p { lane := lane, cw := false, fl := f, corr := corr }
  else if f.kind = 1 ∧ s.linkUp p = true then
    let s1 := (s.corrected lane corr).applyFields p f
    let e := (s1.port p).e
    (if f.seq = e then
      (s1.modPort p (fun ps => { ps with e := (e + 1) % 4096, acked := true, nakAt := none, rxFlits := ps.rxFlits + 1 })).takeFlit p f
    else if 1 ≤ (e + 4096 - f.seq % 4096) % 4096 ∧ (e + 4096 - f.seq % 4096) % 4096 ≤ 2048 then s1.bump .FLK_PERR_DUP p
    else s1.sendNak p).settle
  else s

/-- IDLE_FLIT: its acknowledgement and credit fields (R491, R494). -/
def State.idleFlit (s : State) (p : Nat) (f : RxFlit) : State :=
  if !f.intact then s.badRx p f else if f.kind = 0 ∧ s.linkUp p = true then (s.passRx p f).settle else s

/-- NAK_FLIT (R498). -/
def State.nakFlit (s : State) (p : Nat) (f : RxFlit) : State :=
  if !f.intact then s.badRx p f
  else if f.kind = 2 ∧ s.linkUp p = true then
    let s1 := s.passRx p f
    if (s1.port p).resend.any (fun x => x.seq == (f.ackseq + 1) % 4096) || (s1.port p).replay.isEmpty then s1.settle
    else ((s1.startReplay p f.ackseq).bump .FLK_PREPLAY_NAKRPL p).settle
  else s

/-- REPLAY_TIMEOUT (R498): every unacknowledged flit again, or the port DOWN after REPLAYMAX such replays in a row. -/
def State.replayTimeout (s : State) (p : Nat) : State :=
  let ps := s.port p
  if ps.st = 6 ∧ ps.replay ≠ [] ∧ ps.lastAck + s.fld .FLK_REPLAYTO_TO ≤ s.tick then
    if s.fld .FLK_CTL_REPLAYMAX ≤ ps.toCount then (s.goDown p).settle
    else
      ((s.modPort p (fun ps => { ps with resend := ps.replay, toCount := ps.toCount + 1, lastAck := s.tick })).bump
        .FLK_PREPLAY_TORPL p).settle
  else s

/-- NAK_HOLD_EXPIRE: half of FLK_REPLAYTO after a NAK (R495). -/
def State.nakHoldExpire (s : State) (p : Nat) : State :=
  match (s.port p).nakAt with
  | some t => if t + s.fld .FLK_REPLAYTO_TO / 2 ≤ s.tick then s.modPort p (fun ps => { ps with nakAt := none }) else s
  | none => s

/-- ERROR_WINDOW: a new window begins at a fabric-time multiple of FLK_ERRWIN (R503, R505). -/
def State.errorWindow (s : State) : State :=
  if s.now % s.fld .FLK_ERRWIN_WIN = 0 then
    let s1 := (List.range 72).foldl (fun t l => if t.fld .FLK_LANEERR_WINCNT l = 0 then t else t.setFld .FLK_LANEERR_WINCNT 0 l) s
    { s1 with lnk := { s1.lnk with lanes := s1.lnk.lanes.map (fun (kv : Nat × LaneSt) => (kv.1, { kv.2 with corr := 0, marg := false })) } }
  else s

/-- NAK_HOLD_EXPIRE (R495). -/
def execNakHoldExpire (p : Nat) (s : State) : Host.Outcome State Fault Refusal := .next (s.nakHoldExpire p)
/-- ERROR_WINDOW (R503). -/
def execErrorWindow (s : State) : Host.Outcome State Fault Refusal := .next s.errorWindow

end Sys2Proof.Machine
end

