-- ==== Sys2Proof/Machine/Timekeep.lean ====
section
/-! DEFINITION. Fabric time (14_time_power_reset R550 to R565, 12 R511, R512): the choice of a grandmaster and a parent, offsets and
steps, LOCKED, the 1PPS input and output, and the TSX flits that carry all this. -/

namespace Sys2Proof.Machine

/-! ## Leaving and entering LOCKED -/

/-- LOCKED is left (R561): TIM_FLT.LOCKLOST, TIME_UNLOCKED with its SUB, the fault message, and R321. -/
def State.timeUnlock (s : State) (sub : Nat) : State :=
  if !s.timeLocked then s
  else
    let s1 := ((s.timeLost.latch .TIM_FLT_LOCKLOST).bump .TIM_CNT_UNLOCKS).event0 0x51 sub (s.fld .TIM_GM_COORD) 0
    let s2 := s1.raise 0x622 0x4004 sub
    { s2 with time := { s2.time with good := 0 } }

/-- LOCKED is entered (R560). -/
def State.timeLock (s : State) : State :=
  if s.timeLocked then s else s.timeGained.event0 0x50 0 (s.fld .TIM_GM_COORD) (s.fld .TIM_STAT_EPSEST)

/-- One period judged (R560): sixteen good ones in a row enter LOCKED. -/
def State.timePeriod (s : State) (ok : Bool) : State :=
  let good := if ok then s.time.good + 1 else 0
  let s1 : State := { s with time := { s.time with good := min 16 good, periodAt := s.tick } }
  if 16 ≤ good then s1.timeLock else s1

/-! ## The grandmaster (R555 to R559, R562) -/

/-- The rank of a candidate: valid 1PPS, priority, coordinate; the lowest wins (R555). -/
def gmRank (pps : Bool) (prio coord : Nat) : Nat := ((if pps then 0 else 1) * 256 + prio) * 2 ^ 20 + coord

/-- The own 1PPS input is used and valid. -/
def State.ppsValid (s : State) : Bool := s.flag .TIM_STAT_PPSVALID && s.flag .TIM_CTL_PPSINEN

/-- The own rank, while the device is a candidate. -/
def State.ownRank (s : State) : Option Nat :=
  if s.flag .TIM_CTL_EN then some (gmRank s.ppsValid (s.fld .TIM_CTL_PRIO) s.own) else none

/-- The usable neighbours that name a grandmaster other than this device (R556). -/
def State.usableNb (s : State) : AMap Neighbour :=
  s.time.nb.filter (fun (kv : Nat × Neighbour) =>
    (s.port kv.1).isUp && decide (s.tick < kv.2.adv + 8192) && kv.2.gm != nullCoord && kv.2.gm != s.own)

/-- The rank of the grandmaster that a neighbour names. -/
def Neighbour.rank (n : Neighbour) : Nat := gmRank n.pps n.prio n.gm

/-- The parent: of the neighbours that name the best grandmaster, the one with the least EPSEST, then STEPS, then port
(R557). -/
def bestParent (l : AMap Neighbour) : Option (Nat × Neighbour) :=
  match minBy (fun (kv : Nat × Neighbour) => kv.2.rank) l with
  | some b => minBy (fun (kv : Nat × Neighbour) => (kv.2.eps * 256 + kv.2.steps) * 128 + kv.1)
      (l.filter (fun kv => kv.2.gm == b.2.gm))
  | none => none

/-- EPSEST behind a parent (R559). -/
def State.epsFrom (s : State) (n : Neighbour) : Nat := min 0xFFFF (n.eps + s.fld .TIM_CFG_ASYM + s.fld .TIM_CFG_LOCKTHR)

/-- What TIM_GM and TIM_STAT report. -/
def State.setGm (s : State) (coord : Nat) (pps : Bool) (era : Nat) (gm : Bool) (parent steps eps : Nat) : State :=
  let s1 := ((s.setFld .TIM_GM_COORD coord).setFld .TIM_GM_GMPPS (b2n pps)).setFld .TIM_GM_ERA era
  (((s1.setFld .TIM_STAT_GM (b2n gm)).setFld .TIM_STAT_PARENT parent).setFld .TIM_STAT_STEPS (min 15 steps)).setFld .TIM_STAT_EPSEST eps

/-- The choice of R557 carried out in the registers. -/
def State.chooseGm (s : State) : State :=
  let p := if s.flag .TIM_CTL_EN then bestParent s.usableNb else none
  match s.ownRank, p with
  | some _, none => s.setGm s.own s.ppsValid s.time.era true 0x7F 0 0
  | some r, some (q, n) =>
    if r < n.rank then s.setGm s.own s.ppsValid s.time.era true 0x7F 0 0
    else s.setGm n.gm n.pps n.era false q (n.steps + 1) (s.epsFrom n)
  | none, some (q, n) => s.setGm n.gm n.pps n.era false q (n.steps + 1) (s.epsFrom n)
  | none, none => s.setGm nullCoord false 0 false 0x7F 15 0xFFFF

/-- The reading of fabric time set, with a fraction (R552): no duration in progress changes. -/
def State.setTime (s : State) (now frac : Nat) : State := { s with time := { s.time with now := now % 2 ^ 64, frac := frac } }

/-- A step on the grandmaster (R565): LOCKED left, the reading set, ERA incremented. -/
def State.stepTime (s : State) (v : Nat) : State :=
  let s1 := (s.timeUnlock 2).setTime v 0
  let s2 : State := { s1 with time := { s1.time with era := (s1.time.era + 1) % 256, good := 0 } }
  (s2.setFld .TIM_GM_ERA s2.time.era).bump .TIM_CNT_GMCHG

/-- The multiple of 10^9 nearest to a reading. -/
def nearestSecond (n : Nat) : Nat := (n + 500000000) / 1000000000 * 1000000000

/-- The reading at the latest 1PPS edge. -/
def State.edgeReading (s : State) : Nat :=
  match s.time.ppsLast with
  | some t => s.now + 2 ^ 64 - (s.tick - t)
  | none => s.now

/-- The choice of R557, and what follows from a change: LOCKED is left under R561 unless R562 keeps it, and a device that
becomes grandmaster with a valid 1PPS input steps to it (R565). -/
def State.timeSelect (s : State) : State :=
  let s1 := s.chooseGm
  let changed := s1.fld .TIM_GM_COORD != s.fld .TIM_GM_COORD || s1.fld .TIM_GM_ERA != s.fld .TIM_GM_ERA
  let moved := s1.fld .TIM_STAT_PARENT != s.fld .TIM_STAT_PARENT
  let oldGone := s.fld .TIM_STAT_PARENT != 0x7F && (mget s.usableNb (s.fld .TIM_STAT_PARENT)).isNone
  let locked := match mget s1.time.nb (s1.fld .TIM_STAT_PARENT) with | some n => n.locked | none => true
  let s2 := if changed then s1.bump .TIM_CNT_GMCHG else s1
  let s3 := if changed || moved then { s2 with time := { s2.time with good := 0 } } else s2
  let s4 :=
    if !s.flag .TIM_CTL_EN then s3.timeUnlock 5
    else if changed then s3.timeUnlock (if oldGone then 1 else 2)
    else if !locked then s3.timeUnlock 1
    else if 3200 < s3.fld .TIM_STAT_EPSEST then s3.timeUnlock 3
    else s3
  if s4.flag .TIM_STAT_GM && !s.flag .TIM_STAT_GM && s4.ppsValid then
    s4.stepTime (nearestSecond (s4.edgeReading % 2 ^ 64) + (s4.tick - (s4.time.ppsLast.getD s4.tick)))
  else s4

/-- A grandmaster's own period (R560): counted once per 1,024 ticks. -/
def State.gmPeriod (s : State) : State :=
  if s.time.periodAt + 1024 ≤ s.tick then
    let s1 := s.timeSelect
    if s1.flag .TIM_STAT_GM then s1.timePeriod (s1.flag .TIM_STAT_REFOK) else s1
  else s

/-! ## TSX flits (R511, R512, R554) -/

/-- The time-domain fields that a TSX carries now. -/
def State.timeFields (s : State) : List Byte :=
  let gm := s.fld .TIM_GM_COORD
  let par := mget s.time.nb (s.fld .TIM_STAT_PARENT)
  let self := s.flag .TIM_STAT_GM
  let prio := if self then s.fld .TIM_CTL_PRIO else match par with | some n => n.prio | none => 0
  let steps := if self then 0 else match par with | some n => min 255 (n.steps + 1) | none => 255
  let seq := if self then s.time.gmseq else match par with | some n => n.gmseq | none => 0
  leBytes 4 (gm + s.fld .TIM_GM_GMPPS * 2 ^ 20 + b2n s.timeLocked * 2 ^ 21) ++ leBytes 1 prio ++ leBytes 1 steps ++
  leBytes 1 (s.fld .TIM_GM_ERA) ++ zeros 1 ++ leBytes 2 (s.fld .TIM_STAT_EPSEST) ++ zeros 2 ++ leBytes 4 seq ++ zeros 8

/-- The ticks that have passed, in 1/256. -/
def State.tick256 (s : State) : Nat := s.tick * 256 + s.time.frac / 256

/-- TSX_SEND: a port in LINKUP, UP or RETRAIN, 1,024 ticks after its last, on logical lane 0 (R511). -/
def State.tsxSend (s : State) (p : Nat) : State :=
  if s.linkUp p ∧ (s.port p).tsxLast + 1024 ≤ s.tick then
    let s0 := s.gmPeriod
    let s1 : State := if s0.flag .TIM_STAT_GM then { s0 with time := { s0.time with gmseq := add32 s0.time.gmseq 1 } } else s0
    let ps := s1.port p
    let hold := if ps.tsxEcho = 0 then 0 else (s1.tick256 - ps.tsxRxAt) % 2 ^ 32
    let body := leBytes 2 s1.time.frac ++ leBytes 8 s1.now ++ leBytes 10 ps.tsxEcho ++ leBytes 4 hold ++ s1.timeFields ++ zeros 8
    ((laneZeroAux p (s1.port p).width s1).xmitKind p 3 body).modPort p (fun ps => { ps with tsxLast := s1.tick })
  else s

/-- A stamp of 10 bytes in 1/65,536 tick. -/
def stamp (l : List Byte) (off : Nat) : Nat := leAt l off 2 + 65536 * leAt l (off + 2) 8

/-- The mean of a port's delays in 1/65,536 tick. -/
def delayMean (l : List Int) : Int := if l = [] then 0 else l.sum / (l.length : Int)

/-- The link delay after a TSX received at `rx` (R512): the mean of the latest sixteen computations. -/
def State.tsxDelay (s : State) (p rx : Nat) (body : List Byte) : State :=
  let echo := stamp body 10
  if echo = 0 then s
  else
    let d : Int := ((rx : Int) - (echo : Int) - (256 * leAt body 20 4 : Nat)) / 2
    let l := (d :: (s.port p).delays).take 16
    (s.modPort p (fun ps => { ps with delays := l })).setFld .FLK_PDELAY_DELAY (min 65535 (delayMean l / 65536).toNat) p

/-- The fields of a neighbour taken from a TSX (R554, R556). -/
def State.tsxFields (s : State) (p : Nat) (b : List Byte) : State :=
  let old := mget s.time.nb p
  let seq := leAt b 36 4
  let adv := match old with
    | some o => if 1 ≤ sub32 seq o.gmseq ∧ sub32 seq o.gmseq < 2 ^ 31 then s.tick else o.adv
    | none => s.tick
  let w := leAt b 24 4
  let n : Neighbour := { gm := bits w 0 20, pps := bitAt w 20, locked := bitAt w 21, prio := leAt b 28 1, steps := leAt b 29 1,
                         era := leAt b 30 1, eps := leAt b 32 2, gmseq := seq, adv := adv }
  { s with time := { s.time with nb := mset s.time.nb p n } }

/-- A magnitude in 1/65,536 tick against a bound in 1/256 tick. -/
def within (off : Int) (bound : Nat) : Bool := decide (off.natAbs ≤ 256 * bound)

/-- The offset against the parent (R558): reported, removed by a step above 100 ticks while TIME is 0, judged under R560 and
R561 otherwise. -/
def State.tsxOffset (s : State) (p rx : Nat) (body : List Byte) (same : Bool) : State :=
  let off : Int := (rx : Int) - (stamp body 0 : Nat) - delayMean (s.port p).delays
  let s1 := s.setFld .TIM_OFFSET_OFFSET (ofInt32 (off / 256))
  let thr := s.fld .TIM_CFG_LOCKTHR
  if s1.timeLocked then (if within off thr then s1 else s1.timeUnlock 0)
  else if 100 * 65536 < off.natAbs then
    let t : Int := (s.now * 65536 + s.time.frac : Nat) - off
    (s1.setTime ((t / 65536) % (2 : Int) ^ 64).toNat (t % 65536).toNat).timePeriod false
  else
    let lk := match mget s1.time.nb p with | some n => n.locked | none => false
    s1.timePeriod (same && s1.flag .TIM_STAT_REFOK && lk && decide (2 * off.natAbs ≤ 256 * thr) &&
      decide (s1.fld .TIM_STAT_EPSEST ≤ 3200))

/-- TSX_FLIT (R512, R556 to R562): received at the present reading with fraction `rxFrac`. -/
def State.tsxFlit (s : State) (p : Nat) (f : RxFlit) (rxFrac : Nat) : State :=
  if !f.intact then s.badRx p f
  else if f.kind = 3 ∧ s.linkUp p = true then
    let rx := s.now * 65536 + rxFrac % 65536
    let s1 := (s.passRx p f).modPort p (fun ps =>
      { ps with tsxEcho := leAt f.body 0 10, tsxRxAt := s.tick * 256 + rxFrac % 65536 / 256 })
    let s2 := (s1.tsxDelay p rx f.body).tsxFields p f.body
    let s3 := s2.timeSelect
    let same := s3.fld .TIM_STAT_PARENT == s.fld .TIM_STAT_PARENT && s3.fld .TIM_GM_COORD == s.fld .TIM_GM_COORD &&
      s3.fld .TIM_GM_ERA == s.fld .TIM_GM_ERA
    (if s3.fld .TIM_STAT_PARENT = p then s3.tsxOffset p rx f.body same else s3).settle
  else s

/-- NEIGHBOUR_TIME_STALE: a neighbour's GMSEQ has not advanced for 8,192 ticks (R556). -/
def State.nbStale (s : State) (p : Nat) : State :=
  match mget s.time.nb p with
  | some n => if n.adv + 8192 ≤ s.tick then s.timeSelect else s
  | none => s

/-! ## The reference and 1PPS (R561, R564, R642) -/

/-- The PLLs of the lane blocks that meet `p` lose or gain lock with the reference (R642). -/
def State.plls (s : State) (on : Bool) (p : Nat → Bool) : State :=
  (List.range 9).foldl (fun t b => if p b then t.setFld .FLK_LBSTAT_PLLLOCK (b2n on) b else t) s

/-- REF_LOST: the run of good periods ends (R560), and every lane block's PLL has lost its reference. -/
def State.refLost (s : State) : State :=
  if s.flag .TIM_STAT_REFOK then
    let s1 := (((s.plls false (fun _ => true)).setFld .TIM_STAT_REFOK 0).latch .TIM_FLT_REFLOST).timeUnlock 4
    { s1 with time := { s1.time with good := 0 } }
  else s

/-- REFERENCE_PRESENT: the PLLs of calibrated lane blocks lock again. -/
def State.refPresent (s : State) : State :=
  ((s.plls true (fun b => s.flag .FLK_LBSTAT_CAL b)).setFld .TIM_STAT_REFOK 1).timeSelect

/-- PPS_EDGE (R564): four good intervals in a row make the input valid; a grandmaster with a valid input reports its error. -/
def State.ppsEdge (s : State) : State :=
  if s.flag .TIM_CTL_PPSINEN then
    let ok := match s.time.ppsLast with
      | some t => decide (t + 999900000 ≤ s.tick) && decide (s.tick ≤ t + 1000100000)
      | none => false
    let good := if ok then min 4 (s.time.ppsGood + 1) else 0
    let s1 : State := { s with time := { s.time with ppsGood := good, ppsLast := some s.tick } }
    let s2 := if good = 4 ∧ s.flag .TIM_STAT_PPSVALID = false then (s1.setFld .TIM_STAT_PPSVALID 1).event0 0x53 1 0 0 else s1
    let s3 := s2.timeSelect
    if s3.flag .TIM_STAT_GM && s3.ppsValid then
      s3.setFld .TIM_PPSERR_ERR (ofInt32 ((s3.now : Int) - (nearestSecond s3.now : Nat)))
    else s3
  else s

/-- PPS_INPUT_LOST (R564). -/
def State.ppsLost (s : State) : State :=
  match s.time.ppsLast with
  | some t =>
    if s.flag .TIM_STAT_PPSVALID = true ∧ t + 1000100000 ≤ s.tick then
      let s1 : State := { s.setFld .TIM_STAT_PPSVALID 0 with time := { s.time with ppsGood := 0 } }
      let s2 := s1.event0 0x53 0 0 0
      (if s2.flag .TIM_CTL_PPSINEN then s2.latch .TIM_FLT_PPSLOST else s2).timeSelect
    else s
  | none => s

/-- The 1PPS output is low while PPSOUT is 0 (R564). -/
def State.ppsGate (s : State) : State := if s.flag .TIM_CTL_PPSOUT then s else { s with time := { s.time with ppsOut := false } }

/-- PPS_OUT_PULSE (R564, R645): the output rises within two ticks of a multiple of 10^9 ticks, which a corrected tick may pass over,
while PPSOUT is 1, and falls 100,000,000 ticks later. -/
def State.ppsPulse (s : State) : State :=
  let late := decide (s.time.ppsOutAt + 100000000 ≤ s.tick)
  if !s.flag .TIM_CTL_PPSOUT then s.ppsGate
  else if s.now % 1000000000 ≤ 2 ∧ (s.time.ppsOut = false ∨ late = true) then { s with time := { s.time with ppsOut := true, ppsOutAt := s.tick } }
  else if s.time.ppsOut = true ∧ late = true then { s with time := { s.time with ppsOut := false } }
  else s

/-- A write of 1 to TIM_CTL.STEP acts on the grandmaster alone (R565). -/
def State.mayStep (s : State) : Bool := s.timeSelect.flag .TIM_STAT_GM

/-- TIME_STEP (R565): on the grandmaster alone; elsewhere dropped and logged. -/
def State.timeStep (s : State) : State :=
  let s1 := s.timeSelect
  if s1.flag .TIM_STAT_GM then s1.stepTime (s.rdRaw .TIM_SETLO + 2 ^ 32 * s.rdRaw .TIM_SETHI)
  else s1.accLog 4 true 0 0 (RegName.TIM_CTL.addr 0)

/-- After a command that may take a port out of UP: a parent that has become unusable is given up at once (R556, R561). -/
def State.timeCheck (s : State) : State :=
  let p := s.fld .TIM_STAT_PARENT
  if p ≠ 0x7F ∧ (s.port p).isUp = false then s.timeSelect else s

/-- A flit that fails may take its port down (R493, R504): the choice of R557 is made again. -/
def State.flitCheck (s : State) (f : Flit) : State := if f.intact then s else s.timeCheck

/-! ## One tick (R550, R551) -/

/-- The rate correction of a tick in 1/65,536: at most 250 parts per million, against the offset; the exact amount is the
implementation's. -/
def State.rateStep (s : State) : Int :=
  let off := if s.flag .TIM_STAT_GM then (if s.ppsValid then s.fld .TIM_PPSERR_ERR else 0)
    else if s.fld .TIM_STAT_PARENT = 0x7F then 0 else s.fld .TIM_OFFSET_OFFSET
  let m : Nat := Config.rateCorrection s.tick % 17
  if off = 0 then 0 else if off < 2 ^ 31 then -(m : Int) else (m : Int)

/-- One tick passes on the time counter (R550, R566). -/
def State.passTick (s : State) : State :=
  let c := if s.rst.power = .run then s.rateStep else 0
  let t : Int := ((s.now + 1) * 65536 + s.time.frac : Nat) + c
  { s with time := { s.time with elapsed := s.time.elapsed + 1, now := (t / 65536).toNat % 2 ^ 64, frac := (t % 65536).toNat } }

/-- TSX_SEND (R511). -/
def execTsxSend (p : Nat) (s : State) : Host.Outcome State Fault Refusal := .next (s.tsxSend p)
/-- TSX_FLIT (R558). -/
def execTsxFlit (p : Nat) (fl : RxFlit) (rxFrac : Nat) (s : State) : Host.Outcome State Fault Refusal :=
  .next ((s.tsxFlit p fl rxFrac).flitCheck fl.toFlit)
/-- NEIGHBOUR_TIME_STALE (R556). -/
def execNeighbourTimeStale (p : Nat) (s : State) : Host.Outcome State Fault Refusal := .next (s.nbStale p)
/-- REF_LOST (R642). -/
def execRefLost (s : State) : Host.Outcome State Fault Refusal := .next s.refLost
/-- REFERENCE_PRESENT (R642). -/
def execReferencePresent (s : State) : Host.Outcome State Fault Refusal := .next s.refPresent
/-- PPS_EDGE (R564). -/
def execPpsEdge (s : State) : Host.Outcome State Fault Refusal := .next s.ppsEdge
/-- PPS_INPUT_LOST (R564). -/
def execPpsInputLost (s : State) : Host.Outcome State Fault Refusal := .next s.ppsLost
/-- PPS_OUT_PULSE (R564). -/
def execPpsOutPulse (s : State) : Host.Outcome State Fault Refusal := .next s.ppsPulse
/-- TIME_STEP (R565). -/
def execTimeStep (s : State) : Host.Outcome State Fault Refusal := .next (s.regRow .TIM_CTL 0 State.timeStep)
/-- PORT_DISABLE (R482). -/
def execPortDisable (p : Nat) (s : State) : Host.Outcome State Fault Refusal := .next (s.regRow .RTE_PORT p (fun t => ((t.portDisable p).settle).timeCheck))
/-- DATA_FLIT (R494). -/
def execDataFlit (p : Nat) (fl : Flit) (lane corr : Nat) (s : State) : Host.Outcome State Fault Refusal :=
  .next ((s.dataFlit p fl lane corr).flitCheck fl)
/-- IDLE_FLIT (R491). -/
def execIdleFlit (p : Nat) (fl : RxFlit) (s : State) : Host.Outcome State Fault Refusal := .next ((s.idleFlit p fl).flitCheck fl.toFlit)
/-- NAK_FLIT (R498). -/
def execNakFlit (p : Nat) (fl : RxFlit) (s : State) : Host.Outcome State Fault Refusal := .next ((s.nakFlit p fl).flitCheck fl.toFlit)
/-- INIT_FLIT (R489). -/
def execInitFlit (p : Nat) (fl : RxFlit) (s : State) : Host.Outcome State Fault Refusal := .next ((s.initFlit p fl).flitCheck fl.toFlit)
/-- RETRAIN_FLIT (R508). -/
def execRetrainFlit (p : Nat) (fl : RxFlit) (s : State) : Host.Outcome State Fault Refusal := .next ((s.retrainFlit p fl).settle).timeCheck
/-- RETRAIN_TIMEOUT (R482). -/
def execRetrainTimeout (p : Nat) (s : State) : Host.Outcome State Fault Refusal := .next ((s.retrainTimeout p)).timeCheck
/-- LANE_SIGNAL_LOSS (R504). -/
def execLaneSignalLoss (lane : Nat) (s : State) : Host.Outcome State Fault Refusal := .next ((s.laneSignalLoss lane)).timeCheck
/-- BAD_FLIT (R493). -/
def execBadFlit (p : Nat) (b : BadFlit) (s : State) : Host.Outcome State Fault Refusal := .next (s.badFlit p b).timeCheck
/-- REPLAY_TIMEOUT (R498). -/
def execReplayTimeout (p : Nat) (s : State) : Host.Outcome State Fault Refusal := .next ((s.replayTimeout p)).timeCheck

end Sys2Proof.Machine
end

