-- ==== Sys2Proof/Machine/Safe.lean ====
section
/-! DEFINITION. The device safe state (15 R608 to R610, R670, R675), the fence of a pair (13 R538), and the acts that wait
for protection (13 R529, R532). -/

namespace Sys2Proof.Machine

/-! ## Completion queues that go on -/

/-- A completion queue's held entries are written as far as they may, and the queues that waited go on where none is left (R165). -/
def State.cqGo (s : State) (n : Nat) : State :=
  (s.cqDrain n).cqRelease n

/-! ## Acts that wait for protection (R529 to R532) -/

/-- An act whose changes are protected, or that need wait no longer. -/
def State.runAct (s : State) (a : Act) : State :=
  match a with
  | .adminCpl f c => s.adminCpl f c
  | .answer r status d0 res => (s.dupDone r).answer r status (if res then extRes d0 0 else [])
  | .grant k g flags => if (s.lock k).st = .granting ∧ (s.lock k).gseq = g then s.sendGrant k flags else s
  | .turn q => match (s.wq q).turn with
    | some t => if t.wait = .protect then s.turnGo q else s
    | none => s
  | .cqWrite n => (s.modCq n (fun q => { q with prot := q.resv })).cqGo n
  | .eqWrite n => (s.modEq n (fun q => { q with prot := q.resv })).eqDrain n

/-- Every act that waits proceeds at once, and nothing is mirrored any more: the device has left PAIRING or PAIRED (R532). -/
def State.stopMirror (s : State) (to_ : TwinState) : State :=
  s.mir.waits.foldl (fun t w => t.runAct w.2)
    { s with mir := { s.mir with twin := to_, waits := [], queue := [], unacked := [], copySeq := none, copyRx := false } }

/-! ## Entering the safe state (R609) -/

/-- A HANDOVER frame, while the mirror link carries frames (R538). -/
def State.sendHandover (s : State) : State :=
  let s1 := if s.mirUp then s.emit (.mirror (s.mframe 4 0 [] [])) else s
  { s1 with mir := { s1.mir with handAt := s.tick } }

/-- A PAIRED device in the safe state is FENCED (R538). -/
def State.fenceTwin (s : State) : State :=
  if s.mir.twin = .paired then ((s.stopMirror .fenced).latch .MIR_FLT_FENCED).sendHandover else s

/-- An ACTIVE queue moves to SUSPENDED at its turn boundary (R609). -/
def State.suspendSoon (s : State) (q : Nat) : State :=
  let w := s.wq q
  if w.st ≠ .active then s
  else if w.turn = none then s.suspendNow q
  else
    let s1 := s.modWq q (fun w => { w with suspendDue := true })
    if w.atBoundary then s1.endTurn q else s1

/-- A write to host memory that a walk or a waiting write of its block keeps from the posted stream is never performed (R670): the walk's
access fails when the walk ends, and the held one fails at once. -/
def State.loseWrites (s : State) : State :=
  let isWrite (r : Req) : Bool := (s.access r).write
  let held := s.win.leases.flatMap (fun kv => kv.2.held.filter isWrite) ++ s.win.startWrites.filterMap (fun x => x.held.filter isWrite) ++
    s.win.released.filter isWrite
  let s1 : State := { s with
    xlt := { s.xlt with walks := s.xlt.walks.map (fun kv => (kv.1, { kv.2 with lost := kv.2.lost || kv.2.write })) }
    win := { s.win with
      leases := s.win.leases.map (fun (kv : Nat × Lease) => (kv.1, { kv.2 with held := kv.2.held.filter (fun r => !isWrite r) }))
      startWrites := s.win.startWrites.filter (fun x => match x.held with | some r => !isWrite r | none => true)
      released := s.win.released.filter (fun r => !isWrite r) } }
  held.foldl (fun t r => t.accessFail r (t.rkey r (t.access r).key) (r.pkt.nonIdem || r.pkt.ptype == 0x0A)) s1

/-- The device enters the safe state: the quench, one message on vector 1, DMA writes stopped, queues suspended, and a PAIRED
device fenced (R538, R609, R675). `cause` and `src` are those of FLT_SAFE. -/
def State.enterSafe (s : State) (cause src : Nat) : State :=
  if s.flt.safe then s.fenceTwin
  else
    let s1 := ({ s with flt := { s.flt with safe := true } } : State).lnoticeAll
    let s2 := (s1.msix 0 1).setFld .HIF_STATUS_DMASTOP 1
    let s3 := (((s2.latch .FLT_SAFE_LATCH).setFld .FLT_SAFE_CAUSE cause).setFld .FLT_SAFE_SRC src).bump .FLT_ESCCNT_SAFES
    let s4 := s3.loseWrites
    (s4.qmg.wq.foldl (fun t kv => t.suspendSoon kv.1) s4).fenceTwin

/-- A PAIRED device fences itself (R538): none of the three causes of R608 begins this safe state. -/
def State.fence (s : State) : State := s.enterSafe 0 0

/-! ## Leaving it (R610) -/

/-- What DMA writes held back is written in order: messages of MSI-X, head write-backs, completions, events and admin
completions (R163, R610, R670, R675), and the tags that were held with completions are freed (R609). -/
def State.dmaResume (s : State) : State :=
  let tags := s.ini.tags.filter (fun kv => s.tagHeld kv.2)
  let s1 := (s.setFld .HIF_STATUS_DMASTOP 0).msixFlush
  let s2 := (s1.qmg.wq.filter (fun kv => kv.2.hwbDue)).foldl (fun t kv => t.headWb kv.1) s1
  let s3 := s2.qmg.cq.foldl (fun t kv => t.cqGo kv.1) s2
  let s4 := s3.qmg.eq.foldl (fun t kv => t.eqDrain kv.1) s3
  let s5 := s4.qmg.aq.foldl (fun t kv => t.adminDrain kv.1) s4
  tags.foldl (fun t kv => t.maybeRelease kv.1) s5

/-- The device leaves the safe state in the order of R610. -/
def State.leaveSafe (s : State) : State :=
  (({ s with flt := { s.flt with safe := false } } : State).lnoticeAll).dmaResume

end Sys2Proof.Machine
end

