-- ==== Sys2Proof/Machine/Mirror.lean ====
section
/-! DEFINITION. The mirror link (13 R523 to R527): its training, its frames with their replay, and the commands of its
link layer. -/

namespace Sys2Proof.Machine

/-! ## Lanes and taps (R524) -/

/-- A lane of the mirror link. -/
def State.mlane (s : State) (l : Nat) : MLane := mgetD s.mir.lanes l {}

/-- A lane of the mirror link changed. -/
def State.modMlane (s : State) (l : Nat) (f : MLane → MLane) : State :=
  { s with mir := { s.mir with lanes := mset s.mir.lanes l (f (s.mlane l)) } }

/-- A field of MIR_LANE set for several lanes. -/
def State.setMlanes (s : State) (f : Fld) (l : List Nat) (v : Nat) : State := l.foldl (fun t i => t.setFld f v i) s

/-- The 16 data lanes. -/
def mirAll : List Nat := numsFrom 0 16

/-- A tap in 1/32: MAIN (tap 1) unsigned, PRE1 and POST1 two's complement. -/
def mtapVal (taps i : Nat) : Int :=
  let v := bits taps (6 * i) 6
  if i = 1 ∨ v < 32 then (v : Int) else (v : Int) - 64

/-- The taps with one of them set. -/
def setMtap (taps i : Nat) (v : Int) : Nat := putBits taps (6 * i) 6 (v % 64).toNat

/-- The taps may take a value: it fits its six bits, and the magnitudes sum to at most 32/32. -/
def mtapOk (taps i : Nat) (v : Int) : Bool :=
  (if i = 1 then decide (0 ≤ v) && decide (v < 64) else decide (-32 ≤ v) && decide (v < 32)) &&
  decide ((([0, 1, 2].map (fun j => (mtapVal (setMtap taps i v) j).natAbs)).sum) ≤ 32)

/-- A TAPREQ applied tap by tap, and its TAPSTAT. -/
def mtapStep (req : Nat) : List Nat → Nat → Nat → Nat × Nat
  | [], taps, st => (taps, st)
  | i :: t, taps, st =>
    let q := bits req (2 * i) 2
    if q = 1 ∨ q = 2 then
      let v := mtapVal taps i + (if q = 1 then 1 else -1)
      if mtapOk taps i v then mtapStep req t (setMtap taps i v) (st + 4 ^ i)
      else mtapStep req t taps (st + (if q = 1 then 3 else 2) * 4 ^ i)
    else mtapStep req t taps st

/-! ## Link states (R524) -/

/-- The link enters a state. -/
def State.mirTo (s : State) (st : Nat) : State := { s with mir := { s.mir with link := st, since := s.tick } }

/-- The link starts blind in SEND, on both halves. -/
def State.mirSend (s : State) : State :=
  let s1 := (s.setMlanes .MIR_LANE_BAD mirAll 0).mirTo 1
  { s1 with mir := { s1.mir with trainAt := s.tick, lanes := [], toCount := 0 } }

/-- The pair is UNPAIRED again: its shadows and parameters are discarded. -/
def State.unpaired (s : State) : State :=
  let s1 := s.stopMirror .unpaired
  let w := { s1.win with map := s1.mir.shadow.maps.foldl (fun m n => mdel m n) s1.win.map }
  { s1 with win := w, mir := { s1.mir with shadow := {}, cfg := none, peerCfg := none, cmdAt := none, d0Down := none, noD0 := none } }

/-- TWIN_CONFIG ends without a pair (R533). -/
def State.pairFail (s : State) (status r0 : Nat) : State :=
  s.unpaired.endB (fun b => b.op == 0x40) status r0

/-- The link carries frames no longer: GEN_READY.MIR is 0 (R527), and pairing fails (R533). -/
def State.mirLost (s : State) : State :=
  let s1 := s.setFld .GEN_READY_MIR 0
  let s2 := ((s1.setMlanes .MIR_LANE_LOCKED mirAll 0).setMlanes .MIR_LANE_ALIGNED mirAll 0).setMlanes .MIR_LANE_INUSE mirAll 0
  if s2.mir.twin = .pairing then s2.pairFail sTimeout 0 else s2

/-- The link goes DOWN (R524). -/
def State.mirDown (s : State) : State := (((s.latch .MIR_FLT_LINKDN).raise 0x61B 0x1007 0).mirTo 7).mirLost

/-- The link is OFF: MIR_CTL.LINKEN became 0. -/
def State.mirOff (s : State) : State :=
  if s.mir.link = 0 then s else ((s.mirTo 0).setMlanes .MIR_LANE_BAD mirAll 0).mirLost

/-- A write of 1 to MIR_CTL.LINKEN: a link in OFF trains from SEND. -/
def State.mirEnable (s : State) : State :=
  let s1 := s.setFld .MIR_CTL_LINKEN 1
  if s1.mir.link = 0 then s1.mirSend else s1

/-- A frame failed its CRC on a lane: at 16 failures in 1,000,000 ticks the other half of the lanes is kept, or, of the kept
half, the link goes DOWN. -/
def State.mirLaneFail (s : State) (l : Nat) : State :=
  let fs := (s.mlane l).fails.filter (fun t => decide (s.tick < t + 1000000)) ++ [s.tick]
  let s1 := s.modMlane l (fun x => { x with fails := fs })
  if fs.length < 16 then s1
  else if s.mir.link = 5 then
    let half := numsFrom (l / 8 * 8) 8
    let s2 := (s1.setMlanes .MIR_LANE_BAD half 1).setMlanes .MIR_LANE_INUSE half 0
    let kept := s2.mir.lanes.map (fun (kv : Nat × MLane) => (kv.1, ({ fails := kv.2.fails } : MLane)))
    ({ s2 with mir := { s2.mir with lanes := kept } } : State).mirTo 6
  else if s.flag .MIR_LANE_INUSE l then s1.mirDown
  else s1

/-! ## Frames (R525, R526) -/

/-- One NAK, until a frame in sequence is accepted. -/
def State.mirNakOnce (s : State) : State :=
  if s.mir.nakSent || !s.mirUp then s
  else
    let s1 := s.emit (.mirror (s.mframe 2 0 [] []))
    { s1 with mir := { s1.mir with nakSent := true } }

/-- A RECORD frame's number is sent and unacknowledged, or stands for a record that waits to be sent. -/
def State.mirOpen (s : State) (q : Nat) : Bool :=
  s.mir.unacked.any (fun f => f.seq == q) || decide ((q + 2 ^ 16 - s.mir.txSeq) % 2 ^ 16 < s.mir.queue.length)

/-- The acts whose changes are protected proceed (R529). -/
def State.runProtected (s : State) : State :=
  let ready := s.mir.waits.filter (fun w => !s.mirOpen w.1)
  let s1 : State := { s with mir := { s.mir with waits := s.mir.waits.filter (fun w => s.mirOpen w.1) } }
  ready.foldl (fun t w => t.runAct w.2) s1

/-- The acknowledgement fields of a frame: the frames up to ACKSEQ are kept no longer, and what waited for them proceeds. -/
def State.mirAck (s : State) (f : MFrame) : State :=
  if f.ackv && s.mir.unacked.any (fun x => x.seq == f.ackseq) then
    let rest := (s.mir.unacked.dropWhile (fun x => x.seq != f.ackseq)).drop 1
    (({ s with mir := { s.mir with unacked := rest, lastAck := s.tick, toCount := 0 } } : State).mirPump).runProtected
  else s

/-- Every unacknowledged RECORD frame sent again, with the acknowledgement of the moment. -/
def State.mirReplay (s : State) : State :=
  let s1 := s.mir.unacked.foldl (fun t f => t.emit (.mirror (t.mframe 1 f.seq f.recs []))) s
  { s1 with mir := { s1.mir with lastAck := s.tick } }

/-- A frame that arrives: none is accepted during a takeover or of a twin that was taken over (R540); one that fails its CRC is
charged to its lane and answered with a NAK; the acknowledgement of one of the row's kind is applied first. -/
def State.mirFrame (s : State) (kind : Nat) (f : MFrame) (body : State → State) : State :=
  if !s.mirUp || s.mir.twin == .taking || s.mir.twin == .solo then s
  else if !f.crcOk then (s.mirLaneFail f.lane).mirNakOnce
  else if f.kind ≠ kind then s
  else body (s.mirAck f)

/-! ## Records applied to the shadow (R528) -/

/-- The shadow changed. -/
def State.modShadow (s : State) (f : Shadow → Shadow) : State := { s with mir := { s.mir with shadow := f s.mir.shadow } }

/-- A work queue's state from its code. -/
def wqStateOf (c : Nat) : WqState :=
  match c with
  | 1 => .active
  | 2 => .draining
  | 3 => .error
  | 4 => .suspended
  | _ => .disabled

/-- The region descriptor that 32 bytes hold (R207). -/
def regionOf (l : List Byte) : Region :=
  let st := leAt l 18 1
  { base := leAt l 0 8, pages := leAt l 8 8, asid := leAt l 16 2,
    st := if st = 1 then .valid else if st = 2 then .revoking else .free,
    gen := leAt l 19 1, rights := leAt l 20 1, pkey := leAt l 21 1, func := leAt l 22 1, check := leAt l 24 4,
    lastCheck := if leAt l 24 4 = 0 then none else some (leAt l 24 4) }

/-- The waiter that a LIFTLINE record names. -/
def waiterRec (l : List Byte) : Waiter :=
  { coord := leAt l 8 4 % 2 ^ 20, wq := bits (leAt l 12 4) 0 18, func := bits (leAt l 12 4) 18 6, wqidx := leAt l 16 4 }

/-- A shadow lock word changed by a LOCKWORD record; its lift line and the grantee's WQIDX stay. -/
def lockRec (l : List Byte) (k : Lock) : Lock :=
  let b := leAt l 4 4
  let o := leAt l 8 4
  { k with st := match bits b 0 3 with | 1 => .free | 2 => .held | 3 => .granting | _ => .disabled
           aband := bitAt b 3, forced := bitAt b 4, owner := bits o 0 20, func := bits o 20 6,
           wq := bits (leAt l 12 4) 0 18, gseq := leAt l 16 4 }

/-- A shadow lift line changed by a LIFTLINE record; the waiter removed from the head is the next grantee (R425). -/
def lineRec (l : List Byte) (k : Lock) : Lock :=
  let w := waiterRec l
  match leAt l 4 1 with
  | 1 => { k with line := k.line ++ [w] }
  | 2 => { k with line := k.line.drop 1, granteeIdx := w.wqidx }
  | 3 => { k with line := k.line.filter (· != w) }
  | _ => k

/-- A shadow work queue changed by a WQCTX record. -/
def wqRec (l : List Byte) (w : WQ) : WQ :=
  let c := leAt l 4 4
  { w with st := wqStateOf (bits c 0 3), configured := bitAt c 3, errKind := bits c 4 5, base := leAt l 8 8, log2 := leAt l 16 1,
           turnq := leAt l 17 1, asid := leAt l 18 2, cq := leAt l 20 2, eq := leAt l 24 2, headwb := leAt l 26 1 == 1,
           start := leAt l 28 4, hwaddr := leAt l 32 8, rate := leAt l 40 2, burst := leAt l 42 2 }

/-- A window-map entry of the twin written at its own number (R535). -/
def State.mapRec (s : State) (l : List Byte) : State :=
  let n := leAt l 0 4
  let s1 := s.modShadow (fun h => { h with maps := insertAsc h.maps n })
  let m := if bitAt (leAt l 12 4) 20 then
      mset s.win.map n { key := leAt l 4 8, coord := bits (leAt l 12 4) 0 20, fast := bitAt (leAt l 12 4) 21,
                         nocache := bitAt (leAt l 12 4) 22, roff := bits (leAt l 16 4) 0 27 }
    else mdel s.win.map n
  { s1 with win := { s1.win with map := m } }

/-- A record applied to the shadow of the twin's state. -/
def State.applyRec (s : State) (r : MRec) : State :=
  let l := r.body
  let n := leAt l 0 4
  match r.rtype with
  | 1 => s.modShadow (fun h => { h with regions := mset h.regions n (regionOf (l.drop 4)) })
  | 2 => s.modShadow (fun h => { h with locks := mset h.locks n (lockRec l (mgetD h.locks n {})) })
  | 3 => s.modShadow (fun h => { h with locks := mset h.locks n (lineRec l (mgetD h.locks n {})) })
  | 4 => s.mapRec l
  | 5 => s.modShadow (fun h => { h with wq := mset h.wq n (wqRec l (mgetD h.wq n {})) })
  | 6 => s.modShadow (fun h => { h with wq := mset h.wq n { mgetD h.wq n {} with reserved := leAt l 4 4, head := leAt l 8 4 } })
  | 7 => s.modShadow (fun h => { h with wq := mset h.wq n { mgetD h.wq n {} with tail := leAt l 4 4, kr := leAt l 8 8 } })
  | 8 =>
    let q := n % 2 ^ 31
    let p := leAt l 18 4
    let head := leAt l 22 4
    let armed := leAt l 26 2 == 1
    if 2 ^ 31 ≤ n then
      s.modShadow (fun h => { h with eq := mset h.eq q { configured := true, base := leAt l 4 8, log2 := leAt l 12 1,
                                                         vector := leAt l 16 2, prod := p, prot := p, resv := p, head := head, armed := armed } })
    else
      s.modShadow (fun h => { h with cq := mset h.cq q { configured := true, base := leAt l 4 8, log2 := leAt l 12 1,
                                                         eq := leAt l 16 2, prod := p, prot := p, resv := p, head := head, armed := armed } })
  | 9 => { s with mir := { s.mir with copyRx := true } }
  | _ => s

/-- The device takes the twin's records: while its own TWIN_CONFIG waits for the twin's, and from PAIRING on. -/
def State.takesRecords (s : State) : Bool :=
  match s.mir.twin with
  | .unpaired => s.mir.cmdAt.isSome
  | .pairing => true
  | .paired => true
  | .isolated => true
  | _ => false

/-- The SEQ of the next RECORD frame in sequence. -/
def State.mirNext (s : State) : Nat := if s.mir.rxAny then (s.mir.rxSeq + 1) % 2 ^ 16 else 0

/-- A RECORD frame: applied when it is the next in sequence, and acknowledged; else one NAK (R526). -/
def State.recordIn (s : State) (f : MFrame) : State :=
  if !s.takesRecords then s
  else if f.seq ≠ s.mirNext then s.mirNakOnce
  else
    let s1 := (f.recs.foldl (fun t r => t.applyRec r) s).bump .MIR_RXREC_COUNT 0 f.recs.length
    let s2 : State := { s1 with mir := { s1.mir with rxSeq := f.seq, rxAny := true, nakSent := false } }
    s2.emit (.mirror (s2.mframe 0 0 [] []))

/-! ## Commands of the link -/

/-- MIR_LINK_ENABLE (R524). -/
def execMirLinkEnable (s : State) : Host.Outcome State Fault Refusal := .next (s.regRow .MIR_CTL 0 State.mirEnable)

/-- MIR_CLOCK_DETECT (R524). -/
def execMirClockDetect (s : State) : Host.Outcome State Fault Refusal := .next (if s.mir.link = 1 then s.mirTo 2 else s)

/-- MIR_LANES_LOCKED (R524). -/
def execMirLanesLocked (s : State) : Host.Outcome State Fault Refusal :=
  .next (if s.mir.link = 2 then (s.setMlanes .MIR_LANE_LOCKED mirAll 1).mirTo 3 else s)

/-- MIR_COMMA_ALIGNED (R524). -/
def execMirCommaAligned (s : State) : Host.Outcome State Fault Refusal :=
  .next (if s.mir.link = 3 then (s.setMlanes .MIR_LANE_ALIGNED mirAll 1).mirTo 4 else s)

/-- A new request of the peer's receiver is applied to the transmit taps of its lane (R485, R524). -/
def State.mtapRequest (s : State) (l b1 : Nat) : State :=
  let tog := bitAt b1 6
  if tog = (s.mlane l).reqtog then s
  else
    let r := mtapStep (bits b1 0 6) [0, 1, 2] (s.fld .MIR_LANE_TAPS l) 0
    (s.setFld .MIR_LANE_TAPS r.1 l).modMlane l (fun x => { x with reqtog := tog, tapstat := r.2 })

/-- The own receiver of a lane adapts, as in R484: once the peer's ACKTOG matches its REQTOG it makes a new request or has finished; which
of them is its analogue matter, a free value. -/
def State.madapt (s : State) (l b1 : Nat) : State :=
  let x := s.mlane l
  if x.rxdone || bitAt b1 7 != x.mytog then s
  else
    let (n, s1) := s.fresh
    let v := Config.openNat n
    s1.modMlane l (fun y => if v % 2 = 0 then { y with rxdone := true }
      else { y with mytog := !y.mytog, myreq := ([0, 1, 2].map (fun i => v / 2 / 3 ^ i % 3 * 4 ^ i)).sum })

/-- A back-channel block for a lane (R524): the own receiver's request and REQTOG, the answer to the peer's, and RXDONE. -/
def State.backBlock (s : State) (l : Nat) : State :=
  let x := s.mlane l
  s.emit (.mirrorBc (x.myreq + 64 * b2n x.mytog + 128 * b2n x.reqtog) x.tapstat (b2n x.rxdone + 2 * l))

/-- A back-channel block on a lane (R524): the peer's request applied, the own receiver's next, and both answered where anything
changed. -/
def State.backChannel (s : State) (b1 b3 : Nat) : State :=
  let l := bits b3 1 4
  if !(s.mir.link == 4 || s.mirUp) then s
  else
    let s1 := ((s.mtapRequest l b1).madapt l b1).modMlane l (fun x => { x with peerDone := bitAt b3 0 })
    if s1.mlane l = s.mlane l then s1 else s1.backBlock l

/-- TUNE is over: both ends report RXDONE for every lane (R524). -/
def State.mirTuned (s : State) : Bool := mirAll.all (fun l => (s.mlane l).rxdone && (s.mlane l).peerDone)

/-- The back channel's own block: one in every 64 blocks on lane 0 in TUNE, ACTIVE and HALF (R524), which is one in 130 * 64 / 56 ticks, for the
data lanes in turn. -/
def State.backTick (s : State) : State :=
  let n := s.tick * 56 / 8320
  if (s.mir.link == 4 || s.mirUp) && n != (s.tick - 1) * 56 / 8320 then s.backBlock (n % 16) else s

/-- MIR_BACKCHANNEL_BLOCK (R524): byte 2 reports what became of the own receiver's request, which bears on its adaptation alone. -/
def execMirBackchannelBlock (b1 _b2 b3 : Nat) (s : State) : Host.Outcome State Fault Refusal := .next (s.backChannel b1 b3)

/-- A heartbeat has arrived in the last 30,000 ticks (R527). -/
def State.hbRecent (s : State) : Bool := match s.mir.lastHb with | some t => decide (s.tick < t + 30000) | none => false

/-- MIR_TUNE_DONE (R524): frames begin; GEN_READY.MIR reads 1 again where the twin's heartbeat is recent (R527). -/
def State.mirActive (s : State) : State :=
  if s.mir.link = 4 ∧ s.mirTuned = true then
    let s1 := (s.setMlanes .MIR_LANE_INUSE mirAll 1).mirTo 5
    let s2 := ({ s1 with mir := { s1.mir with lastAck := s.tick, toCount := 0 } } : State).mirPump
    if s.hbRecent then s2.setFld .GEN_READY_MIR 1 else s2
  else s

/-- MIR_TUNE_DONE (R524). -/
def execMirTuneDone (s : State) : Host.Outcome State Fault Refusal := .next s.mirActive

/-- MIR_TRAIN_TIMEOUT (R524). -/
def execMirTrainTimeout (s : State) : Host.Outcome State Fault Refusal :=
  .next (if 1 ≤ s.mir.link ∧ s.mir.link ≤ 4 ∧ s.mir.trainAt + 100000000 ≤ s.tick then s.mirDown.settle else s)

/-- MIR_DOWN_EXPIRE (R524). -/
def execMirDownExpire (s : State) : Host.Outcome State Fault Refusal :=
  .next (if s.mir.link = 7 ∧ s.mir.since + 1000000 ≤ s.tick then s.mirSend else s)

/-- RECORD (R526, R528). -/
def execRecord (fr : MFrame) (s : State) : Host.Outcome State Fault Refusal :=
  .next (s.mirFrame 1 fr (fun t => t.recordIn fr)).settle

/-- MIR_NAK (R526): a replay from ACKSEQ + 1. -/
def execMirNak (fr : MFrame) (s : State) : Host.Outcome State Fault Refusal :=
  .next (s.mirFrame 2 fr (fun t => (t.bump .MIR_REPLAY_NAKRPL).mirReplay)).settle

/-- MIR_IDLE (R525). -/
def execMirIdle (fr : MFrame) (s : State) : Host.Outcome State Fault Refusal := .next (s.mirFrame 0 fr id).settle

/-- A timeout replay; the link goes DOWN at the sixteenth in a row (R524, R526). -/
def State.mirLate (s : State) : State :=
  if s.mirUp = true ∧ s.mir.unacked ≠ [] ∧ s.mir.lastAck + 2000 ≤ s.tick then
    let s1 := (s.bump .MIR_REPLAY_TORPL).mirReplay
    let s2 : State := { s1 with mir := { s1.mir with toCount := s.mir.toCount + 1 } }
    if 16 ≤ s2.mir.toCount then s2.mirDown.settle else s2
  else s

/-- MIR_REPLAY_TIMEOUT (R526). -/
def execMirReplayTimeout (s : State) : Host.Outcome State Fault Refusal := .next s.mirLate

end Sys2Proof.Machine
end

