-- ==== Sys2Proof/Machine/Twin.lean ====
section
/-! DEFINITION. Twin pairs (13 R520 to R549): heartbeats, TWIN_CONFIG and the bulk copy, isolation, fencing, takeover, release,
and their commands. -/

namespace Sys2Proof.Machine

/-! ## TWIN_CONFIG (R533) -/

/-- The parameters of a TWIN_CONFIG with the registers that both devices must hold equal. -/
def State.twinParams (s : State) (r : Raw) : TwinParams :=
  { coord := r.object, hostmode := r.at_ 8 1, wqBase := r.at_ 12 4, wqCount := r.at_ 16 4, cqBase := r.at_ 20 2,
    cqCount := r.at_ 22 2, eqBase := r.at_ 24 2, eqCount := r.at_ 26 2, mapBase := r.at_ 28 4, mapCount := r.at_ 32 4,
    leaseDur := s.fld .NCC_LEASEDUR_DUR, ovfDur := s.fld .NCC_OVFDUR_DUR, hbMiss := s.fld .MIR_HB_MISS,
    guardT := s.fld .MIR_GUARD_GUARD, fenceWin := s.fld .MIR_FENCEWIN_WIN }

/-- A range meets the allotment of a VF. -/
def State.meetsVf (s : State) (base cnt : Fld) (b n : Nat) : Bool :=
  (numsFrom 1 63).any (fun v => rangesMeet b n (s.fld base v) (s.fld cnt v))

/-- The parameters are ones that R533 takes. -/
def State.twinOk (s : State) (p : TwinParams) : Bool :=
  s.valid p.coord && sameCell p.coord s.own && p.coord != s.own && decide (p.hostmode < 2) &&
  decide (p.wqCount ≤ 131072) && decide (p.wqBase + p.wqCount ≤ 262144) && decide (p.wqBase < 262144) &&
  decide (p.cqCount ≤ 32768) && decide (p.cqBase + p.cqCount ≤ 65536) && decide (p.eqCount ≤ 1024) && decide (p.eqBase < 2048) &&
  decide (p.eqBase + p.eqCount ≤ 2048) && decide (p.mapBase < 2 ^ 24) && decide (p.mapCount ≤ 8388608) &&
  decide (p.mapBase + p.mapCount ≤ 2 ^ 24) && !s.meetsVf .QMG_VFWQ_BASE .QMG_VFWQ_COUNT p.wqBase p.wqCount &&
  !s.meetsVf .QMG_VFCQ_BASE .QMG_VFCQ_COUNT p.cqBase p.cqCount && !s.meetsVf .QMG_VFEQ_BASE .QMG_VFEQ_COUNT p.eqBase p.eqCount &&
  (p.hostmode == 0 || (p.wqCount == 0 && p.cqCount == 0 && p.eqCount == 0 && p.mapCount == 0))

/-- TWIN_CONFIG (R533): it waits for the twin's. DESIGN CHOICE (log 33): a second one while the first is in PAIRING ends by R533's first row,
STATE_CONFLICT, and not by R180's OBJECT_BUSY; before the twin's has come, by R180's. -/
def State.cmdTwinConfig (s : State) (c : AdminCmd) : State :=
  let r := c.raw
  let p := s.twinParams r
  match firstFail [(c.func != 0, sNotPermitted), (!s.fwReady, sStateConflict), (s.mir.cmdAt.isSome, sBusy),
      (s.mir.twin != .unpaired || !s.flag .GEN_READY_MIR || s.aliased, sStateConflict)] with
  | some st => s.adminEnd c st
  | none =>
    if !r.onlyBytes [(8, 1), (12, 24)] || !s.twinOk p then s.adminEnd c sInvalidField 1
    else
      let m := s.mir
      ({ s with mir := { m with
          cfg := some p, cmdAt := some s.tick, txSeq := 0, rxSeq := 0, rxAny := false, nakSent := false, unacked := [],
          queue := [], copySeq := none, copyRx := false, shadow := {} } } : State).startB
        { func := c.func, cid := r.cid, op := 0x40, obj := r.object, start := s.tick, raw := r }

/-- Why the twin's parameters do not match the own ones: RESULT0 of INVALID_FIELD (R533). -/
def twinMismatch (own : Nat) (a b : TwinParams) : Option Nat :=
  if b.coord ≠ own ∨ b.hostmode ≠ a.hostmode then some 2
  else if rangesMeet a.wqBase a.wqCount b.wqBase b.wqCount || rangesMeet a.cqBase a.cqCount b.cqBase b.cqCount ||
      rangesMeet a.eqBase a.eqCount b.eqBase b.eqCount || rangesMeet a.mapBase a.mapCount b.mapBase b.mapCount then some 3
  else if a.leaseDur ≠ b.leaseDur ∨ a.ovfDur ≠ b.ovfDur then some 4
  else if a.hbMiss ≠ b.hbMiss ∨ a.guardT ≠ b.guardT ∨ a.fenceWin ≠ b.fenceWin then some 5
  else none

/-! ## The bulk copy (R534) -/

/-- A lock word and its lift line as records: the WQIDX of a grantee goes ahead as a waiter that is then removed. -/
def State.copyLock (s : State) (k : Nat) (l : Lock) : State :=
  let s1 := if l.st = .granting then
      let w : Waiter := { coord := l.owner, func := l.func, wq := l.wq, wqidx := l.granteeIdx }
      (s.recLine k 1 w).recLine k 2 w
    else s
  l.line.foldl (fun t w => t.recLine k 1 w) (s1.recLock k l)

/-- A work queue as records: a turn in progress counts as reserved. -/
def State.copyWq (s : State) (q : Nat) : State :=
  let s1 := s.modWq q (fun w => { w with reserved := match w.turn with | some t => add32 w.head t.left | none => w.head })
  ((s1.recWq q).recWqTail q).recWqHead q

/-- The whole mirrored state sent, closed by COPYEND. -/
def State.bulkCopy (s : State) : State :=
  let s1 := (s.tgt.regions.filter (fun kv => decide (kv.1 < 2 ^ 24))).foldl (fun t kv => t.recRegion kv.1) s
  let s2 := (s1.lck.words.filter (fun kv => decide (kv.1 < 2 ^ 24))).foldl (fun t kv => t.copyLock kv.1 kv.2) s1
  let s3 := s2.win.map.foldl (fun t kv => t.recMap kv.1) s2
  let s4 := (s3.qmg.wq.filter (fun kv => s3.mirWq kv.1 && kv.2.configured)).foldl (fun t kv => t.copyWq kv.1) s3
  let s5 := (s4.qmg.cq.filter (fun kv => s4.mirCq kv.1 && kv.2.configured)).foldl (fun t kv =>
    (t.modCq kv.1 (fun q => { q with prot := q.prod, resv := q.prod })).recQctx false kv.1) s4
  let s6 := (s5.qmg.eq.filter (fun kv => s5.mirEq kv.1 && kv.2.configured)).foldl (fun t kv =>
    (t.modEq kv.1 (fun q => { q with prot := q.prod, resv := q.prod })).recQctx true kv.1) s5
  let s7 := s6.record 9 (zeros 4)
  { s7 with mir := { s7.mir with copySeq := some s7.protSeq } }

/-- Both commands are known: the device enters PAIRING, or its command ends INVALID_FIELD (R533, R534). -/
def State.twinMatch (s : State) (p : TwinParams) : State :=
  match s.mir.cfg with
  | none => s
  | some a =>
    if !s.dstate then s else
    match twinMismatch s.own a p with
    | some n => s.pairFail sInvalidField n
    | none => ({ s with mir := { s.mir with twin := .pairing, peerCfg := some p, cmdAt := none } } : State).bulkCopy

/-! ## Heartbeats (R527) -/

/-- The twin state code. -/
def TwinState.code : TwinState → Nat
  | .unpaired => 0
  | .pairing => 1
  | .paired => 2
  | .isolated => 3
  | .taking => 4
  | .solo => 5
  | .fenced => 6

/-- Frame bytes 8 to 27 of a heartbeat. -/
def State.hbBytes (s : State) : List Byte :=
  leBytes 4 s.own ++ leBytes 1 s.mir.twin.code ++ zeros 3 ++ leBytes 8 s.now ++ leBytes 4 s.mir.hbCount

/-- At a fabric-time multiple of 10,000 ticks: a PAIRED device counts an interval without a heartbeat, and a heartbeat leaves
ahead of waiting records. -/
def State.heartbeatSend (s : State) : State :=
  if s.now % 10000 ≠ 0 ∨ s.mir.hbSent = some s.now then s
  else
    let late := s.mir.twin == .paired && (match s.mir.lastHb with | some t => decide (t + 10000 < s.tick) | none => true)
    let s1 := if late then s.bump .MIR_HBLATE_COUNT else s
    let f : MFrame := { s.mframe 3 0 [] s.hbBytes with cfg := s.mir.cfg }
    let s2 := if s.mirUp then s1.emit (.mirror f) else s1
    { s2 with mir := { s2.mir with hbSent := some s.now, hbCount := if s.mirUp then add32 s.mir.hbCount 1 else s.mir.hbCount } }

/-- A heartbeat of a device that differs from this one only in d0: it is alive, and its TWIN_CONFIG is compared with the one
that waits. -/
def State.heartbeatIn (s : State) (f : MFrame) : State :=
  let c := bits (leAt f.hb 0 4) 0 20
  if c = s.own ∨ sameCell c s.own = false then s
  else
    let s1 := ({ s with mir := { s.mir with lastHb := some s.tick } } : State).setFld .GEN_READY_MIR 1
    match f.cfg with
    | some p =>
      let named := match s.mir.cfg with | some a => a.coord == c | none => false
      if s.mir.cmdAt.isSome && s.mir.twin == .unpaired && named then s1.twinMatch p else s1
    | none => s1

/-- No heartbeat for 30,000 ticks. -/
def State.mirStale (s : State) : State :=
  match s.mir.lastHb with
  | some t => if t + 30000 ≤ s.tick then s.setFld .GEN_READY_MIR 0 else s
  | none => s

/-- No heartbeat has arrived for MIR_HB.MISS × 10,000 ticks (R536, R537). -/
def State.hbMissed (s : State) : Bool :=
  match s.mir.lastHb with
  | some t => decide (t + s.fld .MIR_HB_MISS * 10000 ≤ s.tick)
  | none => true

/-! ## Paired, isolated, unpaired (R534, R537, R549) -/

/-- The pair's twin. -/
def State.twinCoord (s : State) : Nat := match s.mir.cfg with | some p => p.coord | none => nullCoord

/-- The pair's host mode. -/
def State.hostMode (s : State) : Nat := match s.mir.cfg with | some p => p.hostmode | none => 0

/-- Both copies are complete: PAIRED (R534). -/
def State.pairingDone (s : State) : State :=
  match s.mir.copySeq with
  | some q =>
    if s.mir.twin = .pairing ∧ s.mir.copyRx = true ∧ s.mirOpen q = false then
      let s1 : State := { s with mir := { s.mir with twin := .paired, copySeq := none, copyRx := false, d0Down := none, noD0 := none } }
      (s1.watchTwin.event0 0x40 s.hostMode s.twinCoord 0).endB (fun b => b.op == 0x40) 0
    else s
  | none => s

/-- No matching TWIN_CONFIG for 1,000,000,000 ticks (R533). -/
def State.twinLate (s : State) : State :=
  match s.mir.cmdAt with
  | some t => if t + 1000000000 ≤ s.tick then s.pairFail sTimeout 0 else s
  | none => s

/-- A write of 1 to a WO bit of MIR_CTL in a state that does not list it (13, States). -/
def State.mirBad (s : State) : State := s.accLog 4 true 0 0 (RegName.MIR_CTL.addr 0)

/-- MIR_CTL.UNPAIR. -/
def State.unpairCmd (s : State) : State :=
  match s.mir.twin with
  | .pairing => s.pairFail sStateConflict 0
  | .paired => (if s.mirUp then s.emit (.mirror (s.mframe 5 0 [] [])) else s).unpaired
  | .isolated => (if s.mirUp then s.emit (.mirror (s.mframe 5 0 [] [])) else s).unpaired
  | _ => s.mirBad

/-- A PAIRED device that misses heartbeats while a d0 link of its twin is up (R537). -/
def State.isolate (s : State) : State :=
  if s.mir.twin = .paired ∧ s.hbMissed = true ∧ s.mir.d0Down = none then
    ((s.stopMirror .isolated).latch .MIR_FLT_LINKLOST |>.event0 0x42 0 s.twinCoord 0).raise 0x61B 0x5004 s.twinCoord
  else s

/-! ## Takeover (R540, R544, R545) -/

/-- Void completions written over the stale marks of counts P − 64 to P − 1, no more than the ring holds (R545). -/
def State.voidCq (s : State) (n : Nat) : State :=
  let q := s.cq n
  (numsFrom 1 (min 64 (2 ^ q.log2))).foldl (fun t i =>
    let c := sub32 q.prod i
    let a := q.base + c % 2 ^ q.log2 * 32
    let m := markOf q.log2 c
    if leAt (t.read a 32) 28 4 / 2 ^ 31 = m then t
    else t.write a (Cpl.bytes { gwq := 0, wq := 0, wqidx := 0, opcode := 0xFF, status := cFlushed } m)) s

/-- Void events written over the stale marks of counts P − 64 to P − 1, no more than the ring holds (R545). -/
def State.voidEq (s : State) (n : Nat) : State :=
  let q := s.eq n
  (numsFrom 1 (min 64 (2 ^ q.log2))).foldl (fun t i =>
    let c := sub32 q.prod i
    let a := q.base + c % 2 ^ q.log2 * 16
    let m := markOf q.log2 c
    if leAt (t.read a 16) 12 4 / 2 ^ 31 = m then t else t.write a (Ev.bytes { type := 0x45 } m)) s

/-- A mirrored work queue of the twin installed as an own queue of the PF (R544). DESIGN CHOICE: no record carries the shaper's credit, which
starts at 0 (R186, log 68), nor a doorbell's instant: the delay is 0 until a doorbell reaches the survivor (R189, log 47). -/
def State.installWq (s : State) (q : Nat) (w : WQ) : State :=
  let r := w.reserved
  match w.st with
  | .active => (s.modWq q (fun _ => { w with st := .suspended, head := r, fidx := r })).wqEvent q 0x06 0 r
  | .suspended => (s.modWq q (fun _ => { w with head := r, fidx := r })).wqEvent q 0x06 0 r
  | .disabled => s.modWq q (fun _ => { w with fidx := w.head, reserved := w.head })
  | .draining => (s.modWq q (fun _ => { w with st := .disabled, head := r, fidx := r, tail := r })).wqEvent q 0x03 0 r
  | .error => (s.modWq q (fun _ => { w with fidx := w.head, reserved := w.head })).wqEvent q 0x02 w.errKind w.head

/-- The twin's queues installed (R544, R545): completion and event queues before the work queues that report to them. -/
def State.installQueues (s : State) (h : Shadow) : State :=
  let s1 := h.cq.foldl (fun t kv => (t.modCq kv.1 (fun _ => kv.2)).voidCq kv.1) s
  let s2 := h.eq.foldl (fun t kv => (t.modEq kv.1 (fun _ => kv.2)).voidEq kv.1) s1
  h.wq.foldl (fun t kv => t.installWq kv.1 kv.2) s2

/-- A shadow region as the alias's: one in REVOKING becomes FREE with its generation incremented (R85, R540). -/
def Region.taken (g : Region) : Region :=
  if g.st = .revoking then { g with st := .free, gen := if g.gen = 255 then 1 else g.gen + 1 } else g

/-- A grant of the alias's lock words that the mirrored state showed in GRANTING, sent again with the same GRANTSEQ (R435). -/
def State.resendGrant (s : State) (k : Nat) (old : Lock) : State :=
  let l := s.lock k
  if l.st = .granting ∧ l.gseq = old.gseq then s.sendGrant k (1 + 2 * b2n old.aband + 4 * b2n old.forced) else s

/-- The alias instant (R540, steps 2 to 4): the tables that the twin mirrored are served, and the alias is announced. -/
def State.takeAlias (s : State) (c : Nat) : State :=
  let h := s.mir.shadow
  let s1 := s.setFld .GEN_ALIAS_COORD c
  let x := digit c 0
  let s2 : State := { s1 with
    tgt := { s1.tgt with
      supStartAlias := s.tick
      regions := h.regions.foldl (fun m kv => mset m (kv.1 + 2 ^ 24) kv.2.taken) s1.tgt.regions }
    lck := { s1.lck with words := h.locks.foldl (fun m kv => mset m (kv.1 + 2 ^ 24) kv.2) s1.lck.words }
    win := { s1.win with startEndAlias := some (s.tick + s.fld .NCC_LEASEDUR_DUR + epsilon) }
    rte := { s1.rte with annSet := some true, annFirst := s.tick, annLast := s.tick, annDigit := x }
    mir := { s1.mir with aliasAt := s.now, shadow := {} } }
  ((s2.setFld .RTE_ALIAS_DIGIT (digit s.own 0) x).setFld .RTE_ALIAS_VALID 1 x).sendAlias x true

/-- The twin is declared failed: takeover steps 1 to 7 (R540). -/
def State.takeover (s : State) (sub : Nat) : State :=
  let c := s.twinCoord
  let h := s.mir.shadow
  let shared := s.hostMode == 0
  let s1 := ((s.stopMirror .taking).latch .MIR_FLT_TAKEOVER).raise 0x61B 0x5003 c
  let s2 := ({ s1 with mir := { s1.mir with declAt := s.tick, takeSub := sub, installed := if shared then h.wq.length else 0 } } : State).takeAlias c
  let s3 := (s2.raise (s2.peerSrc c) 0x5001 c).ownerDead c none 2
  let s4 := (h.locks.filter (fun kv => kv.2.st == .granting)).foldl (fun t kv => t.resendGrant (kv.1 + 2 ^ 24) kv.2) s3
  if shared then s4.installQueues h else s4

/-- Step 8: TWIN_TAKEOVER, whose TIME is the alias instant, and SOLO (R540, R547). -/
def State.takeoverEnd (s : State) : State :=
  if s.mir.twin = .taking then
    ({ s with mir := { s.mir with twin := .solo } } : State).eventAt 0 0x41 s.mir.takeSub s.alias_ s.mir.installed s.mir.aliasAt
  else s

/-- MIR_CTL.RELEASE (R549): the alias and its tables are given up; installed queues stay. Leases granted under the alias, and
writes that wait for them, end at their own time; so does a revocation in progress, whose descriptor no access reaches any more. -/
def State.releaseCmd (s : State) : State :=
  if s.mir.twin = .solo then
    let c := s.alias_
    let x := digit c 0
    let s1 := s.setFld .GEN_ALIAS_COORD nullCoord
    let s2 : State := { s1 with
      tgt := { s1.tgt with regions := s1.tgt.regions.filter (fun kv => decide (kv.1 < 2 ^ 24) || kv.2.revoke.isSome) }
      lck := { s1.lck with words := s1.lck.words.filter (fun kv => decide (kv.1 < 2 ^ 24)) }
      rte := { s1.rte with annSet := some false, annFirst := s.tick, annLast := s.tick, annDigit := x }
      mir := { s1.mir with shadow := {} } }
    ((s2.setFld .RTE_ALIAS_VALID 0 x).sendAlias x false).unpaired.event0 0x44 0 c 0
  else s.mirBad

/-! ## Commands -/

/-- UNPAIR (R532). -/
def execUnpair (s : State) : Host.Outcome State Fault Refusal := .next (s.regRow .MIR_CTL 0 (fun t => t.unpairCmd.settle))

/-- RELEASE (R549). -/
def execRelease (s : State) : Host.Outcome State Fault Refusal := .next (s.regRow .MIR_CTL 0 (fun t => t.releaseCmd.settle))

/-- HANDOVER (R538). -/
def execHandover (s : State) : Host.Outcome State Fault Refusal :=
  .next (s.regRow .MIR_CTL 0 (fun t => if t.mir.twin = .paired then t.fence.settle else t.mirBad))

/-- PAIRING_COMPLETE (R534). -/
def execPairingComplete (s : State) : Host.Outcome State Fault Refusal := .next s.pairingDone

/-- TWIN_CONFIG_TIMEOUT (R533). -/
def execTwinConfigTimeout (s : State) : Host.Outcome State Fault Refusal := .next s.twinLate.settle

/-- HEARTBEAT (R527, R533). -/
def execHeartbeat (fr : MFrame) (s : State) : Host.Outcome State Fault Refusal :=
  .next (s.mirFrame 3 fr (fun t => t.heartbeatIn fr)).settle

/-- HEARTBEAT_SEND (R527). -/
def execHeartbeatSend (s : State) : Host.Outcome State Fault Refusal := .next s.heartbeatSend

/-- MIR_READY_TIMEOUT (R527). -/
def execMirReadyTimeout (s : State) : Host.Outcome State Fault Refusal := .next s.mirStale

/-- UNPAIR_FRAME (R532, 13 States). -/
def execUnpairFrame (fr : MFrame) (s : State) : Host.Outcome State Fault Refusal :=
  .next (s.mirFrame 5 fr (fun t => if t.mir.twin = .paired ∨ t.mir.twin = .isolated then t.unpaired else t)).settle

/-- HANDOVER_FRAME (R536). -/
def execHandoverFrame (fr : MFrame) (s : State) : Host.Outcome State Fault Refusal :=
  .next (s.mirFrame 4 fr (fun t => if t.mir.twin = .paired ∧ t.dstate = true then t.takeover 1 else t)).settle

/-- TWIN_FAIL_DECLARE (R536). -/
def State.failDeclare (s : State) : State :=
  match s.mir.d0Down with
  | some t => if s.mir.twin = .paired ∧ s.dstate = true ∧ s.hbMissed = true ∧ t + s.fld .MIR_GUARD_GUARD ≤ s.tick then (s.takeover 0).settle else s
  | none => s

/-- TWIN_FAIL_DECLARE (R536, R540). -/
def execTwinFailDeclare (s : State) : Host.Outcome State Fault Refusal := .next s.failDeclare

/-- TAKEOVER_COMPLETE (R540). -/
def execTakeoverComplete (s : State) : Host.Outcome State Fault Refusal := .next s.takeoverEnd

/-- TWIN_ISOLATE (R537). -/
def execTwinIsolate (s : State) : Host.Outcome State Fault Refusal := .next s.isolate.settle

/-- No d0 port has been UP for MIR_FENCEWIN.WIN ticks (R538). -/
def State.fenceWindow (s : State) : State :=
  match s.mir.noD0 with
  | some t => if s.mir.twin = .paired ∧ t + s.fld .MIR_FENCEWIN_WIN ≤ s.tick then s.fence.settle else s
  | none => s

/-- FENCE_WINDOW_EXPIRE (R538). -/
def execFenceWindowExpire (s : State) : Host.Outcome State Fault Refusal := .next s.fenceWindow

/-- HANDOVER_REPEAT (R538). -/
def execHandoverRepeat (s : State) : Host.Outcome State Fault Refusal :=
  .next (if s.mir.twin = .fenced ∧ s.mirUp = true ∧ s.mir.handAt + 1000 ≤ s.tick then s.sendHandover else s)

end Sys2Proof.Machine
end

