-- ==== Sys2Proof/Machine/RegEffects.lean ====
section
/-! DEFINITION. The register writes that have a command of their own in the Global Window, the near-cache, translation, the
performance counters, the watchdog and the voltage loop, and the loading of boot values. -/

namespace Sys2Proof.Machine

/-! ## Windows (R289) -/

/-- The number of map entries of window `d` with granules of 2^g bytes (R288). -/
def State.winEntries (s : State) (d g : Nat) : Nat := ((s.host.hdm[d]?).getD {}).size / 2 ^ g

/-- Window `d` may be enabled with granules of 2^g bytes (R289, R535). -/
def State.windowOk (s : State) (d g : Nat) : Bool :=
  let h := (s.host.hdm[d]?).getD {}
  let b := s.fld .GWN_WMAP_MBASE d
  let n := s.winEntries d g
  h.committed && h.size % 2 ^ g == 0 && decide (b + n ≤ 2 ^ 24) &&
  (List.range 4).all (fun e => e == d || !s.flag .GWN_WCFG_EN e ||
    !rangesMeet b n (s.fld .GWN_WMAP_MBASE e) (s.winEntries e (s.fld .GWN_WCFG_GLOG2 e))) &&
  !s.meetsTwin TwinParams.mapBase TwinParams.mapCount b n

/-- A write of EN 1 and GLOG2 to GWN_WCFG(d) (R136, R138, R289). -/
def State.windowEnable (s : State) (d g : Nat) : State :=
  let off := RegName.GWN_WCFG.addr d
  if s.flag .GWN_WCFG_EN d && s.fld .GWN_WCFG_GLOG2 d != g then s.lockViol 0 off
  else if g < 21 || 48 < g || !s.windowOk d g then s.accLog 4 true 0 0 off
  else (s.setFld .GWN_WCFG_EN 1 d).setFld .GWN_WCFG_GLOG2 g d

/-! ## The near-cache (R333) -/

/-- Every frame of the near-cache becomes invalid; a read in flight installs nothing. -/
def State.nccEmpty (s : State) : State :=
  ({ s with win := { s.win with frames := [], nccInit := false, cacheEpoch := s.win.cacheEpoch + 1 } } : State).nccReady

/-- NCC_CFG.EN changes from 0 to 1: the frames are initialised. -/
def State.nccOn (s : State) : State := if s.flag .NCC_CFG_EN then s else (s.setFld .NCC_CFG_EN 1).nccEmpty

/-- NCC_CFG.EN changes from 1 to 0. -/
def State.nccOff (s : State) : State := if s.flag .NCC_CFG_EN then (s.setFld .NCC_CFG_EN 0).nccEmpty else s

/-- Initialisation of the frames is complete. -/
def State.nccInitDone (s : State) : State :=
  if s.flag .NCC_CFG_EN then ({ s with win := { s.win with nccInit := true } } : State).nccReady else s

/-! ## Translation (R336, R373) -/

/-- XLT_CTL.EN changes from 1 to 0. -/
def State.xltOff (s : State) : State := if s.flag .XLT_CTL_EN then (s.setFld .XLT_CTL_EN 0).xltClear else s

/-- The registers of an excluded range in the order of their offsets (R377). -/
def exclReg (i : Nat) : RegName :=
  match i with
  | 0 => .XLT_EXCLBL
  | 1 => .XLT_EXCLBH
  | 2 => .XLT_EXCLLL
  | _ => .XLT_EXCLLH

/-- A register's RW bits replaced by those of a written value: a write at the normal offset (R129). -/
def State.putRw (s : State) (r : RegName) (i v : Nat) : State :=
  s.wrRaw r i (r.fields.foldl (fun x f => if f.acc = .rw then putBits x f.lo f.w (bits v f.lo f.w) else x) (s.rdRaw r i))

/-- A write of an XLT_EXCL register. -/
def State.exclWrite (s : State) (n i v : Nat) : State := (s.putRw (exclReg i) n v).xltClear

/-! ## The voltage loop (R572 to R576) -/

/-- The regulator of rail 0 is asked for its voltage and its status (R572). DESIGN CHOICE (log 76): the spec names the two reads and not
when they are sent. -/
def State.avsReads (s : State) : State := (s.emit (.avsRead 0)).emit (.avsStatus 0)

/-- PWR_CTL.AVSEN changes from 0 to 1: the loop starts or restarts, and asks the regulator for its voltage. -/
def State.avsOn (s : State) : State :=
  if s.flag .PWR_CTL_AVSEN then s
  else
    let s1 := s.setFld .PWR_CTL_AVSEN 1
    ({ s1 with rst := { s1.rst with avsFails := 0, avsStopped := false, paceHigh := 0, paceLow := 0 } } : State).avsReads

/-! ## The watchdog (R579) -/

/-- A write to RST_WDKICK. -/
def State.watchdogKick (s : State) (v : Nat) : State :=
  if v = 0x5A5A then { s with rst := { s.rst with wdKick := s.tick } } else s

/-! ## Performance counters (R614, R618, R620) -/

/-- EN of every counter group whose SYNC is 1 set or cleared at one instant. -/
def State.pmuSync (s : State) (on : Bool) : State :=
  (List.range 18).foldl (fun t g => if t.flag .PMU_GCTL_SYNC g then t.setFld .PMU_GCTL_EN (b2n on) g else t) s

/-- GCTL.LOAD of a group: each counter takes its RLD value, the fixed counter 0, and the freeze ends. -/
def State.pmuLoad (s : State) (g : Nat) : State :=
  if g < 18 then
    let s1 := (List.range 8).foldl (fun t c => t.setPmuVal (8 * g + c) (t.pmuRld (8 * g + c))) s
    ((s1.wrRaw .PMU_FIXLO g 0).wrRaw .PMU_FIXHI g 0).setFld .PMU_GSTAT_FROZEN 0 g
  else s

/-- A write to PMU_TAGSEED (R138, R620). -/
def State.tagSeed (s : State) (v : Nat) : State :=
  if v = 0 then s.accLog 4 true 0 0 (RegName.PMU_TAGSEED.addr 0)
  else
    let s1 := s.wrRaw .PMU_TAGSEED 0 v
    { s1 with pmu := { s1.pmu with lfsr := v } }

/-! ## The port map (R438) -/

/-- A listed port of an RTE_PMAP entry that has no RTE_PORT to match it. -/
def State.pmapBad (s : State) : Bool :=
  (List.range 72).any (fun i =>
    let k := i / 18
    let x := i % 18
    x != digit s.own k &&
      ((s.flag .RTE_PMAP_AVAL i && !s.portServes (s.fld .RTE_PMAP_PORTA i) k x) ||
       (s.flag .RTE_PMAP_BVAL i && !s.portServes (s.fld .RTE_PMAP_PORTB i) k x)))

/-- MAPERR latched where the map does not match the ports. -/
def State.pmapCheck (s : State) : State := if s.pmapBad then s.latch .RTE_FLT_MAPERR else s

/-! ## Boot values (R578, R590) -/

/-- A boot value written to the register at an offset, with the effects of its enables. -/
def State.bootReg (s : State) (off v : Nat) : State :=
  match regAt off with
  | some (.NCC_CFG, 0) =>
    let s1 := s.putRw .NCC_CFG 0 v
    if bits v 0 1 = 1 then s1.nccEmpty else s1
  | some (.MIR_CTL, 0) => if bits v 0 1 = 1 then s.mirEnable else s
  | some (.PWR_CTL, 0) => if bits v 0 1 = 1 then s.avsOn else s.setFld .PWR_CTL_AVSEN 0
  | some (.TIM_CTL, 0) => (s.putRw .TIM_CTL 0 v).ppsGate.timeSelect
  | some (r, i) => if r = .MIR_HB ∨ r = .MIR_GUARD ∨ r = .MIR_FENCEWIN ∨ r = .PWR_PACESET ∨ r = .PWR_VLIM ∨ r = .TIM_CFG then s.putRw r i v else s
  | none => s

/-! ## The commands -/

/-- WINDOW_ENABLE (R289). -/
def execWindowEnable (d glog2 : Nat) (s : State) : Host.Outcome State Fault Refusal :=
  .next (s.regRow .GWN_WCFG d (fun t => t.windowEnable d glog2))
/-- NCC_ENABLE (R333). -/
def execNccEnable (s : State) : Host.Outcome State Fault Refusal := .next (s.regRow .NCC_CFG 0 State.nccOn)
/-- NCC_DISABLE (R333). -/
def execNccDisable (s : State) : Host.Outcome State Fault Refusal := .next (s.regRow .NCC_CFG 0 State.nccOff)
/-- NCC_INIT_DONE (R333). -/
def execNccInitDone (s : State) : Host.Outcome State Fault Refusal := .next s.nccInitDone
/-- XLT_DISABLE (R336). -/
def execXltDisable (s : State) : Host.Outcome State Fault Refusal := .next (s.regRow .XLT_CTL 0 State.xltOff)
/-- XLT_EXCL_WRITE (R373). -/
def execXltExclWrite (n i v : Nat) (s : State) : Host.Outcome State Fault Refusal :=
  .next (s.regRow (exclReg i) n (fun t => t.exclWrite n i v))
/-- AVS_ENABLE (R575). -/
def execAvsEnable (s : State) : Host.Outcome State Fault Refusal := .next (s.regRow .PWR_CTL 0 State.avsOn)
/-- WATCHDOG_KICK (R579). -/
def execWatchdogKick (v : Nat) (s : State) : Host.Outcome State Fault Refusal := .next (s.regRow .RST_WDKICK 0 (fun t => t.watchdogKick v))
/-- PMU_START (R614). -/
def execPmuStart (s : State) : Host.Outcome State Fault Refusal := .next (s.regRow .PMU_CTL 0 (fun t => t.pmuSync true))
/-- PMU_STOP (R614). -/
def execPmuStop (s : State) : Host.Outcome State Fault Refusal := .next (s.regRow .PMU_CTL 0 (fun t => t.pmuSync false))
/-- PMU_LOAD (R618). -/
def execPmuLoad (g : Nat) (s : State) : Host.Outcome State Fault Refusal := .next (s.regRow .PMU_GCTL g (fun t => t.pmuLoad g))
/-- PMU_TAG_SEED (R620). -/
def execPmuTagSeed (v : Nat) (s : State) : Host.Outcome State Fault Refusal := .next (s.regRow .PMU_TAGSEED 0 (fun t => t.tagSeed v))

end Sys2Proof.Machine
end

