-- ==== Sys2Proof/Machine/Resets.lean ====
section
/-! DEFINITION. The resets of 14 (R577 to R590): the epoch, the clearing of the device-state tables, host resets, full resets,
block resets, the reset of a virtual function, and what a nonvolatile write pulse holds back. -/

namespace Sys2Proof.Machine

/-! ## The epoch (R93, R587) -/

/-- The epoch row written is read back, and GEN_EPOCH loaded with its epoch (R587); the numbers of owner-reset notices start anew with it. -/
def State.loadEpoch (s : State) : State :=
  ({ s with rst := { s.rst with epoch := .loaded }, lck := { s.lck with noticeNum := 0 } } : State).setFld .GEN_EPOCH_EPOCH s.rst.epochLast.2.2

/-! ## What a reset clears -/

/-- A request of this device that has not left. -/
def InPkt.ownReq (i : InPkt) : Bool := i.port == 72 && i.pkt.isReq

/-- Requests of the life that a reset ends leave no more (R94): those at the crossbar, in its re-injection
buffer, those queued whole at a port, and those that a piste's rate holds back. -/
def State.dropOwnReqs (s : State) : State :=
  let inq : AMap (List InPkt) := s.rte.inq.foldl (fun (m : AMap (List InPkt)) (kv : Nat × List InPkt) =>
    let l := kv.2.filter (fun i => !i.ownReq)
    if l = [] then mdel m kv.1 else mset m kv.1 l) s.rte.inq
  let ports : AMap PortSt := s.lnk.ports.map (fun (kv : Nat × PortSt) =>
    (kv.1, [0, 1, 2, 3, 4, 5, 6, 7].foldl (fun (ps : PortSt) v => ps.setQueue v ((ps.queue v).filter (fun t => t.started || !t.inp.ownReq))) kv.2))
  let pistes : AMap Piste := s.rte.pistes.map (fun (kv : Nat × Piste) => (kv.1, { kv.2 with held := kv.2.held.filter (fun i => !i.ownReq) }))
  { s with rte := { s.rte with inq := inq, reinj := s.rte.reinj.filter (fun i => !i.ownReq), pistes := pistes }, lnk := { s.lnk with ports := ports } }

/-- The device-state tables and the tag table cleared (R577): every region, lock word, window-map entry, collective context,
piste, lease entry, duplicate-suppression entry, shadow and alias, every queue context, and every request in flight. -/
def State.clearTables (s : State) : State :=
  let s1 : State := { s.dropOwnReqs with
    qmg := {}
    tgt := { supStart := s.tgt.supStart }
    ini := { quietUntil := s.tick + 10000 }
    msg := {}
    win := { nextId := s.win.nextId, cacheEpoch := s.win.cacheEpoch + 1, lockLostAt := s.win.lockLostAt }
    xlt := { next := s.xlt.next }
    col := []
    lck := {}
    mir := { aliasedAt := s.mir.aliasedAt } }
  let s2 : State := { s1 with rte := { s1.rte with pistes := [], annSet := none }, rst := { s1.rst with cleared := true } }
  let s3 := if s.alias_ = nullCoord then s2 else (s2.setFld .RTE_ALIAS_VALID 0 (digit s.alias_ 0)).setFld .RTE_ALIAS_DIGIT 0 (digit s.alias_ 0)
  s3.setFld .GEN_ALIAS_COORD nullCoord

/-! ## Host resets (R577, R578) -/

/-- A register that a host reset returns to its reset value (R661): HIF, QMG, ENG, XLT, GWN, NCC, COL, LCK, MIR, PMU, and the
registers of the virtual functions. -/
def hostReg (k : Nat) : Bool :=
  (decide (0x1000 ≤ k) && decide (k < 0x9000)) || (decide (0xB000 ≤ k) && decide (k < 0xC000)) ||
  (decide (0x20000 ≤ k) && decide (k < 0x30000)) || decide (2 ^ 22 ≤ k)

/-- RST_CAUSE names one cause by its bit. -/
def State.setCause (s : State) (c : Nat) : State := s.wrRaw .RST_CAUSE 0 (2 ^ c)

/-- The boot values of the settings in use written (R578): a valid boot settings record, else the site record of the image. -/
def State.bootRegs (s : State) : State :=
  match s.settings, s.rst.site with
  | some r, _ => r.regs.foldl (fun t x => t.bootReg x.1 x.2) s
  | none, some r => r.regs.foldl (fun t x => t.bootReg x.1 x.2) s
  | none, none => s

/-- What the steward does after a host reset beside the epoch: the boot values (R578). -/
def State.hostBoot (s : State) : State :=
  let s1 := s.bootRegs
  { s1 with rst := { s1.rst with booted := true } }

/-- A host reset (R577, R578, R661, R671): `flr` says that it is an FLR of the PF, which leaves the HDM decoders as they are. -/
def State.hostReset (s : State) (cause : Nat) (flr : Bool) : State :=
  let link := s.rdRaw .HIF_LINKSTAT
  let keyed := (List.range 8).filter (fun k => s.flag .HIF_MEMSTAT_KEYED k)
  let s1 := (s.clearTables).resetRegs hostReg
  let s2 := keyed.foldl (fun t k => t.setFld .HIF_MEMSTAT_KEYED 1 k) (s1.wrRaw .HIF_LINKSTAT 0 link)
  let s3 := (((s2.setFld .HIF_STATUS_DMASTOP (b2n s.flt.safe)).setFld .GEN_READY_HIF 0).setFld .GEN_READY_CTXPOOL 0).setFld .GEN_READY_DSTATE 0
  let s4 := ((s3.setFld .GEN_READY_NCC 0).setFld .GEN_READY_MIR 0).setCause cause
  let h := s4.host
  let s5 : State := { s4 with
    pmu := {}
    host := { h with
      bars := [], msixTab := [], msixOpen := [], msixFuncMask := [], msixPend := [], atomicOp := false, mailIrq := flr && h.mailIrq, vfs := 0
      hdm := if flr then h.hdm else [{}, {}, {}, {}]
      snapAt := h.snapAt.filter (fun kv => !hostReg kv.1) }
    rst := { s4.rst with
      blocks := [], hostReset := true, booted := false, epoch := .due, nvQ := [], fw := none, fwBytes := [], fwVer := none, fwWait := []
      restartAt := none } }
  if s5.rst.steward then s5.hostBoot else s5

/-! ## Full resets (R577, R661, R662) -/

/-- A register of the always-on domain (R662). -/
def alwaysOn (k : Nat) : Bool :=
  (decide (0xC030 ≤ k) && decide (k < 0xC044)) || (decide (0xD050 ≤ k) && decide (k < 0xD064)) ||
  (decide (0xE040 ≤ k) && decide (k < 0xE080))

/-- Every port's lanes fall silent. -/
def State.allSilent (s : State) : State := s.lnk.ports.foldl (fun t kv => t.silence kv.1) s

/-- A full reset other than power-on (R577, R584, R650, R661): what is kept is the always-on domain, fabric time, the nonvolatile
store, the retained log, the fuses, and the levels of the pins. -/
def State.fullReset (s : State) (cause : Nat) : State :=
  let o := s.allSilent
  let r := s.rst
  let t : State := { State.reset with
    regs := s.regs.filter (fun kv => alwaysOn kv.1)
    hostMem := s.hostMem
    time := { elapsed := s.time.elapsed, now := s.time.now, frac := s.time.frac, fired := s.time.fired }
    ini := { quietUntil := s.tick + 10000 }
    win := { nextId := s.win.nextId }
    rst := {
      rails := r.rails, railUp := r.railUp, railAt := r.railAt, perst := r.perst, straps := r.strapPins, strapPins := r.strapPins
      wdKick := s.tick, paceAt := s.tick, nv := r.nv, bootCount := r.bootCount
      histNum := r.histNum, histAt := r.histAt, wdogMsg := cause == 5 }
    flt := { log := s.flt.log, logNum := s.flt.logNum }
    sec := { minVer := s.sec.minVer, revoked := s.sec.revoked, present := s.sec.present, debugKey := s.sec.debugKey, uid := s.sec.uid
             fuse := s.sec.fuse }
    out := o.out
    free := s.free
    pending := s.pending }
  t.setCause cause

/-- PWR_WAKE names the cause of a wake (R571). -/
def State.setWake (s : State) (w : Wake) : State :=
  s.wrRaw .PWR_WAKE 0 (w.alarms + 2 ^ 4 * b2n w.sig + 2 ^ 5 * b2n w.perst + 2 ^ 6 * w.lane)

/-- A wake from Standby (R571, R637): a full reset, and the power-up order of the rails begins. -/
def State.wakeNow (s : State) (w : Wake) : State :=
  let s1 := (s.fullReset 1).setWake w
  { s1 with rst := { s1.rst with rails := [false, false, false, false, false], railUp := true, railAt := s.tick - 1000000 } }

/-- A power-on reset (R577, R584, R586, R636): everything but the nonvolatile store and the fuses; a write pulse in progress is cut short. -/
def State.powerOn (s : State) : State :=
  let s2 := s.nvCut
  let r := s2.rst
  let o := s2.allSilent
  { State.reset with
    hostMem := s.hostMem
    ini := { quietUntil := 10000 }
    rst := { straps := r.strapPins, strapPins := r.strapPins, nv := r.nv, bootCount := r.bootCount, histNum := r.histNum }
    sec := { minVer := s.sec.minVer, revoked := s.sec.revoked, present := s.sec.present, debugKey := s.sec.debugKey, uid := s.sec.uid
             fuse := s.sec.fuse }
    out := o.out
    free := s2.free
    pending := s.pending }

/-! ## The reset of a virtual function (R176, R213, R431) -/

/-- A work queue cleared by an FLR of its function (R176): no completion is written; admin commands of other functions that wait
for its turn's end find it DISABLED. -/
def State.flrWq (s : State) (f q : Nat) : State :=
  let s1 := (((s.flushTags q).recvOrphan q).recvCancel q true).dropWaits q false
  let keep := (s1.wq q).waitCmds.filter (fun x => x.2.func != f)
  let s2 := ((((s1.dropFetched q).modWq q (fun _ => { waitCmds := keep })).runWaitCmds q)).pmuTagDrop q
  ({ s2 with qmg := { s2.qmg with wq := mdel s2.qmg.wq q } } : State).recWq q

/-- A completion or event queue cleared by an FLR of its function. -/
def State.flrCq (s : State) (n : Nat) : State :=
  let s1 : State := { s with qmg := { s.qmg with cq := mdel s.qmg.cq n } }
  if s.mirCq n then s1.recQctx false n else s1
def State.flrEq (s : State) (n : Nat) : State :=
  let s1 : State := { s with qmg := { s.qmg with eq := mdel s.qmg.eq n } }
  if s.mirEq n then s1.recQctx true n else s1

/-- The admin state of a function cleared: its registers, its queue, its background commands. -/
def State.flrAdmin (s : State) (f : Nat) : State :=
  let mine (k : Nat) : Bool := decide (2 ^ 22 * f ≤ k) && decide (k < 2 ^ 22 * (f + 1))
  let s1 := s.resetRegs mine
  { s1 with
    qmg := { s1.qmg with aq := mdel s1.qmg.aq f, bcmds := s1.qmg.bcmds.filter (fun b => b.func != f) }
    xlt := { s1.xlt with invals := s1.xlt.invals.filter (fun i => i.func != f) }
    host := { s1.host with
      msixTab := s1.host.msixTab.filter (fun kv => kv.1 / 8192 != f)
      msixOpen := s1.host.msixOpen.filter (fun kv => kv.1 / 4096 != f)
      msixFuncMask := mdel s1.host.msixFuncMask f
      msixPend := s1.host.msixPend.filter (fun kv => kv.1 / 4096 != f) } }

/-- The regions of a function: VALID ones are revoked without a completion (R213); a revocation in progress goes on, and a REVOKE_REGION of the
PF still completes. -/
def State.flrRegions (s : State) (f : Nat) : State :=
  (s.tgt.regions.filter (fun kv => decide (kv.1 < 2 ^ 24) && kv.2.func == f)).foldl (fun t kv =>
    match kv.2.st with
    | .valid => t.revokeStart kv.1 none
    | _ => t) s

/-- An FLR of a virtual function. -/
def State.flrVf (s : State) (f : Nat) : State :=
  let s1 := (s.qmg.wq.filter (fun kv => s.wqOwner kv.1 == f)).foldl (fun t kv => t.flrWq f kv.1) s
  let s2 := (s.qmg.cq.filter (fun kv => s.cqOwner kv.1 == f)).foldl (fun t kv => t.flrCq kv.1) s1
  let s3 := (s.qmg.eq.filter (fun kv => s.eqOwner kv.1 == f)).foldl (fun t kv => t.flrEq kv.1) s2
  (((s3.flrAdmin f).flrRegions f).ownReset false f)

/-- VF Enable is cleared, which ends every VF (R110). -/
def State.flrAll (s : State) : State :=
  let s1 := (numsFrom 1 s.host.vfs).foldl (fun t f => t.flrVf f) s
  ({ s1 with host := { s1.host with vfs := 0 } } : State).setFld .HIF_STATUS_VFEN 0

/-! ## Block resets (R580 to R582, R663) -/

/-- A block code that is not reserved. -/
def blockCode (c : Nat) : Bool :=
  decide (c < 18) || (decide (0x20 ≤ c) && decide (c ≤ 0x26)) || (decide (0x30 ≤ c) && decide (c ≤ 0x37)) ||
  (decide (0x40 ≤ c) && decide (c ≤ 0x48))

/-- The source of a block's fault messages (R98, R581). -/
def State.blockSrc (s : State) (c : Nat) : Nat × State :=
  if c < 18 then (0x601 + c, s)
  else if 0x30 ≤ c ∧ c ≤ 0x37 then (0x613 + (c - 0x30), s)
  else if 0x40 ≤ c then
    let (n, s1) := s.fresh
    (512 + 8 * (c - 0x40) + Config.laneBlockSrc n % 8, s1)
  else match c with
    | 0x20 => (0x620, s)
    | 0x21 => (0x61E, s)
    | 0x22 => (0x61C, s)
    | 0x23 => (0x61D, s)
    | 0x24 => (0x61B, s)
    | 0x25 => (0x600, s)
    | _ => (0x624, s)

/-- The registers of a block at its reset: every field but the RW fields returns to its reset value, and the fields that read a
present state which the reset does not change keep it (R663). DESIGN CHOICE (log 68): the reset restarts the 1,000-tick interval of the
block's snapshot groups (R141). -/
def State.blockRegs (s : State) (c : Nat) : State :=
  let keys := (s.regs.map Prod.fst).filter (fun k => blockOfReg k == some c)
  let s1 := keys.foldl (fun t k => match regAt k with
    | some (r, i) => t.wrRaw r i
        (r.fields.foldl (fun x f => if f.acc = .rw then putBits x f.lo f.w (bits (t.rdRaw r i) f.lo f.w) else x) (r.resetAt i))
    | none => t) s
  let s2 : State := { s1 with host := { s1.host with snapAt := s1.host.snapAt.filter (fun kv => blockOfReg kv.1 != some c) } }
  if 0x30 ≤ c ∧ c ≤ 0x37 then s2.setFld .HIF_MEMSTAT_KEYED (s.fld .HIF_MEMSTAT_KEYED (c - 0x30)) (c - 0x30)
  else if 0x40 ≤ c then
    (s2.setFld .FLK_LBSTAT_PLLLOCK (s.fld .FLK_LBSTAT_PLLLOCK (c - 0x40)) (c - 0x40)).setFld .FLK_LBSTAT_CAL
      (s.fld .FLK_LBSTAT_CAL (c - 0x40)) (c - 0x40)
  else s2

/-- A block reset is over. -/
def State.blockEnd (s : State) (c : Nat) : State := { s with rst := { s.rst with blocks := mdel s.rst.blocks c } }

/-- A turn on a target context that a walk keeps ends (R673): the walk is given up, and its request stands first on the context's list,
which joins its home engine's run list. -/
def State.endTarget (s : State) (t : Nat) : State :=
  let mine (w : Walk) : Bool := match w.acc with
    | .target r => tctxOf r.pkt == t
    | .message r => tctxOf r.pkt == t
    | _ => false
  let gone := s.xlt.walks.filter (fun kv => mine kv.2)
  let s1 : State := { s with xlt := { s.xlt with walks := s.xlt.walks.filter (fun kv => !mine kv.2) } }
  let back (u : State) (r : Req) : State :=
    { u with tgt := { u.tgt with tctx := mset u.tgt.tctx t (r :: mgetD u.tgt.tctx t []), accepted := insertAsc u.tgt.accepted t } }
  let s2 := gone.foldl (fun u kv => match kv.2.acc with
    | .target r => back u r
    | .message r => back u r
    | _ => u) s1
  (s2.unmarkBusy t).enqueue (.tctx t)

/-- Cluster `c`: turns held end, and unissued entries are fetched again (R158, R176). -/
def State.resetCluster (s : State) (c : Nat) : State :=
  let held (kv : Nat × WQ) : Bool := match kv.2.turn with | some t => t.engine / 16 == c | none => kv.1 % 288 / 16 == c
  let s1 := (s.qmg.wq.filter held).foldl (fun t kv =>
    let u := t.modWq kv.1 (fun w => { w with fetched := [], fetching := [], failed := [], fidx := w.head })
    match kv.2.turn with
    | some x => if x.engine / 16 = c then u.endTurn kv.1 else u
    | none => u) s
  let s2 := (s1.tgt.busy.filter (fun kv => kv.2 / 16 == c)).foldl (fun t kv => t.endTarget kv.1) s1
  (s2.setBit .GEN_READYCL_CLUSTER c false).blockRegs c

/-- The issued entries of a queue complete FLUSHED, and its waiting records are dropped (the block reset of the queue manager). -/
def State.qmFlush (s : State) (q : Nat) : State :=
  let s1 := (((s.recvAbandon q).unpost q).dropWaits q false).unpark (fun r => r == .posted)
  let s2 := (s1.wq q).outst.foldl (fun t d => t.finish q d cFlushed d.given 0 (s.recvSrc q d.cnt)) s1
  if (s2.wq q).turn.isSome then s2.endTurn q else s2

/-- The queue manager: the tag table cleared, for which the epoch is due anew, issued entries FLUSHED, queue states kept. DESIGN CHOICE (log 75):
a contribution, a result or a grant whose tag is cleared is sent again as a new request, as after a takeover (R435); the constituents of a
merged request are left unanswered, and each ends at its own 2.0 ms, when its outcome is settled (R234); the other requests that serve no queue
end as unanswered ones do, and window accesses at their budget. -/
def State.resetQm (s : State) : State :=
  let tags := s.ini.tags
  let s1 : State := { s.dropOwnReqs with ini := { s.ini with
    tags := [], waiting := s.ini.waiting.filter (fun w => w.owner.queue.isNone), quietUntil := s.tick + 10000
    cc := s.ini.cc.map (fun (kv : Nat × CcCtx) => (kv.1, { kv.2 with infl := 0 })) } }
  let s2 := tags.foldl (fun t kv => match kv.2.owner with
    | .desc _ _ => t
    | .cancel _ _ => t
    | .lockProbe _ _ => t
    | .grant _ => if kv.2.answered || kv.2.done || kv.2.loc then t else t.sendReq kv.2.owner kv.2.pkt true
    | .coll _ _ _ ct => if kv.2.answered || kv.2.done || kv.2.loc || ct == 2 then t else t.sendReq kv.2.owner kv.2.pkt
    | .merged k => t.modCtx k (fun c => { c with flight := [] })
    | _ => if kv.2.answered || kv.2.done then t else t.ownerUnknown kv.2) s1
  let s3 := s.qmg.wq.foldl (fun t kv => t.qmFlush kv.1) s2
  let s4 := s3.blockRegs 0x20
  ({ s4 with rst := { s4.rst with epoch := .due } } : State).unpark (fun r => match r with | .tag => true | .cwnd _ => true | _ => false)

/-- The translation unit: both caches emptied, translations in progress end as kind NOTENABLED; those that it has not taken begin. -/
def State.resetXlt (s : State) : State :=
  let out (t : State) (kv : Nat × Walk) : State := if (mget t.xlt.walks kv.1).isSome then t.walkOut kv.1 (.fail 1 0 0) kv.2 else t
  let s1 := ((s.xlt.walks.filter (fun kv => kv.2.phase != .held)).foldl out s.xltClear).xltClear
  ((s1.blockRegs 0x21).blockEnd 0x21).walksTaken

/-- The mirror unit: the link to OFF, then retrained; the twin state to UNPAIRED and the shadows discarded (R582). A TWIN_CONFIG that waits
for the twin's ends with TIMEOUT, as when the link is lost (R533). DEDUCED (log 50): FENCED, TAKING and SOLO go too. -/
def State.resetMir (s : State) : State :=
  let on := s.flag .MIR_CTL_LINKEN
  let s1 := s.mirOff
  let s2 := if s1.mir.cmdAt.isSome then s1.pairFail sTimeout 0 else s1.unpaired
  let s3 := s2.blockRegs 0x24
  if on then s3.mirEnable else s3

/-- The steward restarts from its image (R58, R59): the firmware updates in progress fail. -/
def State.resetSteward (s : State) : State :=
  let s1 : State := { s with rst := { s.rst with
    steward := false, nvQ := [], fw := none, fwBytes := [], fwVer := none, fwWait := [], restartAt := none } }
  let s2 := (s.rst.fw.toList ++ s.rst.fwWait.map Prod.fst).foldl (fun t b => t.endB (fun x => x == b) sFwError) s1
  s2.blockRegs 0x26

/-- GDDR7 controller `k`: the channel is retrained, and DSTATE is 0 meanwhile. -/
def State.resetMem (s : State) (k : Nat) : State :=
  (((s.setBit .GEN_READY_MEMCH k false).setFld .GEN_READY_DSTATE 0).nccReady).blockRegs (0x30 + k)

/-- Lane block `b`: every port of it under R500, then trained again. Its calibration stands (log 50). -/
def State.resetLanes (s : State) (b : Nat) : State :=
  let act := (numsFrom (8 * b) 8).filter (fun p => (s.port p).st != 0 && (s.port p).st != 9)
  let s1 := (act.foldl (fun t p => t.goDown p) s).blockRegs (0x40 + b)
  (act.foldl (fun t p => t.portDetect p) (s1.setBit .GEN_READY_LB b (s1.flag .FLK_LBSTAT_CAL b))).settle.timeCheck

/-- A block is reset (R580): clusters, GDDR7 controllers and the steward stay in reset until they work again. DESIGN CHOICE (log 74): how long a
block is held in reset is not stated (R139); the other blocks are out of reset at once, so that no access meets them held. -/
def State.blockReset (s0 : State) (c : Nat) : State :=
  let b := mgetD s0.rst.blocks c { since := s0.tick, idleWait := false }
  let s : State := { s0 with rst := { s0.rst with blocks := mset s0.rst.blocks c { b with idleWait := false } } }
  if c < 18 then s.resetCluster c
  else if 0x30 ≤ c ∧ c ≤ 0x37 then s.resetMem (c - 0x30)
  else if 0x40 ≤ c then (s.resetLanes (c - 0x40)).blockEnd c
  else match c with
    | 0x20 => (s.resetQm).blockEnd c
    | 0x21 => s.resetXlt
    | 0x22 => (s.blockRegs 0x22).blockEnd c
    | 0x23 => (s.blockRegs 0x23).blockEnd c
    | 0x24 => (s.resetMir).blockEnd c
    | 0x25 => (s.nccEmpty.blockRegs 0x25).blockEnd c
    | _ => s.resetSteward

/-! ## Resets that arrive during a nonvolatile write pulse (R586) -/

/-- A reset takes effect. A block reset that a larger reset has ended takes none. -/
def State.doReset (s : State) (p : PendReset) : State :=
  match p with
  | .perst => if s.rst.power = .run then s.fullReset 2 else s
  | .wdog => s.fullReset 5
  | .hot => s.hostReset 3 false
  | .dl =>
    let lost := s.fld .HIF_FLT_LINKDN
    (s.hostReset 3 false).setFld .HIF_FLT_LINKDN lost
  | .flrPf => s.hostReset 4 true
  | .flrVf f => s.flrVf f
  | .vfOff => s.flrAll
  | .wake w => s.wakeNow w
  | .block c => if (mget s.rst.blocks c).isSome then s.blockReset c else s

/-- A reset arrives: it waits for the end of a write pulse in progress (R586); else it takes effect, and the steward writes what it has to
write after it (R587). -/
def State.resetReq (s : State) (p : PendReset) : State :=
  if s.rst.nvRow.isSome then { s with rst := { s.rst with nvPending := s.rst.nvPending ++ [p] } } else (s.doReset p).nvStart

/-- A write pulse ends (R586): its row is stored, and the resets that waited take effect. -/
def State.nvEnd (s : State) (row : Nat × List Byte) : State :=
  let l := s.rst.nvPending
  let s1 := s.nvCommit row
  l.foldl (fun t p => t.doReset p) { s1 with rst := { s1.rst with nvRow := none, nvPending := [] } }

/-- The ready bits of a block that takes no work (R63): a cluster's, a GDDR7 channel's with DSTATE, the near-cache's and a lane block's. -/
def State.blockUnready (s : State) (c : Nat) : State :=
  if c < 18 then s.setBit .GEN_READYCL_CLUSTER c false
  else if 0x30 ≤ c ∧ c ≤ 0x37 then ((s.setBit .GEN_READY_MEMCH (c - 0x30) false).setFld .GEN_READY_DSTATE 0).nccReady
  else if 0x40 ≤ c then s.setBit .GEN_READY_LB (c - 0x40) false
  else s.nccReady

/-- A block reset begins (R580): the block takes no more work, and the device waits for it to go idle unless forced. A level-2 action on a block
whose reset is in progress is satisfied by that reset (R602). -/
def State.blkBegin (s : State) (c : Nat) (force : Bool) (slots : List Nat) : State :=
  match mget s.rst.blocks c with
  | some b => { s with rst := { s.rst with blocks := mset s.rst.blocks c { b with slots := b.slots ++ slots } } }
  | none =>
    let b : BlkRst := { since := s.tick, idleWait := true, slots := slots }
    let s1 := (({ s with rst := { s.rst with blocks := mset s.rst.blocks c b } } : State).blockUnready c).setFld .RST_BLKSTAT_BLOCK c
    if force then s1.resetReq (.block c) else s1

/-- A write to RST_BLKCMD (R580, R582). -/
def State.blkCmd (s : State) (c : Nat) (force : Bool) : State :=
  if s.rst.blocks ≠ [] ∨ blockCode c = false then s.accLog 4 true 0 0 (RegName.RST_BLKCMD.addr 0)
  else (s.blkBegin c force []).settle

/-- A request of the device's own that a unit has sent is unanswered. -/
def State.ownSent (s : State) (f : TagEnt → Bool) : Bool := s.ini.tags.any (fun kv => !kv.2.answered && !kv.2.done && f kv.2)

/-- A block that was asked to go idle is idle: it holds no work that it has accepted (R580). DEDUCED (log 74): the accepted work is, for a cluster
its turns, for the queue manager every turn, for the translation unit its walks, for the lock unit its grants and the answers that wait for the
twin, for the collective unit its requests and result writes, for the mirror unit its unacknowledged records, for the near-cache its reads, for
the steward its update, its rows and the log, for a lane block the packets at its ports; a GDDR7 controller's accesses take no time. -/
def State.blockQuiet (s : State) (c : Nat) : Bool :=
  if c < 18 then s.qmg.wq.all (fun kv => match kv.2.turn with | some t => t.engine / 16 != c | none => true) &&
    s.tgt.busy.all (fun kv => kv.2 / 16 != c)
  else if c = 0x20 then s.qmg.wq.all (fun kv => kv.2.turn.isNone)
  else if c = 0x21 then s.xlt.walks.all (fun kv => kv.2.phase == .held)
  else if c = 0x22 then !s.ownSent (fun e => match e.owner with | .grant _ => true | _ => false) &&
    s.mir.waits.all (fun x => match x.2 with | .answer _ _ _ _ => false | .grant _ _ _ => false | _ => true)
  else if c = 0x23 then !s.ownSent (fun e => match e.owner with | .coll _ _ _ _ => true | .merged _ => true | _ => false) &&
    s.xlt.walks.all (fun kv => match kv.2.acc with | .result _ _ => false | _ => true)
  else if c = 0x24 then s.mir.unacked.isEmpty
  else if c = 0x25 then !s.ownSent (fun e => e.sentNcc && (match e.owner with | .winRead _ => true | .renew _ => true | _ => false))
  else if c = 0x26 then s.rst.fw.isNone && s.rst.nvRow.isNone && s.flt.logq.isEmpty
  else if 0x40 ≤ c then (numsFrom (8 * (c - 0x40)) 8).all (fun p => (s.port p).txq.isEmpty && (s.port p).replay.isEmpty)
  else true

/-- The wait for idle ends because the block is idle. -/
def State.blockIdle (s : State) (c : Nat) : State :=
  match mget s.rst.blocks c with
  | some b => if b.idleWait && !s.rst.nvPending.contains (.block c) && s.blockQuiet c then (s.resetReq (.block c)).settle else s
  | none => s

/-- The wait for idle ends by timeout (R581). -/
def State.blockLate (s : State) (c : Nat) : State :=
  match mget s.rst.blocks c with
  | some b =>
    if b.idleWait && !s.rst.nvPending.contains (.block c) && decide (b.since + s.fld .RST_IDLETO_TO ≤ s.tick) then
      let x := (s.latch .RST_FLT_IDLETO).blockSrc c
      ((x.2.raise x.1 0x4005 c).resetReq (.block c)).settle
    else s
  | none => s

/-! ## The commands -/

/-- A register command that starts a block reset. -/
def State.blkRow (s : State) (c : Nat) (force : Bool) : State := s.regRow .RST_BLKCMD 0 (fun t => t.blkCmd c force)

/-- BLOCK_RESET_CLUSTER (R580). -/
def execBlockResetCluster (c : Nat) (force : Bool) (s : State) : Host.Outcome State Fault Refusal := .next (s.blkRow c force)
/-- BLOCK_RESET_QUEUE_MANAGER (R580). -/
def execBlockResetQueueManager (force : Bool) (s : State) : Host.Outcome State Fault Refusal := .next (s.blkRow 0x20 force)
/-- BLOCK_RESET_TRANSLATION_UNIT (R580). -/
def execBlockResetTranslationUnit (force : Bool) (s : State) : Host.Outcome State Fault Refusal := .next (s.blkRow 0x21 force)
/-- BLOCK_RESET_LOCK_UNIT (R580). -/
def execBlockResetLockUnit (force : Bool) (s : State) : Host.Outcome State Fault Refusal := .next (s.blkRow 0x22 force)
/-- BLOCK_RESET_COLLECTIVE_UNIT (R580). -/
def execBlockResetCollectiveUnit (force : Bool) (s : State) : Host.Outcome State Fault Refusal := .next (s.blkRow 0x23 force)
/-- BLOCK_RESET_MIRROR_UNIT (R580). -/
def execBlockResetMirrorUnit (force : Bool) (s : State) : Host.Outcome State Fault Refusal := .next (s.blkRow 0x24 force)
/-- BLOCK_RESET_NEAR_CACHE (R580). -/
def execBlockResetNearCache (force : Bool) (s : State) : Host.Outcome State Fault Refusal := .next (s.blkRow 0x25 force)
/-- BLOCK_RESET_STEWARD (R580). -/
def execBlockResetSteward (force : Bool) (s : State) : Host.Outcome State Fault Refusal := .next (s.blkRow 0x26 force)
/-- BLOCK_RESET_GDDR7_CONTROLLER (R580). -/
def execBlockResetGddr7Controller (k : Nat) (force : Bool) (s : State) : Host.Outcome State Fault Refusal := .next (s.blkRow (0x30 + k) force)
/-- BLOCK_RESET_LANE_BLOCK (R580). -/
def execBlockResetLaneBlock (b : Nat) (force : Bool) (s : State) : Host.Outcome State Fault Refusal := .next (s.blkRow (0x40 + b) force)
/-- BLOCK_IDLE (R580). -/
def execBlockIdle (code : Nat) (s : State) : Host.Outcome State Fault Refusal := .next (s.blockIdle code)
/-- BLOCK_IDLE_TIMEOUT (R581). -/
def execBlockIdleTimeout (code : Nat) (s : State) : Host.Outcome State Fault Refusal := .next (s.blockLate code)
/-- HOT_RESET (R577): a host reset, while the link is up. -/
def execHotReset (s : State) : Host.Outcome State Fault Refusal := .next (if s.host.dl then (s.resetReq .hot).settle else s)
/-- WATCHDOG_EXPIRE (R579). -/
def execWatchdogExpire (s : State) : Host.Outcome State Fault Refusal :=
  .next (if s.flag .RST_WDCTL_EN && s.rst.power == .run && decide (s.rst.wdKick + s.fld .RST_WDCTL_PERIOD * 2 ^ 20 ≤ s.tick) then
    s.resetReq .wdog else s)
/-- POWER_ON_RESET (R636). -/
def execPowerOnReset (s : State) : Host.Outcome State Fault Refusal := .next s.powerOn
/-- FLR_VF (R176). -/
def execFlrVf (f : Nat) (s : State) : Host.Outcome State Fault Refusal :=
  .next (if s.host.dl ∧ 0 < f ∧ f ≤ s.host.vfs then (s.resetReq (.flrVf f)).settle else s)

end Sys2Proof.Machine
end

