-- ==== Sys2Proof/Machine/Ring.lean ====
section
/-! DEFINITION. The service rings (01 R50 to R55): the route tables, the code over the words of a ring flit, its header, and the
flits on their way. -/

namespace Sys2Proof

/-! ## The code of a ring flit (R52) -/

/-- The place in a SECDED codeword of 72 bits of bit `i` of a word: the places 1 to 71 that are no power of two, in order. -/
def secPlace (i : Nat) : Nat :=
  if i = 0 then 3 else if i < 4 then i + 4 else if i < 11 then i + 5 else if i < 26 then i + 6 else if i < 57 then i + 7 else i + 8

/-- The exclusive or of the places of the bits set in a word: the seven check bits of the Hamming code. -/
def hamming (w : BitVec 64) : Nat :=
  (List.range 64).foldl (fun x i => if w.toNat.testBit i then x ^^^ secPlace i else x) 0

/-- The parity of the low `n` bits of a number. -/
def parity (n v : Nat) : Nat := ((List.range n).filter (fun i => v.testBit i)).length % 2

/-- The check byte of a word: the seven check bits, and the parity of the word and of them in bit 7. -/
def secded (w : BitVec 64) : BitVec 8 :=
  let h := hamming w
  BitVec.ofNat 8 (h + 128 * ((parity 64 w.toNat + parity 7 h) % 2))

/-- What the destination makes of a word and its check byte: the word, whether it was corrected, or none when the error is beyond
correction. -/
def secCheck (w : BitVec 64) (c : BitVec 8) : Option (BitVec 64 × Bool) :=
  let syn := hamming w ^^^ (c.toNat % 128)
  let odd := (parity 64 w.toNat + parity 8 c.toNat) % 2 == 1
  if syn = 0 then some (w, odd)
  else if !odd then none
  else match (List.range 64).find? (fun i => secPlace i == syn) with
    | some i => some (BitVec.ofNat 64 (w.toNat ^^^ 2 ^ i), true)
    | none => if ([1, 2, 4, 8, 16, 32, 64] : List Nat).contains syn then some (w, true) else none

/-- The majority of three copies, bit by bit (R53). -/
def majority3 (a b c : Nat) : Nat := (a &&& b) ||| (a &&& c) ||| (b &&& c)

/-- The source stop of a flit (R53). -/
def RingFlit.src (f : RingFlit) : Nat := majority3 f.srcs.1 f.srcs.2.1 f.srcs.2.2 % 32
/-- The destination stop of a flit (R53). -/
def RingFlit.dst (f : RingFlit) : Nat := majority3 f.dsts.1 f.dsts.2.1 f.dsts.2.2 % 32

/-- A flit as the source ring interface makes it (R52, R53). -/
def ringFlit (src dst : Nat) (words : List (BitVec 64)) : RingFlit :=
  { srcs := (src, src, src), dsts := (dst, dst, dst), words := words.map (fun w => (w, secded w)) }

/-- The destination finds an error beyond correction in a word (R55). -/
def RingFlit.bad (f : RingFlit) : Bool := f.words.any (fun x => (secCheck x.1 x.2).isNone)

/-- The words that the destination corrects (R54). -/
def RingFlit.corrected (f : RingFlit) : Nat :=
  (f.words.filter (fun x => match secCheck x.1 x.2 with | some (_, true) => true | _ => false)).length

end Sys2Proof

namespace Sys2Proof.Machine

/-! ## Route tables (R50, R51) -/

/-- The key of the entry of a source stop for a destination stop. -/
def pairKey (src dst : Nat) : Nat := 32 * (src % 32) + dst % 32

/-- Clockwise is the shorter way from a stop to another. -/
def shortCw (src dst : Nat) : Bool := decide ((dst + 32 - src % 32) % 32 ≤ 16)

/-- The entry that the steward writes at bring-up: the shorter direction, on a ring by a fixed hash of the pair. The hash, and the
alternative ring and direction, are not stated. -/
def routeEntry (key : Nat) : RouteEnt :=
  { ring := Config.ringHash key % 4, cw := shortCw (key / 32) (key % 32)
    altRing := Config.ringAlt key % 4, altCw := decide (Config.ringAlt key / 4 % 2 = 1) }

/-- The entry of a pair, once the steward has filled the tables. -/
def State.routeOf (s : State) (src dst : Nat) : Option RouteEnt :=
  if s.ring.filled then some (mgetD s.ring.moved (pairKey src dst) (routeEntry (pairKey src dst))) else none

/-- The ring and the direction, clockwise or not, that the source ring interface chooses (R50): the alternative when the first is
marked failed. -/
def State.routeChoice (s : State) (src dst : Nat) : Option (Nat × Bool) :=
  (s.routeOf src dst).map (fun e => if e.failed then (e.altRing, e.altCw) else (e.ring, e.cw))

/-- A flit leaves its source stop: flits of a pair whose entry is being changed wait (R51). -/
def State.ringSend (s : State) (f : RingFlit) : State :=
  if s.ring.stopped.contains (pairKey f.src f.dst) then { s with ring := { s.ring with waiting := s.ring.waiting ++ [f] } }
  else { s with ring := { s.ring with flits := s.ring.flits ++ [f] } }

/-- The oldest flit of a pair arrives (R50): flits of one pair arrive in the order sent. -/
def State.ringArrive (s : State) (key : Nat) : Option (RingFlit × State) :=
  match s.ring.flits.find? (fun f => pairKey f.src f.dst == key) with
  | some f => some (f, { s with ring := { s.ring with flits := s.ring.flits.eraseP (fun f => pairKey f.src f.dst == key) } })
  | none => none

/-- The first step of a change of an entry: new flits of the pair stop (R51). -/
def State.routeStop (s : State) (key : Nat) : State :=
  { s with ring := { s.ring with stopped := insertAsc s.ring.stopped key } }

/-- The second step: once no flit of the pair is on its way, the entry is changed and the flits that waited leave (R51). -/
def State.routeWrite (s : State) (key : Nat) (e : RouteEnt) : State :=
  if s.ring.flits.any (fun f => pairKey f.src f.dst == key) then s
  else
    { s with ring := { s.ring with
        moved := if e = routeEntry key then mdel s.ring.moved key else mset s.ring.moved key e
        stopped := s.ring.stopped.filter (· != key)
        flits := s.ring.flits ++ s.ring.waiting.filter (fun f => pairKey f.src f.dst == key)
        waiting := s.ring.waiting.filter (fun f => pairKey f.src f.dst != key) } }

/-- An entry holds an uncorrectable error: its alternative is used from now on (R50, R583). -/
def State.routeLost (s : State) (src dst : Nat) : State :=
  match s.routeOf src dst with
  | some e => { s with ring := { s.ring with moved := mset s.ring.moved (pairKey src dst) { e with failed := true } } }
  | none => s

/-- The steward rewrites the entries that are marked failed, in the two steps of R51. -/
def State.routeRepair (s : State) : State :=
  (s.ring.moved.filter (fun kv => kv.2.failed)).foldl (fun t kv => (t.routeStop kv.1).routeWrite kv.1 (routeEntry kv.1)) s

/-- The route of a pair, by a ring and a direction, passes over segment `i` of a ring, which joins the stops i and i + 1. -/
def routeUses (key : Nat) (x : Nat × Bool) (ring i : Nat) : Bool :=
  let src := key / 32
  let dst := key % 32
  x.1 % 4 == ring % 4 &&
    (if x.2 then decide ((i + 32 - src) % 32 < (dst + 32 - src) % 32) else decide ((src + 31 - i) % 32 < (src + 32 - dst) % 32))

/-- The alternative of an entry takes the place of its first ring and direction. -/
def RouteEnt.swap (e : RouteEnt) : RouteEnt := { e with ring := e.altRing, cw := e.altCw, altRing := e.ring, altCw := e.cw }

/-- A ring segment has been declared failed: the steward moves every route that uses it to its alternative entry, in the two steps of R51
(R55). -/
def State.segmentFailed (s : State) (ring i : Nat) : State :=
  (List.range 1024).foldl (fun t key =>
    match t.routeOf (key / 32) (key % 32), t.routeChoice (key / 32) (key % 32) with
    | some e, some x => if !e.failed && routeUses key x ring i then (t.routeStop key).routeWrite key e.swap else t
    | _, _ => t) s

/-- The steward fills the tables at bring-up. -/
def State.routeFill (s : State) : State := { s with ring := { s.ring with filled := true, moved := [] } }

end Sys2Proof.Machine
end

