-- ==== Sys2Proof/Machine/Faults.lean ====
section
/-! DEFINITION. The fault collector, the fault log and the history, errors of the rings and of critical state, fault injection,
the bandwidth counters, and the security unit (15). -/

namespace Sys2Proof.Machine

/-! ## The log and the history (R594, R611, R612) -/

/-- The 16 bytes of a fault message (R594). -/
def FltMsg.bytes (m : FltMsg) : List Byte := leBytes 2 m.src ++ leBytes 2 m.code ++ leBytes 4 m.time ++ leBytes 8 m.addr

/-- The 32 bytes of a fault log entry of a number (R611). -/
def FltLog.bytes (l : FltLog) (number : Nat) : List Byte :=
  l.msg.bytes ++ leBytes 4 number ++ leBytes 4 l.timeHi ++
  leBytes 1 (l.level % 4 + 4 * b2n l.severe + 8 * b2n l.escalated + 16 * b2n l.safe) ++ zeros 1 ++ leBytes 2 l.msg.merged ++ zeros 4

/-- The steward begins to write a history row: at most one in 1,000,000 ticks, one pulse at a time (R585, R612). -/
def State.histWrite (s : State) : State :=
  match s.rst.histQ with
  | [] => s
  | e :: rest =>
    if s.rst.nvRow.isSome || (match s.rst.histAt with | some t => decide (s.tick < t + 1000000) | none => false) then s
    else { s with rst := { s.rst with
      histQ := rest, histAt := some s.tick
      nvRow := some (512 + s.rst.histNum % 512, histRow e s.rst.bootCount (s.rdRaw .RST_CAUSE)) } }

/-- FAULT_LOG_WRITE: the steward writes the oldest message that waits into the retained log, which holds 256 entries; when it has
caught up after a loss, a LOG_LOST message gives the number lost (R611). The steward logs nothing before the boot steps of a full
reset are done, which read the newest entry of the previous life (R612). -/
def State.logWrite (s : State) : State :=
  if !s.rst.steward || s.rst.fullBoot then s
  else
    let s1 := match s.flt.logq with
      | [] => s
      | l :: rest =>
        let n := s.flt.logNum
        let t : State := { s with
          flt := { s.flt with logq := rest, logNum := add32 n 1, log := (s.flt.log ++ [(n, l)]).drop (s.flt.log.length - 255) }
          rst := { s.rst with histQ := if l.safe then s.rst.histQ ++ [l.bytes n] else s.rst.histQ } }
        if rest = [] ∧ t.flt.dropped ≠ 0 then
          ({ t with flt := { t.flt with dropped := 0 } } : State).raise 0x624 0x0002 t.flt.dropped
        else t
    s1.histWrite

/-! ## Counting and reaction (R598 to R607) -/

/-- The recovery action of a source at level 2 (R601). -/
inductive Recovery where
  | lane (l : Nat)
  | port (p : Nat)
  | block (c : Nat)
  | none
  deriving DecidableEq, Repr

/-- The recovery action of a source ID (the table of R601). -/
def recoveryOf (src : Nat) : Recovery :=
  let u := src % 512
  match src / 512 with
  | 0 => .lane u
  | 1 => .port u
  | 2 => .block (u / 16)
  | 3 =>
    if 1 ≤ u ∧ u ≤ 18 then .block (u - 1)
    else if 19 ≤ u ∧ u ≤ 26 then .block (0x30 + (u - 19))
    else match u with
      | 27 => .block 0x24
      | 28 => .block 0x22
      | 29 => .block 0x23
      | 30 => .block 0x21
      | 0x20 => .block 0x20
      | 0x24 => .block 0x26
      | _ => .none
  | _ => .none

/-- The recovery action of a source starts. -/
def State.recover (s : State) (src : Nat) : State :=
  match recoveryOf src with
  | .lane l => s.laneBad l false
  | .port p => if 1 ≤ (s.port p).st ∧ (s.port p).st ≤ 7 then s.goDown p else s
  | .block c => s.blkBegin c false [slotOf src]
  | .none => s

/-- The reading of fabric time at the event of a held message: the latest instant whose low bits are its TIME. -/
def State.fullTime (s : State) (t : Nat) : Nat := s.now - (s.now + 2 ^ 32 - t % 2 ^ 32) % 2 ^ 32

/-- The number of sources that are severe at present (R604). -/
def State.sevCount (s : State) : Nat :=
  (s.regs.filter (fun kv => decide (0x12000 ≤ kv.1) && decide (kv.1 < 0x12000 + 4 * 548) && kv.2.toNat.testBit 1)).length

/-- A new counting window of a source begins where `w` is not the window of its count (R600). -/
def State.fltWindow (s : State) (slot w : Nat) : State :=
  if mgetD s.flt.win slot 0 = w then s
  else
    let s1 := ({ s with flt := { s.flt with win := mset s.flt.win slot w } } : State).setFld .FLT_SRCSTAT_WINCNT 0 slot
    if s1.flag .FLT_SRCSTAT_LATCH slot then s1 else s1.setFld .FLT_SRCSTAT_SEVERE 0 slot

/-- The level at which the collector takes an event, after it has been counted, and whether it was escalated (R601, R603,
R605). -/
def State.fltLevel (s : State) (src code : Nat) : Nat × Bool :=
  let slot := slotOf src
  if code < 4096 then (if s.fld .FLT_SRCCFG_REACT slot = 0 then 0 else 1, false)
  else
    let b := if s.flag .FLT_SRCSTAT_SEVERE slot then s.fld .FLT_SRCCFG_SEVREACT slot else s.fld .FLT_SRCCFG_REACT slot
    let base := if b = 2 ∧ recoveryOf src = .none then 1 else b
    let lv := s.fld .FLT_SRCSTAT_LEVEL slot
    if s.flag .FLT_SRCSTAT_LATCH slot ∧ 2 ≤ lv then (max base (min (lv + 1) 3), true) else (base, false)

/-- The events of a message counted against its source (R600); messages of class 0 are not counted there (R605). -/
def State.fltCount (s : State) (m : FltMsg) : State :=
  let slot := slotOf m.src
  let n := 1 + m.merged
  let s1 := s.bump .FLT_SRCCNT_COUNT slot n
  if m.code < 4096 then s1
  else
    let s2 := s1.bump .FLT_SRCSTAT_WINCNT slot n
    if s2.fld .FLT_SRCCFG_N slot ≠ 0 ∧ s2.fld .FLT_SRCCFG_N slot ≤ s2.fld .FLT_SRCSTAT_WINCNT slot then
      s2.setFld .FLT_SRCSTAT_SEVERE 1 slot
    else s2

/-- The latch of a source set with the level taken (R601). -/
def State.fltLatch (s : State) (slot level : Nat) : State :=
  if level = 0 then s
  else (s.setFld .FLT_SRCSTAT_LEVEL (max level (if s.flag .FLT_SRCSTAT_LATCH slot then s.fld .FLT_SRCSTAT_LEVEL slot else 0)) slot).latch
    .FLT_SRCSTAT_LATCH slot

/-- NEW is set by an event at level 1 or above, with a message on vector 1 as it changes from 0 to 1; the message of an event that
enters the safe state is the one of R675 (R607). -/
def State.fltNotify (s : State) (level : Nat) (enters : Bool) : State :=
  if level = 0 then s
  else
    let s1 := s.latch .FLT_STAT_NEW
    if !s.flag .FLT_STAT_NEW && s.flag .FLT_CTL_NOTIFYEN && !enters then s1.msix 0 1 else s1

/-- FLT_LAST holds the latest message handled. -/
def State.fltLast (s : State) (m : FltMsg) (level : Nat) (severe esc : Bool) : State :=
  s.snap .FLT_LAST0_SEQ 0 (fun t =>
    let t1 := ((t.setFld .FLT_LAST0_LEVEL level).setFld .FLT_LAST0_SEVERE (b2n severe)).setFld .FLT_LAST0_ESCALATED (b2n esc)
    let t2 := (t1.wrRaw .FLT_LAST1 0 (m.src + 2 ^ 16 * m.code)).wrRaw .FLT_LAST2 0 m.time
    (t2.wrRaw .FLT_LAST3 0 (m.addr % 2 ^ 32)).wrRaw .FLT_LAST4 0 (m.addr / 2 ^ 32))

/-- A message goes to the steward's log; of more than 64 that wait the excess is dropped (R611). -/
def State.fltLog (s : State) (l : FltLog) : State :=
  if s.flt.logq.length < 64 then { s with flt := { s.flt with logq := s.flt.logq ++ [l] } }
  else { s with flt := { s.flt with dropped := s.flt.dropped + 1 } }

/-- The collector takes a message: counted, latched, reported and logged; with the level at which it is taken, and whether more
sources are severe than FLT_CTL allows. -/
def State.fltTake (s : State) (m : FltMsg) : State × Nat × Bool :=
  let slot := slotOf m.src
  let full := s.fullTime m.time
  let s1 := (s.fltWindow slot (full / 2 ^ s.fld .FLT_SRCCFG_WLOG2 slot)).fltCount m
  let lv := s1.fltLevel m.src m.code
  let severe := s1.flag .FLT_SRCSTAT_SEVERE slot
  let s2 := s1.fltLatch slot lv.1
  let over_ := decide (s2.fld .FLT_CTL_DEVTHR < s2.sevCount)
  let enters := !s2.flt.safe && (lv.1 == 3 || over_)
  let s3 := (s2.setFld .FLT_SRCLAST_CODE m.code slot).setFld .FLT_SRCLAST_TIME (full / 2 ^ 20) slot
  let s4 := (((s3.fltNotify lv.1 enters).fltLast m lv.1 severe lv.2).bump .FLT_MSGCNT_MSGS).bump .FLT_MSGCNT_MERGED 0 m.merged
  ((if lv.2 then s4.bump .FLT_ESCCNT_ESCALATED else s4).fltLog
    { msg := m, timeHi := full / 2 ^ 32, level := lv.1, severe := severe, escalated := lv.2, safe := enters }, lv.1, over_)

/-- What the level of an event begins: the safe state, or the recovery of its source (R601, R604, R608). -/
def State.fltAct (s : State) (src level : Nat) (over_ : Bool) : State :=
  let s1 := if level = 3 then s.enterSafe 1 src else if over_ then s.enterSafe 2 src else s
  if 2 ≤ level then s1.recover src else s1

/-- The collector handles a message. -/
def State.fltHandle (s : State) (m : FltMsg) : State :=
  let x := s.fltTake m
  x.1.fltAct m.src x.2.1 x.2.2

/-- FAULT_MESSAGE: of the messages held, the collector handles the one with the least TIME, and of equal TIME the least SRC
(R598). -/
def State.faultMessage (s : State) : State :=
  match minBy (fun m => s.fullTime m.time * 2 ^ 12 + m.src) s.flt.msgs with
  | none => s
  | some m => ((({ s with flt := { s.flt with msgs := s.flt.msgs.erase m } } : State).fltHandle m).settle).timeCheck

/-- FAULT_WINDOW_END: the counting window of a source has ended, and every message of it was handled (R600). -/
def State.windowEnd (s : State) (slot : Nat) : State :=
  let w := s.now / 2 ^ s.fld .FLT_SRCCFG_WLOG2 slot
  let held := s.flt.msgs.any (fun m => slotOf m.src == slot && decide (s.fullTime m.time / 2 ^ s.fld .FLT_SRCCFG_WLOG2 slot < w))
  if mgetD s.flt.win slot 0 < w ∧ held = false then s.fltWindow slot w else s

/-! ## Injection (R595) -/

/-- A unit that holds critical state (R583): a service ring stop, each with its route table, the caches of the translation unit and the lock
words among them, the queue manager, and the transit crossbar. DESIGN CHOICE (log 77): R595 says no more of its source than this. -/
def holdsCrit (src : Nat) : Bool := decide (0x600 ≤ src) && decide (src ≤ 0x621)

/-- The unit of a block code other than a lane block's (R581, R582). -/
def isBlock (src : Nat) : Bool := (decide (0x600 ≤ src) && decide (src ≤ 0x61E)) || src == 0x620 || src == 0x624

/-- A source that the table of R595 names for a code. -/
def kindOk (code src : Nat) : Bool :=
  let u := src % 512
  let isLane := decide (src < 72)
  let isPort := src / 512 == 1 && decide (u < 72)
  let isMem := src / 512 == 3 && decide (19 ≤ u) && decide (u ≤ 26)
  let isPeer := decide (4 ≤ src / 512) && decide (src / 512 ≤ 7) && decide (u < 18)
  match code with
  | 0x0001 => src == 0x61F
  | 0x0002 => src == 0x624
  | 0x1001 => isLane
  | 0x1002 => isLane
  | 0x1003 => isPort
  | 0x1004 => isPort
  | 0x1005 => isPort
  | 0x1006 => isPort
  | 0x1007 => src == 0x61B
  | 0x2001 => isMem
  | 0x2002 => isMem
  | 0x2003 => decide (0x626 ≤ src) && decide (src ≤ 0x629)
  | 0x2004 => holdsCrit src
  | 0x2005 => src == 0x621
  | 0x2006 => decide (0x601 ≤ src) && decide (src ≤ 0x612)
  | 0x2007 => src / 512 == 2 && decide (u < 288)
  | 0x3001 => src == 0x600
  | 0x3002 => src == 0x600
  | 0x3003 => src == 0x61E
  | 0x3004 => src == 0x61E
  | 0x4001 => src == 0x623
  | 0x4002 => src == 0x623
  | 0x4003 => src == 0x623
  | 0x4004 => src == 0x622
  | 0x4005 => isPort || isBlock src
  | 0x4006 => src == 0x624
  | 0x5001 => isPeer
  | 0x5002 => isPeer
  | 0x5003 => src == 0x61B
  | 0x5004 => src == 0x61B
  | 0x6001 => src == 0x62B
  | 0x6002 => src == 0x62B
  | 0x6003 => src == 0x62B
  | _ => false

/-- A write to FLT_INJ at its normal offset. -/
def State.inject_ (s : State) (v : Nat) : State :=
  let src := bits v 0 12
  let code := bits v 28 4 * 4096 + bits v 16 12
  if src = 0 ∧ code = 0 then s
  else if kindOk code src then s.raise src code 0
  else s.accLog 4 true 0 0 (RegName.FLT_INJ.addr 0)

/-! ## Ring errors and critical state (R55, R583) -/

/-- A window access fails (R55): a read returns poison; a write is lost, as one that passes its budget is (log entry 63). -/
def State.winUe (s : State) (id : Nat) : State :=
  match s.findItem id with
  | some (b, i) =>
    if i.expired then s
    else if i.write then s.winLost b i
    else
      let mid := match i.mids with | (m, _) :: _ => m | [] => 0
      (((s.cutItem id).bump .GWN_ERRCNT_POISONED).poison mid).dropItem b id
  | none => s

/-- The transaction of a request tag fails (R55): a queued operation completes with an error status, which the spec leaves
open but for UNKNOWN_OUTCOME, whose operation would be settled (R234), and none of its packets is sent any more; the waiting record of a
LOCK_ACQUIRE is freed (R422). A merged request, whose constituents are settled only by its answer or at 2.0 ms (R234, R406), loses this
transmission alone. -/
def State.tagUe (s : State) (t : Nat) : State :=
  match mget s.ini.tags t with
  | none => s
  | some e =>
    if e.answered || e.done || (match e.owner with | .merged _ => true | _ => false) then s
    else
      let s1 := s.modTag t (fun e => { e with done := true })
      (match e.owner with
      | .desc q cnt => match s1.desc q cnt with
        | some d =>
          let (n, s2) := s1.fresh
          let v := 1 + Config.openNat n % 0x10
          let st := if v < cUnknown then v else v + 1
          let s3 := s2.closeDesc q cnt
          match if d.op = 0x30 then s3.waitRec q cnt else none with
          | some (r, x) => s3.acquireFail r x st 0
          | none => s3.finish q d st d.given
        | none => s1
      | _ => s1.ownerUnknown e).maybeRelease t

/-- A transit piste entry freed under R475. -/
def State.breakEntry (s : State) (key : Nat) : State :=
  match mget s.rte.transit key with
  | some e =>
    let s1 : State := { s with rte := { s.rte with transit := mdel s.rte.transit key } }
    (s1.sendBreak (key / 1024) e.origin e.piste false).sendBreak e.outPort e.origin e.piste true
  | none => s

/-- A register of the router returned to its reset value. -/
def State.regLost (s : State) (r : RegName) (i : Nat) : State := s.wrRaw r i (r.resetAt i)

/-- A lock word is lost (R583): restored from the twin's shadow while PAIRED, else DISABLED without its lift line. -/
def State.lockUe (s : State) (k : Nat) : State :=
  if s.mir.twin = .paired ∧ k < 2 ^ 24 then s else s.setLock k { (s.lock k).freed with st := .disabled, line := [] }

/-- A read of channel `k` of GDDR7 fails beyond correction at an address (R595). -/
def State.memUeAt (s : State) (k a : Nat) : State := (s.latch .HIF_MEMSTAT_UEFLT k).raise (0x613 + k) 0x2002 a

/-- A read of GDDR7 whose channel and address are not specified fails beyond correction. -/
def State.memUe (s : State) : State :=
  let (n, s1) := s.fresh
  let (m, s2) := s1.fresh
  s2.memUeAt (Config.openNat n % 8) (Config.openNat m % 2 ^ 64)

/-- A parity error in an engine's local store (R595): the descriptor in process, the one whose payload the engine's turn translates or
reads, completes LOCAL_DMA. -/
def State.engParity (s : State) (e w : Nat) : State :=
  let s1 := s.raise (0x400 + e) 0x2007 w
  let held (kv : Nat × WQ) : Bool := match kv.2.turn with | some t => t.engine == e && (t.wait == .payload || t.wait == .walk) | none => false
  match s1.qmg.wq.find? held with
  | some (q, _) => ((s1.dropWalks q).modTurn q (fun t => { t with wait := .payload })).payloadDone q .ca
  | none => s1

/-- A crossbar buffer word of a packet that waits at an input fails: the packet is void (R501). -/
def State.xbarIn (s : State) (p v i : Nat) : State :=
  let key := inKey p v
  match (mgetD s.rte.inq key [])[i]? with
  | some x => (((s.trail x (some key) .discard).setInq key ((mgetD s.rte.inq key []).eraseIdx i)).freeSlots key x.flits).raise 0x621 0x2005 p
  | none => s

/-- A crossbar buffer word of a packet queued for a channel of an output port fails: the packet is void, and one whose first flit has left
ends in ABORT (R501). -/
def State.xbarOut (s : State) (p v i : Nat) : State :=
  let l := (s.port p).queue v
  match l[i]? with
  | some t =>
    (s.dropTx p v t (if t.started then l.set i { t with rest := [abortFlit v], closed := true, src := none } else l.eraseIdx i)).raise
      0x621 0x2005 t.inp.port
  | none => s

/-- CRIT_STATE_UE (R583). A lock word is held in GDDR7, and so is the copy of a queue context outside the pool (R68). An
error that a GDDR7 channel's error correction corrects is counted alone (R135), and one that no critical state holds has the action of its
own row (R501, R595). -/
def State.critUe (s : State) (c : CritState) : State :=
  let s1 := (s.latch .RST_FLT_CRIT).bump .RST_CRITCNT_COUNT
  match c with
  | .memCorrected k => s.bump .HIF_MEMSTAT_CECNT k
  | .memUe k a => s.memUeAt k a
  | .engParity e w => s.engParity e w
  | .xbarIn p v i => s.xbarIn p v i
  | .xbarOut p v i => s.xbarOut p v i
  | .queueContext q bad =>
    let s2 := s1.raise 0x620 0x2004 q
    if bad then (if q < 3072 then s2 else s2.memUe).blkBegin 0x20 true [] else s2
  | .xltEntry k =>
    let s2 := s1.raise 0x61E 0x2004 k
    { s2 with xlt := { s2.xlt with cache := mdel s2.xlt.cache k } }
  | .walkEntry k =>
    let s2 := s1.raise 0x61E 0x2004 k
    { s2 with xlt := { s2.xlt with wcache := mdel s2.xlt.wcache k } }
  | .ringRoute stop dst =>
    let s2 := (s1.raise (0x600 + stop % 32) 0x2004 (stop % 32)).routeLost stop dst
    if s2.rst.steward then s2.routeRepair else s2
  | .rtePort p =>
    let s2 := s1.raise 0x621 0x2004 p
    let s3 := if (s2.port p).st = 0 then s2 else s2.goOff p
    (s3.regLost .RTE_PORT p).pmapCheck
  | .rtePmap i => ((s1.raise 0x621 0x2004 i).regLost .RTE_PMAP i).pmapCheck
  | .pisteEntry p l => (s1.raise 0x621 0x2004 (1024 * p + l)).breakEntry (pisteKey p l)
  | .lockWord al i => ((s1.raise 0x61C 0x2004 i).memUe).lockUe (tableKey al i)

/-! ## Service ring flits (R50 to R55) -/

/-- The access of a request that waits at a target context for its translation fails (R55): the request ends as one whose translation has
failed does. -/
def State.accessUe (s : State) (t : Nat) : State :=
  let mine (a : Acc) : Bool := match a with
    | .target r => tctxOf r.pkt == t
    | .message r => tctxOf r.pkt == t
    | _ => false
  match s.xlt.walks.find? (fun kv => mine kv.2.acc) with
  | some (n, w) => (({ s with xlt := { s.xlt with walks := mdel s.xlt.walks n } } : State).walkFailed w.acc w.got 0).settle
  | none => s

/-- The transaction that a discarded flit belonged to fails, as its function shows it (R55). -/
def State.ringVictim (s : State) (v : RingVictim) : State :=
  match v with
  | .window id => s.winUe id
  | .operation t => s.tagUe t
  | .fetch q cnt => s.fetchDone q cnt .ca
  | .payload q => s.payloadDone q .ca
  | .walk w => (s.walkRead1 w .ca).walkCas1 w .ca
  | .access t => s.accessUe t
  | .critical c => s.critUe c
  | .none => s

/-- DESIGN CHOICE (log 63): which segment of a ring is declared failed, and when, no rule says; here it is every segment that a flit beyond
correction came over, once its ring's source is severe (R600). The steward moves the routes that use them (R55). -/
def State.ringSevere (s : State) (ring src dst : Nat) : State :=
  if s.flag .FLT_SRCSTAT_SEVERE (slotOf (0x626 + ring % 4)) && s.rst.steward then
    match s.routeChoice src dst with
    | some x => ((List.range 32).filter (routeUses (pairKey src dst) x ring)).foldl (fun t i => t.segmentFailed ring i) s
    | none => s
  else s

/-- A flit that reaches its destination stop: discarded and reported when it is beyond correction, and its transaction fails (R55);
its corrected words counted otherwise (R54). -/
def State.ringIn (s : State) (f : RingFlit) (ring : Nat) (v : RingVictim) : State :=
  if f.bad then (((s.raise (0x626 + ring % 4) 0x2003 (f.src + 2 ^ 8 * f.dst)).ringSevere ring f.src f.dst)).ringVictim v
  else if f.corrected = 0 then s
  else { s with ring := { s.ring with corrected := mset s.ring.corrected f.dst (mgetD s.ring.corrected f.dst 0 + f.corrected) } }

/-- RING_FLIT_UE: a flit goes from its source stop by the ring and the direction of its route table entry, and arrives (R50, R55).
There is no flit before the steward has filled the tables, and one of a pair whose entry is being changed waits. -/
def State.ringUe (s : State) (f : RingFlit) (v : RingVictim) : State :=
  match s.routeChoice f.src f.dst with
  | none => s
  | some (ring, _) =>
    let s1 := s.ringSend f
    match s1.ringArrive (pairKey f.src f.dst) with
    | some (g, s2) => s2.ringIn g ring v
    | none => s1

/-! ## Per-port bandwidth (R621) -/

/-- The figures of a port for the window just ended. A port that was not UP for the whole window reads 0; the flit slots of a
window are those of its lanes, four in each codeword of 2,160 bits at 212.5 Gbit/s (R478, R479). -/
def State.bwPort (s : State) (window : Nat) (kv : Nat × PortSt) : State :=
  let p := kv.1
  let ps := kv.2
  let live := ps.isUp && decide (ps.since + window ≤ s.tick)
  let rate (n : Nat) : Nat := if live then min (2 ^ 20 - 1) (64 * n * 1000 / window) else 0
  let slots (n : Nat) : Nat := if live then min 4095 (4096 * n * 216 / (85 * ps.width * window)) else 0
  let sent := ps.txFlits + ps.rpFlits
  let s1 := s.wrRaw .PMU_PBWTX p (rate ps.txFlits + 2 ^ 20 * slots sent)
  let s2 := s1.wrRaw .PMU_PBWRX p (rate ps.rxFlits + 2 ^ 20 * slots ps.rxFlits)
  let rp := if live ∧ sent ≠ 0 then min 65535 (65536 * ps.rpFlits / sent) else 0
  let st := if live then min 65535 (65536 * ps.crStall / window) else 0
  (s2.wrRaw .PMU_PUTIL p (rp + 2 ^ 16 * st)).modPort p (fun x => { x with txFlits := 0, rxFlits := 0, rpFlits := 0, crStall := 0 })

/-- BW_WINDOW_END: a multiple of 2^LOG2 has been reached. -/
def State.bwEnd (s : State) : State :=
  let w := 2 ^ s.fld .PMU_BWWIN_LOG2
  if s.pmu.bwAt / w < s.now / w then
    let s1 := s.lnk.ports.foldl (fun t kv => t.bwPort w kv) s
    { s1 with pmu := { s1.pmu with bwAt := s.now } }
  else s

/-! ## The security unit (R622 to R626) -/

/-- The registers of a family written from a list of bytes, 4 each. -/
def State.putBytes (s : State) (r : RegName) (n : Nat) (l : List Byte) : State :=
  (List.range n).foldl (fun t i => t.wrRaw r i (leAt l (4 * i) 4)) s

/-- A write that SEC_CTL refuses. -/
def State.secBad (s : State) : State := s.accLog 4 true 0 0 (RegName.SEC_CTL.addr 0)

/-- NEWCHAL (R624, R626): the device UID and 32 random bytes. -/
def State.newChal (s : State) : State :=
  if s.flag .SEC_STAT_LOCKOUT then s.secBad
  else
    let (n, s1) := s.fresh
    (s1.putBytes .SEC_CHAL 12 (leBytes 16 s.sec.uid ++ leBytes 32 (Config.challenge n).toNat)).setFld .SEC_STAT_CHALVALID 1

/-- The challenge or the response as one number, byte 0 lowest. -/
def State.secWord (s : State) (r : RegName) (n : Nat) : Nat := leNat ((List.range n).flatMap (fun i => leBytes 4 (s.rdRaw r i)))

/-- UNLOCK (R625, R626). -/
def State.unlock (s : State) : State :=
  let ok := s.flag .SEC_STAT_CHALVALID &&
    Config.unlockOk (BitVec.ofNat 384 (s.secWord .SEC_CHAL 12)) (BitVec.ofNat 768 (s.secWord .SEC_RESP 24))
  let s1 := s.setFld .SEC_STAT_CHALVALID 0
  if ok then
    let s2 := ((s1.enterSafe 0 0).setFld .GEN_READY_DSTATE 0).nccReady
    let s3 := (List.range 8).foldl (fun t k => t.setFld .HIF_MEMSTAT_KEYED 0 k) s2
    (((s3.setFld .SEC_STAT_JTAGLOCK 0).setFld .SEC_STAT_DEBUGOPEN 1).latch .SEC_FLT_OPENED).raise 0x62B 0x6003 0
  else
    let s2 := (s1.bump .SEC_DBGCNT_FAILS).latch .SEC_FLT_DENIED
    let n := s2.sec.fails + 1
    let s3 : State := { s2 with sec := { s2.sec with fails := n } }
    (if 8 ≤ n then s3.setFld .SEC_STAT_LOCKOUT 1 else s3).raise 0x62B 0x6002 n

/-- The fuse writes of one write to SEC_CTL (R623): FLOOR, and REVOKE of the slots of `mask`. -/
def State.fuseWrite (s : State) (floor : Bool) (mask : Nat) : State :=
  if !floor && mask == 0 then s
  else if s.sec.fuse.isSome then s.secBad
  else
    let gone := s.sec.revoked ||| mask
    let own := s.rst.steward && bitAt mask (s.fld .SEC_STAT_RUNSLOT)
    let bad := mask != 0 && (own || (List.range 4).all (fun k => bitAt gone k || !bitAt s.sec.present k))
    let s1 := if bad then s.secBad else s
    let min_ := if floor then max s.sec.minVer s.sec.runVersion else s.sec.minVer
    if bad && !floor then s1
    else { s1 with sec := { s1.sec with fuse := some (min_, if bad then s.sec.revoked else gone) } }

/-- FUSE_WRITE_DONE. -/
def State.fuseDone (s : State) : State :=
  match s.sec.fuse with
  | some (m, r) => { s with sec := { s.sec with minVer := m, revoked := r, fuse := none } }
  | none => s

/-! ## The commands -/

/-- NEWCHAL (R624). -/
def execNewchal (s : State) : Host.Outcome State Fault Refusal := .next (s.regRow .SEC_CTL 0 State.newChal)
/-- UNLOCK (R625). -/
def execUnlock (s : State) : Host.Outcome State Fault Refusal := .next (s.regRow .SEC_CTL 0 (fun t => t.unlock.settle))
/-- FLOOR (R623). -/
def execFloor (s : State) : Host.Outcome State Fault Refusal := .next (s.regRow .SEC_CTL 0 (fun t => t.fuseWrite true 0))
/-- REVOKE (R623). -/
def execRevoke (mask : Nat) (s : State) : Host.Outcome State Fault Refusal := .next (s.regRow .SEC_CTL 0 (fun t => t.fuseWrite false mask))
/-- FUSE_WRITE_DONE (R623). -/
def execFuseWriteDone (s : State) : Host.Outcome State Fault Refusal := .next s.fuseDone
/-- FAULT_INJECT (R595). -/
def execFaultInject (v : Nat) (s : State) : Host.Outcome State Fault Refusal := .next (s.regRow .FLT_INJ 0 (fun t => t.inject_ v))
/-- FAULT_MESSAGE (R600). -/
def execFaultMessage (s : State) : Host.Outcome State Fault Refusal := .next s.faultMessage
/-- FAULT_WINDOW_END (R600). -/
def execFaultWindowEnd (slot : Nat) (s : State) : Host.Outcome State Fault Refusal := .next (s.windowEnd slot)
/-- FAULT_LOG_WRITE (R611). -/
def execFaultLogWrite (s : State) : Host.Outcome State Fault Refusal := .next s.logWrite
/-- RING_FLIT_UE (R55). -/
def execRingFlitUe (srcs dsts : Nat × Nat × Nat) (words : List (BitVec 64 × BitVec 8)) (acc : RingVictim) (s : State) :
    Host.Outcome State Fault Refusal :=
  .next (s.ringUe { srcs := srcs, dsts := dsts, words := words } acc).settle
/-- CRIT_STATE_UE (R583). -/
def execCritStateUe (c : CritState) (s : State) : Host.Outcome State Fault Refusal := .next (s.critUe c).settle.timeCheck
/-- BW_WINDOW_END (R621). -/
def execBwWindowEnd (s : State) : Host.Outcome State Fault Refusal := .next s.bwEnd

end Sys2Proof.Machine
end

