-- ==== Sys2Proof/Machine/Boot.lean ====
section
/-! DEFINITION. Bring-up (14 R588 to R590, 01 R63 to R68): the host link, the steward's boot, and the units that become ready; the
HDM decoders, MSI-X masks and configuration writes of the host (03). -/

namespace Sys2Proof.Machine

/-- The device is powered and out of PERST#: its units come up. -/
def State.awake (s : State) : Bool := s.rst.power == .run && !s.rst.perst

/-! ## The host link (R103 to R105, R578) -/

/-- The rate and width in HIF_LINKSTAT meet the minimum of R103. -/
def State.linkOk (s : State) : Bool := decide (4 ≤ s.fld .HIF_LINKSTAT_RATE) && decide (4 ≤ s.fld .HIF_LINKSTAT_WIDTH)

/-- The boot values after a host reset have been loaded, or no steward runs to load them (R578, R589). -/
def State.bootDone (s : State) : Bool := !s.rst.hostReset || s.rst.booted || s.fld .RST_BOOT_STAGE == 4

/-- HOST_LINK_UP: the link reaches DL_Active. STRAP1 limits the rate to 32 GT/s (R650); FLIT mode exists at 64 GT/s (R100). -/
def State.hostLinkUp (s : State) (rate width : Nat) (flit cxlmem : Bool) : State :=
  if !s.awake || s.rst.pcieOff || s.host.dl || rate == 0 || !([1, 2, 4, 8, 16] : List Nat).contains width then s
  else
    let r := min rate (if bitAt s.rst.straps 1 then 5 else 6)
    let low := decide (r < 4) || decide (width < 4)
    let v := r + 2 ^ 3 * width + 2 ^ 8 * width + 2 ^ 13 * b2n (flit && r == 6) + 2 ^ 14 * b2n cxlmem + 2 ^ 15 * b2n low
    let s1 := ({ s with host := { s.host with dl := true } } : State).wrRaw .HIF_LINKSTAT 0 v
    let s2 := if low then s1.latch .HIF_FLT_BELOWMIN else s1
    if !low && s2.bootDone then
      ({ s2 with rst := { s2.rst with hostReset := false } } : State).setFld .GEN_READY_HIF 1
    else s2

/-- HOST_RESET_COMPLETE: a host reset that kept the link in DL_Active ends. -/
def State.hostResetDone (s : State) : State :=
  if s.rst.hostReset && s.host.dl && s.linkOk && s.bootDone then
    ({ s with rst := { s.rst with hostReset := false } } : State).setFld .GEN_READY_HIF 1
  else s

/-- L0P_WIDTH_CHANGE (R104). -/
def State.l0p (s : State) (width : Nat) : State :=
  if s.host.dl && ([4, 8, 16] : List Nat).contains width && decide (width ≤ s.fld .HIF_LINKSTAT_WIDTH) then
    s.setFld .HIF_LINKSTAT_ACTW width
  else s

/-- DL_DOWN (R105): the link leaves DL_Active, which resets the PF and all VFs as a hot reset does. LINKDN tells of it after the
reset. -/
def State.dlDown (s : State) : State :=
  if s.host.dl then
    let was := s.hif
    let s1 := ({ s with host := { s.host with dl := false } } : State).wrRaw .HIF_LINKSTAT 0 0
    ((s1.setFld .GEN_READY_HIF 0).setFld .HIF_FLT_LINKDN (b2n was)).resetReq .dl
  else s

/-- FLR_PF (R577): the CXL.mem accesses that wait are answered, for the link stays up: reads with poison, writes complete. -/
def State.flrPf (s : State) : State :=
  if s.host.dl then
    let items := s.win.blk.flatMap (fun kv => kv.2.items)
    let s1 := items.foldl (fun t (i : WItem) =>
      i.mids.foldl (fun u m => if i.write then u.emit (.cxlDone m.1) else u.poison m.1) t) s
    s1.resetReq .flrPf
  else s

/-! ## The steward's boot (R439, R587 to R590, R622) -/

/-- A flash slot holds an image that the device accepts (R622). -/
def State.slotOk (s : State) (i : ImageSlot) : Bool := i.present && i.valid && s.recordOk i.keySlot i.version

/-- An image that fails its check is reported (R589, R622). -/
def State.slotFail (s : State) (i : ImageSlot) : State :=
  if i.present && !s.slotOk i then (s.latch .SEC_FLT_SIGFAIL).raise 0x62B 0x6001 i.keySlot else s

/-- A copy of the boot settings whose check code holds is checked under R622 as the steward boots: one that fails is not used, and is
reported. `sig` says whether its signature verifies. -/
def State.setCheck (s : State) (k : Nat) (sig : Bool) : State :=
  match s.rst.setCopy k with
  | none => s
  | some x =>
    if sig && s.recordOk (recordSlot x.2) (Config.recordField 3 x.2 % 2 ^ 32) then s
    else (({ s with rst := { s.rst with setBad := insertAsc s.rst.setBad k } } : State).latch .SEC_FLT_SIGFAIL).raise 0x62B 0x6001 (recordSlot x.2)

/-! ## The boot flash (R646, R650) -/

/-- SPI_CLK of the boot flash in MHz, by STRAP3 (R650). -/
def State.spiClk (s : State) : Nat := if bitAt s.rst.straps 3 then 50 else 25

/-- The flash address of a slot: A at 0, B at 0x080_0000 (R646). -/
def slotAddr (k : Nat) : Nat := 0x800000 * k

/-- A read of the flash from an address on: the command that STRAP0 names (R646, R650). -/
def State.flashRead (s : State) (addr : Nat) : State :=
  s.emit (.flash (if bitAt s.rst.straps 0 then 0xEC else 0x13) addr [] s.spiClk)

/-- The commands that write one sector and its pages: write enable, sector erase, read status; then for each page write enable, page program,
read status. PRESUMED (log 85): a page is 256 bytes, as JEDEC flash devices have it. -/
def flashSector (clk addr : Nat) (b : List Byte) : List Emit :=
  [.flash 0x06 0 [] clk, .flash 0x21 addr [] clk, .flash 0x05 0 [] clk] ++
  (List.range 16).flatMap (fun i => [.flash 0x06 0 [] clk, .flash 0x12 (addr + 256 * i) ((b.drop (256 * i)).take 256) clk, .flash 0x05 0 [] clk])

/-- An image written to a slot, sector by sector, and read back (R591, R646). -/
def State.flashWrite (s : State) (k : Nat) (b : List Byte) : State :=
  let l := (List.range ((b.length + 4095) / 4096)).flatMap (fun i => flashSector s.spiClk (slotAddr k + 4096 * i) ((b.drop (4096 * i)).take 4096))
  ({ s with out := s.out ++ l } : State).flashRead (slotAddr k)

/-! ## The boot steps -/

/-- The default assignment of ports in a full machine (R439): for each index j, the port, its dimension and its peer digit. -/
def defaultPort (own j : Nat) : Nat × Nat × Nat :=
  let k := j / 17
  let i := j % 17
  (j + j / 15, k, if i < digit own k then i else i + 1)

/-- RTE_PORT and RTE_PMAP of the default assignment. -/
def State.defaultPorts (s : State) : State :=
  (List.range 68).foldl (fun t j =>
    let x := defaultPort t.own j
    (t.wrRaw .RTE_PORT x.1 (1 + 2 ^ 3 * x.2.1 + 2 ^ 5 * x.2.2)).wrRaw .RTE_PMAP (18 * x.2.1 + x.2.2) (x.1 + 2 ^ 7)) s

/-- A port assignment of a boot record, taken only where it keeps R436: a width that fits, on lanes of no other enabled port. -/
def State.bootPort (s : State) (p v : Nat) : State :=
  let t := s.wrRaw .RTE_PORT p (v % 2 ^ 10)
  let w := t.fld .RTE_PORT_WIDTH p
  if p < 72 ∧ (t.flag .RTE_PORT_EN p = false ∨ (portFits p w = true ∧ t.lanesOverlap p w = false)) then t else s

/-- The port assignment: of the settings in use, else of the site record, else the default in a full machine (R439). -/
def State.bootPorts (s : State) (r site : SiteRec) : State :=
  let x := if r.ports = [] then site else r
  let s1 := if x.ports = [] then (if s.rdRaw .GEN_SHAPE = 0x12121212 then s.defaultPorts else s)
    else
      let t := x.ports.foldl (fun t y => t.bootPort y.1 y.2) s
      x.pmap.foldl (fun t y => if 0x9100 ≤ y.1 ∧ y.1 < 0x9220 then t.wrRaw .RTE_PMAP ((y.1 - 0x9100) / 4) (y.2 % 2 ^ 16) else t) t
  s1.pmapCheck

/-- What the steward does after a full reset once it has loaded the epoch (R590, R612): the history row, the route tables of the service rings,
the coordinate and the shape, the ports, the other boot values, and a WATCHDOG message after a watchdog reset. The owner-reset notice is owed to
every d0 neighbour whose port comes up later (log 81). A shape that breaks R71 or R72 is not taken (log 64). DESIGN CHOICE (log 78): TIME
of the WATCHDOG message is the reading here, not that of the watchdog's expiry. -/
def State.fullBoot (s : State) (r site : SiteRec) : State :=
  let entry := match s.flt.log.getLast? with | some (n, l) => l.bytes n | none => zeros 32
  let s1 : State := { s with rst := { s.rst with bootCount := add32 s.rst.bootCount 1, histQ := s.rst.histQ ++ [entry] } }
  let s2 := s1.routeFill
  let s3 := (s2.setFld .GEN_COORD_COORD r.coord).wrRaw .GEN_SHAPE 0 (if shapeOk r.shape then r.shape else 0x01010101)
  let s4 := (s3.bootPorts r site).bootRegs
  let s5 : State := { s4 with
    host := { s4.host with subVendor := site.subVendor, subId := site.subId, winCap := min (2 ^ 48) (site.winCap / 2 ^ 28 * 2 ^ 28) }
    lnk := { s4.lnk with presets := r.presets }
    lck := { s4.lck with owed := (numsFrom 0 18).filter (fun x => x != digit r.coord 0) }
    rst := { s4.rst with fullBoot := false, booted := true, wdogMsg := false } }
  if s4.rst.wdogMsg then s5.raise 0x624 0x4006 0 else s5

/-- Once the epoch row that was due is written, a running steward reads it back and loads GEN_EPOCH, takes the boot steps of a full reset, and
sends the owner-reset notice (R93, R431, R587, R590); the next write pulse starts. -/
def State.epochGo (s : State) : State :=
  let s1 := if s.rst.steward && s.rst.epoch == .written then
      let t := s.loadEpoch
      let u := match t.rst.fullBoot, t.rst.site with | true, some x => t.fullBoot (t.settings.getD x) x | _, _ => t
      (u.ownReset true 0).wakeTags
    else s
  s1.nvStart

/-- The steward runs an image: slot A or B (R21, R589). -/
def State.runImage (s : State) (i : ImageSlot) (slotB fallback : Bool) : State :=
  let s1 := ((s.wrRaw .GEN_FWVER 0 i.version).setFld .SEC_STAT_RUNSLOT i.keySlot).wrRaw .RST_BOOT 0
    (3 + 2 ^ 4 * b2n slotB + 2 ^ 5 * b2n s.settings.isNone + 2 ^ 6 * b2n fallback)
  let s2 : State := { s1 with
    sec := { s1.sec with runVersion := i.version / 2 ^ 16 }
    rst := { s1.rst with steward := true, site := some i.site } }
  (if s2.rst.fullBoot then s2
   else if s2.rst.hostReset && !s2.rst.booted then s2.routeRepair.hostBoot
   else s2.routeRepair : State).epochGo

/-- STEWARD_BOOT (R589): the valid slot with the higher version runs, slot A where they are equal; a restart under ACTIVATE runs the new slot
where it is valid (R592). Both slots are read from the flash (R646), and the copies of the settings are checked (R622). -/
def State.stewardBoot (s : State) (b : BootMedia) : State :=
  if !s.awake || s.rst.steward then s
  else
    let s0 : State := { s with rst := { s.rst with setBad := [], slotSel := none } }
    let s1 := ((s0.flashRead (slotAddr 0)).flashRead (slotAddr 1)).slotFail b.slotA
    let s2 := (((s1.slotFail b.slotB).setCheck 0 b.copy0).setCheck 1 b.copy1).blockEnd 0x26
    let a := s.slotOk b.slotA
    let c := s.slotOk b.slotB
    let higher (x y : ImageSlot) : Bool := x.present && decide (y.version < x.version)
    if c && (!a || s.rst.slotSel == some 1 || (s.rst.slotSel != some 0 && decide (b.slotA.version < b.slotB.version))) then s2.runImage b.slotB true (!a && higher b.slotA b.slotB)
    else if a then s2.runImage b.slotA false (!c && higher b.slotB b.slotA)
    else (s2.wrRaw .GEN_FWVER 0 0).wrRaw .RST_BOOT 0 4

/-! ## Units that become ready (R65 to R68, R477) -/

/-- CTXPOOL_READY (R68). -/
def State.poolUp (s : State) : State := if s.awake then s.setFld .GEN_READY_CTXPOOL 1 else s

/-- CLUSTER_SELFTEST_DONE (R67, R595): the cluster's bit, or STFLT and a SELFTEST message; its block reset ends. -/
def State.selftest (s : State) (c : Nat) (pass : Bool) : State :=
  if !s.awake || s.clusterReady c || decide (18 ≤ c) || (match mget s.rst.blocks c with | some b => b.idleWait | none => false) then s
  else
    let s1 := s.blockEnd c
    if pass then s1.setBit .GEN_READYCL_CLUSTER c true else (s1.latch .ENG_STAT_STFLT c).raise (0x601 + c) 0x2006 c

/-- MEM_TRAIN_DONE (R66, R628): the channel's bit and its key, or a training failure; its block reset ends. Training follows the
steward's boot, or a block reset. -/
def State.memTrain (s : State) (k : Nat) (pass : Bool) : State :=
  let reset := match mget s.rst.blocks (0x30 + k) with | some b => !b.idleWait | none => false
  if !s.awake || decide (8 ≤ k) || bitAt (s.fld .GEN_READY_MEMCH) k || !(reset || !s.rst.fullBoot) then s
  else
    let s1 := s.blockEnd (0x30 + k)
    if pass then (s1.setBit .GEN_READY_MEMCH k true).setFld .HIF_MEMSTAT_KEYED (b2n !(s.flag .SEC_STAT_DEBUGOPEN)) k
    else (s1.latch .HIF_MEMSTAT_TRAINFLT k).raise (0x613 + k) 0x2001 k

/-- DSTATE_READY (R65, R232, R324): all eight channels ready with their key; the instant is the suppression start and the start
instant of the own coordinate where the tables were cleared before. Queues that waited for GDDR7 return. -/
def State.dstateUp (s : State) : State :=
  if !s.awake || s.dstate || s.fld .GEN_READY_MEMCH != 0xFF || !s.rst.booted || s.flag .SEC_STAT_DEBUGOPEN then s
  else
    let s1 := s.setFld .GEN_READY_DSTATE 1
    let s2 : State := if s.rst.cleared then { s1 with
        tgt := { s1.tgt with supStart := s.tick }
        win := { s1.win with startEnd := some (s.tick + s.fld .NCC_LEASEDUR_DUR + epsilon) }
        rst := { s1.rst with cleared := false } } else s1
    s2.nccReady.unpark (fun r => r == .dstate)

/-- LB_CALIBRATION_DONE (R477): while the reference is present, once the steward has started calibration (R590). -/
def State.lbCal (s : State) (b : Nat) (pass : Bool) : State :=
  if !s.awake || decide (9 ≤ b) || s.lbReady b || s.rst.fullBoot || !s.flag .TIM_STAT_REFOK then s
  else if pass then
    ((((s.setBit .GEN_READY_LB b true).setFld .FLK_LBSTAT_CAL 1 b).setFld .FLK_LBSTAT_PLLLOCK 1 b).blockStart b).settle
  else s.latch .FLK_LBSTAT_CALFLT b

/-! ## HDM decoders (R116 to R118) -/

/-- HDM_DECODER_COMMIT: decoders commit in ascending order; a bad size or interleave, or more than the window capacity, sets Error
Not Committed. A committed decoder does not change. -/
def State.hdmCommit (s : State) (d base size ways : Nat) : State :=
  if !s.hif then
    let (n, s1) := s.fresh
    s1.busError 7 0 0 (0xF0000 + Config.openNat n % 2 ^ 16)
  else
    let h := (s.host.hdm[d]?).getD {}
    let before := ((s.host.hdm.take d).map (fun x => x.size)).sum
    let ok := (s.host.hdm.take d).all (fun x => x.committed) && size % 2 ^ 28 == 0 && ways == 1 && decide (before + size ≤ s.host.winCap)
    if h.committed then s
    else
      let h1 : Hdm := if ok then { committed := true, err := false, base := base, size := size } else { h with err := true }
      { s with host := { s.host with hdm := setAt s.host.hdm d h1 } }

/-! ## MSI-X masks and configuration writes (R102, R110, R121) -/

/-- A vector's mask bit set or cleared; a pending message of an unmasked vector is sent. -/
def State.vecMask (s : State) (f v : Nat) (masked : Bool) : State :=
  let key := vecKey f v
  let o := if masked then mdel s.host.msixOpen key else mset s.host.msixOpen key ()
  ({ s with host := { s.host with msixOpen := o } } : State).msixFlush

/-- CONFIGURATION_WRITE. Clearing VF Enable ends every VF. -/
def State.cfgWrite (s : State) (c : CfgWrite) : State :=
  match c with
  | .atomicOpEnable on => ({ s with host := { s.host with atomicOp := on } } : State).setFld .HIF_STATUS_ATOMEN (b2n on)
  | .aerClear m => { s with host := { s.host with aer := s.host.aer - (s.host.aer &&& m) } }
  | .barBase f b base => { s with host := { s.host with bars := mset s.host.bars (8 * f + b) base } }
  | .msixVectorMask f v m =>
    if s.hif then s.vecMask f v m else s.busError 7 f 0 ((if f = 0 then 0xE0000 else 0x2000) + 16 * v + 12)
  | .msixFunctionMask f m =>
    ({ s with host := { s.host with msixFuncMask := if m then mset s.host.msixFuncMask f () else mdel s.host.msixFuncMask f } } : State).msixFlush
  | .cxlMailIrq on =>
    if s.hif then { s with host := { s.host with mailIrq := on } }
    else
      let (n, s1) := s.fresh
      s1.busError 7 0 0 (0xEC000 + Config.openNat n % 2 ^ 14)
  | .vfDisable => (s.resetReq .vfOff).settle

/-- VF_ENABLE (R110). -/
def State.vfEnable (s : State) (n : Nat) : State :=
  if s.host.dl && s.host.vfs == 0 && decide (0 < n) && decide (n < 64) then
    (({ s with host := { s.host with vfs := n } } : State).setFld .HIF_STATUS_NUMVF n).setFld .HIF_STATUS_VFEN 1
  else s

/-! ## The commands -/

/-- HOST_LINK_UP (R103). -/
def execHostLinkUp (rate width : Nat) (flit cxlmem : Bool) (s : State) : Host.Outcome State Fault Refusal :=
  .next (s.hostLinkUp rate width flit cxlmem)
/-- HOST_RESET_COMPLETE (R578). -/
def execHostResetComplete (s : State) : Host.Outcome State Fault Refusal := .next s.hostResetDone
/-- L0P_WIDTH_CHANGE (R104). -/
def execL0pWidthChange (width : Nat) (s : State) : Host.Outcome State Fault Refusal := .next (s.l0p width)
/-- DL_DOWN (R105). -/
def execDlDown (s : State) : Host.Outcome State Fault Refusal := .next s.dlDown.settle
/-- FLR_PF (R577). -/
def execFlrPf (s : State) : Host.Outcome State Fault Refusal := .next s.flrPf.settle
/-- STEWARD_BOOT (R589). -/
def execStewardBoot (b : BootMedia) (s : State) : Host.Outcome State Fault Refusal := .next (s.stewardBoot b).settle
/-- CTXPOOL_READY (R68). -/
def execCtxpoolReady (s : State) : Host.Outcome State Fault Refusal := .next s.poolUp
/-- CLUSTER_SELFTEST_DONE (R67). -/
def execClusterSelftestDone (c : Nat) (pass : Bool) (s : State) : Host.Outcome State Fault Refusal := .next (s.selftest c pass)
/-- MEM_TRAIN_DONE (R66). -/
def execMemTrainDone (k : Nat) (pass : Bool) (s : State) : Host.Outcome State Fault Refusal := .next (s.memTrain k pass)
/-- DSTATE_READY (R65). -/
def execDstateReady (s : State) : Host.Outcome State Fault Refusal := .next s.dstateUp
/-- LB_CALIBRATION_DONE (R477). -/
def execLbCalibrationDone (b : Nat) (pass : Bool) (s : State) : Host.Outcome State Fault Refusal := .next (s.lbCal b pass)
/-- HDM_DECODER_COMMIT (R118). -/
def execHdmDecoderCommit (d base size ways : Nat) (s : State) : Host.Outcome State Fault Refusal := .next (s.hdmCommit d base size ways)
/-- MSIX_UNMASK: a write of the vector's word of the MSI-X table in BAR0 (R103, R121). -/
def execMsixUnmask (f v : Nat) (s : State) : Host.Outcome State Fault Refusal :=
  .next (if !s.host.dl then s
    else if !s.hif then s.busError 7 f 0 ((if f = 0 then 0xE0000 else 0x2000) + 16 * v + 12)
    else s.vecMask f v false)
/-- CONFIGURATION_WRITE (R102). -/
def execConfigurationWrite (c : CfgWrite) (s : State) : Host.Outcome State Fault Refusal := .next (if s.host.dl then s.cfgWrite c else s)
/-- VF_ENABLE (R110). -/
def execVfEnable (n : Nat) (s : State) : Host.Outcome State Fault Refusal := .next (s.vfEnable n)

end Sys2Proof.Machine
end

