-- ==== Sys2Proof/Machine/PowerCmds.lean ====
section
/-! DEFINITION. PERST#, Standby and its wakes (14 R566 to R571, 16 R637, R639), the alarms, the PACE monitor and the voltage loop
(01 R29 to R34, 14 R572 to R576), the junction temperature and host errors. -/

namespace Sys2Proof.Machine

/-! ## Wakes (R567, R568, R570, R571, R639) -/

/-- RAILEN0 has been low for 1 ms: a wake takes effect at once. -/
def State.railsDown (s : State) : Bool :=
  !s.rst.railUp && s.rst.rails.all (fun r => !r) && decide (s.rst.railAt + 1000000 ≤ s.tick)

/-- A wake cause arrives: it takes effect in Standby, or is held while the device is on the way there; the first cause stands. -/
def State.wakeReq (s : State) (w : Wake) : State :=
  match s.rst.power with
  | .run => s
  | .standby =>
    if s.railsDown then s.resetReq (.wake w)
    else if s.rst.wakeHeld.isSome then s else { s with rst := { s.rst with wakeHeld := some w } }
  | .entering => if s.rst.wakeHeld.isSome then s else { s with rst := { s.rst with wakeHeld := some w } }

/-- TIME_ALARM: an armed alarm meets fabric time for the first time (R567). -/
def State.timeAlarm (s : State) (n : Nat) : State :=
  let t := s.now / 2 ^ 20
  if n < 4 ∧ bitAt (s.fld .TIM_ALMCTL_EN) n = true ∧ t % 2 ^ 32 = s.fld .TIM_ALARM_AT n ∧ mget s.time.fired n ≠ some t then
    let s1 := ({ s with time := { s.time with fired := mset s.time.fired n t } } : State).setBit .TIM_ALMCTL_FIRED n true
    let s2 := if s1.rst.power = .standby then s1 else s1.event0 0x52 0 n (s.fld .TIM_ALARM_AT n)
    if bitAt (s.fld .TIM_ALMCTL_WAKE) n then s2.wakeReq { alarms := 2 ^ n } else s2
  else s

/-- SIGNAL_DETECT_WAKE: a selected lane has shown signal for 10,000 ticks (R568). -/
def State.sigWake (s : State) (l : Nat) : State :=
  if s.flag .PWR_WAKECFG_SDEN && decide (l < 72) && bitAt (s.fld .PWR_SDMASK_LANES (l / 32)) (l % 32) then
    s.wakeReq { sig := true, lane := l }
  else s

/-! ## PERST# (R570, R577, R590) -/

/-- PERST_ASSERT: a full reset, or in Standby and on the way there nothing but the pin. -/
def State.perstOn (s : State) : State :=
  if s.rst.perst then s
  else
    let s1 : State := { s with rst := { s.rst with perst := true } }
    if s.rst.power = .run then s1.resetReq .perst else s1

/-- PERST_DEASSERT: bring-up starts, or the device wakes. -/
def State.perstOff (s : State) : State :=
  if s.rst.perst then
    let s1 : State := { s with rst := { s.rst with perst := false } }
    if s.flag .PWR_WAKECFG_PERSTEN then s1.wakeReq { perst := true } else s1
  else s

/-! ## Standby (R569) -/

/-- A wake from Standby is enabled. -/
def State.mayStandby (s : State) : Bool :=
  (s.fld .TIM_ALMCTL_EN &&& s.fld .TIM_ALMCTL_WAKE) != 0 || s.flag .PWR_WAKECFG_SDEN || s.flag .PWR_WAKECFG_PERSTEN

/-- STANDBY: dropped unless a wake is enabled; else the safe state, on the way to Standby. -/
def State.standby (s : State) : State :=
  if !s.mayStandby then s.accLog 4 true 0 0 (RegName.PWR_CTL.addr 0)
  else if s.rst.power != .run then s
  else
    let s1 := s.enterSafe 3 0
    { s1 with rst := { s1.rst with power := .entering, powerAt := s.tick } }

/-- STANDBY_POWER_DOWN: 1,000,000 ticks later the device stops answering on PCIe, every domain but the always-on one loses its
state, and the rails begin to fall (R569, R637). -/
def State.powerDown (s : State) : State :=
  if s.rst.power = .entering ∧ s.rst.powerAt + 1000000 ≤ s.tick then
    let s0 := match s.rst.nvRow with | some row => s.nvEnd row | none => s
    if s0.rst.power = .entering then
      let s1 := s0.fullReset 1
      { s1 with rst := { s1.rst with
          power := .standby, powerAt := s.tick, pcieOff := true, wakeHeld := s0.rst.wakeHeld
          rails := setAt (setAt s0.rst.rails 3 false) 4 false, railUp := false, railAt := s.tick } }
    else s0
  else s

/-! ## The rail enables (R637, R639) -/

/-- Rails changed, with the tick of the step. -/
def State.setRails (s : State) (l : List Nat) (v : Bool) : State :=
  { s with rst := { s.rst with rails := l.foldl (fun r i => setAt r i v) s.rst.rails, railAt := s.tick } }

/-- RAILEN_SEQUENCE: the next step of the order of R637 once its time has come; a wake held while the rails fell takes effect 1 ms
after RAILEN0 has fallen. -/
def State.railStep (s : State) : State :=
  let r (i : Nat) : Bool := s.rst.rails.getD i false
  let due (n : Nat) : Bool := decide (s.rst.railAt + n ≤ s.tick)
  if s.rst.railUp then
    if !r 0 then (if due 1000000 then s.setRails [0] true else s)
    else if !r 1 then (if due 10000000 then s.setRails [1, 2] true else s)
    else if !r 3 then (if due 10000000 then s.setRails [3, 4] true else s)
    else s
  else if r 1 then (if due 10000000 then s.setRails [1, 2] false else s)
  else if r 0 then (if due 10000000 then s.setRails [0] false else s)
  else match s.rst.wakeHeld with
    | some w => if due 1000000 then s.resetReq (.wake w) else s
    | none => s

/-! ## PACE and VCORE (R29 to R34, R572 to R576) -/

/-- The voltage loop runs (R575, R576). -/
def State.avsRuns (s : State) : Bool := s.flag .PWR_CTL_AVSEN && !s.rst.avsStopped

/-- The voltage that the loop starts from: the last one requested, else the one the regulator reported. -/
def State.avsBase (s : State) : Nat := if s.fld .PWR_VCORE_REQ = 0 then s.fld .PWR_VCORE_READ else s.fld .PWR_VCORE_REQ

/-- A voltage is requested within PWR_VLIM; where the regulator has reported none yet, it is read first. -/
def State.avsRequest (s : State) (mv : Nat) : State :=
  if s.avsBase = 0 then s.avsReads
  else
    let v := max (s.fld .PWR_VLIM_MIN) (min (s.fld .PWR_VLIM_MAX) mv)
    if v = s.fld .PWR_VCORE_REQ then s else ((s.setFld .PWR_VCORE_REQ v).emit (.avsWrite 0 v)).avsReads

/-- The action of the loop at the end of a window (R573). -/
def State.avsAct (s : State) (pace : Nat) : State :=
  let set := s.fld .PWR_PACESET_SET
  let high (n : Nat) (t : State) : State := { t with rst := { t.rst with paceHigh := n } }
  if !s.avsRuns then s
  else if pace < set then (high 0 s).avsRequest (s.avsBase + 10)
  else if set + s.fld .PWR_PACESET_HYS ≤ pace then
    if s.rst.paceHigh + 1 < 16 then high (s.rst.paceHigh + 1) s else (high 0 s).avsRequest (s.avsBase - 5)
  else high 0 s

/-- The samples of a region: the lowest and the highest of its four readings. -/
def State.paceSample (s : State) (l : List Nat) (r : Nat) : State :=
  let x := (l.drop (4 * r)).take 4
  s.wrRaw .PWR_SAMP r (x.foldl min 65535 + 2 ^ 16 * x.foldl max 0)

/-- PACE_WINDOW: 1,024 ticks after the last window's end (R29) the readings of a window are reported, the PACE fault of R34 is
judged, and the loop acts. DESIGN CHOICE (log entry 64): R34's ceiling is judged by the voltage requested, PWR_VCORE.REQ. -/
def State.paceWindow (s : State) (l : List Nat) : State :=
  if s.rst.power != .run || l == [] || decide (s.tick < s.rst.paceAt + 1024) then s
  else
    let pace := l.foldl min 65535
    let region := (l.takeWhile (fun x => x != pace)).length / 4
    let s1 := ((List.range 9).foldl (fun t r => t.paceSample l r) s).wrRaw .PWR_PACE 0 (pace + 2 ^ 16 * min region 8)
    let low := decide (pace < 1024)
    let n := if low && s.fld .PWR_VCORE_REQ == 900 then min 4 (s.rst.paceLow + 1) else 0
    let s2 : State := { s1 with rst := { s1.rst with paceLow := n, paceAt := s.tick } }
    let s3 := if n = 4 ∨ (low && !s.avsRuns) = true then (s2.latch .PWR_FLT_PACE).raise 0x623 0x4001 pace else s2
    s3.avsAct pace

/-- AVS_TRANSACTION_DONE: three failures in a row stop the loop (R575). -/
def State.avsDone (s : State) (ok : Bool) (mv : Nat) : State :=
  if !s.avsRuns then s
  else if ok then
    let s1 := s.setFld .PWR_VCORE_READ mv
    { s1 with rst := { s1.rst with avsFails := 0, avsAccepted := if s.fld .PWR_VCORE_REQ = 0 then mv else s.fld .PWR_VCORE_REQ } }
  else
    let n := s.rst.avsFails + 1
    if n < 3 then { s with rst := { s.rst with avsFails := n } }
    else
      (({ s with rst := { s.rst with avsFails := n, avsStopped := true } } : State).latch .PWR_FLT_AVSERR).raise 0x623 0x4002 s.rst.avsAccepted

/-! ## The junction and the host (R655, R595) -/

/-- A junction temperature in 1/8 °C, two's complement. -/
def tjVal (tj : Nat) : Int := if tj % 4096 < 2048 then (tj % 4096 : Nat) else (tj % 4096 : Nat) - (4096 : Int)

/-- JUNCTION_HOT: the junction has passed 110 °C. -/
def State.hot (s : State) (tj : Nat) : State :=
  if s.rst.power = .run ∧ 880 < tjVal tj then
    ((s.setFld .PWR_TEMP_TJ tj).latch .PWR_FLT_HOT).raise 0x623 0x4003 (tj % 4096)
  else s

/-- JUNCTION_COOL: the junction has fallen below 105 °C. -/
def State.cool (s : State) (tj : Nat) : State :=
  if s.rst.power = .run ∧ tjVal tj < 840 then s.setFld .PWR_TEMP_TJ tj else s

/-- HOST_UNCORR: an uncorrectable PCIe error is detected. -/
def State.hostUncorr (s : State) (status : Nat) : State :=
  if s.host.dl then
    (({ s with host := { s.host with aer := s.host.aer ||| status } } : State).latch .HIF_FLT_UNCORR).raise 0x600 0x3001 status
  else s

/-! ## The commands -/

/-- STANDBY (R569). -/
def execStandby (s : State) : Host.Outcome State Fault Refusal := .next (s.regRow .PWR_CTL 0 (fun t => t.standby.settle))
/-- STANDBY_POWER_DOWN (R569). -/
def execStandbyPowerDown (s : State) : Host.Outcome State Fault Refusal := .next s.powerDown
/-- RAILEN_SEQUENCE (R637). -/
def execRailenSequence (s : State) : Host.Outcome State Fault Refusal := .next s.railStep
/-- PERST_ASSERT (R577). -/
def execPerstAssert (s : State) : Host.Outcome State Fault Refusal := .next s.perstOn
/-- PERST_DEASSERT (R590). -/
def execPerstDeassert (s : State) : Host.Outcome State Fault Refusal := .next s.perstOff
/-- TIME_ALARM (R567). -/
def execTimeAlarm (n : Nat) (s : State) : Host.Outcome State Fault Refusal := .next (s.timeAlarm n)
/-- SIGNAL_DETECT_WAKE (R568). -/
def execSignalDetectWake (lane : Nat) (s : State) : Host.Outcome State Fault Refusal := .next (s.sigWake lane)
/-- PACE_WINDOW (R573). -/
def execPaceWindow (readings : List Nat) (s : State) : Host.Outcome State Fault Refusal := .next (s.paceWindow readings)
/-- AVS_TRANSACTION_DONE (R575). -/
def execAvsTransactionDone (ok : Bool) (mv : Nat) (s : State) : Host.Outcome State Fault Refusal := .next (s.avsDone ok mv)
/-- JUNCTION_HOT (R655). -/
def execJunctionHot (tj : Nat) (s : State) : Host.Outcome State Fault Refusal := .next (s.hot tj)
/-- JUNCTION_COOL (R655). -/
def execJunctionCool (tj : Nat) (s : State) : Host.Outcome State Fault Refusal := .next (s.cool tj)
/-- HOST_UNCORR (R595). -/
def execHostUncorr (status : Nat) (s : State) : Host.Outcome State Fault Refusal := .next (s.hostUncorr status)

end Sys2Proof.Machine
end

