-- ==== Sys2Proof/Machine/Admin.lean ====
section
/-! DEFINITION. The admin engine (04 R177 to R182): one meaning for each admin command and each end of a background command, the
commands GET_LOG (15 R613) and FW_UPDATE (14 R591, R592), the fetching of commands from an admin submission ring, and the end of
the safe state (15 R610). -/

namespace Sys2Proof.Machine

/-- INVALID_OPCODE. -/
def sInvalidOpcode : Nat := 0x01

/-- The admin engine takes a command: not in the safe state (R609), and not while it waits with an earlier command of the function
for a turn boundary (R41, R179). -/
def State.adminTake (s : State) (c : AdminCmd) (go : State → State) : State :=
  if s.flt.safe || (s.aq c.func).blocked then s else go s

/-! ## GET_LOG (R613) -/

/-- Admin commands that need firmware and no state in GDDR7 (R59). -/
def State.logReady (s : State) : Bool := s.poolReady && s.rst.steward && !s.blockBusy 0x26

/-- The entries of a store that GET_LOG copies: from the first whose number is at least FIRST, at most COUNT. -/
def logPick {α : Type} (l : List (Nat × α)) (first count : Nat) : List (Nat × α) :=
  (l.filter (fun e => decide (first ≤ e.1))).take count

/-- GET_LOG ends: the bytes of the entries stored, their number, and the number of the newest entry, which an empty store leaves
open. -/
def State.logGive {α : Type} (s : State) (c : AdminCmd) (l : List (Nat × α)) (bytes : Nat × α → List Byte) : State :=
  let x := logPick l (c.raw.at_ 24 4) (c.raw.at_ 16 4)
  let s1 := s.write (c.raw.at_ 8 8) (x.flatMap bytes)
  match l.getLast? with
  | some e => s1.adminEnd c 0 x.length e.1
  | none =>
    let (n, s2) := s1.fresh
    s2.adminEnd c 0 0 (Config.openNat n)

/-- GET_LOG. -/
def State.cmdGetLog (s : State) (c : AdminCmd) : State :=
  let r := c.raw
  let hist := bitAt (r.at_ 20 1) 0
  match preCheck c true s.logReady [(8, 13), (24, 4)] with
  | some st => s.adminEnd c st
  | none =>
    if r.at_ 8 8 % 64 != 0 || r.at_ 16 4 == 0 || decide ((if hist then 512 else 256) < r.at_ 16 4) || decide (1 < r.at_ 20 1) then
      s.adminEnd c sInvalidField
    else if hist then s.logGive c s.rst.histRows (fun e => e.2)
    else s.logGive c s.flt.log (fun e => e.2.bytes e.1)

/-! ## FW_UPDATE (R588, R591, R592) -/

/-- FW_UPDATE: the record is read, then verified and written. DESIGN CHOICE (log 85): R591 names no status for a command that comes while one is
in progress; it is taken, and waits behind it. -/
def State.cmdFwUpdate (s : State) (c : AdminCmd) (rd : ReadStatus) : State :=
  let r := c.raw
  let set_ := bitAt (r.at_ 20 1) 1
  let len := r.at_ 16 4
  match preCheck c true s.logReady [(8, 13)] with
  | some st => s.adminEnd c st
  | none =>
    match firstFail [
        (r.at_ 8 8 % 4096 != 0 || len == 0 || len % 4096 != 0 || decide ((if set_ then 12288 else 2 ^ 23) < len) ||
          decide (2 < r.at_ 20 1), sInvalidField),
        (rd != .ok, sDmaError)] with
    | some st => (if st = sDmaError then s.poisonRx rd else s).adminEnd c st
    | none =>
      let b : BCmd := { func := c.func, cid := r.cid, op := 0x49, obj := r.object, start := s.tick, raw := r }
      let x := s.read (r.at_ 8 8) len
      let rst := if s.rst.fw.isSome then { s.rst with fwWait := s.rst.fwWait ++ [(b, x)] } else { s.rst with fw := some b, fwBytes := x }
      ({ s with rst := rst } : State).startB b

/-- An FW_UPDATE ends with a status, and the next one that waits is taken. -/
def State.fwEnd (s : State) (b : BCmd) (status : Nat) (r0 : Nat := 0) : State :=
  let r := { s.rst with fw := none, fwBytes := [], fwVer := none }
  let r1 := match r.fwWait with
    | [] => r
    | (x, l) :: t => { r with fw := some x, fwBytes := l, fwWait := t }
  ({ s with rst := r1 } : State).endB (fun x => x == b) status r0

/-- The steward restarts on the new slot once the completion of the FW_UPDATE with ACTIVATE has been written, which a full admin completion ring
may delay (R592). -/
def State.restartDue (s : State) : State :=
  match s.rst.restartAt with
  | some (f, p) =>
    if (s.aq f).held = [] ∨ sub32 (s.aq f).cqProd p < 2 ^ 31 then
      ({ s with rst := { s.rst with restartAt := none, slotSel := some (1 - s.fld .RST_BOOT_SLOT) } } : State).blkBegin 0x26 true []
    else s
  | none => s

/-- The copy of the settings that a new record replaces, and the new record's number: the copy not in use (R588). -/
def State.setNext (s : State) : Nat × Nat :=
  match s.setBest with
  | some x => (1 - x.1, x.2.1 + 1)
  | none => (0, 1)

/-- FW_UPDATE_COMPLETE: the signature has been checked, and an image that passed has been written and read back. With ACTIVATE, the steward
restarts once the completion is written. DEDUCED (log 28): the rows of a settings record that passed are written now, one pulse each, and the command
completes at the end of the last; a failed write leaves that copy invalid (R585, R588, R591). -/
def State.fwDone (s : State) (sigOk writeOk : Bool) (version : Nat) : State :=
  match s.rst.fw, s.rst.fwVer with
  | some b, none =>
    let bytes := s.rst.fwBytes
    if !sigOk || !s.recordOk (recordSlot bytes) version then
      ((s.latch .SEC_FLT_SIGFAIL).raise 0x62B 0x6001 (recordSlot bytes)).fwEnd b sBadSignature
    else if bitAt (b.raw.at_ 20 1) 1 then
      let x := s.setNext
      if writeOk then ({ s with rst := { s.rst with fwVer := some version, nvQ := setRows x.1 x.2 bytes } } : State).nvStart
      else ({ s with rst := { s.rst with nv := mdel s.rst.nv (setBase x.1) } } : State).fwEnd b sFwError
    else
      let s1 := s.flashWrite (1 - s.fld .RST_BOOT_SLOT) bytes
      if !writeOk then s1.fwEnd b sFwError
      else
        let s2 := s1.fwEnd b 0 version
        if bitAt (b.raw.at_ 20 1) 0 then
          let q := s2.aq b.func
          ({ s2 with rst := { s2.rst with restartAt := some (b.func, add32 q.cqProd q.held.length) } } : State).restartDue
        else s2
  | _, _ => s

/-- NV_WRITE_DONE (R586): a write pulse ends; the resets that waited take effect, an FW_UPDATE whose last row has been written completes, and
the steward goes on with the epoch row that it has written. -/
def State.nvDone (s : State) : State :=
  match s.rst.nvRow with
  | none => s
  | some row =>
    let s1 := s.nvEnd row
    let s2 := match s1.rst.fw, s1.rst.fwVer with
      | some b, some v =>
        if 16 ≤ row.1 ∧ row.1 < 512 ∧ s1.rst.nvQ = [] then
          ({ s1 with rst := { s1.rst with setBad := s1.rst.setBad.filter (fun k => setBase k != row.1) } } : State).fwEnd b 0 v
        else s1
      | _, _ => s1
    s2.epochGo

/-! ## The submission ring (R146, R179, R191) -/

/-- How the read of a parameter record ends for a command that the engine fetches from a ring: a free value (log 11). -/
def State.readEnd (s : State) (go : State → ReadStatus → State) : State :=
  let (n, t) := s.fresh
  go t (match Config.recordRead n % 5 with | 0 => .ok | 1 => .ur | 2 => .ca | 3 => .poison | _ => .timeout)

/-- A command by its opcode; every opcode without a row of the table is reserved. -/
def State.adminOp (s : State) (c : AdminCmd) : State :=
  match c.raw.opcode with
  | 0x01 => s.wqCommand 1 c
  | 0x02 => s.wqCommand 2 c
  | 0x03 => s.wqCommand 3 c
  | 0x04 => s.wqCommand 4 c
  | 0x05 => s.wqCommand 5 c
  | 0x06 => s.wqCommand 6 c
  | 0x07 => s.wqCommand 7 c
  | 0x08 => s.wqCommand 8 c
  | 0x09 => s.cmdConfigCq c
  | 0x0A => s.cmdConfigEq c
  | 0x10 => s.cmdSetVfAllot c
  | 0x11 => s.cmdRegisterRegion c
  | 0x12 => s.cmdRevokeRegion c
  | 0x13 => s.cmdQueryRegion c
  | 0x18 => s.readEnd (fun t rd => t.cmdMapWindow c rd)
  | 0x19 => s.cmdUnmapWindow c
  | 0x20 => s.cmdInvalidateXlt c
  | 0x28 => s.readEnd (fun t rd => t.cmdCollSetup c rd)
  | 0x29 => s.cmdCollTeardown c
  | 0x30 => s.cmdPisteSetup c
  | 0x31 => s.cmdPisteTeardown c
  | 0x38 => s.cmdLockConfig c
  | 0x39 => s.cmdLockForceRelease c
  | 0x40 => s.cmdTwinConfig c
  | 0x48 => s.cmdGetLog c
  | 0x49 => s.readEnd (fun t rd => t.cmdFwUpdate c rd)
  | _ => s.adminEnd c sInvalidOpcode

/-- The admin engine may take a command from a function's ring. -/
def State.adminServes (s : State) (f : Nat) : Bool :=
  s.aqEn f && !s.flt.safe && !(s.aq f).stopped && !(s.aq f).blocked

/-- Commands taken in ring order, one after another, up to the recorded tail; a mark that does not match ends it, and a failed ring
read latches FETCHFLT. -/
def adminRunAux (f : Nat) : Nat → State → State
  | 0, s => s
  | fuel + 1, s =>
    let q := s.aq f
    let k := s.fldAq f .QMG_AQCFG_SQLOG2
    if !s.adminServes f || q.sqHead == s.rdAq f .QMG_AQTAIL then s
    else if q.rd ≠ .ok then ((s.poisonRx q.rd).setFldAq f .QMG_AQSTAT_FETCHFLT 1).modAq f (fun q => { q with stopped := true })
    else
      let raw := Raw.ofBytes (s.read (s.sqBase f + q.sqHead % 2 ^ k * 64) 64)
      if raw.mark ≠ markOf k q.sqHead then s
      else adminRunAux f fuel ((s.modAq f (fun q => { q with sqHead := add32 q.sqHead 1 })).adminOp { func := f, raw := raw })

/-- The admin engine serves a function's ring. -/
def State.adminRun (s : State) (f : Nat) : State :=
  adminRunAux f (min (sub32 (s.rdAq f .QMG_AQTAIL) (s.aq f).sqHead) (2 ^ s.fldAq f .QMG_AQCFG_SQLOG2)) s

/-- The admin engine serves every ring. -/
def State.adminRunAll (s : State) : State := s.qmg.aq.foldl (fun t kv => t.adminRun kv.1) s

/-! ## Leaving the safe state (R610) -/

/-- The cause of FLT_SAFE.LATCH is gone. -/
def State.safeGone (s : State) : Bool :=
  s.regs.all (fun kv => !(decide (0x12000 ≤ kv.1) && decide (kv.1 < 0x12000 + 4 * 548) && kv.2.toNat.testBit 0 &&
    bits kv.2.toNat 2 2 == 3)) &&
  decide (s.sevCount ≤ s.fld .FLT_CTL_DEVTHR) && s.mir.twin != .fenced

/-- FLT_SAFE.LATCH is cleared where its cause is gone, and the device leaves the safe state. -/
def State.safeClear (s : State) : State :=
  if s.flag .FLT_SAFE_LATCH && s.safeGone then
    let s1 := s.setFld .FLT_SAFE_LATCH 0
    (if s1.flt.safe && s1.rst.power == .run then s1.leaveSafe.restartDue.adminRunAll else s1).settle
  else s

/-! ## The commands -/

/-- SAFE_STATE_CLEAR (R610). -/
def execSafeStateClear (s : State) : Host.Outcome State Fault Refusal := .next (s.regRow .FLT_SAFE 0 State.safeClear)
/-- CONFIG_WQ (R183). -/
def execConfigWq (c : AdminCmd) (s : State) : Host.Outcome State Fault Refusal := .next (s.adminTake c (fun t => (t.wqCommand 1 c).settle))
/-- ENABLE_WQ (R171). -/
def execEnableWq (c : AdminCmd) (s : State) : Host.Outcome State Fault Refusal := .next (s.adminTake c (fun t => (t.wqCommand 2 c).settle))
/-- DISABLE_WQ (R171). -/
def execDisableWq (c : AdminCmd) (s : State) : Host.Outcome State Fault Refusal := .next (s.adminTake c (fun t => (t.wqCommand 3 c).settle))
/-- DRAIN_COMPLETE (R171): a DRAINING queue of which every issued entry has completed. -/
def execDrainComplete (q : Nat) (s : State) : Host.Outcome State Fault Refusal :=
  .next (if (s.wq q).st = .draining ∧ s.allDone q = true then s.drainDone q else s)
/-- RESET_WQ (R171). -/
def execResetWq (c : AdminCmd) (s : State) : Host.Outcome State Fault Refusal := .next (s.adminTake c (fun t => (t.wqCommand 4 c).settle))
/-- SUSPEND_WQ (R171). -/
def execSuspendWq (c : AdminCmd) (s : State) : Host.Outcome State Fault Refusal := .next (s.adminTake c (fun t => (t.wqCommand 5 c).settle))
/-- RESUME_WQ (R171). -/
def execResumeWq (c : AdminCmd) (s : State) : Host.Outcome State Fault Refusal := .next (s.adminTake c (fun t => (t.wqCommand 6 c).settle))
/-- QUERY_WQ (R185). -/
def execQueryWq (c : AdminCmd) (s : State) : Host.Outcome State Fault Refusal := .next (s.adminTake c (fun t => t.wqCommand 7 c))
/-- SET_SHAPER (R188). -/
def execSetShaper (c : AdminCmd) (s : State) : Host.Outcome State Fault Refusal := .next (s.adminTake c (fun t => (t.wqCommand 8 c).settle))
/-- CONFIG_CQ (R183). -/
def execConfigCq (c : AdminCmd) (s : State) : Host.Outcome State Fault Refusal := .next (s.adminTake c (fun t => t.cmdConfigCq c))
/-- CONFIG_EQ (R183). -/
def execConfigEq (c : AdminCmd) (s : State) : Host.Outcome State Fault Refusal := .next (s.adminTake c (fun t => t.cmdConfigEq c))
/-- SET_VF_ALLOT (R184). -/
def execSetVfAllot (c : AdminCmd) (s : State) : Host.Outcome State Fault Refusal := .next (s.adminTake c (fun t => t.cmdSetVfAllot c))
/-- REGISTER_REGION (R204). -/
def execRegisterRegion (c : AdminCmd) (s : State) : Host.Outcome State Fault Refusal := .next (s.adminTake c (fun t => t.cmdRegisterRegion c))
/-- REVOKE_REGION (R213). -/
def execRevokeRegion (c : AdminCmd) (s : State) : Host.Outcome State Fault Refusal :=
  .next (s.adminTake c (fun t => (t.cmdRevokeRegion c).settle))
/-- REVOKE_COMPLETE (R217). -/
def execRevokeComplete (idx : Nat) (s : State) : Host.Outcome State Fault Refusal := .next (s.revokeDone idx)
/-- QUERY_REGION (R209). -/
def execQueryRegion (c : AdminCmd) (s : State) : Host.Outcome State Fault Refusal := .next (s.adminTake c (fun t => t.cmdQueryRegion c))
/-- MAP_WINDOW (R295). -/
def execMapWindow (c : AdminCmd) (rd : ReadStatus) (s : State) : Host.Outcome State Fault Refusal :=
  .next (s.adminTake c (fun t => t.cmdMapWindow c rd))
/-- UNMAP_WINDOW (R297). -/
def execUnmapWindow (c : AdminCmd) (s : State) : Host.Outcome State Fault Refusal := .next (s.adminTake c (fun t => t.cmdUnmapWindow c))
/-- UNMAP_WINDOW_COMPLETE (R297). -/
def execUnmapWindowComplete (first : Nat) (s : State) : Host.Outcome State Fault Refusal := .next (s.unmapDone first)
/-- INVALIDATE_XLT (R369). -/
def execInvalidateXlt (c : AdminCmd) (s : State) : Host.Outcome State Fault Refusal := .next (s.adminTake c (fun t => t.cmdInvalidateXlt c))
/-- INVALIDATE_XLT_COMPLETE (R369). -/
def execInvalidateXltComplete (id : Nat) (s : State) : Host.Outcome State Fault Refusal := .next (s.invalDone id)
/-- COLL_SETUP (R384). -/
def execCollSetup (c : AdminCmd) (rd : ReadStatus) (s : State) : Host.Outcome State Fault Refusal :=
  .next (s.adminTake c (fun t => t.cmdCollSetup c rd))
/-- COLL_SETUP_COMPLETE (R384). -/
def execCollSetupComplete (k : Nat) (s : State) : Host.Outcome State Fault Refusal := .next (s.collSetupDone k)
/-- COLL_TEARDOWN (R386). -/
def execCollTeardown (c : AdminCmd) (s : State) : Host.Outcome State Fault Refusal :=
  .next (s.adminTake c (fun t => (t.cmdCollTeardown c).settle))
/-- COLL_TEARDOWN_COMPLETE (R386). -/
def execCollTeardownComplete (k : Nat) (s : State) : Host.Outcome State Fault Refusal := .next (s.collTeardownDone k)
/-- PISTE_SETUP (R468). -/
def execPisteSetup (c : AdminCmd) (s : State) : Host.Outcome State Fault Refusal :=
  .next (s.adminTake c (fun t => (t.cmdPisteSetup c).settle))
/-- PISTE_TEARDOWN (R476). -/
def execPisteTeardown (c : AdminCmd) (s : State) : Host.Outcome State Fault Refusal :=
  .next (s.adminTake c (fun t => (t.cmdPisteTeardown c).settle))
/-- LOCK_CONFIG (R415). -/
def execLockConfig (c : AdminCmd) (s : State) : Host.Outcome State Fault Refusal := .next (s.adminTake c (fun t => t.cmdLockConfig c))
/-- LOCK_FORCE_RELEASE (R416). -/
def execLockForceRelease (c : AdminCmd) (s : State) : Host.Outcome State Fault Refusal :=
  .next (s.adminTake c (fun t => (t.cmdLockForceRelease c).settle))
/-- TWIN_CONFIG (R533). -/
def execTwinConfig (c : AdminCmd) (s : State) : Host.Outcome State Fault Refusal := .next (s.adminTake c (fun t => t.cmdTwinConfig c))
/-- GET_LOG (R613). -/
def execGetLog (c : AdminCmd) (s : State) : Host.Outcome State Fault Refusal := .next (s.adminTake c (fun t => t.cmdGetLog c))
/-- FW_UPDATE (R591). -/
def execFwUpdate (c : AdminCmd) (rd : ReadStatus) (s : State) : Host.Outcome State Fault Refusal :=
  .next (s.adminTake c (fun t => t.cmdFwUpdate c rd))
/-- FW_UPDATE_COMPLETE (R592). -/
def execFwUpdateComplete (sigOk writeOk : Bool) (version : Nat) (s : State) : Host.Outcome State Fault Refusal :=
  .next (s.fwDone sigOk writeOk version)
/-- NV_WRITE_DONE (R586). -/
def execNvWriteDone (s : State) : Host.Outcome State Fault Refusal := .next s.nvDone.settle

end Sys2Proof.Machine
end

