-- ==== Sys2Proof/Machine/Reads.lean ====
section
/-! DEFINITION. What reads return: the value that every register of BAR0 reads as, its live status fields included (R15, R127, R139),
the words of BAR2 (R115), configuration space (R18, R19, R100), and the GPIO outputs (R649). -/

namespace Sys2Proof.Machine

/-! ## Live status (RL fields) -/

/-- The admin engine serves a function's queue. -/
def State.aqStat (s : State) (f : Nat) : Nat :=
  b2n (s.adminServes f) + (s.fldAq f .QMG_AQSTAT_FETCHFLT) * 2 + 2 ^ 16 * ((s.aq f).sqHead % 2 ^ 16)

/-- Entries on the run lists of a cluster's engines. -/
def State.runQ (s : State) (c : Nat) : Nat :=
  min 65535 ((s.qmg.run.filter (fun kv => kv.1 / 16 == c)).map (fun kv => kv.2.length)).sum

/-- A flush of an invalidation or of a revoke is in progress. -/
def State.invBusy (s : State) : Bool := !s.xlt.invals.isEmpty || s.tgt.regions.any (fun kv => kv.2.flush.isSome)

/-- The parameters behind the range registers of a side: 0 this device, 1 the twin; none while UNPAIRED. -/
def State.mirSide (s : State) (side : Nat) : TwinParams :=
  let none_ : TwinParams := {}
  if s.mir.twin = .unpaired then none_
  else ((if side = 0 then s.mir.cfg else s.mir.peerCfg).getD none_)

/-- MIR_STAT. -/
def State.mirStat (s : State) : Nat :=
  s.mir.twin.code + 2 ^ 3 * s.mir.link + 2 ^ 6 * b2n s.mir.aliasedAt.isSome +
  (if s.mir.twin = .unpaired then 0 else 2 ^ 7 * (s.mirSide 0).hostmode + 2 ^ 8 * digit (s.mirSide 0).coord 0)

/-- A recovery action of a source is in progress (R606). -/
def State.srcActing (s : State) (slot : Nat) : Bool := s.rst.blocks.any (fun kv => kv.2.slots.contains slot)

/-- FLK_PSTAT of a port. -/
def State.pStat (s : State) (p : Nat) : Nat :=
  let ps := s.port p
  ps.st + 2 ^ 4 * ps.awidth + 2 ^ 6 * b2n (!ps.resend.isEmpty) + 2 ^ 8 * ps.peer

/-- Transit entries of an input port. -/
def State.tpOcc (s : State) (p : Nat) : Nat := (s.rte.transit.filter (fun kv => kv.1 / 1024 == p)).length

/-- The digits of dimension `k` to which a line is up. -/
def State.lineRead (s : State) (k x : Nat) : Nat :=
  (List.range 18).foldl (fun v y => v + 2 ^ y * b2n (s.lineUp k x y)) 0

/-- What a register whose live fields the state holds elsewhere reads as: `v` is its stored value. -/
def State.liveRead (s : State) (f : Nat) (r : RegName) (i v : Nat) : Nat :=
  match r with
  | .HIF_MEMSTAT => putBits v 0 1 (b2n (bitAt (s.fld .GEN_READY_MEMCH) i))
  | .QMG_AQSTAT => s.aqStat f
  | .ENG_STAT => putBits (putBits v 0 1 (b2n (s.clusterReady i))) 16 16 (s.runQ i)
  | .XLT_STAT => s.xlt.cache.length + 2 ^ 17 * s.xlt.wcache.length + 2 ^ 30 * b2n s.invBusy
  | .NCC_STAT =>
    let wait := s.startWait false || s.startWait true
    b2n s.ncc + 2 * b2n (s.flag .NCC_CFG_HOMEEN && s.timeLocked && !wait) + 4 * b2n wait
  | .NCC_LTOCC => s.win.leases.length
  | .COL_STAT => (s.col.filter (fun kv => kv.2.st == .set || kv.2.st == .teardown)).length
  | .LCK_LLOCC => s.lineUsed
  | .LCK_WROCC => s.lck.recs.length
  | .RTE_PORT => putBits (putBits v 16 1 (b2n ((s.port i).st == 6))) 17 11 (s.tpOcc i)
  | .RTE_LINE => s.lineRead (i / 18) (i % 18)
  | .FLK_LBSTAT => v
  | .FLK_PSTAT => s.pStat i
  | .MIR_STAT => s.mirStat
  | .MIR_LAG => min 1024 s.mir.unacked.length
  | .MIR_WQBASE => (s.mirSide i).wqBase
  | .MIR_WQCOUNT => (s.mirSide i).wqCount
  | .MIR_CQR => (s.mirSide i).cqBase + 2 ^ 16 * (s.mirSide i).cqCount
  | .MIR_EQR => (s.mirSide i).eqBase + 2 ^ 11 * (s.mirSide i).eqCount
  | .MIR_MAPBASE => (s.mirSide i).mapBase
  | .MIR_MAPCOUNT => (s.mirSide i).mapCount
  | .TIM_STAT => putBits v 0 1 (b2n s.timeLocked)
  | .TIM_NOWLO => s.now % 2 ^ 32
  | .TIM_NOWHI => s.now / 2 ^ 32 % 2 ^ 32
  | .RST_BLKSTAT => putBits v 0 2 (b2n (!s.rst.blocks.isEmpty) + 2 * b2n (s.rst.blocks.any (fun kv => kv.2.idleWait)))
  | .RST_NVSTAT => putBits v 0 1 (b2n s.rst.nvRow.isSome)
  | .FLT_STAT => putBits (putBits v 1 2 (b2n s.flt.safe + 2 * b2n (s.rst.blocks.any (fun kv => !kv.2.slots.isEmpty)))) 8 10 s.sevCount
  | .FLT_SRCSTAT => putBits v 4 1 (b2n (s.srcActing i))
  | .SEC_STAT => putBits v 6 1 (b2n s.sec.fuse.isSome)
  | .SEC_MINVER => s.sec.minVer
  | .SEC_KEYSTAT => s.sec.revoked + 2 ^ 4 * s.sec.present + 2 ^ 8 * b2n s.sec.debugKey
  | .SEC_UID => s.sec.uid / 2 ^ (32 * i) % 2 ^ 32
  | _ => v

/-- A register of the admin queue, which every function has a copy of. -/
def aqReg (r : RegName) : Bool := decide (0x2040 ≤ r.addr 0) && decide (r.addr 0 < 0x2060)

/-- The stored value of a register of a function. -/
def State.rdF (s : State) (f : Nat) (r : RegName) (i : Nat) : Nat := if f ≠ 0 ∧ aqReg r = true then s.rdAq f r else s.rdRaw r i

/-- The stored value of a register of a function replaced. -/
def State.wrF (s : State) (f : Nat) (r : RegName) (i v : Nat) : State :=
  if f ≠ 0 ∧ aqReg r = true then s.wrAq f r v else s.wrRaw r i v

/-- A value with the WO fields read as 0 (R15). -/
def hideWo (r : RegName) (v : Nat) : Nat := r.fields.foldl (fun x f => if f.acc = .wo then putBits x f.lo f.w 0 else x) v

/-- What a read of a register returns: its reset value while its block is held in reset (R139). -/
def State.regRead (s : State) (f : Nat) (r : RegName) (i : Nat) : Nat :=
  if s.regHeld (r.addr i) then r.resetAt i else hideWo r (s.liveRead f r i (s.rdF f r i))

/-! ## Snapshot groups that follow a selector (R140, R141) -/

/-- A group's registers brought up to date where they differ from what they report. -/
def State.follow (s : State) (seq : Fld) (regs : List (RegName × Nat)) : State :=
  let same := regs.all (fun x => s.rdRaw x.1 0 == (if x.1 = seq.reg then putBits x.2 0 16 (s.fld seq 0) else x.2))
  if same then s
  else s.snap seq 0 (fun t => regs.foldl (fun u x => u.wrRaw x.1 0 (if x.1 = seq.reg then putBits x.2 0 16 (u.fld seq 0) else x.2)) t)

/-- COL_CTX0 to COL_CTX2: the context that COL_CTXSEL selects. -/
def State.colGroup (s : State) : List (RegName × Nat) :=
  let c := s.ctx (s.fld .COL_CTXSEL_CTX)
  let st := match c.st with | .set => 1 | .teardown => 2 | _ => 0
  if st = 0 then [(.COL_CTX0, 0), (.COL_CTX1, 0), (.COL_CTX2, nullCoord)]
  else [(.COL_CTX0, 2 ^ 16 * st + 2 ^ 18 * c.kind + 2 ^ 21 * b2n c.parentLost + 2 ^ 22 * b2n (c.root == s.own) + 2 ^ 23 * c.children.length),
        (.COL_CTX1, c.completed % 2 ^ 32), (.COL_CTX2, c.parent)]

/-- LCK_LOCK0 to LCK_LOCK3: the word that LCK_LOCKSEL selects, of the alias's table while ASEL selects it (R548). -/
def State.lckGroup (s : State) : List (RegName × Nat) :=
  let l := s.lock (tableKey s.asel (s.fld .LCK_LOCKSEL_INDEX))
  let st := match l.st with | .disabled => 0 | .free => 1 | .held => 2 | .granting => 3
  let own := if l.st = .held ∨ l.st = .granting then l.owner + 2 ^ 20 * l.func else nullCoord
  [(.LCK_LOCK0, 2 ^ 16 * st + 2 ^ 19 * b2n l.aband + 2 ^ 20 * b2n l.forced), (.LCK_LOCK1, own),
   (.LCK_LOCK2, l.wq + 2 ^ 18 * min 16383 l.line.length), (.LCK_LOCK3, l.gseq)]

/-- RTE_PISTE0 to RTE_PISTE3: the piste that RTE_PISTESEL selects. -/
def State.pisteGroup (s : State) : List (RegName × Nat) :=
  match mget s.rte.pistes (s.fld .RTE_PISTESEL_PISTE) with
  | some p => [(.RTE_PISTE0, 2 ^ 16 * p.st + 2 ^ 19 * p.hops), (.RTE_PISTE1, p.dest + 2 ^ 20 * p.func),
               (.RTE_PISTE2, p.share + 2 ^ 8 * p.outPort + 2 ^ 16 * p.outLabel), (.RTE_PISTE3, p.pkts % 2 ^ 32)]
  | none => [(.RTE_PISTE0, 0), (.RTE_PISTE1, nullCoord), (.RTE_PISTE2, 0), (.RTE_PISTE3, 0)]

/-- The groups that follow COL_CTXSEL, LCK_LOCKSEL and RTE_PISTESEL, while the state in GDDR7 that they report exists. -/
def State.followAll (s : State) : State :=
  if !s.dstate then s else
  let s1 := s.follow .COL_CTX0_SEQ s.colGroup
  let s2 := s1.follow .LCK_LOCK0_SEQ s1.lckGroup
  s2.follow .RTE_PISTE0_SEQ s2.pisteGroup

/-! ## BAR2 (R111, R112, R115) -/

/-- What an 8-byte word of BAR2 is: a tail doorbell, a key-rights register, a head doorbell of a completion or an event queue, by the
function's local number; none where the layout is reserved. -/
inductive Slot where
  | tail (n : Nat)
  | rights (n : Nat)
  | cqHead (n : Nat)
  | eqHead (n : Nat)
  deriving DecidableEq, Repr

/-- The layout of BAR2. -/
def slotAt (f off : Nat) : Option Slot :=
  let wEnd := if f = 0 then 0x400000 else 0x10000
  let cEnd := if f = 0 then 0x480000 else 0x12000
  let eEnd := if f = 0 then 0x484000 else 0x12100
  if off < wEnd then some (if off % 16 < 8 then .tail (off / 16) else .rights (off / 16))
  else if off < cEnd then some (.cqHead ((off - wEnd) / 8))
  else if off < eEnd then some (.eqHead ((off - cEnd) / 8))
  else none

/-- What a read of an 8-byte word of BAR2 returns (R115, R665): 0 for a queue that the function does not own or that is not
configured. -/
def State.bar2Read (s : State) (f off : Nat) : Nat :=
  match slotAt f off with
  | some (.tail n) => (match s.wqOf f n with | some q => if (s.wq q).configured then (s.wq q).tail else 0 | none => 0)
  | some (.rights n) => (match s.wqOf f n with | some q => if (s.wq q).configured then (s.wq q).kr else 0 | none => 0)
  | some (.cqHead n) => (match s.cqOf f n with
    | some q => if (s.cq q).configured then (s.cq q).head + 2 ^ 32 * b2n (s.cq q).armed else 0
    | none => 0)
  | some (.eqHead n) => (match s.eqOf f n with
    | some q => if (s.eq q).configured then (s.eq q).head + 2 ^ 32 * b2n (s.eq q).armed else 0
    | none => 0)
  | none => 0

/-! ## Configuration space (R18, R19, R100) -/

/-- Vendor ID, R18 and R19. -/
def vendorId : Nat := 0x1F6C
/-- Device ID of the physical function (R18) or of a virtual one (R19). -/
def deviceId (f : Nat) : Nat := if f = 0 then 0x9072 else 0x9073
/-- Revision ID (R18). -/
def revisionId : Nat := 0xB0
/-- Class Code (R18): CXL memory device. -/
def classCode : Nat := 0x050210

/-- The features of PCIe and CXL that R100 lists. -/
inductive Feature where
  | rate (gts : Nat) | width (lanes : Nat) | flitMode | l0p | aspmL1 | l1Substates | tag10 | tag14 | atomicRequester
  | atomicCompleter | relaxedOrdering | idOrdering | aer | sriovAri | msix | msi | ats | pri | pasid | tph | ptm | ide
  | resizableBar | expansionRom | cxlIo | cxlMem | hdmH | hdmDb | backInvalidate | cxlCache | flit256 | flit68 | poison | viral
  | dynamicCapacity | cxlIde | multiLogical | portRouting | cdatDoe | mailbox
  deriving DecidableEq, Repr

/-- The device advertises a feature (R100); the rate of 2.5 GT/s is named 2. -/
def advertises : Feature → Bool
  | .rate n => ([64, 32, 16, 8, 5, 2] : List Nat).contains n
  | .width n => ([1, 2, 4, 8, 16] : List Nat).contains n
  | .l1Substates => false
  | .atomicCompleter => false
  | .msi => false
  | .ats => false
  | .pri => false
  | .pasid => false
  | .tph => false
  | .ptm => false
  | .ide => false
  | .resizableBar => false
  | .expansionRom => false
  | .hdmDb => false
  | .backInvalidate => false
  | .cxlCache => false
  | .viral => false
  | .dynamicCapacity => false
  | .cxlIde => false
  | .multiLogical => false
  | .portRouting => false
  | _ => true

/-- Max Payload Size and Max Read Request Size that the device supports, in bytes (R100). -/
def maxPayload : Nat := 512
def maxReadRequest : Nat := 4096

/-- The capability structures of configuration space that announce features of R100: whether an extended one, its ID, the feature, and
whether the PF alone has it. PRESUMED (log 84): PCIe gives the IDs. -/
def capTable : List (Bool × Nat × Feature × Bool) :=
  [(false, 0x10, .cxlIo, false), (false, 0x05, .msi, false), (false, 0x11, .msix, false),
   (true, 0x01, .aer, false), (true, 0x0E, .sriovAri, false), (true, 0x10, .sriovAri, true), (true, 0x0F, .ats, false),
   (true, 0x13, .pri, false), (true, 0x15, .resizableBar, false), (true, 0x17, .tph, false), (true, 0x1B, .pasid, false),
   (true, 0x1E, .l1Substates, true), (true, 0x1F, .ptm, true), (true, 0x23, .cxlMem, true), (true, 0x2E, .cdatDoe, true), (true, 0x30, .ide, true)]

/-- The structures of a function of one kind, the advertised ones alone (R100), each with its place: the first at `base`, each later one
behind the one before it, at least `room` bytes on. -/
def capList (ext : Bool) (f room : Nat) : Nat → List (Bool × Nat × Feature × Bool) → List (Nat × Nat)
  | _, [] => []
  | base, x :: t =>
    if x.1 == ext && advertises x.2.2.1 && (f == 0 || !x.2.2.2) then
      (base, x.2.1) :: capList ext f room (base + room + 4 * (Config.capGap base % 4)) t
    else capList ext f room base t

/-- The capability structures of a function: those of the first 256 bytes, then the extended ones. -/
def caps (ext : Bool) (f : Nat) : List (Nat × Nat) := if ext then capList true f 64 0x100 capTable else capList false f 48 0x40 capTable

/-- The place of the structure after one in a list; 0 after the last. -/
def capNext (l : List (Nat × Nat)) (off : Nat) : Nat := match l.find? (fun x => decide (off < x.1)) with | some x => x.1 | none => 0

/-- The bits of the PCI Express capability that announce features of R100, over the free ones `w` (PRESUMED, log 84): the payload size, the
highest rate, the width and L1 without substates, AtomicOp completion, tags of 10 bits and TPH, and the rates. -/
def pcieCap (i w : Nat) : Nat :=
  match i with
  | 0x04 => putBits w 0 3 (if maxPayload = 512 then 2 else 0)
  | 0x0C => putBits (putBits (putBits w 0 4 6) 4 6 16) 10 2 (if advertises .aspmL1 then 2 else 0)
  | 0x24 => putBits (putBits (putBits w 7 3 (if advertises .atomicCompleter then 7 else 0)) 12 2 (b2n (advertises .tph))) 16 2
      (3 * b2n (advertises .tag10))
  | 0x2C => putBits w 1 7 (b2n (advertises (.rate 2)) + 2 * b2n (advertises (.rate 5)) + 4 * b2n (advertises (.rate 8)) +
      8 * b2n (advertises (.rate 16)) + 16 * b2n (advertises (.rate 32)) + 32 * b2n (advertises (.rate 64)))
  | _ => w

/-- A word of a capability structure, or a free one: the headers name the structures of `caps` alone. -/
def capWord (f off w : Nat) : Nat :=
  match (caps false f).find? (fun x => decide (x.1 ≤ off) && decide (off < x.1 + 48)), (caps true f).find? (fun x => x.1 == off) with
  | some x, _ =>
    if off = x.1 then putBits (putBits w 0 8 x.2) 8 8 (capNext (caps false f) off)
    else if x.2 = 0x10 then pcieCap (off - x.1) w else w
  | none, some x => putBits (putBits w 0 16 x.2) 20 12 (capNext (caps true f) off)
  | none, none => w

/-- What a 4-byte word of configuration space reads as: identifiers and class (R18, R19), BAR4 and BAR5 which are not implemented, the
subsystem identifiers of the site record (03, Functions), no Expansion ROM, and the capability structures of the features that the device
advertises, with none of those that it does not support (R100). The rest is what PCIe and CXL fix. -/
def State.cfgRead (s : State) (f off n : Nat) : Nat :=
  let w := (Config.busWord f off n).toNat
  if off = 0x00 then vendorId + 2 ^ 16 * deviceId f
  else if off = 0x08 then revisionId + 2 ^ 8 * classCode
  else if off = 0x20 ∨ off = 0x24 then 0
  else if off = 0x2C then s.host.subVendor % 2 ^ 16 + 2 ^ 16 * (s.host.subId % 2 ^ 16)
  else if off = 0x30 then (if advertises .expansionRom then w else 0)
  else if off = 0x34 then putBits w 0 8 0x40
  else capWord f off w

/-! ## Pins (R642, R648 to R650) -/

/-- STRAP2: REF25 is taken differential, or else single-ended (R650). -/
def State.refDifferential (s : State) : Bool := !bitAt s.rst.straps 2

/-- The open-drain output FAULT#: low while the device is in the safe state. -/
def State.faultPin (s : State) : Bool := !s.flt.safe

/-- The outputs GPIO0 to GPIO5. -/
def State.gpio (s : State) : List Bool :=
  let run := s.rst.power != .standby
  [run && s.hif && s.dstate, run && s.timeLocked, run && s.mir.twin == .paired, s.rst.power == .standby,
   run && s.lnk.ports.any (fun kv => kv.2.isUp), run && s.flag .FLT_STAT_NEW]

end Sys2Proof.Machine
end

