-- ==== Sys2Proof/Machine/RegWrite.lean ====
section
/-! DEFINITION. Writes to BAR0 (03 R122 to R139): where an access falls, the effect of a write on each kind of field, locked fields,
reserved encodings, causes of latches, and what a written register does beside taking its value. -/

namespace Sys2Proof.Machine

/-! ## Where an access falls (the layouts of BAR0) -/

/-- What a 4-byte location of a function's BAR0 is: a register with the alias it is reached through (0 normal, 1 SET, 2 CLR, 3 TGL), a
word of the MSI-X table, the pending bit array, a CXL range, or reserved. -/
inductive Loc where
  | reg (r : RegName) (i al : Nat)
  | msixTab (w : Nat)
  | pba
  | cxl
  | rsvd
  deriving DecidableEq, Repr

/-- The location at an offset. -/
def locAt (f off : Nat) : Loc :=
  let reg (o al : Nat) : Loc := match regAt o with | some (r, i) => .reg r i al | none => .rsvd
  if f = 0 then
    let o := off % 2 ^ 20
    let al := off / 2 ^ 20
    if o < 0xE0000 then reg o al
    else if al ≠ 0 then .rsvd
    else if o < 0xE8000 then .msixTab ((o - 0xE0000) / 4)
    else if o < 0xE8100 then .pba
    else if o < 0xEC000 then .rsvd
    else .cxl
  else if off < 0x20 then reg off 0
  else if 0x100 ≤ off ∧ off < 0x120 then reg (0x2040 + (off - 0x100)) 0
  else if 0x2000 ≤ off ∧ off < 0x2400 then .msixTab ((off - 0x2000) / 4)
  else if 0x3000 ≤ off ∧ off < 0x3008 then .pba
  else .rsvd

/-! ## Causes that keep a latch set (R133) -/

/-- The latches of a register whose cause is present. -/
def State.ltStuck (s : State) (f : Nat) (r : RegName) (i : Nat) : Nat :=
  match r with
  | .HIF_FLT => b2n (s.host.aer != 0) + 8 * s.fld .HIF_LINKSTAT_BELOWMIN
  | .HIF_MEMSTAT => 4 * b2n (!bitAt (s.fld .GEN_READY_MEMCH) i)
  | .QMG_AQSTAT => 2 * b2n (s.aqEn f)
  | .ENG_STAT => 2 * b2n (!s.clusterReady i)
  | .NCC_FLT => b2n (!s.timeLocked) + 2 * b2n (decide (2097152 ≤ s.win.leases.length))
  | .LCK_FLT => 4 * b2n (decide (1048576 ≤ s.lineUsed)) + 8 * b2n (decide (65536 ≤ s.lck.recs.length))
  | .RTE_FLT => b2n s.pmapBad
  | .FLK_FLT => 16 * b2n (s.lnk.ports.any (fun kv => kv.2.st == 9))
  | .FLK_LBSTAT => 4 * b2n (!s.flag .FLK_LBSTAT_CAL i)
  | .MIR_FLT => 2 * b2n (s.mir.twin == .isolated) + 8 * b2n (s.mir.twin == .fenced)
  | .TIM_FLT => 2 * b2n (!s.flag .TIM_STAT_REFOK) + 4 * b2n (!s.flag .TIM_STAT_PPSVALID && s.flag .TIM_CTL_PPSINEN)
  | .PWR_FLT => b2n (decide (s.fld .PWR_PACE_PACE < 1024)) + 4 * b2n (decide (840 ≤ tjVal (s.fld .PWR_TEMP_TJ)))
  | .FLT_SAFE => b2n (!s.safeGone)
  | .FLT_SRCSTAT => b2n (s.srcActing i)
  | .SEC_FLT => 4 * b2n (s.flag .SEC_STAT_DEBUGOPEN)
  | _ => 0

/-! ## The written value (R129) -/

/-- A field after a write of `v` through an alias; `stuck` are the register's latches that may not clear. -/
def fieldAfter (al : Nat) (acc : Access) (stuck old v : Nat) : Nat :=
  match acc with
  | .rw => match al with
    | 0 => v
    | 1 => old ||| v
    | 2 => old - (old &&& v)
    | _ => old ^^^ v
  | .lt => if al = 2 then old - (old &&& (v - (v &&& stuck))) else old
  | .ec => if al = 2 ∧ v ≠ 0 then 0 else old
  | .wo => if al = 0 then v else old
  | .ro => old
  | .rl => old

/-- The width of a register of a family that has bits: PWR_SDMASK(2) stands for lanes 64 to 71, and its other bits are reserved (R16). -/
def RegName.width (r : RegName) (i : Nat) : Nat := if r = .PWR_SDMASK ∧ i = 2 then 8 else 32

/-- A register after a write; of the WO fields only those of SEC_RESP are stored. -/
def regAfter (al : Nat) (r : RegName) (i stuck old v : Nat) : Nat :=
  r.fields.foldl (fun x f =>
    if f.acc = .wo ∧ r ≠ .SEC_RESP then x
    else putBits x f.lo f.w (fieldAfter al f.acc (bits stuck f.lo f.w) (bits old f.lo f.w) (bits v f.lo f.w))) old % 2 ^ r.width i

/-! ## Locked fields (R136, R137) -/

/-- A port has left OFF. -/
def PortSt.awake (p : PortSt) : Bool := p.st != 0

/-- The lane belongs, by its port's configuration or by the lanes that carry it now, to a port that is not OFF (R436). -/
def State.laneOn (s : State) (l : Nat) : Bool :=
  s.lnk.ports.any (fun kv => kv.2.awake &&
    (kv.2.lanes.contains l || (decide (kv.1 ≤ l) && decide (l < kv.1 + 2 ^ s.fld .RTE_PORT_WIDTH kv.1))))

/-- A port in a state of `p` has the lane now. -/
def State.laneIn (s : State) (l : Nat) (p : PortSt → Bool) : Bool := s.lnk.ports.any (fun kv => kv.2.lanes.contains l && p kv.2)

/-- The locked bits of a register. -/
def State.lockedBits (s : State) (f : Nat) (r : RegName) (i : Nat) : Nat :=
  let all := 2 ^ 32 - 1
  let on (c : Bool) (m : Nat) : Nat := if c then m else 0
  match r with
  | .QMG_AQSQLO => on (s.aqEn f) all
  | .QMG_AQSQHI => on (s.aqEn f) all
  | .QMG_AQCQLO => on (s.aqEn f) all
  | .QMG_AQCQHI => on (s.aqEn f) all
  | .QMG_AQCFG => on (s.aqEn f) 0xFF0
  | .QMG_VFRGN => on (s.host.vfs != 0) all
  | .GWN_WCFG => on (s.flag .GWN_WCFG_EN i) 0x3F00
  | .GWN_WMAP => on (s.flag .GWN_WCFG_EN i) all
  | .NCC_CFG => on (s.flag .NCC_CFG_EN) 0x1F00
  | .NCC_LEASEDUR => on (s.flag .NCC_CFG_HOMEEN) all
  | .NCC_OVFDUR => on (s.flag .NCC_CFG_HOMEEN) all
  | .XLT_ASIDLO => on (s.flag .XLT_CTL_EN) all
  | .XLT_ASIDHI => on (s.flag .XLT_CTL_EN) all
  | .RTE_PORT => on ((s.port i).st == 6) 0x3FF
  | .FLK_CRALLOC => on (s.lnk.ports.any (fun kv => kv.2.awake)) all
  | .FLK_LANECTL =>
    on (s.laneOn i) 3 + on (s.laneIn i (fun p => (decide (1 ≤ p.st) && decide (p.st ≤ 5)) || p.st == 7) ||
      ((s.lane i).sparing && !(s.lane i).standby)) 0x3FC
  | .MIR_HB => on (s.mir.twin != .unpaired) all
  | .MIR_GUARD => on (s.mir.twin != .unpaired) all
  | .MIR_FENCEWIN => on (s.mir.twin != .unpaired) all
  | .TIM_CFG => on (s.flag .TIM_CTL_EN) all
  | .TIM_ALARM => on (bitAt (s.fld .TIM_ALMCTL_EN) i) all
  | .PWR_PACESET => on (s.flag .PWR_CTL_AVSEN) all
  | .PWR_VLIM => on (s.flag .PWR_CTL_AVSEN) all
  | .RST_WDCTL => on (s.flag .RST_WDCTL_EN) 0xFFFFFF00
  | .PMU_TAGCTL => on (s.flag .PMU_TAGCTL_EN) 0xF0
  | .PMU_ARBASELO => on (s.flag .PMU_GCTL_EN i) all
  | .PMU_ARBASEHI => on (s.flag .PMU_GCTL_EN i) all
  | .PMU_ARLIMLO => on (s.flag .PMU_GCTL_EN i) all
  | .PMU_ARLIMHI => on (s.flag .PMU_GCTL_EN i) all
  | .PMU_EVSEL => on (s.flag .PMU_GCTL_EN (i / 8)) 0xFF
  | _ => 0

/-! ## Reserved encodings (R138) -/

/-- A value outside a range. -/
def outside (lo hi v : Nat) : Bool := decide (v < lo) || decide (hi < v)

/-- A write would give a field of a register an encoding that its table does not list: `n` is the register after the write. -/
def State.badValue (s : State) (r : RegName) (i n : Nat) : Bool :=
  match r with
  | .QMG_AQCFG => outside 4 12 (bits n 4 4) || outside 4 12 (bits n 8 4)
  | .ENG_CTL => decide (bits n 4 4 < 2)
  | .GWN_BUDGET => outside 100000 1500000 n
  | .GWN_WCFG => outside 21 48 (bits n 8 6) || (bits n 0 1 == 1 && !s.flag .GWN_WCFG_EN i && !s.windowOk i (bits n 8 6))
  | .NCC_CFG => outside 1 16 (bits n 8 5)
  | .NCC_LEASEDUR => outside 2000 10000000 n
  | .NCC_OVFDUR => outside 2000 200000 n
  | .XLT_TLIFE => n != 0 && decide (n < 1000)
  | .COL_PROBEINT => outside 10000 10000000 n
  | .COL_CWIN => outside 0 100000 (bits n 0 17)
  | .LCK_DEADWIN => outside 10000 10000000 n
  | .LCK_PROBEINT => outside 100000 100000000 n
  | .RTE_PCAP => outside 0 224 (bits n 0 8)
  | .RTE_CCTARGETQ => decide (bits n 0 16 < 500)
  | .RTE_CCAI => outside 512 65536 (bits n 0 17)
  | .RTE_CCBETA => bits n 0 8 == 0
  | .RTE_CCWMIN => outside 1024 65536 (bits n 0 17)
  | .RTE_CCWMAX => outside 65536 16777216 (bits n 0 25)
  | .RTE_CCWINIT => outside (s.fld .RTE_CCWMIN_CWNDMIN) (s.fld .RTE_CCWMAX_CWNDMAX) (bits n 0 25)
  | .RTE_PMAP => decide (71 < bits n 0 7) || decide (71 < bits n 8 7)
  | .RTE_PORT => bits n 1 2 == 3 || (bits n 0 1 == 1 && (!portFits i (bits n 1 2) || s.lanesOverlap i (bits n 1 2)))
  | .FLK_CTL => bits n 4 4 == 0
  | .FLK_REPLAYTO => decide (bits n 0 16 < 1000)
  | .FLK_ERRWIN => outside 10000 100000000 n
  | .FLK_EQTO => outside 1000000 500000000 n
  | .FLK_RTRTO => outside 100000 100000000 n
  | .FLK_HOLDOFF => outside 10000 1000000000 n
  | .FLK_ERRTHR => bits n 0 16 == 0 || bits n 16 16 == 0
  | .FLK_CRALLOC => decide (bits n 0 9 < 8) ||
    decide (1536 < ((List.range 8).map (fun v => if v = i then bits n 0 9 else s.fld .FLK_CRALLOC_FLITS v)).sum)
  | .MIR_HB => decide (bits n 0 4 < 2)
  | .MIR_GUARD => outside 5000 1000000 n || decide (n ≤ s.fld .MIR_FENCEWIN_WIN)
  | .MIR_FENCEWIN => outside 1000 500000 n || decide (s.fld .MIR_GUARD_GUARD ≤ n)
  | .TIM_CFG => outside 0x80 0x800 (bits n 0 16) || decide (0x400 < bits n 16 16)
  | .PWR_PACESET => outside 1024 4095 (bits n 0 16) || decide (bits n 16 8 < 24)
  | .PWR_VLIM => outside 600 900 (bits n 0 16) || outside (bits n 0 16) 900 (bits n 16 16)
  | .RST_IDLETO => outside 1000 10000000 n
  | .RST_WDCTL => bits n 8 24 == 0
  | .FLT_CTL => bits n 8 8 == 0
  | .FLT_SRCCFG => outside 10 40 (bits n 8 6)
  | .PMU_BWWIN => outside 16 30 (bits n 0 5)
  | .PMU_TAGCTL => decide (bits n 4 4 < 4)
  | .PMU_TAGSEED => n == 0
  | .PMU_FILT => decide (287 < bits n 22 9)
  | _ => false

/-- A WO bit of a write asks for an act that the device may not take now: the write is dropped with kind BADVAL (R565, R569). -/
def State.badAct (s : State) (r : RegName) (al v : Nat) : Bool :=
  al == 0 && match r with
  | .TIM_CTL => bitAt v 3 && !s.mayStep
  | .PWR_CTL => bitAt v 1 && !s.mayStandby
  | _ => false

/-! ## The admin queue's registers (R164, R179, R191) -/

/-- A write to QMG_AQTAIL: the tail count is recorded, and the admin engine serves the ring. -/
def State.adminTail (s : State) (f tail : Nat) (rd : ReadStatus) : State :=
  ((((s.wrAq f .QMG_AQTAIL tail).modAq f (fun q => { q with rd := rd })).adminRun f).settle)

/-- A write to QMG_AQHEAD: the head count is recorded, and held completions are written. -/
def State.adminHead (s : State) (f head : Nat) : State := ((s.wrAq f .QMG_AQHEAD head).adminDrain f).restartDue

/-- QMG_AQCFG.EN changes from 0 to 1: the counts, the tail and the head become 0. -/
def State.adminOn (s : State) (f : Nat) : State :=
  if s.aqEn f then s
  else (((s.setFldAq f .QMG_AQCFG_EN 1).modAq f (fun q => { blocked := q.blocked })).wrAq f .QMG_AQTAIL 0).wrAq f .QMG_AQHEAD 0

/-- QMG_AQCFG.EN changes from 1 to 0: nothing more is fetched. -/
def State.adminOff (s : State) (f : Nat) : State := if s.aqEn f then s.setFldAq f .QMG_AQCFG_EN 0 else s

/-! ## What a written register does -/

/-- A write of RTE_PORT whose checks have passed. -/
def State.portWrite (s : State) (p n : Nat) : State :=
  if bits n 0 1 = 1 then s.portEnable p (bits n 1 2) (bits n 3 2) (bits n 5 5)
  else
    let s1 := if s.flag .RTE_PORT_EN p then s.portDisable p else s
    s1.wrRaw .RTE_PORT p n

/-- The WO bits of MIR_CTL. -/
def State.mirBits (s : State) (wo : Nat) : State :=
  let s1 := if bitAt wo 2 then s.unpairCmd else s
  let s2 := if bitAt wo 3 then s1.releaseCmd else s1
  if bitAt wo 4 then (if s2.mir.twin = .paired then s2.fence else s2.mirBad) else s2

/-- The WO bits of SEC_CTL. -/
def State.secBits (s : State) (wo : Nat) : State :=
  let s1 := if bitAt wo 0 then s.newChal else s
  let s2 := if bitAt wo 1 then s1.unlock else s1
  s2.fuseWrite (bitAt wo 2) (bits wo 4 4)

/-- The register takes the value `n`, and what the register's chapter says follows. `o` is its value before, `v` the written value, `al`
the alias; WO fields act at the normal offset alone. -/
def State.regTake (s : State) (f : Nat) (r : RegName) (i al o n v : Nat) : State :=
  let t := s.wrF f r i n
  let rise (k : Nat) : Bool := !bitAt o k && bitAt n k
  let fall (k : Nat) : Bool := bitAt o k && !bitAt n k
  let wo := if al = 0 then v else 0
  match r with
  | .QMG_AQCFG =>
    if rise 0 then (s.adminOn f).wrF f r i n else if fall 0 then (s.adminOff f).wrF f r i n else t
  | .QMG_AQTAIL => t.adminTail f n .ok
  | .QMG_AQHEAD => t.adminHead f n
  | .NCC_CFG => if rise 0 || fall 0 then t.nccEmpty else t
  | .XLT_CTL => if fall 0 then t.xltClear else t
  | .XLT_EXCLBL => t.xltClear
  | .XLT_EXCLBH => t.xltClear
  | .XLT_EXCLLL => t.xltClear
  | .XLT_EXCLLH => t.xltClear
  | .RTE_PMAP => t.pmapCheck.settle
  | .FLK_LANECTL => t.spareSync [i]
  | .RTE_PORT => if o = n && !bitAt n 0 then s else ((s.portWrite i n).pmapCheck.settle).timeCheck
  | .MIR_CTL => ((if rise 0 then t.mirEnable else if fall 0 then t.mirOff else t).mirBits wo).settle
  | .TIM_CTL =>
    let t1 := (if bitAt wo 3 then s.timeStep else s).wrF f r i n
    if o = n then t1 else t1.ppsGate.timeSelect
  | .PWR_CTL =>
    let t1 := if rise 0 then s.avsOn else t
    if bitAt wo 1 then t1.standby.settle else t1
  | .RST_BLKCMD => if al = 0 then s.blkCmd (bits v 0 8) (bitAt v 8) else s
  | .RST_WDCTL => if rise 0 then { t with rst := { t.rst with wdKick := t.tick } } else t
  | .RST_WDKICK => s.watchdogKick wo
  | .FLT_CTL => if s.sevCount ≤ bits o 8 8 ∧ bits n 8 8 < s.sevCount then (t.enterSafe 2 0).settle else t
  | .FLT_INJ => if al = 0 then s.inject_ v else s
  | .FLT_SAFE => if al = 2 && bitAt v 0 then s.safeClear else s
  | .FLT_SRCSTAT => if fall 0 then (t.setFld .FLT_SRCSTAT_LEVEL 0 i).setFld .FLT_SRCSTAT_SEVERE 0 i else t
  | .PMU_CTL =>
    let t1 := if bitAt wo 0 then s.pmuSync true else s
    if bitAt wo 1 then t1.pmuSync false else t1
  | .PMU_GCTL => if bitAt wo 4 then t.pmuLoad i else t
  | .PMU_TAGSEED => s.tagSeed n
  | .SEC_CTL => (s.secBits wo).settle
  | _ => t

/-- A write of `v` to register `r` of a function, at offset `off`, judged in state `s0` and acting on `s`: refused while its block is
held in reset (R139), dropped where it would change a locked field (R136) or give a field a reserved encoding (R138) or asks for an act that may not be taken, else taken. -/
def State.regWriteAt (s0 s : State) (f off : Nat) (r : RegName) (i al v : Nat) : State :=
  let o := s0.rdF f r i
  let n := regAfter al r i (s0.ltStuck f r i) o v
  if s0.regHeld (r.addr i) then s.accLog 5 true f 0 off
  else if (o ^^^ n) &&& s0.lockedBits f r i ≠ 0 then s.lockViol f off
  else if s0.badAct r al v || s0.badValue r i n then s.accLog 4 true f 0 off
  else s.regTake f r i al o n v

/-- A write of one register. -/
def State.regWrite (s : State) (f off : Nat) (r : RegName) (i al v : Nat) : State := s.regWriteAt s f off r i al v

/-- A write to a word of an MSI-X table (R121): bit 0 of an entry's last word masks its vector. -/
def State.msixWrite (s : State) (f w v : Nat) : State :=
  if w % 4 = 3 then s.vecMask f (w / 4) (bitAt v 0)
  else
    let k := 8192 * f + w
    { s with host := { s.host with msixTab := if v = 0 then mdel s.host.msixTab k else mset s.host.msixTab k v } }

/-- A 4-byte word of a BAR0 write applied to `s`, judged in `s0`, the state before the access (R123). The CXL ranges follow the rules of CXL, and their commands have rows of their own. -/
def State.wordWrite (s0 s : State) (f off v : Nat) : State :=
  match locAt f off with
  | .reg r i al => s0.regWriteAt s f off r i al v
  | .msixTab w => s.msixWrite f w v
  | _ => s

/-! ## A BAR0 write (R122, R123, R660) -/

/-- The byte enables of the 4-byte word at `d` in an access. -/
def RegAcc_be (a : RegAcc) (d : Nat) : Nat :=
  (List.range 4).foldl (fun x j => x + 2 ^ j * b2n (decide (a.off ≤ 4 * d + j) && decide (4 * d + j < a.off + a.size) &&
    bitAt a.be (4 * d + j - a.off))) 0

/-- The 4-byte words that an access addresses. -/
def RegAcc_words (a : RegAcc) : List Nat :=
  (numsFrom (a.off / 4) ((a.off + a.size - 1) / 4 + 1 - a.off / 4)).filter (fun d => RegAcc_be a d != 0)

/-- A BAR0 write: a bus error, or each addressed word applied, both judged before either acts. -/
def State.bar0Write (s : State) (a : RegAcc) : State :=
  let ws := RegAcc_words a
  if a.func ≠ 0 ∧ s.host.vfs < a.func then s
  else if !s.hif then s.busError 7 a.func 0 a.off
  else if ws.any (fun d => locAt a.func (4 * d) == .rsvd) then s.busError 1 a.func 0 a.off
  else if !((a.size == 4 || a.size == 8) && a.off % a.size == 0) || ws.any (fun d => RegAcc_be a d != 15) then s.busError 2 a.func 0 a.off
  else ws.foldl (fun t d => s.wordWrite t a.func (4 * d) (a.value / 2 ^ (8 * (4 * d - a.off)) % 2 ^ 32)) s

/-! ## The commands -/

/-- REG_WRITE (R129). -/
def execRegWrite (a : RegAcc) (s : State) : Host.Outcome State Fault Refusal := .next (s.bar0Write a)

/-- A write of a function to one of its admin queue registers: dropped from a function that is not enabled, refused while
GEN_READY.HIF is 0 (R103, R122). -/
def State.aqRow (s : State) (f : Nat) (r : RegName) (op : State → State) : State :=
  if f ≠ 0 ∧ s.host.vfs < f then s
  else if !s.hif then s.busError 7 f 0 (if f = 0 then r.addr 0 else 0x100 + (r.addr 0 - 0x2040))
  else op s

/-- ADMIN_TAIL_DOORBELL (R179). -/
def execAdminTailDoorbell (f tail : Nat) (stores : List Host.Cell) (rd : ReadStatus) (s : State) : Host.Outcome State Fault Refusal :=
  .next ((s.hostStores stores).aqRow f .QMG_AQTAIL (fun t => t.adminTail f tail rd))
/-- ADMIN_HEAD_DOORBELL (R164). -/
def execAdminHeadDoorbell (f head : Nat) (s : State) : Host.Outcome State Fault Refusal :=
  .next (s.aqRow f .QMG_AQHEAD (fun t => t.adminHead f head))
/-- ADMIN_QUEUE_ENABLE (R191). -/
def execAdminQueueEnable (f : Nat) (s : State) : Host.Outcome State Fault Refusal := .next (s.aqRow f .QMG_AQCFG (fun t => t.adminOn f))
/-- ADMIN_QUEUE_DISABLE (R191). -/
def execAdminQueueDisable (f : Nat) (s : State) : Host.Outcome State Fault Refusal := .next (s.aqRow f .QMG_AQCFG (fun t => t.adminOff f))

end Sys2Proof.Machine
end

