-- ==== Sys2Proof/Machine/HostIf.lean ====
section
/-! DEFINITION. The host interface beside BAR0 (03, 04, 07, 08): doorbells and key rights in BAR2, the fence read, CXL.mem accesses, the
CXL mailbox and CDAT. -/

namespace Sys2Proof.Machine

/-! ## Doorbells (R150, R151, R164, R361) -/

/-- A tail doorbell of work queue `q` (R150, R151). -/
def State.tailBell (s : State) (q tail : Nat) : State :=
  let w := s.wq q
  if w.st ≠ .active ∧ w.st ≠ .suspended then s.bump .QMG_DBIGNORE_IGNORED
  else if 2 ^ 31 ≤ sub32 tail w.tail then s.bump .QMG_DBIGNORE_STALE
  else if 2 ^ w.log2 < sub32 tail w.head then
    if w.turn = none ∨ w.atBoundary = true then ((s.wqError q 7 w.head).runWaitCmds q) else s.modWq q (fun w => { w with badBell := true })
  else
    let s1 := s.modWq q (fun w => { w with tail := tail, tails := w.tails ++ [(tail, s.tick)] })
    (s1.recWqTail q).joinRun q

/-- A write of a key-rights register (R360, R361). -/
def State.rightsWrite (s : State) (q v : Nat) : State := (s.modWq q (fun w => { w with kr := v })).recWqTail q

/-- A head doorbell of a completion queue: HEAD and ARM are recorded, held completions are written, and the queues that waited for room
go on (R164 to R166). -/
def State.cqBell (s : State) (n v : Nat) : State :=
  if (s.cq n).configured then
    let s1 := s.modCq n (fun q => { q with head := v % 2 ^ 32, armed := bitAt v 32 })
    (if s1.mirCq n then s1.recQctx false n else s1).cqGo n
  else s

/-- A head doorbell of an event queue (R164, R170). -/
def State.eqBell (s : State) (n v : Nat) : State :=
  if (s.eq n).configured then
    let s1 := s.modEq n (fun q => { q with head := v % 2 ^ 32, armed := bitAt v 32 })
    (if s1.mirEq n then s1.recQctx true n else s1).eqDrain n
  else s

/-- An 8-byte word of BAR2 written: of a queue that the function owns (R112). -/
def State.slotWrite (s : State) (f off v : Nat) : State :=
  let stray := s.accLog 6 true f 1 off
  match slotAt f off with
  | some (.tail n) => (match s.wqOf f n with | some q => s.tailBell q (v % 2 ^ 32) | none => stray)
  | some (.rights n) => (match s.wqOf f n with | some q => s.rightsWrite q v | none => stray)
  | some (.cqHead n) => (match s.cqOf f n with | some q => s.cqBell q v | none => stray)
  | some (.eqHead n) => (match s.eqOf f n with | some q => s.eqBell q v | none => stray)
  | none => s

/-- The byte enables of the 8-byte word at `d` in a write. -/
def Bar2_be (w : Bar2Write) (d : Nat) : Nat :=
  (List.range 8).foldl (fun x j => x + 2 ^ j * b2n (decide (w.off ≤ 8 * d + j) && decide (8 * d + j < w.off + w.len) &&
    bitAt w.be (8 * d + j - w.off))) 0

/-- The 8-byte words that a write covers in whole or in part. -/
def Bar2_words (w : Bar2Write) : List Nat :=
  (numsFrom (w.off / 8) ((w.off + w.len - 1) / 8 + 1 - w.off / 8)).filter (fun d => Bar2_be w d != 0)

/-- A BAR2 write, by the first row of R665 that applies; whole words are applied in ascending order (R113). -/
def State.bar2Write (s : State) (w : Bar2Write) : State :=
  let ws := Bar2_words w
  if w.func ≠ 0 ∧ s.host.vfs < w.func then s
  else if !s.hif then s.busError 7 w.func 1 w.off
  else if ws.any (fun d => (slotAt w.func (8 * d)).isNone) then s.busError 1 w.func 1 w.off
  else if ws.any (fun d => Bar2_be w d != 255) then s.accLog 2 true w.func 1 w.off
  else (ws.foldl (fun t d => t.slotWrite w.func (8 * d) (w.value / 2 ^ (8 * (8 * d - w.off)) % 2 ^ 64)) s).settle

/-! ## Reads of the host (R103, R115, R122, R123, R131, R143, R314, R665) -/

/-- The byte enables of the 4-byte word at `d` in a read. -/
def readBe (a : HostRead) (d : Nat) : Nat := RegAcc_be { func := a.func, off := a.off, size := a.size, value := 0, be := a.be } d

/-- The 4-byte words that a read addresses. -/
def readWords (a : HostRead) : List Nat := RegAcc_words { func := a.func, off := a.off, size := a.size, value := 0, be := a.be }

/-- The access is 4 or 8 bytes, naturally aligned, with each addressed word enabled whole. -/
def readWhole (a : HostRead) : Bool :=
  (a.size == 4 || a.size == 8) && a.off % a.size == 0 && (readWords a).all (fun d => readBe a d == 15)

/-- A read that is refused: Completer Abort, logged and counted (R122, R665). -/
def State.readError (s : State) (kind : Nat) (a : HostRead) : State :=
  (s.accLog kind false a.func (if a.space = .bar2 then 1 else 0) a.off).emit (.pcieRead none)

/-- A location of BAR0 that is served while GEN_READY.HIF is 0 (R103). -/
def servedAlways (l : Loc) : Bool :=
  match l with
  | .reg .GEN_ID _ _ => true
  | .reg .GEN_FWVER _ _ => true
  | .reg .GEN_READY _ _ => true
  | .reg .GEN_READYCL _ _ => true
  | .reg .HIF_LINKSTAT _ _ => true
  | .reg .HIF_FLT _ _ => true
  | _ => false

/-- Eight pending bits of a function's vectors from vector `v` upward, in numbers of 32. -/
def State.pbaWord (s : State) (f w : Nat) : Nat :=
  (List.range 32).foldl (fun x j => x + 2 ^ j * b2n (mget s.host.msixPend (vecKey f (32 * w + j))).isSome) 0

/-- What a 4-byte word of BAR0 reads as; an alias reads as the register (R131). `n` numbers an open value. -/
def State.wordRead (s : State) (f off n : Nat) : Nat :=
  match locAt f off with
  | .reg r i _ => s.regRead f r i
  | .msixTab w => if w % 4 = 3 then b2n (mget s.host.msixOpen (vecKey f (w / 4))).isNone else s.msixWord f w
  | .pba => s.pbaWord f (if f = 0 then (off - 0xE8000) / 4 else (off - 0x3000) / 4)
  | .cxl => (Config.busWord f off n).toNat
  | .rsvd => 0

/-- The fence registers that a read covers, each with its place in the value returned. -/
def readFences (a : HostRead) : List (Nat × Nat) :=
  (readWords a).filterMap (fun d => match locAt a.func (4 * d) with
    | .reg .GWN_FENCE i _ => some (8 * (4 * d - a.off), i)
    | _ => none)

/-- A read of fence registers waits for the writes of their windows that were accepted before it and have neither been answered nor
passed their budget (R314). -/
def State.fenceWait (s : State) (l : List (Nat × Nat)) : State :=
  let ids := s.win.blk.flatMap (fun kv =>
    (kv.2.items.filter (fun i => i.write && !i.expired && l.any (fun x => x.2 == i.d))).map WItem.id)
  ({ s with win := { s.win with fences := s.win.fences ++ [{ regs := l, ids := ids }] } } : State).fenceRun

/-- A read of BAR0: a bus error by the first reason that applies, a wait for a fence, or both halves sampled at once (R123). -/
def State.bar0Read (s : State) (a : HostRead) : State :=
  let ws := readWords a
  if !s.hif && !ws.all (fun d => servedAlways (locAt a.func (4 * d))) then s.readError 7 a
  else if ws.any (fun d => locAt a.func (4 * d) == .rsvd) then s.readError 1 a
  else if !readWhole a then s.readError 2 a
  else if (readFences a) ≠ [] then s.fenceWait (readFences a)
  else
    let (n, s1) := s.fresh
    s1.emit (.pcieRead (some ((ws.map (fun d => 2 ^ (8 * (4 * d - a.off)) * s.wordRead a.func (4 * d) n)).sum)))

/-- A read of BAR2, by the first row of R665 that applies. -/
def State.bar2ReadAt (s : State) (a : HostRead) : State :=
  let ws := readWords a
  if !s.hif then s.readError 7 a
  else if ws.any (fun d => (slotAt a.func (4 * d)).isNone) then s.readError 1 a
  else if !readWhole a then s.readError 2 a
  else
    let half (d : Nat) : Nat := s.bar2Read a.func (8 * (d / 2)) / 2 ^ (32 * (d % 2)) % 2 ^ 32
    s.emit (.pcieRead (some ((ws.map (fun d => 2 ^ (8 * (4 * d - a.off)) * half d)).sum)))

/-- FENCE_READ: a read of the host. While the link is down no completion is possible, and a function that is not enabled has no
registers. -/
def State.hostRead_ (s : State) (a : HostRead) : State :=
  if !s.host.dl || (a.func != 0 && decide (s.host.vfs < a.func)) then s
  else match a.space with
    | .bar0 => s.bar0Read a
    | .bar2 => s.bar2ReadAt a
    | .config =>
      let (n, s1) := s.fresh
      s1.emit (.pcieRead (some (((readWords a).map (fun d => 2 ^ (8 * (4 * d - a.off)) * s.cfgRead a.func (4 * d) n)).sum)))

/-! ## CXL.mem (R116, R298, R308) -/

/-- A CXL.mem access reaches the device: the link carries CXL.mem and a committed decoder decodes the address. -/
def State.cxlAccess (s : State) (hpa : Nat) (go : Nat → Nat → State) : State :=
  if s.host.dl && s.flag .HIF_LINKSTAT_CXLMEM then
    match s.decoderOf hpa with
    | some d => go d (s.bar4 d hpa)
    | none => s
  else s

/-! ## The CXL mailbox and CDAT (R100, R101, R553) -/

/-- An access to the mailbox: a bus error while GEN_READY.HIF is 0 (R103), else the answer and, where it is
enabled, the interrupt on vector 2 (R119); which of its registers is accessed is not fixed here. -/
def State.mailbox (s : State) (go : State → State) : State :=
  if s.hif then
    let s1 := go s
    if s1.host.mailIrq then s1.msix 0 2 else s1
  else
    let (n, s1) := s.fresh
    s1.busError 7 0 0 (0xEC000 + Config.openNat n % 2 ^ 14)

/-- An answer whose payload the CXL specification fixes. -/
def State.mailOpen (s : State) (what : Nat) : State :=
  let (n, s1) := s.fresh
  s1.emit (.cxlMail .success (Config.cxlPayload what n))

/-! ## The commands -/

/-- TAIL_DOORBELL (R150). -/
def execTailDoorbell (w : Bar2Write) (stores : List Host.Cell) (s : State) : Host.Outcome State Fault Refusal :=
  .next ((s.hostStores stores).bar2Write w)
/-- HEAD_DOORBELL (R164). -/
def execHeadDoorbell (w : Bar2Write) (s : State) : Host.Outcome State Fault Refusal := .next (s.bar2Write w)
/-- KEY_RIGHTS_WRITE (R361). -/
def execKeyRightsWrite (w : Bar2Write) (s : State) : Host.Outcome State Fault Refusal := .next (s.bar2Write w)
/-- FENCE_READ (R314). -/
def execFenceRead (a : HostRead) (s : State) : Host.Outcome State Fault Refusal := .next (s.hostRead_ a)
/-- CXL_MEM_READ (R298). -/
def execCxlMemRead (mid hpa : Nat) (s : State) : Host.Outcome State Fault Refusal :=
  .next (s.cxlAccess hpa (fun d a => s.winLoad mid d a))
/-- CXL_MEM_WRITE (R308). -/
def execCxlMemWrite (mid hpa : Nat) (data : List Byte) (mask : Nat) (s : State) : Host.Outcome State Fault Refusal :=
  .next (s.cxlAccess hpa (fun d a => s.winStore mid d a data mask))
/-- CXL_IDENTIFY_MEMORY_DEVICE (R100, R117). -/
def execCxlIdentifyMemoryDevice (s : State) : Host.Outcome State Fault Refusal :=
  .next (s.mailbox (fun t =>
    let (n, t1) := t.fresh
    t1.emit (.cxlIdentity t.host.winCap (Config.cxlPayload 0 n))))
/-- CXL_GET_SUPPORTED_LOGS (R100). -/
def execCxlGetSupportedLogs (s : State) : Host.Outcome State Fault Refusal := .next (s.mailbox (fun t => t.mailOpen 1))
/-- CXL_GET_LOG (R100): the return code depends on whether the UUID names the Command Effects Log. -/
def execCxlGetLog (uuid offset length : Nat) (s : State) : Host.Outcome State Fault Refusal :=
  .next (s.mailbox (fun t =>
    let (n, t1) := t.fresh
    t1.emit (.cxlMail (.open_ (Config.cxlCode uuid n)) ((Config.cxlPayload 2 n).drop offset |>.take length))))
/-- CXL_GET_EVENT_RECORDS (R100). -/
def execCxlGetEventRecords (log : Nat) (s : State) : Host.Outcome State Fault Refusal := .next (s.mailbox (fun t => t.mailOpen (16 + log)))
/-- CXL_CLEAR_EVENT_RECORDS (R100): the records of the handles leave their log. -/
def execCxlClearEventRecords (log : Nat) (handles : List Nat) (s : State) : Host.Outcome State Fault Refusal :=
  .next (s.mailbox (fun t =>
    let l := (mgetD t.host.cxlEvents log []).filter (fun h => !handles.contains h)
    let m := if l = [] then mdel t.host.cxlEvents log else mset t.host.cxlEvents log l
    ({ t with host := { t.host with cxlEvents := m } } : State).emit (.cxlMail .success [])))
/-- CXL_GET_HEALTH_INFO (R100). -/
def execCxlGetHealthInfo (s : State) : Host.Outcome State Fault Refusal := .next (s.mailbox (fun t => t.mailOpen 4))
/-- CXL_GET_TIMESTAMP (R553): fabric time. -/
def execCxlGetTimestamp (s : State) : Host.Outcome State Fault Refusal :=
  .next (s.mailbox (fun t => t.emit (.cxlMail .success (leBytes 8 t.now))))
/-- CXL_SET_TIMESTAMP (R553): a step on the grandmaster, accepted without effect elsewhere. -/
def execCxlSetTimestamp (v : Nat) (s : State) : Host.Outcome State Fault Refusal :=
  .next (s.mailbox (fun t =>
    let t1 := t.timeSelect
    (if t1.flag .TIM_STAT_GM then t1.stepTime v else t).emit (.cxlMail .success [])))
/-- CXL_UNSUPPORTED_COMMAND (R101). -/
def execCxlUnsupportedCommand (_op : Nat) (s : State) : Host.Outcome State Fault Refusal :=
  .next (s.mailbox (fun t => t.emit (.cxlMail .unsupported [])))
/-- CDAT_DOE_REQUEST (R100): a configuration access, answered whenever the link is up. -/
def execCdatDoeRequest (handle : Nat) (s : State) : Host.Outcome State Fault Refusal :=
  .next (if s.host.dl then s.mailOpen (256 + handle) else s)

end Sys2Proof.Machine
end

