-- ==== Sys2Proof/Machine/Targets.lean ====
section
/-! DEFINITION. The commands of request packets at the target (05 R227, 06 R273, 07 R312 to R319, 10 R419 to R429, 09 R394
to R405, 11 R476) and of answers at the initiator (R246, R317, R427). -/

namespace Sys2Proof.Machine

/-- A request packet of a neighbour whose lengths are not of its type is counted (R513). -/
def State.badRequest (s : State) (r : Req) : State := if r.port < 72 ∧ r.loc = false then s.badPkt r.port else s

/-- A request packet that an engine takes for execution: behind earlier requests of its target context, while no engine can serve
it, or without a place for its answer, it waits (R46, R67, R462); while no cluster takes turns it is answered so (R67); it is executed by its
type otherwise. A packet that is not of the command's type, or not for this device, changes nothing, and one whose lengths are not of its type
is discarded (R513). -/
def State.request (s : State) (isType : Bool) (r : Req) : State :=
  if !isType || !s.isLocal r.pkt.dest || decide (s.tick < r.rx) then s
  else if !r.pkt.legal then s.badRequest r
  else
    let t := tctxOf r.pkt
    if s.noExec || s.tctxBusy t || mgetD s.tgt.tctx t [] != [] || (!r.loc && s.respFull) then s.targetWait r
    else if !s.anyCluster then (s.notReady r).settle
    else match s.turnServer (t % 288) with
      | none => s.targetWait r
      | some (e, s1) => (s1.targetExec { r with eng := e }).settle

/-- PUT_PACKET (R227). -/
def execPutPacket (r : Req) (s : State) : Host.Outcome State Fault Refusal := .next (s.request (r.pkt.ptype == 0x01) r)
/-- GET_PACKET (R227). -/
def execGetPacket (r : Req) (s : State) : Host.Outcome State Fault Refusal := .next (s.request (r.pkt.ptype == 0x02) r)
/-- ATOMIC_PACKET (R197, R198, R229). -/
def execAtomicPacket (r : Req) (s : State) : Host.Outcome State Fault Refusal := .next (s.request (r.pkt.ptype == 0x03) r)
/-- SEND_PACKET (R273). -/
def execSendPacket (r : Req) (s : State) : Host.Outcome State Fault Refusal := .next (s.request (r.pkt.ptype == 0x04) r)
/-- WRD_PACKET (R316). -/
def execWrdPacket (r : Req) (s : State) : Host.Outcome State Fault Refusal := .next (s.request (r.pkt.ptype == 0x05) r)
/-- WWR_PACKET (R312). -/
def execWwrPacket (r : Req) (s : State) : Host.Outcome State Fault Refusal := .next (s.request (r.pkt.ptype == 0x06) r)
/-- LINV_PACKET (R319). -/
def execLinvPacket (r : Req) (s : State) : Host.Outcome State Fault Refusal := .next (s.request (r.pkt.ptype == 0x07) r)

/-- A packet is a lock operation of a kind. -/
def isLockop (r : Req) (sub : Nat) : Bool := r.pkt.ptype == 0x08 && r.pkt.sub == sub

/-- LOCKOP_ACQUIRE (R420). -/
def execLockopAcquire (r : Req) (s : State) : Host.Outcome State Fault Refusal := .next (s.request (isLockop r 0) r)
/-- LOCKOP_TRY (R420). -/
def execLockopTry (r : Req) (s : State) : Host.Outcome State Fault Refusal := .next (s.request (isLockop r 1) r)
/-- LOCKOP_RELEASE (R420). -/
def execLockopRelease (r : Req) (s : State) : Host.Outcome State Fault Refusal := .next (s.request (isLockop r 2) r)
/-- LOCKOP_CANCEL (R429). -/
def execLockopCancel (r : Req) (s : State) : Host.Outcome State Fault Refusal := .next (s.request (isLockop r 3) r)
/-- LOCKOP_PROBE (R429). -/
def execLockopProbe (r : Req) (s : State) : Host.Outcome State Fault Refusal := .next (s.request (isLockop r 4) r)
/-- LGRANT_PACKET (R423). -/
def execLgrantPacket (r : Req) (s : State) : Host.Outcome State Fault Refusal := .next (s.request (r.pkt.ptype == 0x09) r)

/-- A packet is a collective packet of a kind. -/
def isColl (r : Req) (ctype : Nat) : Bool := r.pkt.ptype == 0x0A && r.pkt.ctype == ctype

/-- COLL_CONTRIBUTION (R395). -/
def execCollContribution (r : Req) (s : State) : Host.Outcome State Fault Refusal := .next (s.request (isColl r 0) r)
/-- COLL_RESULT (R396). -/
def execCollResult (r : Req) (s : State) : Host.Outcome State Fault Refusal := .next (s.request (isColl r 1) r)
/-- COLL_PROBE (R397). -/
def execCollProbe (r : Req) (s : State) : Host.Outcome State Fault Refusal := .next (s.request (isColl r 2) r)
/-- COLL_MERGED_REQUEST (R404, R405). -/
def execCollMergedRequest (r : Req) (s : State) : Host.Outcome State Fault Refusal := .next (s.request (isColl r 3) r)

/-- A teardown mark: answered at its destination, forwarded by its label elsewhere, the entry freed behind it (R476). -/
def State.pmark (s : State) (r : Req) : State :=
  if r.pkt.ptype != 0x0B then s
  else if !r.pkt.legal then s.badRequest r
  else if s.isLocal r.pkt.dest then (s.markIn r).settle
  else (s.pistePkt (8 * r.port + 6) { pkt := { r.pkt with vc := 6 }, port := r.port, rx := r.rx }).settle

/-- PMARK_PACKET (R476). -/
def execPmarkPacket (r : Req) (s : State) : Host.Outcome State Fault Refusal := .next (s.pmark r)

/-! ## Answers -/

/-- A response reaches the initiator; one whose lengths are not of its type is discarded (R513). -/
def State.response (s : State) (p : Nat) (k : Pkt) : State :=
  if !k.isResp || !s.isLocal k.dest then s
  else if !k.legal then (if p < 72 then s.badPkt p else s)
  else (s.respIn p k).settle

/-- RESP_PACKET (R246). -/
def execRespPacket (p : Nat) (pkt : Pkt) (s : State) : Host.Outcome State Fault Refusal := .next (s.response p pkt)

/-- The answer of a request of this device with a status, as its own packet would bring it. -/
def State.tagAnswered (s : State) (tag status : Nat) (isOwner : Owner → Bool) : State :=
  match mget s.ini.tags tag with
  | some e =>
    if isOwner e.owner then
      (s.respIn 72 { dest := s.own, src := e.pkt.dest, ptype := 0x40, tag := tag, epoch := e.pkt.epoch, status := status,
                     txtime := e.pkt.txtime }).settle
    else s
  | none => s

/-- LINV_ACK: an invalidation is acknowledged (R317). -/
def execLinvAck (tag : Nat) (s : State) : Host.Outcome State Fault Refusal :=
  .next (s.tagAnswered tag 0 (fun o => match o with | .linv _ _ => true | _ => false))

/-- GRANT_ANSWER: the home settles a grant (R427). -/
def execGrantAnswer (tag status : Nat) (s : State) : Host.Outcome State Fault Refusal :=
  .next (s.tagAnswered tag status (fun o => match o with | .grant _ => true | _ => false))

/-- A grant unanswered 2.0 ms after its first transmission. -/
def State.grantLate (s : State) (tag : Nat) : State :=
  match mget s.ini.tags tag with
  | some e => match e.owner with
    | .grant _ => (s.unknownTag tag).settle
    | _ => s
  | none => s

/-- GRANT_TIMEOUT (R427). -/
def execGrantTimeout (tag : Nat) (s : State) : Host.Outcome State Fault Refusal := .next (s.grantLate tag)

end Sys2Proof.Machine
end

