-- ==== Sys2Proof/Machine/Timers.lean ====
section
/-! DEFINITION. The timers of requests, messages, locks, collectives, leases and windows (05 R222 to R240, 06 R260, R278, 10
R422, R429, 09 R397, R405, R407, 07 R317, R325 to R328). A timer whose time has not come changes nothing. -/

namespace Sys2Proof.Machine

/-! ## Requests -/

/-- RETRANSMIT (R222, R223). -/
def execRetransmit (tag : Nat) (s : State) : Host.Outcome State Fault Refusal := .next (s.retransmit tag).settle

/-- UNKNOWN_OUTCOME (R224). -/
def execUnknownOutcome (tag : Nat) (s : State) : Host.Outcome State Fault Refusal := .next (s.unknownTag tag).settle

/-- TAG_RELEASE (R233). -/
def execTagRelease (tag : Nat) (s : State) : Host.Outcome State Fault Refusal := .next (s.maybeRelease tag).settle

/-- A suppression entry is removed once it expires, and never before (R229, R230). -/
def State.dupExpire (s : State) (i : ReqId) : State :=
  match mget s.tgt.dup i.packed with
  | some e => if e.expire ≤ s.tick then { s with tgt := { s.tgt with dup := mdel s.tgt.dup i.packed } } else s
  | none => s

/-- DUP_ENTRY_EXPIRE (R229). -/
def execDupEntryExpire (id : ReqId) (s : State) : Host.Outcome State Fault Refusal := .next (s.dupExpire id)

/-- Every context is in the period of BASE of the moment: a new one begins at each fabric-time multiple of 8,000,000 ticks (R240). -/
def State.basePeriod (s : State) : State :=
  { s with ini := { s.ini with cc := s.ini.cc.map (fun (kv : Nat × CcCtx) => (kv.1, kv.2.rotate s.ccPeriod)) } }

/-- CC_BASE_PERIOD (R240). -/
def execCcBasePeriod (s : State) : Host.Outcome State Fault Refusal := .next s.basePeriod

/-- SEND_DEADLINE (R260). -/
def execSendDeadline (q cnt : Nat) (s : State) : Host.Outcome State Fault Refusal := .next (s.sendDeadline q cnt).settle

/-- A message incomplete at its deadline. -/
def State.reassemblyLate (s : State) (i : ReqId) : State :=
  match s.msg.ctxs.find? (fun c => c.id == i && !c.complete) with
  | some c => if c.deadline ≤ s.tick then s.msgTimeout c else s
  | none => s

/-- REASSEMBLY_TIMEOUT (R278). -/
def execReassemblyTimeout (id : ReqId) (s : State) : Host.Outcome State Fault Refusal := .next (s.reassemblyLate id)

/-! ## Locks -/

/-- A waiting record whose acquire was answered QUEUED sends a probe every LCK_PROBEINT.INT ticks (R429). -/
def State.lockProbeDue (s : State) (n : Nat) : State :=
  match mget s.lck.recs n with
  | some x =>
    if s.dstate && x.queued && x.accepted.isNone && decide (x.since + s.fld .LCK_PROBEINT_INT ≤ s.tick) then
      ((s.modRec n (fun x => { x with since := s.tick })).sendLockop (.lockProbe x.q x.cnt) x 4).settle
    else s
  | none => s

/-- LOCK_PROBE_TIMER (R429). -/
def execLockProbeTimer (rec : Nat) (s : State) : Host.Outcome State Fault Refusal := .next (s.lockProbeDue rec)

/-- An ACCEPTED record is freed 10 ms after its grant (R422). -/
def State.recExpire (s : State) (n : Nat) : State :=
  match mget s.lck.recs n with
  | some x => match x.accepted with
    | some (t, _) => if t + 10000000 ≤ s.tick then s.freeRec n else s
    | none => s
  | none => s

/-- WAITING_RECORD_EXPIRE (R422). -/
def execWaitingRecordExpire (rec : Nat) (s : State) : Host.Outcome State Fault Refusal := .next (s.recExpire rec)

/-! ## Collectives -/

/-- The tick since which a member is waited for in the oldest pending instance: a child from which no contribution is held (DEDUCED, log 72:
at the root an orphan too, whose parent the root stands in for),
or the parent, or the root in its place, while a result is awaited (R397, R399). -/
def State.awaits (s : State) (k peer : Nat) : Option Nat :=
  let c := s.ctx k
  match c.insts with
  | i :: _ =>
    if c.st ≠ .set ∨ i.n ≠ c.completed ∨ i.own = none ∨ i.res.isSome = true then none
    else if (c.children ++ (c.expect s.own i).1).contains peer && !c.lost.contains peer && (mget i.got peer).isNone then some i.since
    else if s.own ≠ c.root ∧ peer = (if c.parentLost then c.root else c.parent) then i.sent
    else none
  | [] => none

/-- A probe falls due. -/
def State.collProbeDue (s : State) (k peer : Nat) : State :=
  match s.awaits k peer with
  | some t =>
    let last := max t (mgetD (s.ctx k).probeAt peer 0)
    if s.dstate = true ∧ last + s.fld .COL_PROBEINT_INT ≤ s.tick then
      ((s.modCtx k (fun c => { c with probeAt := mset c.probeAt peer s.tick })).sendColl k peer 2 (s.ctx k).completed false {}).settle
    else s
  | none => s

/-- COLL_PROBE_TIMER (R397). -/
def execCollProbeTimer (k peer : Nat) (s : State) : Host.Outcome State Fault Refusal := .next (s.collProbeDue k peer)

/-- A batch is sent when no merged request is in flight and COL_CWIN.WIN ticks have passed since the first constituent
waited (R405), and a request may leave with a tag: until then its constituents wait in the batch (R407). -/
def State.batchDue (s : State) (k : Nat) : State :=
  let c := s.ctx k
  if c.st = .set ∧ c.flight = [] ∧ c.batch ≠ [] ∧ c.batchAt + s.fld .COL_CWIN_WIN ≤ s.tick ∧ s.dstate = true then (s.batchSend k).settle else s

/-- COUNTER_BATCH_SEND (R405). -/
def execCounterBatchSend (k : Nat) (s : State) : Host.Outcome State Fault Refusal := .next (s.batchDue k)

/-- CONSTITUENT_EXPIRE (R407). -/
def execConstituentExpire (k : Nat) (s : State) : Host.Outcome State Fault Refusal := .next (s.constitExpire k).settle

/-! ## Leases and windows -/

/-- The latest lease of a block has ended everywhere: its writes become visible, and the entry is freed (R317). -/
def State.leaseExpire (s : State) (al : Bool) (region block : Nat) : State :=
  let k := leaseKey (tableKey al region) block
  match mget s.win.leases k with
  | some l =>
    if s.leaseEnd l ≤ s.tick then ((s.bump .NCC_EXPWAIT_COUNT 0 l.writing.length).leaseDone k).settle else s
  | none => s

/-- LEASE_EXPIRE (R317). -/
def execLeaseExpire (al : Bool) (region block : Nat) (s : State) : Host.Outcome State Fault Refusal :=
  .next (s.leaseExpire al region block)

/-- The start wait of a coordinate ends, counted in ticks (R552): the writes that waited for it become visible, and what was held behind them
is released in order (R325). -/
def State.startWaitEnd (s : State) (al : Bool) : State :=
  match (if al then s.win.startEndAlias else s.win.startEnd) with
  | some t =>
    if t ≤ s.tick then
      let w := s.win
      let mine := w.startWrites.filter (fun x => x.al == al)
      let s1 : State := { s with win := { w with
        startEnd := if al then w.startEnd else none
        startEndAlias := if al then none else w.startEndAlias
        startWrites := w.startWrites.filter (fun x => x.al != al), released := w.released ++ mine.filterMap (fun x => x.held) } }
      ((mine.filterMap (fun x => x.write)).foldl State.visible s1).settle
    else s
  | none => s

/-- LEASE_START_WAIT_END (R325). -/
def execLeaseStartWaitEnd (al : Bool) (s : State) : Host.Outcome State Fault Refusal := .next (s.startWaitEnd al)

/-- WINDOW_BUDGET_EXPIRE (R327). -/
def execWindowBudgetExpire (id : Nat) (s : State) : Host.Outcome State Fault Refusal := .next (s.winExpire id)

/-- WINDOW_SETTLE_EXPIRE (R328). -/
def execWindowSettleExpire (block : Nat) (s : State) : Host.Outcome State Fault Refusal := .next (s.winSettle block)

end Sys2Proof.Machine
end

