-- ==== Sys2Proof/Machine/Dispatch.lean ====
section
/-! DEFINITION. The dispatch of a command to its meaning: one arm for each constructor of `Instr`. -/

namespace Sys2Proof.Machine

/-- A command's effect on everything but the queue. -/
def exec (i : Instr) (s : State) : Host.Outcome State Fault Refusal :=
  match i with
  | .regWrite a => Sys2Proof.Machine.execRegWrite a s
  | .tailDoorbell w stores => Sys2Proof.Machine.execTailDoorbell w stores s
  | .headDoorbell w => Sys2Proof.Machine.execHeadDoorbell w s
  | .keyRightsWrite w => Sys2Proof.Machine.execKeyRightsWrite w s
  | .adminTailDoorbell f tail stores rd => Sys2Proof.Machine.execAdminTailDoorbell f tail stores rd s
  | .adminHeadDoorbell f head => Sys2Proof.Machine.execAdminHeadDoorbell f head s
  | .adminQueueEnable f => Sys2Proof.Machine.execAdminQueueEnable f s
  | .adminQueueDisable f => Sys2Proof.Machine.execAdminQueueDisable f s
  | .fenceRead a => Sys2Proof.Machine.execFenceRead a s
  | .windowEnable d glog2 => Sys2Proof.Machine.execWindowEnable d glog2 s
  | .nccEnable => Sys2Proof.Machine.execNccEnable s
  | .nccDisable => Sys2Proof.Machine.execNccDisable s
  | .nccInitDone => Sys2Proof.Machine.execNccInitDone s
  | .xltDisable => Sys2Proof.Machine.execXltDisable s
  | .xltExclWrite n k v => Sys2Proof.Machine.execXltExclWrite n k v s
  | .timeStep => Sys2Proof.Machine.execTimeStep s
  | .standby => Sys2Proof.Machine.execStandby s
  | .avsEnable => Sys2Proof.Machine.execAvsEnable s
  | .watchdogKick v => Sys2Proof.Machine.execWatchdogKick v s
  | .blockResetCluster c force => Sys2Proof.Machine.execBlockResetCluster c force s
  | .blockResetQueueManager force => Sys2Proof.Machine.execBlockResetQueueManager force s
  | .blockResetTranslationUnit force => Sys2Proof.Machine.execBlockResetTranslationUnit force s
  | .blockResetLockUnit force => Sys2Proof.Machine.execBlockResetLockUnit force s
  | .blockResetCollectiveUnit force => Sys2Proof.Machine.execBlockResetCollectiveUnit force s
  | .blockResetMirrorUnit force => Sys2Proof.Machine.execBlockResetMirrorUnit force s
  | .blockResetNearCache force => Sys2Proof.Machine.execBlockResetNearCache force s
  | .blockResetSteward force => Sys2Proof.Machine.execBlockResetSteward force s
  | .blockResetGddr7Controller k force => Sys2Proof.Machine.execBlockResetGddr7Controller k force s
  | .blockResetLaneBlock b force => Sys2Proof.Machine.execBlockResetLaneBlock b force s
  | .blockIdle code => Sys2Proof.Machine.execBlockIdle code s
  | .blockIdleTimeout code => Sys2Proof.Machine.execBlockIdleTimeout code s
  | .mirLinkEnable => Sys2Proof.Machine.execMirLinkEnable s
  | .unpair => Sys2Proof.Machine.execUnpair s
  | .release => Sys2Proof.Machine.execRelease s
  | .handover => Sys2Proof.Machine.execHandover s
  | .pmuStart => Sys2Proof.Machine.execPmuStart s
  | .pmuStop => Sys2Proof.Machine.execPmuStop s
  | .pmuLoad g => Sys2Proof.Machine.execPmuLoad g s
  | .pmuTagSeed v => Sys2Proof.Machine.execPmuTagSeed v s
  | .newchal => Sys2Proof.Machine.execNewchal s
  | .unlock => Sys2Proof.Machine.execUnlock s
  | .floor => Sys2Proof.Machine.execFloor s
  | .revoke mask => Sys2Proof.Machine.execRevoke mask s
  | .fuseWriteDone => Sys2Proof.Machine.execFuseWriteDone s
  | .faultInject v => Sys2Proof.Machine.execFaultInject v s
  | .safeStateClear => Sys2Proof.Machine.execSafeStateClear s
  | .portEnable p width dim dg => Sys2Proof.Machine.execPortEnable p width dim dg s
  | .portDisable p => Sys2Proof.Machine.execPortDisable p s
  | .cxlIdentifyMemoryDevice => Sys2Proof.Machine.execCxlIdentifyMemoryDevice s
  | .cxlGetSupportedLogs => Sys2Proof.Machine.execCxlGetSupportedLogs s
  | .cxlGetLog uuid offset length => Sys2Proof.Machine.execCxlGetLog uuid offset length s
  | .cxlGetEventRecords log => Sys2Proof.Machine.execCxlGetEventRecords log s
  | .cxlClearEventRecords log handles => Sys2Proof.Machine.execCxlClearEventRecords log handles s
  | .cxlGetHealthInfo => Sys2Proof.Machine.execCxlGetHealthInfo s
  | .cxlGetTimestamp => Sys2Proof.Machine.execCxlGetTimestamp s
  | .cxlSetTimestamp v => Sys2Proof.Machine.execCxlSetTimestamp v s
  | .cxlUnsupportedCommand op => Sys2Proof.Machine.execCxlUnsupportedCommand op s
  | .hdmDecoderCommit d base size ways => Sys2Proof.Machine.execHdmDecoderCommit d base size ways s
  | .cxlMemRead mid hpa => Sys2Proof.Machine.execCxlMemRead mid hpa s
  | .cxlMemWrite mid hpa data mask => Sys2Proof.Machine.execCxlMemWrite mid hpa data mask s
  | .msixUnmask f v => Sys2Proof.Machine.execMsixUnmask f v s
  | .hostLinkUp rate width flit cxlmem => Sys2Proof.Machine.execHostLinkUp rate width flit cxlmem s
  | .l0pWidthChange width => Sys2Proof.Machine.execL0pWidthChange width s
  | .dlDown => Sys2Proof.Machine.execDlDown s
  | .hotReset => Sys2Proof.Machine.execHotReset s
  | .perstAssert => Sys2Proof.Machine.execPerstAssert s
  | .perstDeassert => Sys2Proof.Machine.execPerstDeassert s
  | .flrPf => Sys2Proof.Machine.execFlrPf s
  | .flrVf f => Sys2Proof.Machine.execFlrVf f s
  | .vfEnable n => Sys2Proof.Machine.execVfEnable n s
  | .powerOnReset => Sys2Proof.Machine.execPowerOnReset s
  | .watchdogExpire => Sys2Proof.Machine.execWatchdogExpire s
  | .stewardBoot b => Sys2Proof.Machine.execStewardBoot b s
  | .nvWriteDone => Sys2Proof.Machine.execNvWriteDone s
  | .ctxpoolReady => Sys2Proof.Machine.execCtxpoolReady s
  | .clusterSelftestDone c pass => Sys2Proof.Machine.execClusterSelftestDone c pass s
  | .memTrainDone k pass => Sys2Proof.Machine.execMemTrainDone k pass s
  | .dstateReady => Sys2Proof.Machine.execDstateReady s
  | .lbCalibrationDone b pass => Sys2Proof.Machine.execLbCalibrationDone b pass s
  | .turn e => Sys2Proof.Machine.execTurn e s
  | .steal e rd => Sys2Proof.Machine.execSteal e rd s
  | .targetTurn e rd => Sys2Proof.Machine.execTargetTurn e rd s
  | .descriptorFetchDone q cnt rd => Sys2Proof.Machine.execDescriptorFetchDone q cnt rd s
  | .payloadReadDone q rd => Sys2Proof.Machine.execPayloadReadDone q rd s
  | .nop q d => Sys2Proof.Machine.execNop q d s
  | .put q d => Sys2Proof.Machine.execPut q d s
  | .get q d => Sys2Proof.Machine.execGet q d s
  | .send q d => Sys2Proof.Machine.execSend q d s
  | .recv q d => Sys2Proof.Machine.execRecv q d s
  | .fadd64 q d => Sys2Proof.Machine.execFadd64 q d s
  | .swap64 q d => Sys2Proof.Machine.execSwap64 q d s
  | .cas64 q d => Sys2Proof.Machine.execCas64 q d s
  | .fadd128 q d => Sys2Proof.Machine.execFadd128 q d s
  | .swap128 q d => Sys2Proof.Machine.execSwap128 q d s
  | .cas128 q d => Sys2Proof.Machine.execCas128 q d s
  | .cfadd64 q d => Sys2Proof.Machine.execCfadd64 q d s
  | .collReduce q d => Sys2Proof.Machine.execCollReduce q d s
  | .collVote q d => Sys2Proof.Machine.execCollVote q d s
  | .collBarrier q d => Sys2Proof.Machine.execCollBarrier q d s
  | .lockAcquire q d => Sys2Proof.Machine.execLockAcquire q d s
  | .lockTry q d => Sys2Proof.Machine.execLockTry q d s
  | .lockRelease q d => Sys2Proof.Machine.execLockRelease q d s
  | .shaperRefill => Sys2Proof.Machine.execShaperRefill s
  | .configWq c => Sys2Proof.Machine.execConfigWq c s
  | .enableWq c => Sys2Proof.Machine.execEnableWq c s
  | .disableWq c => Sys2Proof.Machine.execDisableWq c s
  | .drainComplete q => Sys2Proof.Machine.execDrainComplete q s
  | .resetWq c => Sys2Proof.Machine.execResetWq c s
  | .suspendWq c => Sys2Proof.Machine.execSuspendWq c s
  | .resumeWq c => Sys2Proof.Machine.execResumeWq c s
  | .queryWq c => Sys2Proof.Machine.execQueryWq c s
  | .setShaper c => Sys2Proof.Machine.execSetShaper c s
  | .configCq c => Sys2Proof.Machine.execConfigCq c s
  | .configEq c => Sys2Proof.Machine.execConfigEq c s
  | .setVfAllot c => Sys2Proof.Machine.execSetVfAllot c s
  | .registerRegion c => Sys2Proof.Machine.execRegisterRegion c s
  | .revokeRegion c => Sys2Proof.Machine.execRevokeRegion c s
  | .revokeComplete idx => Sys2Proof.Machine.execRevokeComplete idx s
  | .queryRegion c => Sys2Proof.Machine.execQueryRegion c s
  | .mapWindow c rd => Sys2Proof.Machine.execMapWindow c rd s
  | .unmapWindow c => Sys2Proof.Machine.execUnmapWindow c s
  | .unmapWindowComplete first => Sys2Proof.Machine.execUnmapWindowComplete first s
  | .invalidateXlt c => Sys2Proof.Machine.execInvalidateXlt c s
  | .invalidateXltComplete id => Sys2Proof.Machine.execInvalidateXltComplete id s
  | .collSetup c rd => Sys2Proof.Machine.execCollSetup c rd s
  | .collSetupComplete k => Sys2Proof.Machine.execCollSetupComplete k s
  | .collTeardown c => Sys2Proof.Machine.execCollTeardown c s
  | .collTeardownComplete k => Sys2Proof.Machine.execCollTeardownComplete k s
  | .pisteSetup c => Sys2Proof.Machine.execPisteSetup c s
  | .pisteTeardown c => Sys2Proof.Machine.execPisteTeardown c s
  | .lockConfig c => Sys2Proof.Machine.execLockConfig c s
  | .lockForceRelease c => Sys2Proof.Machine.execLockForceRelease c s
  | .twinConfig c => Sys2Proof.Machine.execTwinConfig c s
  | .pairingComplete => Sys2Proof.Machine.execPairingComplete s
  | .twinConfigTimeout => Sys2Proof.Machine.execTwinConfigTimeout s
  | .getLog c => Sys2Proof.Machine.execGetLog c s
  | .fwUpdate c rd => Sys2Proof.Machine.execFwUpdate c rd s
  | .fwUpdateComplete sigOk writeOk version => Sys2Proof.Machine.execFwUpdateComplete sigOk writeOk version s
  | .retransmit tag => Sys2Proof.Machine.execRetransmit tag s
  | .unknownOutcome tag => Sys2Proof.Machine.execUnknownOutcome tag s
  | .tagRelease tag => Sys2Proof.Machine.execTagRelease tag s
  | .dupEntryExpire id => Sys2Proof.Machine.execDupEntryExpire id s
  | .ccBasePeriod => Sys2Proof.Machine.execCcBasePeriod s
  | .sendDeadline q cnt => Sys2Proof.Machine.execSendDeadline q cnt s
  | .reassemblyTimeout id => Sys2Proof.Machine.execReassemblyTimeout id s
  | .putPacket r => Sys2Proof.Machine.execPutPacket r s
  | .getPacket r => Sys2Proof.Machine.execGetPacket r s
  | .atomicPacket r => Sys2Proof.Machine.execAtomicPacket r s
  | .sendPacket r => Sys2Proof.Machine.execSendPacket r s
  | .wrdPacket r => Sys2Proof.Machine.execWrdPacket r s
  | .wwrPacket r => Sys2Proof.Machine.execWwrPacket r s
  | .linvPacket r => Sys2Proof.Machine.execLinvPacket r s
  | .lockopAcquire r => Sys2Proof.Machine.execLockopAcquire r s
  | .lockopTry r => Sys2Proof.Machine.execLockopTry r s
  | .lockopRelease r => Sys2Proof.Machine.execLockopRelease r s
  | .lockopCancel r => Sys2Proof.Machine.execLockopCancel r s
  | .lockopProbe r => Sys2Proof.Machine.execLockopProbe r s
  | .lgrantPacket r => Sys2Proof.Machine.execLgrantPacket r s
  | .collContribution r => Sys2Proof.Machine.execCollContribution r s
  | .collResult r => Sys2Proof.Machine.execCollResult r s
  | .collProbe r => Sys2Proof.Machine.execCollProbe r s
  | .collMergedRequest r => Sys2Proof.Machine.execCollMergedRequest r s
  | .pmarkPacket r => Sys2Proof.Machine.execPmarkPacket r s
  | .respPacket p pkt => Sys2Proof.Machine.execRespPacket p pkt s
  | .linvAck tag => Sys2Proof.Machine.execLinvAck tag s
  | .grantAnswer tag status => Sys2Proof.Machine.execGrantAnswer tag status s
  | .grantTimeout tag => Sys2Proof.Machine.execGrantTimeout tag s
  | .lockProbeTimer rec => Sys2Proof.Machine.execLockProbeTimer rec s
  | .waitingRecordExpire rec => Sys2Proof.Machine.execWaitingRecordExpire rec s
  | .collProbeTimer k peer => Sys2Proof.Machine.execCollProbeTimer k peer s
  | .counterBatchSend k => Sys2Proof.Machine.execCounterBatchSend k s
  | .constituentExpire k => Sys2Proof.Machine.execConstituentExpire k s
  | .leaseExpire al region block => Sys2Proof.Machine.execLeaseExpire al region block s
  | .leaseStartWaitEnd al => Sys2Proof.Machine.execLeaseStartWaitEnd al s
  | .windowBudgetExpire id => Sys2Proof.Machine.execWindowBudgetExpire id s
  | .windowSettleExpire block => Sys2Proof.Machine.execWindowSettleExpire block s
  | .transitPacket p pkt => Sys2Proof.Machine.execTransitPacket p pkt s
  | .escwaitExpire p vc => Sys2Proof.Machine.execEscwaitExpire p vc s
  | .lnotice p pkt => Sys2Proof.Machine.execLnotice p pkt s
  | .lnoticeRefresh => Sys2Proof.Machine.execLnoticeRefresh s
  | .psetup p pkt => Sys2Proof.Machine.execPsetup p pkt s
  | .pconfirm p pkt => Sys2Proof.Machine.execPconfirm p pkt s
  | .preject p pkt => Sys2Proof.Machine.execPreject p pkt s
  | .pbreak p pkt => Sys2Proof.Machine.execPbreak p pkt s
  | .pisteSetupTimeout n => Sys2Proof.Machine.execPisteSetupTimeout n s
  | .pisteTeardownTimeout n => Sys2Proof.Machine.execPisteTeardownTimeout n s
  | .lprobe p pkt => Sys2Proof.Machine.execLprobe p pkt s
  | .lanswer p pkt => Sys2Proof.Machine.execLanswer p pkt s
  | .oreset p pkt => Sys2Proof.Machine.execOreset p pkt s
  | .oresetRepeat => Sys2Proof.Machine.execOresetRepeat s
  | .livenessTimeout dg => Sys2Proof.Machine.execLivenessTimeout dg s
  | .aliasPkt p pkt => Sys2Proof.Machine.execAliasPkt p pkt s
  | .aliasRepeat => Sys2Proof.Machine.execAliasRepeat s
  | .aliasedTimeout => Sys2Proof.Machine.execAliasedTimeout s
  | .trainingFrame lane ctl ident => Sys2Proof.Machine.execTrainingFrame lane ctl ident s
  | .signalDetect p => Sys2Proof.Machine.execSignalDetect p s
  | .eqComplete p => Sys2Proof.Machine.execEqComplete p s
  | .deskewLock p => Sys2Proof.Machine.execDeskewLock p s
  | .initFlit p fl => Sys2Proof.Machine.execInitFlit p fl s
  | .eqTimeout p => Sys2Proof.Machine.execEqTimeout p s
  | .trainTimeout p => Sys2Proof.Machine.execTrainTimeout p s
  | .holdoffExpire p => Sys2Proof.Machine.execHoldoffExpire p s
  | .retrainFlit p fl => Sys2Proof.Machine.execRetrainFlit p fl s
  | .retrainRepeat p => Sys2Proof.Machine.execRetrainRepeat p s
  | .retrainComplete p idents => Sys2Proof.Machine.execRetrainComplete p idents s
  | .retrainTimeout p => Sys2Proof.Machine.execRetrainTimeout p s
  | .dataFlit p fl lane corr => Sys2Proof.Machine.execDataFlit p fl lane corr s
  | .idleFlit p fl => Sys2Proof.Machine.execIdleFlit p fl s
  | .nakFlit p fl => Sys2Proof.Machine.execNakFlit p fl s
  | .badFlit p b => Sys2Proof.Machine.execBadFlit p b s
  | .replayTimeout p => Sys2Proof.Machine.execReplayTimeout p s
  | .nakHoldExpire p => Sys2Proof.Machine.execNakHoldExpire p s
  | .errorWindow => Sys2Proof.Machine.execErrorWindow s
  | .laneSignalLoss lane => Sys2Proof.Machine.execLaneSignalLoss lane s
  | .tsxSend p => Sys2Proof.Machine.execTsxSend p s
  | .tsxFlit p fl rxFrac => Sys2Proof.Machine.execTsxFlit p fl rxFrac s
  | .neighbourTimeStale p => Sys2Proof.Machine.execNeighbourTimeStale p s
  | .refLost => Sys2Proof.Machine.execRefLost s
  | .ppsEdge => Sys2Proof.Machine.execPpsEdge s
  | .ppsInputLost => Sys2Proof.Machine.execPpsInputLost s
  | .ppsOutPulse => Sys2Proof.Machine.execPpsOutPulse s
  | .timeAlarm n => Sys2Proof.Machine.execTimeAlarm n s
  | .signalDetectWake lane => Sys2Proof.Machine.execSignalDetectWake lane s
  | .standbyPowerDown => Sys2Proof.Machine.execStandbyPowerDown s
  | .railenSequence => Sys2Proof.Machine.execRailenSequence s
  | .paceWindow readings => Sys2Proof.Machine.execPaceWindow readings s
  | .avsTransactionDone ok mv => Sys2Proof.Machine.execAvsTransactionDone ok mv s
  | .junctionHot tj => Sys2Proof.Machine.execJunctionHot tj s
  | .hostUncorr status => Sys2Proof.Machine.execHostUncorr status s
  | .mirClockDetect => Sys2Proof.Machine.execMirClockDetect s
  | .mirLanesLocked => Sys2Proof.Machine.execMirLanesLocked s
  | .mirCommaAligned => Sys2Proof.Machine.execMirCommaAligned s
  | .mirBackchannelBlock b1 b2 b3 => Sys2Proof.Machine.execMirBackchannelBlock b1 b2 b3 s
  | .mirTuneDone => Sys2Proof.Machine.execMirTuneDone s
  | .mirTrainTimeout => Sys2Proof.Machine.execMirTrainTimeout s
  | .mirDownExpire => Sys2Proof.Machine.execMirDownExpire s
  | .record fr => Sys2Proof.Machine.execRecord fr s
  | .mirNak fr => Sys2Proof.Machine.execMirNak fr s
  | .mirIdle fr => Sys2Proof.Machine.execMirIdle fr s
  | .mirReplayTimeout => Sys2Proof.Machine.execMirReplayTimeout s
  | .heartbeat fr => Sys2Proof.Machine.execHeartbeat fr s
  | .heartbeatSend => Sys2Proof.Machine.execHeartbeatSend s
  | .mirReadyTimeout => Sys2Proof.Machine.execMirReadyTimeout s
  | .unpairFrame fr => Sys2Proof.Machine.execUnpairFrame fr s
  | .handoverFrame fr => Sys2Proof.Machine.execHandoverFrame fr s
  | .twinFailDeclare => Sys2Proof.Machine.execTwinFailDeclare s
  | .takeoverComplete => Sys2Proof.Machine.execTakeoverComplete s
  | .twinIsolate => Sys2Proof.Machine.execTwinIsolate s
  | .fenceWindowExpire => Sys2Proof.Machine.execFenceWindowExpire s
  | .handoverRepeat => Sys2Proof.Machine.execHandoverRepeat s
  | .faultMessage => Sys2Proof.Machine.execFaultMessage s
  | .faultWindowEnd slot => Sys2Proof.Machine.execFaultWindowEnd slot s
  | .faultLogWrite => Sys2Proof.Machine.execFaultLogWrite s
  | .ringFlitUe srcs dsts words acc => Sys2Proof.Machine.execRingFlitUe srcs dsts words acc s
  | .critStateUe c => Sys2Proof.Machine.execCritStateUe c s
  | .bwWindowEnd => Sys2Proof.Machine.execBwWindowEnd s
  | .walkReadDone w rd => Sys2Proof.Machine.execWalkReadDone w rd s
  | .adCasDone w rd => Sys2Proof.Machine.execAdCasDone w rd s
  | .xltEntryAged k => Sys2Proof.Machine.execXltEntryAged k s
  | .hostResetComplete => Sys2Proof.Machine.execHostResetComplete s
  | .referencePresent => Sys2Proof.Machine.execReferencePresent s
  | .configurationWrite c => Sys2Proof.Machine.execConfigurationWrite c s
  | .junctionCool tj => Sys2Proof.Machine.execJunctionCool tj s
  | .cdatDoeRequest handle => Sys2Proof.Machine.execCdatDoeRequest handle s

end Sys2Proof.Machine
end

