-- ==== Sys2Proof/Machine/Idle.lean ====
section
/-! DEFINITION. What one tick does while no command waits: fabric time and the counters of time advance, and what had only to wait for
the tick goes on. -/

namespace Sys2Proof.Machine

/-- The fixed counters of the groups that count (R614, R618). -/
def State.fixedTick (s : State) : State :=
  if s.regs.any (fun kv => decide (0x21000 ≤ kv.1) && decide (kv.1 < 0x26000)) then
    (List.range 18).foldl (fun t g =>
      if t.flag .PMU_GCTL_EN g && !t.flag .PMU_GSTAT_FROZEN g then
        let v := t.rdRaw .PMU_FIXLO g + 2 ^ 32 * t.rdRaw .PMU_FIXHI g + 1
        (t.wrRaw .PMU_FIXLO g (v % 2 ^ 32)).wrRaw .PMU_FIXHI g (v / 2 ^ 32 % 2 ^ 32)
      else t) s
  else s

/-- A DATA flit of a port waits for credit and none can leave (R621). -/
def PortSt.stalled (ps : PortSt) : Bool :=
  ps.isUp && ps.txq.any (fun kv => kv.2.any (fun t => t.rest != [])) &&
  (ps.setQueue 6 (ps.pisteFirst (fun _ => true))).pick true == none

/-- The ticks that ports spend stalled. -/
def State.stallTick (s : State) : State :=
  { s with lnk := { s.lnk with ports := s.lnk.ports.map (fun (kv : Nat × PortSt) =>
      (kv.1, if kv.2.stalled then { kv.2 with crStall := kv.2.crStall + 1 } else kv.2)) } }

/-- Commands wait in an admin ring that the engine serves. -/
def State.adminDue (s : State) : Bool := s.qmg.aq.any (fun kv => s.adminServes kv.1 && kv.2.sqHead != s.rdAq kv.1 .QMG_AQTAIL)

/-- One tick passes (R550): fabric time advances; in power-up or Standby nothing else does. -/
def State.idleTick (s : State) : State :=
  let s1 := s.passTick
  if s1.rst.power ≠ .run then s1
  else
    let s2 := s1.gmPeriod.fixedTick.stallTick.followAll
    let s3 := if s2.tick = s2.ini.quietUntil then s2.wakeTags.settle else s2
    let s4 := if s3.rte.pistes.any (fun (kv : Nat × Piste) => kv.2.held != []) then s3.settle else s3
    let s5 := if s4.adminDue then s4.adminRunAll.settle else s4
    s5.idleFill.backTick

end Sys2Proof.Machine
end

