-- ==== Sys2Proof/Safety.lean ====
section
/-! DEFINITION. What the statements speak of: a consistent state, the completion of a command, and what a command leaves
unchanged. -/

namespace Sys2Proof.Machine

/-- A consistent state: every register has one value (the table of register values is in its canonical form), and host
memory is in its canonical form. -/
def State.Inv (s : State) : Prop := mwf s.regs ∧ Memory.wf s.hostMem = true

/-- A command completes: it answers a next state, of which `P` holds. -/
def Completes (c : Instr) (s : State) (P : State → Prop) : Prop := ∃ t, exec c s = .next t ∧ P t

/-- A command completes with its own effect, the state `u` of which `P` holds, after which `f` follows: the packets inside the
device move on (`State.settle`), and what hangs on them. -/
def CompletesVia (f : State → State) (c : Instr) (s : State) (P : State → Prop) : Prop := ∃ u, exec c s = .next (f u) ∧ P u

/-- Every register but those at the keys `ks` (BAR0 offsets; a VF's admin registers at 2^22 × function + offset) holds in
`t` what it holds in `s`. -/
def KeepsRegs (s t : State) (ks : List Nat) : Prop := ∀ k, k ∉ ks → mget t.regs k = mget s.regs k

/-- Every byte of host memory holds in `t` what it holds in `s`. -/
def KeepsMem (s t : State) : Prop := ∀ a, t.byte a = s.byte a

/-- Every byte of host memory outside the `n` bytes at `a` (addresses modulo 2^64) holds in `t` what it holds in `s`. -/
def KeepsMemBut (s t : State) (a n : Nat) : Prop := ∀ x, (∀ i, i < n → x ≠ (a + i) % 2 ^ 64) → t.byte x = s.byte x

/-- A write of the PF to a register reaches the register: GEN_READY.HIF is 1 (R103) and its block is not held in reset
(R139). -/
def State.reaches (s : State) (r : RegName) (i : Nat) : Prop := s.hif = true ∧ s.regHeld (r.addr i) = false

/-- A write of a 4-byte word of BAR0 by the PF. -/
def word0 (off v : Nat) : RegAcc := { func := 0, off := off, size := 4, value := v, be := 15 }

/-- A write of an 8-byte word of BAR2 by the PF. -/
def word2 (off v : Nat) : Bar2Write := { func := 0, off := off, len := 8, value := v, be := 255 }

/-- A read of a 4-byte word of BAR0 by the PF. -/
def read0 (off : Nat) : HostRead := { space := .bar0, func := 0, off := off, size := 4, be := 15 }

/-- The accepted writes of a window that have neither been answered nor passed their budget (R314). -/
def State.windowWrites (s : State) (w : Nat) : List Nat :=
  s.win.blk.flatMap (fun kv => (kv.2.items.filter (fun i => i.write && !i.expired && w == i.d)).map WItem.id)

/-- A register after a write of `v` through an alias by the PF, where no rule refuses the write. -/
def State.after (s : State) (al : Nat) (r : RegName) (i v : Nat) : Nat := regAfter al r i (s.ltStuck 0 r i) (s.rdRaw r i) v

/-- A write of the PF is refused whole: the register's block is held in reset (R139), a locked field would change (R136), or a
field would take a reserved encoding (R138). -/
def State.refusesWrite (s : State) (al : Nat) (r : RegName) (i v : Nat) : Prop :=
  s.regHeld (r.addr i) = true ∨ (s.rdRaw r i ^^^ s.after al r i v) &&& s.lockedBits 0 r i ≠ 0 ∨ s.badValue r i (s.after al r i v) = true

/-- The registers of the access log and its counts (R143). -/
def logKeys : List Nat :=
  [RegName.HIF_ACCCNT.addr 0, RegName.HIF_ACCLOG0.addr 0, RegName.HIF_ACCLOG1.addr 0, RegName.HIF_ACCLOG2.addr 0]

/-- A function that may access the device: the PF, or an enabled VF. -/
def State.funcOn (s : State) (f : Nat) : Prop := f = 0 ∨ f ≤ s.host.vfs

/-- The rows of a block reset: the block's code and the command, of which the argument says whether it is forced. -/
def blockRows : List (Nat × (Bool → Instr)) :=
  (List.range 18).map (fun c => (c, fun f => .blockResetCluster c f)) ++
  [(0x20, .blockResetQueueManager), (0x21, .blockResetTranslationUnit), (0x22, .blockResetLockUnit), (0x23, .blockResetCollectiveUnit),
   (0x24, .blockResetMirrorUnit), (0x25, .blockResetNearCache), (0x26, .blockResetSteward)] ++
  (List.range 8).map (fun k => (0x30 + k, fun f => .blockResetGddr7Controller k f)) ++
  (List.range 9).map (fun b => (0x40 + b, fun f => .blockResetLaneBlock b f))

/-- The ports of a lane block that train, are UP or are DOWN (not OFF, not HELD). -/
def State.trainedPorts (s : State) (b : Nat) : List Nat :=
  (numsFrom (8 * b) 8).filter (fun p => (s.port p).st != 0 && (s.port p).st != 9)

/-- What a host reset leaves clear (R93, R577, R661): the device-state tables, the queues, the tag table, the ready bits of what it
resets, the epoch that is due, and the registers of its domain but the three that keep a present state. -/
def State.hostCleared (t : State) : Prop :=
  t.qmg = {} ∧ t.tgt.regions = [] ∧ t.ini.tags = [] ∧ t.win.map = [] ∧ t.xlt.cache = [] ∧ t.col = [] ∧ t.lck = {} ∧
  t.hif = false ∧ t.dstate = false ∧ t.ctxpool = false ∧ t.ncc = false ∧ t.host.vfs = 0 ∧ t.rst.hostReset = true ∧ t.rst.epoch = .due ∧
  ∀ k, hostReg k = true → k ≠ RegName.HIF_LINKSTAT.addr 0 → k ≠ RegName.HIF_STATUS.addr 0 →
    (∀ i, i < 8 → k ≠ RegName.HIF_MEMSTAT.addr i) → mget t.regs k = none

/-- What a full reset of `s` other than power-on leaves in `t` (R577, R584, R661, R662). -/
def State.fullResetOf (s t : State) : Prop :=
  (∀ k, k ≠ RegName.RST_CAUSE.addr 0 → mget t.regs k = if alwaysOn k then mget s.regs k else none) ∧
  t.qmg = {} ∧ t.tgt = {} ∧ t.win.map = [] ∧ t.host = {} ∧ t.lck = {} ∧ t.mir = {} ∧ t.ini.tags = [] ∧
  t.now = s.now ∧ t.tick = s.tick ∧ t.rst.nv = s.rst.nv ∧
  t.flt.log = s.flt.log ∧ t.sec.minVer = s.sec.minVer ∧ t.sec.revoked = s.sec.revoked ∧ t.pending = s.pending ∧ KeepsMem s t

/-- What follows the alias instant of a takeover of the coordinate `c` (R540): the announcement, the owner's locks, the grants
sent again, and the twin's queues. -/
def State.takeoverRest (s : State) (c : Nat) (v : State) : State :=
  let h := s.mir.shadow
  let v1 := v.sendAlias (digit c 0) true
  let v2 := (v1.raise (v1.peerSrc c) 0x5001 c).ownerDead c none 2
  let v3 := (h.locks.filter (fun kv => kv.2.st == .granting)).foldl (fun t kv => t.resendGrant (kv.1 + 2 ^ 24) kv.2) v2
  if s.hostMode == 0 then v3.installQueues h else v3

/-- The state at the alias instant of a takeover of the coordinate `c` (R540, R543). -/
def State.takenOver (s : State) (c : Nat) (v : State) : Prop :=
  v.mir.twin = .taking ∧ v.flag .MIR_FLT_TAKEOVER = true ∧ v.alias_ = c ∧ v.flag .RTE_ALIAS_VALID (digit c 0) = true ∧
  v.mir.declAt = s.tick ∧ v.mir.aliasAt = s.now ∧ v.tgt.supStartAlias = s.tick ∧ v.rte.annSet = some true ∧ KeepsMem s v

/-- Every register outside the counter groups, and outside the keys `ks`, holds in `t` what it holds in `s` (the counters count what
they are set to count, R614). -/
def KeepsCounted (s t : State) (ks : List Nat) : Prop :=
  ∀ k, k ∉ ks → (k < 0x21000 ∨ 0x26000 ≤ k) → mget t.regs k = mget s.regs k

/-- The record that a descriptor leaves as it is issued: its count, its packets, its status so far, its engine, its key rights. -/
def State.newDesc (s : State) (q : Nat) (d : Raw) (n st eng kr : Nat) : Desc :=
  { cnt := (s.wq q).head, op := d.opcode, raw := d, kr := kr, left := n, status := st, start := s.tick, engine := eng }

/-- The entry at the published head has been issued with the record `x` (R158): the head has gone past it, and no host memory has
changed. -/
def State.issued (s : State) (q : Nat) (x : Desc) (v : State) : Prop :=
  (v.wq q).head = add32 (s.wq q).head 1 ∧ (v.wq q).outst = (s.wq q).outst ++ [x] ∧ KeepsMem s v

/-- Nothing keeps an engine from a turn on the queue: its shaper has credit (R187), no completion waits for its completion queue (R165),
what it needs of GDDR7 is ready (R65), and its function sends no owner-reset notice (R432). -/
def State.mayTurn (s : State) (q : Nat) : Prop :=
  ((s.wq q).rate ≠ 0 → 0 < (s.wq q).credit) ∧ s.cqBlocked (s.wq q).cq = false ∧
  s.runsNow q = true ∧
  s.lck.notices.any (fun n => !n.all && n.func == s.wqOwner q) = false

/-- A row of one descriptor starts a turn of engine `e` on the queue: the descriptor `d` of opcode `op` stands at the published head, an
engine may serve it (the home engine, or where its cluster is not ready an idle one, R67), and nothing keeps it from a turn. -/
def State.mayStart (s : State) (e q : Nat) (d : Raw) (op : Nat) : Prop :=
  s.issuable q d = true ∧ d.opcode = op ∧ (s.serverOf (q % 288)).map Prod.fst = some e ∧ s.mayTurn q

/-- Nothing acts on an unmirrored queue at a descriptor boundary before its next entry is processed (R41, R171, R666). -/
def State.mayBoundary (s : State) (q : Nat) : Prop :=
  s.mirWq q = false ∧ (s.wq q).waitCmds = [] ∧ (s.wq q).suspendDue = false ∧ (s.wq q).badBell = false ∧
  (s.wq q).failed.contains (s.wq q).head = false

/-- The descriptor `d` of opcode `op` at a queue's published head, which is well-formed, is processed now by engine `e`. -/
def State.mayProcess (s : State) (e q : Nat) (d : Raw) (op : Nat) : Prop :=
  s.mayStart e q d op ∧ s.mayBoundary q ∧ (∀ x ∈ (s.wq q).outst, x.cnt ≠ (s.wq q).head) ∧ d.malformed (s.noPiste q d) = 0

/-- It may be issued now: nothing holds its issue back, and its destination and its collective context are ones it may use. -/
def State.mayIssue (s : State) (e q : Nat) (d : Raw) (op : Nat) : Prop :=
  s.mayProcess e q d op ∧ s.issueWait q d = none ∧ s.badDest d = false ∧ s.badContext q d = false

/-- The state in which engine `e` has taken a queue with its head entry `d`, to issue one entry; the server is chosen and counted. -/
def State.headTurn (s : State) (e q : Nat) (d : Raw) : State :=
  let s0 := ((s.serverOf (q % 288)).map Prod.snd).getD s
  let s1 := (if e = q % 288 then s0 else s0.pmuQ 0x06 1 q (some e)).leaveRun q
  let s2 := if ((s1.wq q).copy (s1.wq q).head).isSome then s1
    else s1.modWq q (fun w => { w with fetched := w.fetched ++ [(w.head, d, s.now)] })
  (s2.modWq q (fun w => { w with turn := some { engine := e, left := 1 } })).pmuQ 0x05 1 q (some e)

/-- The rest of a turn after an entry of it was issued. -/
def State.turnRest (s : State) (q : Nat) (v : State) : State := turnAux q (s.wq q).quantum v

/-- An engine may take a turn on the queue: it is ACTIVE with work, and nothing keeps the engine from it. -/
def State.mayServe (s : State) (q : Nat) : Prop := (s.wq q).st = .active ∧ (s.wq q).hasWork = true ∧ s.mayTurn q

/-- A request packet of this device that an engine takes for execution by a command: it is legal and received (R46). -/
def State.receives (s : State) (r : Req) : Prop := r.pkt.legal = true ∧ s.isLocal r.pkt.dest = true ∧ r.rx ≤ s.tick

/-- A request packet is executed at once: nothing waits before it in its target context, the response buffer has
room (R462), its unit is in no block reset, the target service is ready (R46, R227), and engine `e` serves it (the home engine, or where its cluster is not ready an idle one, with
the steal counted, R67). `s` is the state in which it is served. -/
def State.takes (s0 : State) (r : Req) (e : Nat) (s : State) : Prop :=
  s0.receives r ∧ s0.noExec = false ∧ s0.tctxBusy (tctxOf r.pkt) = false ∧ mgetD s0.tgt.tctx (tctxOf r.pkt) [] = [] ∧
  (r.loc = true ∨ s0.respFull = false) ∧ s0.unitReset r.pkt.ptype = false ∧ s0.tooOld r = false ∧ s0.targetReady = true ∧
  s0.turnServer (tctxOf r.pkt % 288) = some (e, s)

/-- The rows of request packets, each with whether the packet is of the row's type. -/
def requestRows (r : Req) : List (Bool × Instr) :=
  [(r.pkt.ptype == 0x01, .putPacket r), (r.pkt.ptype == 0x02, .getPacket r), (r.pkt.ptype == 0x03, .atomicPacket r),
   (r.pkt.ptype == 0x04, .sendPacket r), (r.pkt.ptype == 0x05, .wrdPacket r), (r.pkt.ptype == 0x06, .wwrPacket r),
   (r.pkt.ptype == 0x07, .linvPacket r), (isLockop r 0, .lockopAcquire r), (isLockop r 1, .lockopTry r), (isLockop r 2, .lockopRelease r),
   (isLockop r 3, .lockopCancel r), (isLockop r 4, .lockopProbe r), (r.pkt.ptype == 0x09, .lgrantPacket r),
   (isColl r 0, .collContribution r), (isColl r 1, .collResult r), (isColl r 2, .collProbe r), (isColl r 3, .collMergedRequest r)]

/-- A non-idempotent request is a first copy: it was sent after the suppression start and no entry holds its answer, and an
entry is free (R229, R232). -/
def State.firstCopy (s : State) (r : Req) : Prop :=
  s.beforeStart r = false ∧ s.dupGet r.pkt.rid = none ∧ s.dupFull = false

/-- A message packet is the first of its message, at a queue that takes messages (R264, R273). -/
def State.firstMessage (s : State) (r : Req) : Prop :=
  s.beforeStart r = false ∧ s.dupGet r.pkt.mid = none ∧ s.dupFull = false ∧ s.msgCtx r.pkt.mid = none ∧ s.tick < r.expire ∧
  ((s.wq (rqOf r.pkt.mtag)).st = .active ∨ (s.wq (rqOf r.pkt.mtag)).st = .suspended)

/-- The region key of a request is accepted, and its region permits the access (steps 5 to 8 of R227); nothing holds it. -/
def State.grantsKey (s : State) (r : Req) : Prop :=
  (s.checkKey r r.pkt.key).2 = 0 ∧ (s.region (s.rkey r r.pkt.key)).permits r.pkt = true ∧
  r.pkt.offset + r.pkt.opLen ≤ (s.region (s.rkey r r.pkt.key)).size ∧ (s.access r).n ≠ 0 ∧
  s.blockHeld (leaseKey (s.rkey r r.pkt.key) ((s.access r).off / 4096)) = false

/-- The translation at the home of a request to a region: the state after it, and what it came to. -/
def State.homeXlate (s : State) (r : Req) : State × XRes :=
  let a := s.access r
  let g := s.region (s.rkey r r.pkt.key)
  (s.inflight (s.rkey r r.pkt.key) true).xlate (.target r) g.func g.asid (g.base + a.off) a.n a.write true 0 []

/-- The admin engine takes the command `c`, which is for the PF only if `pf`, and its common checks pass (R177, R181, R182):
what it needs is ready, and its reserved bytes, all but `used`, are 0. -/
def State.adminOk (s : State) (c : AdminCmd) (pf ready : Bool) (used : List (Nat × Nat)) : Prop :=
  s.flt.safe = false ∧ (s.aq c.func).blocked = false ∧ (pf = true → c.func = 0) ∧ ready = true ∧ c.raw.onlyBytes used = true

/-- The admin engine runs the queue command `op` on the work queue `q` at once: the queue's function names it, and no engine holds
its context lock. -/
def State.wqTakes (s : State) (op : Nat) (c : AdminCmd) (q : Nat) : Prop :=
  s.adminOk c false s.poolReady (wqUsed op) ∧ s.wqOf c.func c.raw.object = some q ∧ s.wqStore q = true ∧
  s.qmg.bcmds.any (fun b => b.op == 3 && b.obj == q) = false ∧ (op = 7 ∨ (s.wq q).turn = none)

/-- The background command that an admin command of opcode `op` on an object starts. -/
def State.bcmdOf (s : State) (c : AdminCmd) (op obj : Nat) : BCmd :=
  { func := c.func, cid := c.raw.cid, op := op, obj := obj, start := s.tick }

end Sys2Proof.Machine
end

