-- ==== Sys2Proof/Certificates/Slice0/Obligations.lean ====
section
/-! DEFINITION. The statements for the provers. -/

open Sys2Proof Sys2Proof.Machine

/-- The rows of the Global Window and the near-cache complete (R289, R333, 07_global_window.md). -/
def Obligations.WindowAndNearCacheRows : Prop :=
  ∀ s : State, s.Inv →
    (∀ d g, s.reaches .GWN_WCFG d → s.flag .GWN_WCFG_EN d = false → 21 ≤ g → g ≤ 48 → s.windowOk d g = true →
      Completes (.windowEnable d g) s (fun t => t.flag .GWN_WCFG_EN d = true ∧ t.fld .GWN_WCFG_GLOG2 d = g ∧
        KeepsRegs s t [RegName.GWN_WCFG.addr d] ∧ KeepsMem s t)) ∧
    (s.reaches .NCC_CFG 0 → s.flag .NCC_CFG_EN = false →
      Completes .nccEnable s (fun t => t.flag .NCC_CFG_EN = true ∧ t.win.frames = [] ∧ t.ncc = false ∧
        KeepsRegs s t [RegName.NCC_CFG.addr 0, RegName.GEN_READY.addr 0] ∧ KeepsMem s t)) ∧
    (s.reaches .NCC_CFG 0 → s.flag .NCC_CFG_EN = true →
      Completes .nccDisable s (fun t => t.flag .NCC_CFG_EN = false ∧ t.win.frames = [] ∧ t.ncc = false ∧
        KeepsRegs s t [RegName.NCC_CFG.addr 0, RegName.GEN_READY.addr 0] ∧ KeepsMem s t)) ∧
    (s.flag .NCC_CFG_EN = true → s.dstate = true → s.timeLocked = true → s.blockBusy 0x25 = false →
      Completes .nccInitDone s (fun t => t.ncc = true ∧ KeepsRegs s t [RegName.GEN_READY.addr 0] ∧ KeepsMem s t))

/-- WINDOW_ENABLE that fails the check of R289 is dropped and logged (R138, R289). -/
def Obligations.WindowEnableDroppedUnlessItsCheckPasses : Prop :=
  ∀ (s : State) (d g : Nat), s.reaches .GWN_WCFG d → s.flag .GWN_WCFG_EN d = false → (g < 21 ∨ 48 < g ∨ s.windowOk d g = false) →
    exec (.windowEnable d g) s = .next (s.accLog 4 true 0 0 (RegName.GWN_WCFG.addr d))

/-- The register rows of translation, the watchdog and the voltage loop complete (R336, R373, R575, R579). -/
def Obligations.TranslationWatchdogAndVoltageRows : Prop :=
  ∀ s : State, s.Inv →
    (s.reaches .XLT_CTL 0 → s.flag .XLT_CTL_EN = true →
      Completes .xltDisable s (fun t => t.flag .XLT_CTL_EN = false ∧ t.xlt.cache = [] ∧ t.xlt.wcache = [] ∧
        KeepsRegs s t [RegName.XLT_CTL.addr 0] ∧ KeepsMem s t)) ∧
    (∀ n i v, s.reaches (exclReg i) n →
      Completes (.xltExclWrite n i v) s (fun t => t.xlt.cache = [] ∧ t.xlt.wcache = [] ∧
        t.rdRaw (exclReg i) n = (s.putRw (exclReg i) n v).rdRaw (exclReg i) n ∧
        KeepsRegs s t [(exclReg i).addr n] ∧ KeepsMem s t)) ∧
    (∀ v, s.reaches .RST_WDKICK 0 →
      exec (.watchdogKick v) s = .next (if v = 0x5A5A then { s with rst := { s.rst with wdKick := s.tick } } else s)) ∧
    (s.reaches .PWR_CTL 0 → s.flag .PWR_CTL_AVSEN = false →
      Completes .avsEnable s (fun t => t.flag .PWR_CTL_AVSEN = true ∧ t.rst.avsFails = 0 ∧ t.rst.avsStopped = false ∧
        t.out = s.out ++ [.avsRead 0, .avsStatus 0] ∧ KeepsRegs s t [RegName.PWR_CTL.addr 0] ∧ KeepsMem s t))

/-- PMU_START, PMU_STOP, PMU_LOAD and PMU_TAG_SEED complete (R614, R618, R620). -/
def Obligations.CounterGroupRows : Prop :=
  ∀ s : State, s.Inv →
    (s.reaches .PMU_CTL 0 →
      Completes .pmuStart s (fun t => (∀ g, g < 18 → t.flag .PMU_GCTL_EN g = (s.flag .PMU_GCTL_SYNC g || s.flag .PMU_GCTL_EN g)) ∧
        KeepsMem s t)) ∧
    (s.reaches .PMU_CTL 0 →
      Completes .pmuStop s (fun t => (∀ g, g < 18 → t.flag .PMU_GCTL_EN g = (!s.flag .PMU_GCTL_SYNC g && s.flag .PMU_GCTL_EN g)) ∧
        KeepsMem s t)) ∧
    (∀ g, g < 18 → s.reaches .PMU_GCTL g →
      Completes (.pmuLoad g) s (fun t => t.rdRaw .PMU_FIXLO g = 0 ∧ t.rdRaw .PMU_FIXHI g = 0 ∧ t.flag .PMU_GSTAT_FROZEN g = false ∧
        KeepsMem s t)) ∧
    (∀ v, s.reaches .PMU_TAGSEED 0 → v ≠ 0 → v < 2 ^ 32 →
      Completes (.pmuTagSeed v) s (fun t => t.pmu.lfsr = v ∧ t.rdRaw .PMU_TAGSEED = v ∧
        KeepsRegs s t [RegName.PMU_TAGSEED.addr 0] ∧ KeepsMem s t))

/-- Each training command takes a port in its state to the next state of R482 (R482, R484, R487, R489, 12_fabric_links.md). -/
def Obligations.PortTrainingStatesFollowTheTable : Prop :=
  ∀ (s : State) (p : Nat),
    ((s.port p).st = 1 → Completes (.signalDetect p) s (fun t => (t.port p).st = 2 ∧ (t.port p).since = s.tick ∧ KeepsMem s t)) ∧
    ((s.port p).st = 2 → Completes (.eqComplete p) s (fun t => (t.port p).st = 3 ∧ (t.port p).since = s.tick ∧ t.regs = s.regs ∧ KeepsMem s t)) ∧
    ((s.port p).st = 4 → Completes (.deskewLock p) s (fun t => (t.port p).st = 5 ∧ (t.port p).replay = [] ∧ (t.port p).nextSeq = 0 ∧
      (∃ a b f, t.out = s.out ++ [.flit p a b f] ∧ f.kind = 4) ∧ KeepsMem s t)) ∧
    (∀ f, (s.port p).st = 5 → f.kind = 4 → f.intact = true →
      CompletesVia (fun u => ((u.portNotice p true).portCame p).settle) (.initFlit p f) s (fun u => (u.port p).st = 6 ∧
        (u.port p).limits = (List.range 8).map (fun v => leAt f.body (2 * v) 2) ∧ u.regs = (s.corrected f.lane f.corr).regs ∧ KeepsMem s u)) ∧
    (∀ l i ctl ident, s.portOfLane l = some (p, i) → (s.port p).st = 3 → bits ctl 0 2 = 1 →
      CompletesVia State.settle (.trainingFrame l ctl ident) s (fun u => (u.port p).peer = bits ident 0 20 ∧ KeepsMem s u)) ∧
    ((s.port p).st = 8 → (s.port p).since + s.fld .FLK_HOLDOFF_HOLD ≤ s.tick → s.flag .RTE_PORT_EN p = true →
      s.lbReady (p / 8) = true → Completes (.holdoffExpire p) s (fun t => (t.port p).st = 1 ∧ KeepsMem s t)) ∧
    (∀ w dim dg, s.Inv → s.reaches .RTE_PORT p → p < 72 → (s.port p).st = 0 → portFits p w = true → s.lanesOverlap p w = false →
      s.lbReady (p / 8) = true → s.valid s.own = true →
      Completes (.portEnable p w dim dg) s (fun t => (t.port p).st = 1 ∧ KeepsMem s t))

/-- The training limits, a retrain that fails and a disable take a port where R482 says (R482, R498, R669, 12_fabric_links.md). -/
def Obligations.PortFailuresTakeThePortDown : Prop :=
  ∀ (s : State) (p : Nat),
    ((s.port p).st = 2 → (s.port p).since + s.fld .FLK_EQTO_TO ≤ s.tick →
      Completes (.eqTimeout p) s (fun t => (t.port p).st = 8 ∧ (t.port p).lanes = [] ∧ KeepsMem s t)) ∧
    ((s.port p).st = 3 ∨ (s.port p).st = 4 ∨ (s.port p).st = 5 → (s.port p).since + 1000000 ≤ s.tick →
      Completes (.trainTimeout p) s (fun t => (t.port p).st = 8 ∧ (t.port p).lanes = [] ∧ KeepsMem s t)) ∧
    ((s.port p).st = 7 → (s.port p).since + s.fld .FLK_RTRTO_TO ≤ s.tick →
      CompletesVia (fun u => ((u.portLost p).settle).timeCheck) (.retrainTimeout p) s (fun u => (u.port p).st = 8 ∧ (u.port p).lanes = [] ∧ KeepsMem s u)) ∧
    ((s.port p).st = 6 → (s.port p).replay ≠ [] → (s.port p).lastAck + s.fld .FLK_REPLAYTO_TO ≤ s.tick →
      s.fld .FLK_CTL_REPLAYMAX ≤ (s.port p).toCount →
      CompletesVia (fun u => ((u.portLost p).settle).timeCheck) (.replayTimeout p) s (fun u => (u.port p).st = 8 ∧ (u.port p).lanes = [] ∧ KeepsMem s u)) ∧
    (s.reaches .RTE_PORT p → p < 72 → (s.port p).st ≠ 0 → (s.port p).st ≠ 6 → (s.port p).st ≠ 7 →
      CompletesVia (fun u => (u.settle).timeCheck) (.portDisable p) s (fun u => (u.port p).st = 0 ∧ (u.port p).lanes = [] ∧ KeepsMem s u))

/-- A DATA flit is accepted, dropped as a duplicate, or answered with one NAK, as its SEQ says (R493, R494, R495). -/
def Obligations.DataFlitAcceptedOnlyInSequence : Prop :=
  ∀ (s : State) (p lane corr : Nat) (f : Flit), f.kind = 1 → f.intact = true → s.linkUp p = true →
    (f.seq = (s.port p).e →
      CompletesVia (fun u => (u.takeFlit p f).settle) (.dataFlit p f lane corr) s (fun u =>
        (u.port p).e = ((s.port p).e + 1) % 4096 ∧ (u.port p).acked = true ∧ (u.port p).nakAt = none ∧ u.regs = (s.corrected lane corr).regs ∧ KeepsMem s u)) ∧
    (f.seq ≠ (s.port p).e → 1 ≤ ((s.port p).e + 4096 - f.seq % 4096) % 4096 → ((s.port p).e + 4096 - f.seq % 4096) % 4096 ≤ 2048 →
      CompletesVia State.settle (.dataFlit p f lane corr) s (fun u => (u.port p).e = (s.port p).e ∧
        u.regs = ((s.corrected lane corr).bump .FLK_PERR_DUP p).regs ∧ KeepsMem s u)) ∧
    (f.seq ≠ (s.port p).e → (((s.port p).e + 4096 - f.seq % 4096) % 4096 = 0 ∨ 2048 < ((s.port p).e + 4096 - f.seq % 4096) % 4096) →
      CompletesVia State.settle (.dataFlit p f lane corr) s (fun u => (u.port p).e = (s.port p).e ∧ (u.port p).nakAt.isSome = true ∧
        u.regs = (s.corrected lane corr).regs ∧ KeepsMem s u))

/-- The flit rows, replay, NAK holds and error windows complete (R480, R490, R491, R493, R495, R498, R503). -/
def Obligations.LinkLayerRowsComplete : Prop :=
  ∀ (s : State) (p : Nat),
    (∀ f : Flit, f.seal.intact = true ∧ (∀ c, c ≠ f.crcOf → ({ f.seal with crc := c } : Flit).intact = false)) ∧
    (∀ f, f.kind = 0 → f.intact = true → s.linkUp p = true → exec (.idleFlit p f) s = .next (s.passRx p f).settle) ∧
    (∀ f, f.kind = 2 → f.intact = true → s.linkUp p = true → ((s.passRx p f).port p).replay ≠ [] →
      ((s.passRx p f).port p).resend.any (fun x => x.seq == (f.ackseq + 1) % 4096) = false →
      CompletesVia State.settle (.nakFlit p f) s (fun u =>
        (u.port p).resend = ackDrop f.ackseq ((s.passRx p f).port p).replay ∧ KeepsMem s u)) ∧
    (∀ b : BadFlit, b.lane < 72 → p < 72 → s.linkUp p = true → b.fails = true → s.fld .FLK_LANEERR_WINCNT b.lane + b.events < s.fld .FLK_ERRTHR_BAD → s.Inv →
      CompletesVia (fun u => (u.settle).timeCheck) (.badFlit p b) s (fun u => (u.port p).nakAt.isSome = true ∧
        u.regs = ((((s.corrected b.lane b.corr).bump .FLK_PERR_CRCERR p).bump .FLK_LANEERR_WINCNT b.lane b.events).bump .FLK_LANEERR_TOTAL b.lane b.events).regs ∧ KeepsMem s u)) ∧
    ((s.port p).st = 6 → (s.port p).replay ≠ [] → (s.port p).lastAck + s.fld .FLK_REPLAYTO_TO ≤ s.tick →
      (s.port p).toCount < s.fld .FLK_CTL_REPLAYMAX →
      CompletesVia (fun u => (u.settle).timeCheck) (.replayTimeout p) s (fun u => (u.port p).resend = (s.port p).replay ∧
        (u.port p).toCount = (s.port p).toCount + 1 ∧ KeepsMem s u)) ∧
    (∀ a, (s.port p).nakAt = some a → a + s.fld .FLK_REPLAYTO_TO / 2 ≤ s.tick →
      exec (.nakHoldExpire p) s = .next (s.modPort p (fun ps => { ps with nakAt := none }))) ∧
    (s.now % s.fld .FLK_ERRWIN_WIN = 0 →
      Completes .errorWindow s (fun t => (∀ kv ∈ t.lnk.lanes, kv.2.corr = 0 ∧ kv.2.marg = false) ∧ KeepsMem s t))

/-- The retrain commands, lane loss and the time flits complete (R504, R508, R509, R511, R512). -/
def Obligations.RetrainRowsComplete : Prop :=
  ∀ (s : State) (p : Nat),
    (∀ f h, f.kind = 5 → f.intact = true → (s.port p).st = 6 → leAt f.body 8 1 = 1 → leAt f.body 9 1 < (s.port p).lanes.length →
      (s.passRx p f).halfFor p (leAt f.body 9 1) = some h →
      CompletesVia (fun u => (u.settle).timeCheck) (.retrainFlit p f) s (fun u => (u.port p).st = 7 ∧ (u.port p).lanes = h ∧
        (u.port p).retrainMine = false ∧ KeepsMem s u)) ∧
    (∀ k i, (s.port p).remedy = some (k, i) → (s.port p).st = 7 → (s.port p).retrainMine = true → (s.port p).remedyAt + 1000 ≤ s.tick →
      Completes (.retrainRepeat p) s (fun t => (t.port p).remedyAt = s.tick ∧ (∃ a b f, t.out = s.out ++ [.flit p a b f] ∧ f.kind = 5) ∧
        t.regs = s.regs ∧ KeepsMem s t)) ∧
    (∀ w, (s.port p).st = 7 → w.length = (s.port p).lanes.length → s.identAll p w [] = true →
      CompletesVia State.settle (.retrainComplete p w) s (fun u => (u.port p).st = 6 ∧ (u.port p).resend = (s.port p).replay ∧
        (u.port p).remedy = none ∧ KeepsMem s u)) ∧
    (∀ l, s.portOfLane l = none → (s.lane l).sparing = false →
      CompletesVia (fun u => (u.settle).timeCheck) (.laneSignalLoss l) s (fun u =>
        u = (s.setFld .FLK_LANESTAT_SIGDET 0 l).setFld .FLK_LANESTAT_CWLOCK 0 l)) ∧
    (s.linkUp p = true → (s.port p).tsxLast + 1024 ≤ s.tick → s.tick < s.time.periodAt + 1024 →
      Completes (.tsxSend p) s (fun t => (t.port p).tsxLast = s.tick ∧ (∃ l b f, t.out = s.out ++ l ++ [.flit p 0 b f] ∧ f.kind = 3) ∧ KeepsMem s t)) ∧
    (∀ f x, f.kind = 3 → f.intact = true → s.linkUp p = true →
      CompletesVia (fun u => let v := ((u.tsxDelay p (s.now * 65536 + x % 65536) f.body).tsxFields p f.body).timeSelect
          (if v.fld .TIM_STAT_PARENT = p then v.tsxOffset p (s.now * 65536 + x % 65536) f.body
            (v.fld .TIM_STAT_PARENT == s.fld .TIM_STAT_PARENT && v.fld .TIM_GM_COORD == s.fld .TIM_GM_COORD &&
              v.fld .TIM_GM_ERA == s.fld .TIM_GM_ERA) else v).settle)
        (.tsxFlit p f x) s (fun u => (u.port p).tsxEcho = leAt f.body 0 10 ∧ (u.port p).tsxRxAt = s.tick * 256 + x % 65536 / 256 ∧
          u.regs = (s.corrected f.lane f.corr).regs ∧ KeepsMem s u))

/-- The commands of fabric time complete (R556, R561, R564, R565, R642). -/
def Obligations.FabricTimeRowsComplete : Prop :=
  ∀ s : State, s.Inv →
    (s.flag .TIM_STAT_REFOK = true → s.timeLocked = false →
      Completes .refLost s (fun t => t.flag .TIM_STAT_REFOK = false ∧ t.flag .TIM_FLT_REFLOST = true ∧
        (∀ b, b < 9 → t.flag .FLK_LBSTAT_PLLLOCK b = false) ∧
        KeepsRegs s t ([RegName.TIM_STAT.addr 0, RegName.TIM_FLT.addr 0] ++ (List.range 9).map RegName.FLK_LBSTAT.addr) ∧ KeepsMem s t)) ∧
    CompletesVia State.timeSelect .referencePresent s (fun u => u.flag .TIM_STAT_REFOK = true ∧
      (∀ b, b < 9 → s.flag .FLK_LBSTAT_CAL b = true → u.flag .FLK_LBSTAT_PLLLOCK b = true) ∧
      KeepsRegs s u ([RegName.TIM_STAT.addr 0] ++ (List.range 9).map RegName.FLK_LBSTAT.addr) ∧ KeepsMem s u) ∧
    (s.flag .TIM_CTL_PPSINEN = true → s.time.ppsLast = none →
      CompletesVia (fun u => let v := u.timeSelect
          if v.flag .TIM_STAT_GM && v.ppsValid then v.setFld .TIM_PPSERR_ERR (ofInt32 ((v.now : Int) - (nearestSecond v.now : Nat))) else v)
        .ppsEdge s (fun u => u.time.ppsLast = some s.tick ∧ u.time.ppsGood = 0 ∧ u.regs = s.regs ∧ KeepsMem s u)) ∧
    (∀ a, s.time.ppsLast = some a → s.flag .TIM_STAT_PPSVALID = true → a + 1000100000 ≤ s.tick →
      CompletesVia (fun u => let v := u.event0 0x53 0 0 0
          (if v.flag .TIM_CTL_PPSINEN then v.latch .TIM_FLT_PPSLOST else v).timeSelect)
        .ppsInputLost s (fun u => u.flag .TIM_STAT_PPSVALID = false ∧ u.time.ppsGood = 0 ∧ KeepsRegs s u [RegName.TIM_STAT.addr 0] ∧ KeepsMem s u)) ∧
    (s.flag .TIM_CTL_PPSOUT = true → s.now % 1000000000 ≤ 2 → (s.time.ppsOut = false ∨ s.time.ppsOutAt + 100000000 ≤ s.tick) →
      exec .ppsOutPulse s = .next { s with time := { s.time with ppsOut := true, ppsOutAt := s.tick } }) ∧
    (s.flag .TIM_CTL_PPSOUT = true → 2 < s.now % 1000000000 → s.time.ppsOut = true → s.time.ppsOutAt + 100000000 ≤ s.tick →
      exec .ppsOutPulse s = .next { s with time := { s.time with ppsOut := false } }) ∧
    (∀ p n, mget s.time.nb p = some n → n.adv + 8192 ≤ s.tick → exec (.neighbourTimeStale p) s = .next s.timeSelect) ∧
    (s.reaches .TIM_CTL 0 → s.timeSelect.flag .TIM_STAT_GM = true → s.timeSelect.timeLocked = false →
      Completes .timeStep s (fun t => t.now = (s.rdRaw .TIM_SETLO + 2 ^ 32 * s.rdRaw .TIM_SETHI) % 2 ^ 64 ∧
        t.time.era = (s.timeSelect.time.era + 1) % 256))

/-- A BAR0 write stores, sets, clears or toggles the bits of an RW register as its alias says (R129). -/
def Obligations.RegisterWriteByAlias : Prop :=
  ∀ (s : State) (i v : Nat), s.Inv → s.hif = true → i < 16 → v < 2 ^ 32 →
    Completes (.regWrite (word0 (0xE040 + 4 * i) v)) s (fun t => t.rdRaw .RST_BKP i = v ∧ KeepsRegs s t [RegName.RST_BKP.addr i] ∧ KeepsMem s t) ∧
    Completes (.regWrite (word0 (0x10E040 + 4 * i) v)) s (fun t => t.rdRaw .RST_BKP i = s.rdRaw .RST_BKP i ||| v ∧
      KeepsRegs s t [RegName.RST_BKP.addr i] ∧ KeepsMem s t) ∧
    Completes (.regWrite (word0 (0x20E040 + 4 * i) v)) s (fun t => t.rdRaw .RST_BKP i = s.rdRaw .RST_BKP i - (s.rdRaw .RST_BKP i &&& v) ∧
      KeepsRegs s t [RegName.RST_BKP.addr i] ∧ KeepsMem s t) ∧
    Completes (.regWrite (word0 (0x30E040 + 4 * i) v)) s (fun t => t.rdRaw .RST_BKP i = s.rdRaw .RST_BKP i ^^^ v ∧
      KeepsRegs s t [RegName.RST_BKP.addr i] ∧ KeepsMem s t)

/-- A BAR0 write that meets a reset, a locked field or a reserved encoding is dropped whole (R136, R138, R139). -/
def Obligations.RefusedRegisterWriteIsDroppedWhole : Prop :=
  ∀ (s : State) (r : RegName) (off i al v : Nat), s.Inv → s.hif = true → regAt off = some (r, i) → off < 0xE0000 → off % 4 = 0 → al < 4 →
    v < 2 ^ 32 → s.refusesWrite al r i v →
    Completes (.regWrite (word0 (al * 2 ^ 20 + off) v)) s (fun t => KeepsRegs s t logKeys ∧ KeepsMem s t ∧ t.qmg = s.qmg ∧ t.win = s.win)

/-- While GEN_READY.HIF is 0 a write of BAR0 or BAR2 changes nothing but the access log (R103, R122). -/
def Obligations.HostInterfaceNotReadyRefusesWrites : Prop :=
  ∀ s : State, s.Inv → s.hif = false →
    (∀ a : RegAcc, s.funcOn a.func → Completes (.regWrite a) s (fun t => KeepsRegs s t logKeys ∧ KeepsMem s t ∧ t.qmg = s.qmg)) ∧
    (∀ w : Bar2Write, s.funcOn w.func → Completes (.headDoorbell w) s (fun t => KeepsRegs s t logKeys ∧ KeepsMem s t ∧ t.qmg = s.qmg)) ∧
    (∀ p, ∀ c ∈ [Instr.nccEnable, .xltDisable, .portDisable p, .timeStep, .standby, .release, .newchal, .faultInject p],
      Completes c s (fun t => KeepsRegs s t logKeys ∧ KeepsMem s t ∧ t.qmg = s.qmg))

/-- TAIL_DOORBELL, HEAD_DOORBELL and KEY_RIGHTS_WRITE record what they carry (R150, R164, R361). -/
def Obligations.DoorbellRowsComplete : Prop :=
  ∀ (s : State) (q v : Nat), s.hif = true →
    (∀ st, q < 262144 → s.wqOwner q = 0 → (s.wq q).st = .active → sub32 (v % 2 ^ 32) (s.wq q).tail < 2 ^ 31 →
      sub32 (v % 2 ^ 32) (s.wq q).head ≤ 2 ^ (s.wq q).log2 →
      CompletesVia State.settle (.tailDoorbell (word2 (16 * q) v) st) s (fun u => (u.wq q).tail = v % 2 ^ 32 ∧ (u.wq q).st = .active ∧
        (u.wq q).head = (s.wq q).head ∧ ∀ a, u.byte a = (s.hostStores st).byte a)) ∧
    (q < 262144 → s.wqOwner q = 0 →
      CompletesVia State.settle (.keyRightsWrite (word2 (16 * q + 8) v)) s (fun u => (u.wq q).kr = v % 2 ^ 64 ∧
        (u.wq q).tail = (s.wq q).tail ∧ KeepsMem s u)) ∧
    (q < 65536 → s.cqOwner q = 0 → (s.cq q).configured = true →
      CompletesVia (fun u => ((if u.mirCq q then u.recQctx false q else u).cqGo q).settle) (.headDoorbell (word2 (0x400000 + 8 * q) v)) s
        (fun u => (u.cq q).head = v % 2 ^ 32 ∧ (u.cq q).armed = bitAt v 32 ∧ u.regs = s.regs ∧ KeepsMem s u)) ∧
    (q < 2048 → s.eqOwner q = 0 → (s.eq q).configured = true →
      CompletesVia (fun u => ((if u.mirEq q then u.recQctx true q else u).eqDrain q).settle) (.headDoorbell (word2 (0x480000 + 8 * q) v)) s
        (fun u => (u.eq q).head = v % 2 ^ 32 ∧ (u.eq q).armed = bitAt v 32 ∧ u.regs = s.regs ∧ KeepsMem s u))

/-- The rows of the admin queue registers complete (R164, R179, R191). -/
def Obligations.AdminQueueRegisterRowsComplete : Prop :=
  ∀ (s : State) (f n : Nat), s.Inv → s.hif = true → s.funcOn f → f < 64 →
    (∀ st rd, CompletesVia (fun u => ((u.modAq f (fun q => { q with rd := rd })).adminRun f).settle) (.adminTailDoorbell f n st rd) s
      (fun u => u.rdAq f .QMG_AQTAIL = n % 2 ^ 32 ∧ KeepsRegs s u [aqKey f .QMG_AQTAIL])) ∧
    CompletesVia (fun u => (u.adminDrain f).restartDue) (.adminHeadDoorbell f n) s
      (fun u => u.rdAq f .QMG_AQHEAD = n % 2 ^ 32 ∧ KeepsRegs s u [aqKey f .QMG_AQHEAD] ∧ KeepsMem s u) ∧
    (s.aqEn f = false → Completes (.adminQueueEnable f) s (fun t => t.aqEn f = true ∧ t.rdAq f .QMG_AQTAIL = 0 ∧ t.rdAq f .QMG_AQHEAD = 0 ∧
      t.aq f = { blocked := (s.aq f).blocked } ∧ KeepsRegs s t [aqKey f .QMG_AQCFG, aqKey f .QMG_AQTAIL, aqKey f .QMG_AQHEAD] ∧ KeepsMem s t)) ∧
    (s.aqEn f = true → Completes (.adminQueueDisable f) s (fun t => t.aqEn f = false ∧ KeepsRegs s t [aqKey f .QMG_AQCFG] ∧ t.qmg = s.qmg ∧
      KeepsMem s t))

/-- Loads and stores of the Global Window are served, or join their lease block, and the reads of the host are answered (R122, R298, R308, R311, R314). -/
def Obligations.WindowAccessesComplete : Prop :=
  (∀ (s : State) (mid hpa d : Nat) (e : WEnt), s.host.dl = true → s.flag .HIF_LINKSTAT_CXLMEM = true → s.decoderOf hpa = some d →
    s.winRefused = 0 → s.winEntry d (s.bar4 d hpa) = some e →
    (∀ x b, e.nocache = false → s.isLocal e.coord = false → s.ncc = true → (s.wblk (s.bar4 d hpa / 4096)).settle = none →
      mget s.win.frames (e.block (s.regionOff d (s.bar4 d hpa) e)) = some x → s.frameUsable x = true →
      mget x.lines (s.regionOff d (s.bar4 d hpa) e % 4096 / 64) = some b →
      Completes (.cxlMemRead mid hpa) s (fun t => t.out.getLast? = some (.cxlData mid b false))) ∧
    (e.nocache = true → Completes (.cxlMemRead mid hpa) s (fun t =>
      (∃ i, (t.wblk (s.bar4 d hpa / 4096)).items = (s.wblk (s.bar4 d hpa / 4096)).items ++ [i] ∧ i.write = false ∧ i.a = s.bar4 d hpa ∧
        i.ent = e ∧ i.issued = false ∧ i.mids = [(mid, s.regionOff d (s.bar4 d hpa) e % 4096 / 64)]) ∧ t.regs = s.regs ∧ KeepsMem s t)) ∧
    (∀ data mask, mask % 2 ^ 64 = 0 → Completes (.cxlMemWrite mid hpa data mask) s (fun t =>
      t.out = s.out ++ [.cxlDone mid] ∧ (t.wblk (s.bar4 d hpa / 4096)).items.length = (s.wblk (s.bar4 d hpa / 4096)).items.length ∧
        t.regs = s.regs ∧ KeepsMem s t)) ∧
    (∀ data mask, mask % 2 ^ 64 ≠ 0 → (s.wblk (s.bar4 d hpa / 4096)).items = [] →
      Completes (.cxlMemWrite mid hpa data mask) s (fun t =>
        (∃ i, (t.wblk (s.bar4 d hpa / 4096)).items = [i] ∧ i.write = true ∧ i.bytes = storeBytes (s.bar4 d hpa) mask data [] ∧ i.ent = e ∧
          i.mids = if e.fast then [] else [(mid, s.bar4 d hpa % 4096 / 64)]) ∧
        t.out = (if e.fast then s.out ++ [.cxlDone mid] else s.out) ∧ KeepsMem s t))) ∧
  (∀ s : State, s.Inv → s.host.dl = true → s.hif = true →
    (∀ w, w < 4 → (∀ f ∈ s.win.fences, f.ids ≠ []) →
      let ids := s.windowWrites w
      (ids = [] → exec (.fenceRead (read0 (RegName.GWN_FENCE.addr w))) s =
        .next { s with out := s.out ++ [.pcieRead (some (s.rdRaw .GWN_FENCE w))] }) ∧
      (ids ≠ [] → exec (.fenceRead (read0 (RegName.GWN_FENCE.addr w))) s =
        .next { s with win := { s.win with fences := s.win.fences ++ [{ regs := [(0, w)], ids := ids }] } })) ∧
    (∀ (r : RegName) (off i : Nat), regAt off = some (r, i) → off < 0xE0000 → off % 4 = 0 → r ≠ .GWN_FENCE →
      exec (.fenceRead (read0 off)) s = .next { s with out := s.out ++ [.pcieRead (some (s.regRead 0 r i))], free := s.free + 1 }) ∧
    (∀ off, off % 4 = 0 → locAt 0 off = .rsvd →
      Completes (.fenceRead (read0 off)) s (fun t => t.out = s.out ++ [.pcieRead none] ∧ KeepsRegs s t logKeys ∧ KeepsMem s t ∧ t.win = s.win)))

/-- Every CXL mailbox command and a CDAT request are answered once (R100, R101, R117, R119, R553). -/
def Obligations.MailboxRowsAnswer : Prop :=
  ∀ s : State, s.hif = true →
    let irq (t : State) : State := if s.host.mailIrq then t.msix 0 2 else t
    (∃ l, exec .cxlIdentifyMemoryDevice s = .next (irq { s with out := s.out ++ [.cxlIdentity s.host.winCap l], free := s.free + 1 })) ∧
    (∃ l, exec .cxlGetSupportedLogs s = .next (irq { s with out := s.out ++ [.cxlMail .success l], free := s.free + 1 })) ∧
    (∀ u o n, ∃ c l, exec (.cxlGetLog u o n) s = .next (irq { s with out := s.out ++ [.cxlMail c l], free := s.free + 1 }) ∧ l.length ≤ n) ∧
    (∀ k, ∃ l, exec (.cxlGetEventRecords k) s = .next (irq { s with out := s.out ++ [.cxlMail .success l], free := s.free + 1 })) ∧
    (∀ k hs, mwf s.host.cxlEvents → CompletesVia irq (.cxlClearEventRecords k hs) s (fun t => t.out = s.out ++ [.cxlMail .success []] ∧
      (∀ h ∈ hs, h ∉ mgetD t.host.cxlEvents k []) ∧ t.regs = s.regs ∧ KeepsMem s t)) ∧
    (∃ l, exec .cxlGetHealthInfo s = .next (irq { s with out := s.out ++ [.cxlMail .success l], free := s.free + 1 })) ∧
    exec .cxlGetTimestamp s = .next (irq { s with out := s.out ++ [.cxlMail .success (leBytes 8 s.now)] }) ∧
    (∀ v, s.timeSelect.flag .TIM_STAT_GM = false → exec (.cxlSetTimestamp v) s = .next (irq { s with out := s.out ++ [.cxlMail .success []] })) ∧
    (∀ o, exec (.cxlUnsupportedCommand o) s = .next (irq { s with out := s.out ++ [.cxlMail .unsupported []] })) ∧
    (∀ h, s.host.dl = true → ∃ l, exec (.cdatDoeRequest h) s = .next { s with out := s.out ++ [.cxlMail .success l], free := s.free + 1 })

/-- The link events and the configuration commands of the host complete (R102, R103, R104, R110, R118, R121, R578). -/
def Obligations.HostLinkAndConfigurationRowsComplete : Prop :=
  ∀ s : State, s.Inv →
    (∀ rate width flit mem, s.awake = true → s.rst.pcieOff = false → s.host.dl = false → 4 ≤ rate → rate ≤ 5 → width ∈ [4, 8, 16] → s.bootDone = true →
      Completes (.hostLinkUp rate width flit mem) s (fun t => t.host.dl = true ∧ t.hif = true ∧ t.fld .HIF_LINKSTAT_RATE = rate ∧
        t.fld .HIF_LINKSTAT_WIDTH = width ∧ KeepsRegs s t [RegName.HIF_LINKSTAT.addr 0, RegName.GEN_READY.addr 0] ∧ KeepsMem s t)) ∧
    (∀ width flit mem, s.awake = true → s.rst.pcieOff = false → s.host.dl = false → width ∈ [1, 2] →
      Completes (.hostLinkUp 5 width flit mem) s (fun t => t.host.dl = true ∧ t.hif = s.hif ∧ t.flag .HIF_FLT_BELOWMIN = true)) ∧
    (∀ w, s.host.dl = true → w ∈ [4, 8, 16] → w ≤ s.fld .HIF_LINKSTAT_WIDTH →
      Completes (.l0pWidthChange w) s (fun t => t.fld .HIF_LINKSTAT_ACTW = w ∧ t.hif = s.hif ∧ KeepsRegs s t [RegName.HIF_LINKSTAT.addr 0] ∧ KeepsMem s t)) ∧
    (s.rst.hostReset = true → s.host.dl = true → s.linkOk = true → s.bootDone = true →
      Completes .hostResetComplete s (fun t => t.hif = true ∧ t.rst.hostReset = false ∧ KeepsRegs s t [RegName.GEN_READY.addr 0] ∧ KeepsMem s t)) ∧
    (∀ d base size ways h, s.hif = true → s.host.hdm[d]? = some h → h.committed = false →
      Completes (.hdmDecoderCommit d base size ways) s (fun t =>
        (if (s.host.hdm.take d).all (fun x => x.committed) = true ∧ size % 2 ^ 28 = 0 ∧ ways = 1 ∧
            ((s.host.hdm.take d).map (fun x => x.size)).sum + size ≤ s.host.winCap
          then t.host.hdm[d]? = some { committed := true, err := false, base := base, size := size }
          else t.host.hdm[d]? = some { h with err := true }) ∧ t.regs = s.regs ∧ KeepsMem s t)) ∧
    (∀ f v, s.host.dl = true → s.hif = true → CompletesVia State.msixFlush (.msixUnmask f v) s (fun u =>
      (mget u.host.msixOpen (vecKey f v)).isSome = true ∧ u.regs = s.regs ∧ KeepsMem s u)) ∧
    (∀ on, s.host.dl = true → Completes (.configurationWrite (.atomicOpEnable on)) s (fun t => t.host.atomicOp = on ∧
      t.flag .HIF_STATUS_ATOMEN = on ∧ KeepsRegs s t [RegName.HIF_STATUS.addr 0] ∧ KeepsMem s t)) ∧
    (∀ n, s.host.dl = true → s.host.vfs = 0 → 0 < n → n < 64 → Completes (.vfEnable n) s (fun t => t.host.vfs = n ∧
      t.fld .HIF_STATUS_NUMVF = n ∧ t.flag .HIF_STATUS_VFEN = true ∧ KeepsRegs s t [RegName.HIF_STATUS.addr 0] ∧ KeepsMem s t))

/-- CTXPOOL_READY, CLUSTER_SELFTEST_DONE, MEM_TRAIN_DONE, DSTATE_READY and LB_CALIBRATION_DONE set their bits (R65, R66, R67, R68, R232, R477). -/
def Obligations.UnitsBecomeReady : Prop :=
  ∀ s : State, s.Inv → s.awake = true →
    Completes .ctxpoolReady s (fun t => t.ctxpool = true ∧ KeepsRegs s t [RegName.GEN_READY.addr 0] ∧ KeepsMem s t) ∧
    (∀ c, c < 18 → s.clusterReady c = false → mget s.rst.blocks c = none →
      Completes (.clusterSelftestDone c true) s (fun t => t.clusterReady c = true ∧ KeepsMem s t) ∧
      Completes (.clusterSelftestDone c false) s (fun t => t.flag .ENG_STAT_STFLT c = true ∧ t.clusterReady c = false ∧ KeepsMem s t)) ∧
    (∀ k, k < 8 → bitAt (s.fld .GEN_READY_MEMCH) k = false → mget s.rst.blocks (0x30 + k) = none → s.rst.fullBoot = false →
      Completes (.memTrainDone k true) s (fun t => bitAt (t.fld .GEN_READY_MEMCH) k = true ∧ KeepsMem s t) ∧
      Completes (.memTrainDone k false) s (fun t => t.flag .HIF_MEMSTAT_TRAINFLT k = true ∧ KeepsMem s t)) ∧
    (s.dstate = false → s.fld .GEN_READY_MEMCH = 0xFF → s.rst.booted = true → s.flag .SEC_STAT_DEBUGOPEN = false →
      Completes .dstateReady s (fun t => t.dstate = true ∧ (s.rst.cleared = true → t.tgt.supStart = s.tick) ∧
        KeepsRegs s t [RegName.GEN_READY.addr 0] ∧ KeepsMem s t)) ∧
    (∀ b, b < 9 → s.lbReady b = false → s.rst.fullBoot = false → s.flag .TIM_STAT_REFOK = true →
      CompletesVia (fun u => (u.blockStart b).settle) (.lbCalibrationDone b true) s (fun u => u.lbReady b = true ∧ u.flag .FLK_LBSTAT_CAL b = true ∧
        KeepsRegs s u [RegName.GEN_READY.addr 0, RegName.FLK_LBSTAT.addr b] ∧ KeepsMem s u))

/-- Every BLOCK_RESET row completes, forced or not: without force the block is asked to go idle, with force it is reset at once (R63, R580, R582, R586, R587, 14_time_power_reset.md). -/
def Obligations.BlockResetRowsComplete : Prop :=
  ∀ s : State, s.Inv → s.reaches .RST_BLKCMD 0 → s.rst.blocks = [] →
    (∀ c force, c < 18 → exec (.blockResetCluster c force) s = .next (s.blkBegin c force []).settle) ∧
    (∀ force, exec (.blockResetQueueManager force) s = .next (s.blkBegin 0x20 force []).settle) ∧
    (∀ force, exec (.blockResetTranslationUnit force) s = .next (s.blkBegin 0x21 force []).settle) ∧
    (∀ force, exec (.blockResetLockUnit force) s = .next (s.blkBegin 0x22 force []).settle) ∧
    (∀ force, exec (.blockResetCollectiveUnit force) s = .next (s.blkBegin 0x23 force []).settle) ∧
    (∀ force, exec (.blockResetMirrorUnit force) s = .next (s.blkBegin 0x24 force []).settle) ∧
    (∀ force, exec (.blockResetNearCache force) s = .next (s.blkBegin 0x25 force []).settle) ∧
    (∀ force, exec (.blockResetSteward force) s = .next (s.blkBegin 0x26 force []).settle) ∧
    (∀ k force, k < 8 → exec (.blockResetGddr7Controller k force) s = .next (s.blkBegin (0x30 + k) force []).settle) ∧
    (∀ b force, b < 9 → exec (.blockResetLaneBlock b force) s = .next (s.blkBegin (0x40 + b) force []).settle) ∧
    (∀ x ∈ blockRows, ∀ force, force = false ∨ s.rst.nvRow.isSome = true → CompletesVia State.settle (x.2 force) s (fun u =>
      mget u.rst.blocks x.1 = some { since := s.tick, idleWait := true, slots := [] } ∧ u.fld .RST_BLKSTAT_BLOCK = x.1 ∧
      u.rst.nvPending = (if force then s.rst.nvPending ++ [.block x.1] else s.rst.nvPending) ∧
      (x.1 < 18 → u.clusterReady x.1 = false) ∧ (x.1 = 0x25 → u.ncc = false) ∧
      (0x30 ≤ x.1 → x.1 < 0x38 → bitAt (u.fld .GEN_READY_MEMCH) (x.1 - 0x30) = false ∧ u.dstate = false) ∧
      (0x40 ≤ x.1 → u.lbReady (x.1 - 0x40) = false) ∧
      KeepsRegs s u [RegName.RST_BLKSTAT.addr 0, RegName.GEN_READY.addr 0, RegName.GEN_READYCL.addr 0] ∧ KeepsMem s u)) ∧
    (s.rst.nvRow = none →
      (∀ c, c < 18 → mwf s.qmg.wq → mwf s.tgt.busy → CompletesVia (fun u => u.nvStart.settle) (.blockResetCluster c true) s (fun u =>
        u.clusterReady c = false ∧ (∀ q t, (u.wq q).turn = some t → t.engine / 16 ≠ c) ∧ (∀ k e, mget u.tgt.busy k = some e → e / 16 ≠ c) ∧
        (∀ q, q % 288 / 16 = c → (s.wq q).turn = none → (u.wq q).fetched = []) ∧
        mget u.rst.blocks c = some { since := s.tick, idleWait := false, slots := [] })) ∧
      (mwf s.xlt.walks → (∀ k w, mget s.xlt.walks k = some w → k < s.xlt.next) →
        CompletesVia (fun v => (((v.blockRegs 0x21).blockEnd 0x21).walksTaken).nvStart.settle) (.blockResetTranslationUnit true) s (fun v =>
          v.xlt.cache = [] ∧ v.xlt.wcache = [] ∧ (∀ k w, mget s.xlt.walks k = some w → w.phase ≠ .held → mget v.xlt.walks k = none))) ∧
      CompletesVia (fun u => u.nvStart.settle) (.blockResetLockUnit true) s (fun u => u.lck = s.lck ∧ u.tgt = s.tgt ∧ u.rst.blocks = [] ∧ KeepsMem s u) ∧
      CompletesVia (fun u => u.nvStart.settle) (.blockResetCollectiveUnit true) s (fun u => u.col = s.col ∧ u.tgt = s.tgt ∧ u.rst.blocks = [] ∧ KeepsMem s u) ∧
      CompletesVia (fun u => u.nvStart.settle) (.blockResetNearCache true) s (fun u => u.win.frames = [] ∧ u.ncc = false ∧ u.rst.blocks = [] ∧ KeepsMem s u) ∧
      (s.mir.waits = [] → s.mir.cmdAt = none →
        CompletesVia (fun v => ((if s.flag .MIR_CTL_LINKEN then v.mirEnable else v).blockEnd 0x24).nvStart.settle) (.blockResetMirrorUnit true) s
          (fun v => v.mir.twin = .unpaired ∧ v.mir.link = 0 ∧ v.mir.shadow = {})) ∧
      CompletesVia (fun u => u.nvStart.settle) (.blockResetSteward true) s (fun u => u.rst.steward = false ∧ u.rst.fwBytes = [] ∧ u.rst.nvQ = [] ∧
        (s.rst.fw = none → s.rst.fwWait = [] → KeepsMem s u)) ∧
      (∀ k, k < 8 → CompletesVia (fun u => u.nvStart.settle) (.blockResetGddr7Controller k true) s (fun u =>
        bitAt (u.fld .GEN_READY_MEMCH) k = false ∧ u.dstate = false ∧ u.fld .HIF_MEMSTAT_KEYED k = s.fld .HIF_MEMSTAT_KEYED k ∧ KeepsMem s u)) ∧
      (∀ b, b < 9 → (∀ p, p ∈ numsFrom (8 * b) 8 → (s.port p).st ≠ 6 ∧ (s.port p).st ≠ 7) →
        CompletesVia (fun v => ((((s.trainedPorts b).foldl (fun t p => t.portDetect p) v).settle.timeCheck.blockEnd (0x40 + b)).nvStart).settle)
          (.blockResetLaneBlock b true) s (fun v => v.lbReady b = s.flag .FLK_LBSTAT_CAL b ∧
            ∀ p, p ∈ s.trainedPorts b → (v.port p).st = 8 ∧ (v.port p).lanes = [])) ∧
      (mwf s.qmg.wq → CompletesVia (fun v => ((v.blockEnd 0x20).nvStart).settle) (.blockResetQueueManager true) s (fun v =>
        v.ini.tags = [] ∧ v.ini.quietUntil = s.tick + 10000 ∧ (∀ q, (v.wq q).outst = []) ∧ v.rst.epoch = .due ∧
        (s.rst.steward = true → ((v.blockEnd 0x20).nvStart).rst.nvRow =
          some ((s.rst.epochLast.1 + 1) % 16, epochRow (s.rst.epochLast.2.1 + 1) ((s.rst.epochLast.2.2 + 1) % 256))))))

/-- A block reset returns the fields of its registers to their reset values, except RW fields (R663). -/
def Obligations.BlockResetRegisters : Prop :=
  ∀ (s : State) (c : Nat), s.Inv → blockCode c = true →
    (∀ r i, i < r.fam.n1 * r.fam.n2 → blockOfReg (r.addr i) = some c → r ≠ .HIF_MEMSTAT → r ≠ .FLK_LBSTAT →
      (s.blockRegs c).rdRaw r i = r.fields.foldl (fun x f => if f.acc = .rw then putBits x f.lo f.w (bits (s.rdRaw r i) f.lo f.w) else x) (r.resetAt i)) ∧
    (∀ k, blockOfReg k ≠ some c → mget (s.blockRegs c).regs k = mget s.regs k) ∧
    (s.blockRegs c).rst = s.rst ∧ (s.blockRegs c).qmg = s.qmg ∧ (s.blockRegs c).out = s.out ∧ KeepsMem s (s.blockRegs c)

/-- BLOCK_IDLE and BLOCK_IDLE_TIMEOUT end the wait for idle of every block and reset it (R580, R581, R586). -/
def Obligations.BlockIdleRowsComplete : Prop :=
  ∀ s : State, s.Inv →
    (∀ c b, mget s.rst.blocks c = some b → b.idleWait = true → s.rst.nvPending.contains (.block c) = false → s.blockQuiet c = true →
      exec (.blockIdle c) s = .next (s.resetReq (.block c)).settle) ∧
    (∀ c b, mget s.rst.blocks c = some b → b.idleWait = true → s.rst.nvPending.contains (.block c) = false → b.since + s.fld .RST_IDLETO_TO ≤ s.tick →
      CompletesVia (fun v => (v.resetReq (.block c)).settle) (.blockIdleTimeout c) s (fun v => v.flag .RST_FLT_IDLETO = true ∧ v.flt.msgs ≠ [] ∧
        v.rst = s.rst ∧ KeepsRegs s v [RegName.RST_FLT.addr 0] ∧ KeepsMem s v)) ∧
    (∀ c b, c < 18 → mget s.rst.blocks c = some b → b.idleWait = true → s.rst.nvPending.contains (.block c) = false → s.blockQuiet c = true →
      s.rst.nvRow = none →
      CompletesVia (fun u => u.nvStart.settle) (.blockIdle c) s (fun u => u.clusterReady c = false ∧
        mget u.rst.blocks c = some { b with idleWait := false } ∧ u.tgt = s.tgt ∧ KeepsMem s u)) ∧
    (∀ k b, k < 8 → mget s.rst.blocks (0x30 + k) = some b → b.idleWait = true → s.rst.nvPending.contains (.block (0x30 + k)) = false →
      s.rst.nvRow = none →
      CompletesVia (fun u => u.nvStart.settle) (.blockIdle (0x30 + k)) s (fun u => bitAt (u.fld .GEN_READY_MEMCH) k = false ∧ u.dstate = false ∧
        mget u.rst.blocks (0x30 + k) = some { b with idleWait := false } ∧ KeepsMem s u)) ∧
    (∀ c, mget s.rst.blocks c = none → exec (.blockIdle c) s = .next s ∧ exec (.blockIdleTimeout c) s = .next s)

/-- HOT_RESET, DL_DOWN, FLR_PF and FLR_VF complete with the host reset or the reset of the function (R93, R176, R577, R578, R661). -/
def Obligations.HostResetRowsComplete : Prop :=
  ∀ s : State, s.Inv → s.host.dl = true → s.rst.nvRow = none →
    CompletesVia (fun v => (if v.rst.steward then v.hostBoot else v).nvStart.settle) .hotReset s (fun v => v.hostCleared ∧ v.rdRaw .RST_CAUSE = 8 ∧
      v.host.hdm = [{}, {}, {}, {}] ∧ v.rdRaw .HIF_LINKSTAT = s.rdRaw .HIF_LINKSTAT ∧ KeepsMem s v) ∧
    CompletesVia (fun v => ((if v.rst.steward then v.hostBoot else v).setFld .HIF_FLT_LINKDN (b2n s.hif)).nvStart.settle) .dlDown s (fun v =>
      v.hostCleared ∧ v.rdRaw .RST_CAUSE = 8 ∧ v.host.dl = false ∧ v.rdRaw .HIF_LINKSTAT = 0 ∧ KeepsMem s v) ∧
    CompletesVia (fun v => (if v.rst.steward then v.hostBoot else v).nvStart.settle) .flrPf s (fun v => v.hostCleared ∧ v.rdRaw .RST_CAUSE = 16 ∧
      v.host.hdm = s.host.hdm ∧ KeepsMem s v) ∧
    (∀ f, 0 < f → f ≤ s.host.vfs → mwf s.qmg.wq → mwf s.qmg.cq → mwf s.qmg.eq →
      CompletesVia (fun v => ((v.flrRegions f).ownReset false f).nvStart.settle) (.flrVf f) s (fun v =>
        (∀ k, 2 ^ 22 * f ≤ k → k < 2 ^ 22 * (f + 1) → mget v.regs k = none) ∧ (∀ q, s.wqOwner q = f → v.wq q = {}) ∧
        (∀ n, s.cqOwner n = f → v.cq n = {}) ∧ (∀ n, s.eqOwner n = f → v.eq n = {}) ∧ (∀ b ∈ v.qmg.bcmds, b.func ≠ f)))

/-- PERST_ASSERT, WATCHDOG_EXPIRE, POWER_ON_RESET and STANDBY_POWER_DOWN complete with the full reset they name (R569, R577, R579, R584, R636, R661, R662). -/
def Obligations.FullResetRowsComplete : Prop :=
  ∀ s : State, s.Inv →
    (s.rst.perst = false → s.rst.power = .run → s.rst.nvRow = none → Completes .perstAssert s (fun t => s.fullResetOf t ∧
      t.rdRaw .RST_CAUSE = 4 ∧ t.rst.perst = true ∧ t.rst.power = .run)) ∧
    (s.flag .RST_WDCTL_EN = true → s.rst.power = .run → s.rst.wdKick + s.fld .RST_WDCTL_PERIOD * 2 ^ 20 ≤ s.tick → s.rst.nvRow = none →
      Completes .watchdogExpire s (fun t => s.fullResetOf t ∧ t.rdRaw .RST_CAUSE = 32 ∧ t.rst.wdogMsg = true ∧ t.rst.wdKick = s.tick)) ∧
    (s.rst.power = .entering → s.rst.powerAt + 1000000 ≤ s.tick → s.rst.nvRow = none →
      Completes .standbyPowerDown s (fun t => s.fullResetOf t ∧ t.rdRaw .RST_CAUSE = 2 ∧ t.rst.power = .standby ∧ t.rst.powerAt = s.tick ∧
        t.rst.pcieOff = true ∧ t.rst.railUp = false ∧ t.rst.rails = setAt (setAt s.rst.rails 3 false) 4 false)) ∧
    (s.rst.nvRow = none → Completes .powerOnReset s (fun t => t.regs = [] ∧ t.rst.nv = s.rst.nv ∧
      t.rst.histRows = s.rst.histRows ∧ t.sec.minVer = s.sec.minVer ∧ t.sec.revoked = s.sec.revoked ∧ t.sec.uid = s.sec.uid ∧
      t.time = {} ∧ t.flt.log = [] ∧ t.pending = s.pending ∧ KeepsMem s t))

/-- A reset that arrives during a nonvolatile write pulse waits for its end, and NV_WRITE_DONE stores the row (R586, R587, R588, R591, R612). -/
def Obligations.ResetsWaitForTheWritePulse : Prop :=
  ∀ (s : State) (row : Nat × List Byte), s.Inv → mwf s.rst.nv → s.rst.nvRow = some row →
    let l := s.rst.epochLast
    let stored (u : State) : Prop := u.rst.nvRow = none ∧ mget u.rst.nv row.1 = some row.2 ∧
      (∀ k, k ≠ row.1 → mget u.rst.nv k = mget s.rst.nv k) ∧ KeepsMem s u
    (s.host.dl = true → exec .hotReset s = .next ({ s with rst := { s.rst with nvPending := s.rst.nvPending ++ [.hot] } } : State).settle) ∧
    (s.flag .RST_WDCTL_EN = true → s.rst.power = .run → s.rst.wdKick + s.fld .RST_WDCTL_PERIOD * 2 ^ 20 ≤ s.tick →
      exec .watchdogExpire s = .next { s with rst := { s.rst with nvPending := s.rst.nvPending ++ [.wdog] } }) ∧
    (s.rst.nvPending = [] → 512 ≤ row.1 → CompletesVia (fun u => u.epochGo.settle) .nvWriteDone s (fun u => stored u ∧
      u.rst.histNum = add32 s.rst.histNum 1 ∧ u.regs = s.regs)) ∧
    (s.rst.nvPending = [] → 16 ≤ row.1 → row.1 < 512 → s.rst.nvQ ≠ [] → CompletesVia (fun u => u.epochGo.settle) .nvWriteDone s (fun u => stored u ∧
      u.rst.histNum = s.rst.histNum ∧ u.regs = s.regs)) ∧
    (∀ b v, s.rst.nvPending = [] → 16 ≤ row.1 → row.1 < 512 → s.rst.nvQ = [] → s.rst.fw = some b → s.rst.fwVer = some v →
      CompletesVia (fun u => (u.fwEnd b 0 v).epochGo.settle) .nvWriteDone s (fun u => stored u ∧ (∀ k ∈ u.rst.setBad, setBase k ≠ row.1) ∧
        u.regs = s.regs)) ∧
    (s.rst.nvPending = [] → row = ((l.1 + 1) % 16, epochRow (l.2.1 + 1) ((l.2.2 + 1) % 256)) → l.2.1 + 1 < 2 ^ 32 → s.rst.epoch = .due →
      s.rst.steward = true → s.rst.fullBoot = false →
      CompletesVia (fun u => (((u.ownReset true 0).wakeTags).nvStart).settle) .nvWriteDone s (fun u => stored u ∧
        u.fld .GEN_EPOCH_EPOCH = (l.2.2 + 1) % 256 ∧ u.fld .RST_NVSTAT_EPOCHROW = row.1 ∧ u.rst.epoch = .loaded ∧
        KeepsRegs s u [RegName.GEN_EPOCH.addr 0, RegName.RST_NVSTAT.addr 0])) ∧
    (s.rst.nvPending = [.wdog] → CompletesVia State.settle .nvWriteDone s (fun u => stored u ∧ u.rdRaw .RST_CAUSE = 32 ∧ u.qmg = {}))

/-- STEWARD_BOOT, PERST_DEASSERT, STANDBY, the wakes and RAILEN_SEQUENCE complete (R567, R568, R569, R570, R571, R587, R589, R590, R622, R637, R646). -/
def Obligations.BootAndWakeRowsComplete : Prop :=
  ∀ s : State, s.Inv →
    (∀ b : BootMedia, s.awake = true → s.rst.steward = false → s.slotOk b.slotA = true → s.slotOk b.slotB = false →
      let ran (u : State) : Prop := u.rst.steward = true ∧ u.rdRaw .GEN_FWVER = b.slotA.version % 2 ^ 32 ∧
        u.fld .SEC_STAT_RUNSLOT = b.slotA.keySlot ∧ u.fld .RST_BOOT_STAGE = 3 ∧ u.rst.site = some b.slotA.site ∧
        (∃ k, u.out = s.out ++ [.flash k 0 [] s.spiClk, .flash k 0x800000 [] s.spiClk] ∧ (k = 0xEC ↔ bitAt s.rst.straps 0 = true) ∧ (k = 0x13 ∨ k = 0xEC)) ∧ KeepsMem s u
      (s.rst.fullBoot = false → s.rst.hostReset = false → CompletesVia (fun u => u.epochGo.settle) (.stewardBoot b) s ran) ∧
      (s.rst.fullBoot = true → s.rst.epoch = .due → s.rst.nvRow = none → CompletesVia State.settle (.stewardBoot b) s (fun u => ran u ∧
        u.rst.nvRow = some ((s.rst.epochLast.1 + 1) % 16, epochRow (s.rst.epochLast.2.1 + 1) ((s.rst.epochLast.2.2 + 1) % 256))))) ∧
    (∀ (row : Nat × List Byte) (site : SiteRec), s.rst.fullBoot = true → s.rst.steward = true → s.rst.epoch = .due → s.rst.site = some site →
      s.rst.nvRow = some row → row.1 < 16 → s.rst.nvPending = [] → mwf s.rst.nv →
      let r := s.settings.getD site
      CompletesVia (fun v => (((v.ownReset true 0).wakeTags).nvStart).settle) .nvWriteDone s (fun v => v.rst.fullBoot = false ∧ v.rst.booted = true ∧
        v.rst.epoch = .loaded ∧ v.ring.filled = true ∧ v.host.winCap = min (2 ^ 48) (site.winCap / 2 ^ 28 * 2 ^ 28) ∧ v.lnk.presets = r.presets ∧
        v.own = r.coord % 2 ^ 20 ∧ v.rdRaw .GEN_SHAPE = (if shapeOk r.shape then r.shape % 2 ^ 32 else 0x01010101) ∧
        v.lck.owed = (numsFrom 0 18).filter (fun x => x != digit r.coord 0) ∧ v.rst.histQ.length = s.rst.histQ.length + 1 ∧ KeepsMem s v)) ∧
    (∀ b : BootMedia, s.awake = true → s.rst.steward = false → s.slotOk b.slotA = false → s.slotOk b.slotB = false →
      CompletesVia State.settle (.stewardBoot b) s (fun u => u.rst.steward = false ∧ u.rdRaw .GEN_FWVER = 0 ∧ u.fld .RST_BOOT_STAGE = 4 ∧ KeepsMem s u)) ∧
    (s.rst.perst = true → (s.rst.power = .run ∨ s.flag .PWR_WAKECFG_PERSTEN = false) →
      exec .perstDeassert s = .next { s with rst := { s.rst with perst := false } }) ∧
    (s.reaches .PWR_CTL 0 → s.rst.power = .run → s.flag .PWR_WAKECFG_SDEN = true →
      (s.flt.safe = true → CompletesVia (fun v => ({ v.fenceTwin with rst := { v.fenceTwin.rst with power := .entering, powerAt := s.tick } } : State).settle)
        .standby s (fun v => v = s)) ∧
      (s.flt.safe = false → CompletesVia (fun v => let w := v.loseWrites
          let x := (w.qmg.wq.foldl (fun t kv => t.suspendSoon kv.1) w).fenceTwin
          ({ x with rst := { x.rst with power := .entering, powerAt := s.tick } } : State).settle) .standby s (fun v => v.flt.safe = true ∧
        v.flag .HIF_STATUS_DMASTOP = true ∧ v.flag .FLT_SAFE_LATCH = true ∧ v.fld .FLT_SAFE_CAUSE = 3))) ∧
    (∀ l, s.rst.power = .standby → s.flag .PWR_WAKECFG_SDEN = true → l < 72 → bitAt (s.fld .PWR_SDMASK_LANES (l / 32)) (l % 32) = true →
      (s.railsDown = false → s.rst.wakeHeld = none → exec (.signalDetectWake l) s =
        .next { s with rst := { s.rst with wakeHeld := some { sig := true, lane := l } } }) ∧
      (s.railsDown = true → s.rst.nvRow = none → Completes (.signalDetectWake l) s (fun t => t.rdRaw .RST_CAUSE = 2 ∧ t.rdRaw .PWR_WAKE = 16 + 64 * l ∧
        t.rst.power = .run ∧ t.rst.rails = [false, false, false, false, false] ∧ t.rst.railUp = true ∧ t.qmg = {} ∧ t.pending = s.pending ∧ KeepsMem s t))) ∧
    (∀ n, n < 4 → bitAt (s.fld .TIM_ALMCTL_EN) n = true → s.now / 2 ^ 20 % 2 ^ 32 = s.fld .TIM_ALARM_AT n →
      mget s.time.fired n ≠ some (s.now / 2 ^ 20) →
      (s.rst.power = .run → CompletesVia (fun u => if bitAt (s.fld .TIM_ALMCTL_WAKE) n then (u.event0 0x52 0 n (s.fld .TIM_ALARM_AT n)).wakeReq { alarms := 2 ^ n }
        else u.event0 0x52 0 n (s.fld .TIM_ALARM_AT n)) (.timeAlarm n) s (fun u =>
        bitAt (u.fld .TIM_ALMCTL_FIRED) n = true ∧ mget u.time.fired n = some (s.now / 2 ^ 20) ∧ KeepsRegs s u [RegName.TIM_ALMCTL.addr 0] ∧ KeepsMem s u)) ∧
      (s.rst.power = .standby → bitAt (s.fld .TIM_ALMCTL_WAKE) n = true → s.railsDown = false → s.rst.wakeHeld = none →
        Completes (.timeAlarm n) s (fun t => t.rst.wakeHeld = some { alarms := 2 ^ n } ∧ bitAt (t.fld .TIM_ALMCTL_FIRED) n = true ∧ KeepsMem s t))) ∧
    (s.rst.railUp = true →
      (s.rst.rails = [false, false, false, false, false] → s.rst.railAt + 1000000 ≤ s.tick → exec .railenSequence s = .next (s.setRails [0] true)) ∧
      (s.rst.rails = [true, false, false, false, false] → s.rst.railAt + 10000000 ≤ s.tick → exec .railenSequence s = .next (s.setRails [1, 2] true)) ∧
      (s.rst.rails = [true, true, true, false, false] → s.rst.railAt + 10000000 ≤ s.tick → exec .railenSequence s = .next (s.setRails [3, 4] true))) ∧
    (s.rst.railUp = false → s.rst.rails = [true, true, true, false, false] → s.rst.railAt + 10000000 ≤ s.tick →
      exec .railenSequence s = .next { s with rst := { s.rst with rails := [true, false, false, false, false], railAt := s.tick } })

/-- PACE_WINDOW, AVS_TRANSACTION_DONE, JUNCTION_HOT, JUNCTION_COOL and HOST_UNCORR complete (R29, R34, R573, R575, R595, R655). -/
def Obligations.SensorAndVoltageRowsComplete : Prop :=
  ∀ s : State, s.Inv →
    (∀ l : List Nat, s.tick < s.rst.paceAt + 1024 → exec (.paceWindow l) s = .next s) ∧
    (∀ l : List Nat, s.rst.power = .run → l ≠ [] → s.rst.paceAt + 1024 ≤ s.tick → CompletesVia (fun u => u.avsAct (l.foldl min 65535)) (.paceWindow l) s (fun u =>
      u.fld .PWR_PACE_PACE = l.foldl min 65535 ∧ (l.foldl min 65535 < 1024 → s.avsRuns = false → u.flag .PWR_FLT_PACE = true) ∧ u.rst.paceAt = s.tick ∧ KeepsMem s u)) ∧
    (∀ mv, s.avsRuns = true → mv < 1024 → Completes (.avsTransactionDone true mv) s (fun t => t.fld .PWR_VCORE_READ = mv ∧ t.rst.avsFails = 0 ∧
      KeepsRegs s t [RegName.PWR_VCORE.addr 0] ∧ KeepsMem s t)) ∧
    (∀ mv, s.avsRuns = true →
      (s.rst.avsFails < 2 → exec (.avsTransactionDone false mv) s = .next { s with rst := { s.rst with avsFails := s.rst.avsFails + 1 } }) ∧
      (2 ≤ s.rst.avsFails → Completes (.avsTransactionDone false mv) s (fun t => t.rst.avsStopped = true ∧ t.flag .PWR_FLT_AVSERR = true ∧
        KeepsRegs s t [RegName.PWR_FLT.addr 0] ∧ KeepsMem s t))) ∧
    (∀ tj, s.rst.power = .run → 880 < tjVal tj → Completes (.junctionHot tj) s (fun t => t.fld .PWR_TEMP_TJ = tj % 4096 ∧ t.flag .PWR_FLT_HOT = true ∧
      t.flt.msgs ≠ [] ∧ KeepsRegs s t [RegName.PWR_TEMP.addr 0, RegName.PWR_FLT.addr 0] ∧ KeepsMem s t)) ∧
    (∀ tj, s.rst.power = .run → tjVal tj < 840 → Completes (.junctionCool tj) s (fun t => t.fld .PWR_TEMP_TJ = tj % 4096 ∧
      KeepsRegs s t [RegName.PWR_TEMP.addr 0] ∧ KeepsMem s t)) ∧
    (∀ st, s.host.dl = true → Completes (.hostUncorr st) s (fun t => t.flag .HIF_FLT_UNCORR = true ∧ t.host.aer = s.host.aer ||| st ∧ t.flt.msgs ≠ [] ∧
      KeepsRegs s t [RegName.HIF_FLT.addr 0] ∧ KeepsMem s t))

/-- NEWCHAL, UNLOCK, FLOOR, REVOKE and FUSE_WRITE_DONE complete (R623, R624, R625, R626). -/
def Obligations.SecurityRowsComplete : Prop :=
  ∀ s : State, s.Inv → s.reaches .SEC_CTL 0 →
    (s.flag .SEC_STAT_LOCKOUT = false → Completes .newchal s (fun t => t.flag .SEC_STAT_CHALVALID = true ∧
      (∀ i, i < 4 → t.rdRaw .SEC_CHAL i = s.sec.uid / 2 ^ (32 * i) % 2 ^ 32) ∧
      (∀ k, k ≠ RegName.SEC_STAT.addr 0 → (∀ i, i < 12 → k ≠ RegName.SEC_CHAL.addr i) → mget t.regs k = mget s.regs k) ∧ KeepsMem s t)) ∧
    (s.flag .SEC_STAT_LOCKOUT = true → exec .newchal s = .next (s.accLog 4 true 0 0 (RegName.SEC_CTL.addr 0))) ∧
    (s.flag .SEC_STAT_CHALVALID = false → CompletesVia State.settle .unlock s (fun u => u.flag .SEC_STAT_CHALVALID = false ∧
      u.flag .SEC_FLT_DENIED = true ∧ u.fld .SEC_DBGCNT_FAILS = min 15 (s.fld .SEC_DBGCNT_FAILS + 1) ∧
      (7 ≤ s.sec.fails → u.flag .SEC_STAT_LOCKOUT = true) ∧ u.flt.msgs ≠ [] ∧
      KeepsRegs s u [RegName.SEC_STAT.addr 0, RegName.SEC_DBGCNT.addr 0, RegName.SEC_FLT.addr 0] ∧ KeepsMem s u)) ∧
    (s.flag .SEC_STAT_CHALVALID = true → s.flt.safe = true → s.mir.twin ≠ .paired →
      CompletesVia State.settle .unlock s (fun u => u.flag .SEC_STAT_CHALVALID = false ∧ u.flt.msgs ≠ [] ∧ KeepsMem s u ∧
        if Config.unlockOk (BitVec.ofNat 384 (s.secWord .SEC_CHAL 12)) (BitVec.ofNat 768 (s.secWord .SEC_RESP 24)) = true then
          u.flag .SEC_STAT_DEBUGOPEN = true ∧ u.flag .SEC_STAT_JTAGLOCK = false ∧ u.dstate = false ∧
          (∀ k, k < 8 → u.flag .HIF_MEMSTAT_KEYED k = false) ∧ u.flag .SEC_FLT_OPENED = true
        else u.flag .SEC_STAT_DEBUGOPEN = s.flag .SEC_STAT_DEBUGOPEN ∧ u.dstate = s.dstate ∧ u.flag .SEC_FLT_DENIED = true ∧
          u.fld .SEC_DBGCNT_FAILS = min 15 (s.fld .SEC_DBGCNT_FAILS + 1))) ∧
    (s.sec.fuse = none → exec .floor s = .next { s with sec := { s.sec with fuse := some (max s.sec.minVer s.sec.runVersion, s.sec.revoked) } }) ∧
    (∀ mask, s.sec.fuse = none → mask ≠ 0 → (s.rst.steward && bitAt mask (s.fld .SEC_STAT_RUNSLOT)) = false →
      (∃ k, k < 4 ∧ bitAt s.sec.present k = true ∧ bitAt (s.sec.revoked ||| mask) k = false) →
      exec (.revoke mask) s = .next { s with sec := { s.sec with fuse := some (s.sec.minVer, s.sec.revoked ||| mask) } }) ∧
    (∀ m r, s.sec.fuse = some (m, r) →
      exec .fuseWriteDone s = .next { s with sec := { s.sec with minVer := m, revoked := r, fuse := none } })

/-- FAULT_INJECT, FAULT_MESSAGE, FAULT_WINDOW_END and FAULT_LOG_WRITE complete (R595, R598, R600, R611). -/
def Obligations.FaultRowsComplete : Prop :=
  ∀ s : State, s.Inv →
    (∀ v, s.reaches .FLT_INJ 0 → v < 2 ^ 32 → kindOk (bits v 28 4 * 4096 + bits v 16 12) (bits v 0 12) = true → heldOf s.flt.msgs (bits v 0 12) < 4 →
      exec (.faultInject v) s = .next { s with flt := { s.flt with msgs := s.flt.msgs ++
        [{ src := bits v 0 12, code := bits v 28 4 * 4096 + bits v 16 12, time := s.now % 2 ^ 32, addr := 0 }] } }) ∧
    (∀ v, s.reaches .FLT_INJ 0 → v < 2 ^ 32 → bits v 16 16 ≠ 0 → kindOk (bits v 28 4 * 4096 + bits v 16 12) (bits v 0 12) = false →
      exec (.faultInject v) s = .next (s.accLog 4 true 0 0 (RegName.FLT_INJ.addr 0))) ∧
    (∀ m, minBy (fun x => s.fullTime x.time * 2 ^ 12 + x.src) s.flt.msgs = some m → slotOf m.src < 548 →
      ∃ level more, CompletesVia (fun v => (v.fltAct m.src level more).settle.timeCheck) .faultMessage s (fun v =>
        v.flt.msgs = s.flt.msgs.erase m ∧ v.fld .FLT_SRCCNT_COUNT (slotOf m.src) = min (2 ^ 32 - 1) (s.fld .FLT_SRCCNT_COUNT (slotOf m.src) + (1 + m.merged)) ∧
        v.fld .FLT_SRCLAST_CODE (slotOf m.src) = m.code % 2 ^ 16 ∧
        (s.flt.logq.length < 64 → ∃ l, v.flt.logq = s.flt.logq ++ [l] ∧ l.msg = m ∧ l.level = level) ∧ KeepsMem s v)) ∧
    (∀ slot, slot < 548 → s.flag .FLT_SRCSTAT_LATCH slot = false →
      mgetD s.flt.win slot 0 < s.now / 2 ^ s.fld .FLT_SRCCFG_WLOG2 slot →
      (∀ m ∈ s.flt.msgs, slotOf m.src = slot → s.now / 2 ^ s.fld .FLT_SRCCFG_WLOG2 slot ≤ s.fullTime m.time / 2 ^ s.fld .FLT_SRCCFG_WLOG2 slot) →
      Completes (.faultWindowEnd slot) s (fun t => t.fld .FLT_SRCSTAT_WINCNT slot = 0 ∧ t.flag .FLT_SRCSTAT_SEVERE slot = false ∧
        mget t.flt.win slot = some (s.now / 2 ^ s.fld .FLT_SRCCFG_WLOG2 slot) ∧ KeepsRegs s t [RegName.FLT_SRCSTAT.addr slot] ∧ KeepsMem s t)) ∧
    (∀ l rest, s.rst.steward = true → s.rst.fullBoot = false → s.flt.logq = l :: rest →
      Completes .faultLogWrite s (fun t => t.flt.logq = rest ∧ t.flt.log = (s.flt.log ++ [(s.flt.logNum, l)]).drop (s.flt.log.length - 255) ∧
        t.flt.logNum = add32 s.flt.logNum 1 ∧ t.regs = s.regs ∧ KeepsMem s t))

/-- RING_FLIT_UE, CRIT_STATE_UE, BW_WINDOW_END and SAFE_STATE_CLEAR complete (R50, R51, R54, R55, R135, R583, R595, R610, R621). -/
def Obligations.ErrorRowsComplete : Prop :=
  ∀ s : State, s.Inv →
    (∀ f : RingFlit,
      let key := pairKey f.src f.dst
      (s.ring.filled = false → ∀ acc, exec (.ringFlitUe f.srcs f.dsts f.words acc) s = .next s.settle) ∧
      (s.ring.filled = true → s.ring.stopped.contains key = false → s.ring.flits.any (fun g => pairKey g.src g.dst == key) = false →
        (f.bad = true → (∀ r, r < 4 → s.flag .FLT_SRCSTAT_SEVERE (slotOf (0x626 + r)) = false) → CompletesVia State.settle (.ringFlitUe f.srcs f.dsts f.words .none) s (fun u =>
          u.flt.msgs ≠ [] ∧ u.regs = s.regs ∧ u.out = s.out ∧ u.ring = s.ring ∧ KeepsMem s u)) ∧
        (∀ id b i, f.bad = true → (∀ r, r < 4 → s.flag .FLT_SRCSTAT_SEVERE (slotOf (0x626 + r)) = false) → s.findItem id = some (b, i) → i.write = false → i.expired = false →
          CompletesVia (fun v => (v.dropItem b id).settle) (.ringFlitUe f.srcs f.dsts f.words (.window id)) s (fun v =>
            ∃ o mid, v.out = o ++ [.cxlData mid (zeros 64) true])) ∧
        (∀ acc, f.bad = false → CompletesVia State.settle (.ringFlitUe f.srcs f.dsts f.words acc) s (fun u =>
          mgetD u.ring.corrected f.dst 0 = mgetD s.ring.corrected f.dst 0 + f.corrected ∧ u.ring.flits = s.ring.flits ∧
          u.regs = s.regs ∧ u.out = s.out ∧ KeepsMem s u)))) ∧
    (∀ k, k < 8 →
      CompletesVia (fun u => u.settle.timeCheck) (.critStateUe (.memCorrected k)) s (fun u =>
        u.fld .HIF_MEMSTAT_CECNT k = min (2 ^ 16 - 1) (s.fld .HIF_MEMSTAT_CECNT k + 1) ∧
        KeepsRegs s u [RegName.HIF_MEMSTAT.addr k] ∧ KeepsMem s u) ∧
      (∀ a, CompletesVia (fun u => u.settle.timeCheck) (.critStateUe (.memUe k a)) s (fun u =>
        u.flag .HIF_MEMSTAT_UEFLT k = true ∧ u.flt.msgs ≠ [] ∧ KeepsRegs s u [RegName.HIF_MEMSTAT.addr k] ∧ KeepsMem s u))) ∧
    (∀ k, CompletesVia (fun u => u.settle.timeCheck) (.critStateUe (.xltEntry k)) s (fun u => u.flag .RST_FLT_CRIT = true ∧
      u.fld .RST_CRITCNT_COUNT = min (2 ^ 32 - 1) (s.fld .RST_CRITCNT_COUNT + 1) ∧ u.xlt.cache = mdel s.xlt.cache k ∧
      KeepsRegs s u [RegName.RST_FLT.addr 0, RegName.RST_CRITCNT.addr 0] ∧ KeepsMem s u)) ∧
    (∀ al i, s.mir.twin ≠ .paired → CompletesVia (fun u => u.settle.timeCheck) (.critStateUe (.lockWord al i)) s (fun u =>
      u.flag .RST_FLT_CRIT = true ∧ (u.lock (tableKey al i)).st = .disabled ∧ (u.lock (tableKey al i)).line = [])) ∧
    (s.pmu.bwAt / 2 ^ s.fld .PMU_BWWIN_LOG2 < s.now / 2 ^ s.fld .PMU_BWWIN_LOG2 →
      Completes .bwWindowEnd s (fun t => t.pmu.bwAt = s.now ∧ (∀ x ∈ s.lnk.ports, (t.port x.1).txFlits = 0 ∧ (t.port x.1).rxFlits = 0 ∧
        (t.port x.1).rpFlits = 0 ∧ (t.port x.1).crStall = 0) ∧ KeepsMem s t)) ∧
    (s.now / 2 ^ s.fld .PMU_BWWIN_LOG2 ≤ s.pmu.bwAt / 2 ^ s.fld .PMU_BWWIN_LOG2 → exec .bwWindowEnd s = .next s) ∧
    (s.reaches .FLT_SAFE 0 → s.flag .FLT_SAFE_LATCH = true → s.safeGone = true →
      (s.flt.safe = false → CompletesVia State.settle .safeStateClear s (fun u => u.flag .FLT_SAFE_LATCH = false ∧
        KeepsRegs s u [RegName.FLT_SAFE.addr 0] ∧ KeepsMem s u)) ∧
      (s.flt.safe = true → s.rst.power = .run → CompletesVia (fun v => (v.lnoticeAll.dmaResume.restartDue.adminRunAll).settle) .safeStateClear s (fun v =>
        v.flt.safe = false ∧ v.flag .FLT_SAFE_LATCH = false ∧ KeepsRegs s v [RegName.FLT_SAFE.addr 0] ∧ KeepsMem s v))) ∧
    (s.reaches .FLT_SAFE 0 → s.flag .FLT_SAFE_LATCH = false → exec .safeStateClear s = .next s)

/-- The rows that train the mirror link complete (R524, R527). -/
def Obligations.MirrorLinkTrainingRowsComplete : Prop :=
  ∀ s : State, s.Inv →
    (s.reaches .MIR_CTL 0 → s.mir.link = 0 → Completes .mirLinkEnable s (fun t => t.mir.link = 1 ∧ t.flag .MIR_CTL_LINKEN = true ∧ t.mir.trainAt = s.tick ∧
      (∀ l, l < 16 → t.flag .MIR_LANE_BAD l = false) ∧ KeepsMem s t)) ∧
    (s.mir.link = 1 → exec .mirClockDetect s = .next { s with mir := { s.mir with link := 2, since := s.tick } }) ∧
    (s.mir.link = 2 → Completes .mirLanesLocked s (fun t => t.mir.link = 3 ∧ t.mir.since = s.tick ∧ (∀ l, l < 16 → t.flag .MIR_LANE_LOCKED l = true) ∧ KeepsMem s t)) ∧
    (s.mir.link = 3 → Completes .mirCommaAligned s (fun t => t.mir.link = 4 ∧ t.mir.since = s.tick ∧ (∀ l, l < 16 → t.flag .MIR_LANE_ALIGNED l = true) ∧ KeepsMem s t)) ∧
    (s.mir.link = 4 → s.mirTuned = true → CompletesVia (fun u => let v := u.mirPump
        if v.hbRecent then v.setFld .GEN_READY_MIR 1 else v) .mirTuneDone s (fun u => u.mir.link = 5 ∧ u.mir.lastAck = s.tick ∧ (∀ l, l < 16 → u.flag .MIR_LANE_INUSE l = true) ∧ KeepsMem s u)) ∧
    (∀ b1 b2 b3, s.mir.link = 4 ∨ s.mirUp = true → bitAt b1 6 ≠ (s.mlane (bits b3 1 4)).reqtog →
      Completes (.mirBackchannelBlock b1 b2 b3) s (fun t => (t.mlane (bits b3 1 4)).reqtog = bitAt b1 6 ∧
        t.fld .MIR_LANE_TAPS (bits b3 1 4) = (mtapStep (bits b1 0 6) [0, 1, 2] (s.fld .MIR_LANE_TAPS (bits b3 1 4)) 0).1 % 2 ^ 18 ∧
        (∃ e, t.out = s.out ++ [e]) ∧ KeepsRegs s t [RegName.MIR_LANE.addr (bits b3 1 4)] ∧ KeepsMem s t)) ∧
    (1 ≤ s.mir.link → s.mir.link ≤ 4 → s.mir.trainAt + 100000000 ≤ s.tick → s.mir.twin ≠ .pairing →
      CompletesVia State.settle .mirTrainTimeout s (fun u => u.mir.link = 7 ∧ u.flag .MIR_FLT_LINKDN = true ∧ u.flag .GEN_READY_MIR = false ∧ u.flt.msgs ≠ [] ∧ KeepsMem s u)) ∧
    (s.mir.link = 7 → s.mir.since + 1000000 ≤ s.tick → Completes .mirDownExpire s (fun t => t.mir.link = 1 ∧ t.mir.trainAt = s.tick ∧ KeepsMem s t))

/-- RECORD, MIR_NAK, MIR_IDLE, MIR_REPLAY_TIMEOUT and the heartbeat rows complete (R525, R526, R527). -/
def Obligations.MirrorFrameRowsComplete : Prop :=
  ∀ s : State, s.Inv →
    (∀ fr : MFrame, s.mirUp = true → s.mir.twin ≠ .taking → s.mir.twin ≠ .solo → fr.crcOk = true →
      (fr.kind = 1 → fr.ackv = false → s.takesRecords = true → fr.seq = s.mirNext →
        CompletesVia State.settle (.record fr) s (fun u => u.mir.rxSeq = fr.seq ∧ u.mir.rxAny = true ∧ u.mir.nakSent = false ∧
          u.out = s.out ++ [.mirror ({ kind := 0, seq := 0, ackseq := fr.seq, ackv := true, recs := [], hb := [] } : MFrame).seal] ∧
          u.fld .MIR_RXREC_COUNT = min (2 ^ 32 - 1) (s.fld .MIR_RXREC_COUNT + fr.recs.length) ∧ KeepsMem s u)) ∧
      (fr.kind = 2 → fr.ackv = false →
        CompletesVia State.settle (.mirNak fr) s (fun u => u.out = s.out ++ s.mir.unacked.map (fun x => .mirror (s.mframe 1 x.seq x.recs [])) ∧
          u.mir.lastAck = s.tick ∧ u.fld .MIR_REPLAY_NAKRPL = min (2 ^ 16 - 1) (s.fld .MIR_REPLAY_NAKRPL + 1) ∧ KeepsMem s u)) ∧
      (fr.kind = 3 → fr.ackv = false → fr.cfg = none → bits (leAt fr.hb 0 4) 0 20 ≠ s.own → sameCell (bits (leAt fr.hb 0 4) 0 20) s.own = true →
        CompletesVia State.settle (.heartbeat fr) s (fun u => u.mir.lastHb = some s.tick ∧ u.flag .GEN_READY_MIR = true ∧
          KeepsRegs s u [RegName.GEN_READY.addr 0] ∧ KeepsMem s u)) ∧
      (∀ l x, fr.kind = 0 → fr.ackv = true → s.mir.unacked = l ++ [x] → x.seq = fr.ackseq → (∀ y ∈ l, y.seq ≠ fr.ackseq) → s.mir.queue = [] → s.mir.waits = [] →
        CompletesVia State.settle (.mirIdle fr) s (fun u => u.mir.unacked = [] ∧ u.mir.lastAck = s.tick ∧ u.mir.toCount = 0 ∧ u.regs = s.regs ∧ KeepsMem s u))) ∧
    (s.mirUp = true → s.mir.unacked ≠ [] → s.mir.lastAck + 2000 ≤ s.tick → s.mir.toCount < 15 →
      Completes .mirReplayTimeout s (fun t => t.out = s.out ++ s.mir.unacked.map (fun x => .mirror (s.mframe 1 x.seq x.recs [])) ∧
        t.mir.toCount = s.mir.toCount + 1 ∧ t.mir.lastAck = s.tick ∧ KeepsRegs s t [RegName.MIR_REPLAY.addr 0] ∧ KeepsMem s t)) ∧
    (s.now % 10000 = 0 → s.mir.hbSent ≠ some s.now → Completes .heartbeatSend s (fun t => t.mir.hbSent = some s.now ∧
      (s.mirUp = true → t.mir.hbCount = add32 s.mir.hbCount 1 ∧ t.out = s.out ++ [.mirror { s.mframe 3 0 [] s.hbBytes with cfg := s.mir.cfg }]) ∧
      KeepsRegs s t [RegName.MIR_HBLATE.addr 0] ∧ KeepsMem s t)) ∧
    (∀ t0, s.mir.lastHb = some t0 → t0 + 30000 ≤ s.tick → Completes .mirReadyTimeout s (fun t => t.flag .GEN_READY_MIR = false ∧
      KeepsRegs s t [RegName.GEN_READY.addr 0] ∧ KeepsMem s t))

/-- UNPAIR, UNPAIR_FRAME, PAIRING_COMPLETE, TWIN_CONFIG_TIMEOUT, TWIN_ISOLATE and RELEASE complete (R532, R533, R534, R537, R549). -/
def Obligations.PairRowsComplete : Prop :=
  ∀ s : State, s.Inv → s.mir.waits = [] →
    (s.reaches .MIR_CTL 0 → s.mir.twin = .paired → CompletesVia State.settle .unpair s (fun u => u.mir.twin = .unpaired ∧ u.mir.shadow = {} ∧
      u.mir.cfg = none ∧ u.regs = s.regs ∧ KeepsMem s u)) ∧
    (s.reaches .MIR_CTL 0 → s.mir.twin = .unpaired → exec .unpair s = .next (s.accLog 4 true 0 0 (RegName.MIR_CTL.addr 0)).settle) ∧
    (∀ fr : MFrame, s.mirUp = true → s.mir.twin = .paired → fr.crcOk = true → fr.kind = 5 → fr.ackv = false →
      CompletesVia State.settle (.unpairFrame fr) s (fun u => u.mir.twin = .unpaired ∧ u.mir.shadow = {} ∧ u.mir.cfg = none ∧ u.regs = s.regs ∧ KeepsMem s u)) ∧
    (∀ q, s.mir.copySeq = some q → s.mir.twin = .pairing → s.mir.copyRx = true → s.mirOpen q = false →
      CompletesVia (fun v => (v.watchTwin.event0 0x40 s.hostMode s.twinCoord 0).endB (fun b => b.op == 0x40) 0) .pairingComplete s
        (fun v => v.mir.twin = .paired ∧ v.mir.copySeq = none ∧ v.regs = s.regs ∧ KeepsMem s v)) ∧
    (∀ t0, s.mir.cmdAt = some t0 → t0 + 1000000000 ≤ s.tick →
      CompletesVia (fun v => (v.endB (fun b => b.op == 0x40) sTimeout 0).settle) .twinConfigTimeout s
        (fun v => v.mir.twin = .unpaired ∧ v.mir.cmdAt = none ∧ v.mir.cfg = none ∧ v.regs = s.regs ∧ KeepsMem s v)) ∧
    (s.mir.twin = .paired → s.hbMissed = true → s.mir.d0Down = none →
      CompletesVia (fun v => ((v.event0 0x42 0 s.twinCoord 0).raise 0x61B 0x5004 s.twinCoord).settle) .twinIsolate s
        (fun v => v.mir.twin = .isolated ∧ v.flag .MIR_FLT_LINKLOST = true ∧ KeepsRegs s v [RegName.MIR_FLT.addr 0] ∧ KeepsMem s v)) ∧
    (s.reaches .MIR_CTL 0 → s.mir.twin = .solo → digit s.alias_ 0 < 18 →
      CompletesVia (fun v => ((v.sendAlias (digit s.alias_ 0) false).unpaired.event0 0x44 0 s.alias_ 0).settle) .release s
        (fun v => v.alias_ = nullCoord ∧ v.flag .RTE_ALIAS_VALID (digit s.alias_ 0) = false ∧ (∀ x ∈ v.tgt.regions, x.1 < 2 ^ 24 ∨ x.2.revoke.isSome = true) ∧
          (∀ x ∈ v.lck.words, x.1 < 2 ^ 24) ∧ v.rte.annSet = some false ∧ KeepsMem s v))

/-- HANDOVER, HANDOVER_FRAME, HANDOVER_REPEAT, TWIN_FAIL_DECLARE, TAKEOVER_COMPLETE and FENCE_WINDOW_EXPIRE complete (R536, R538, R540, R543, R547). -/
def Obligations.TakeoverAndFenceRowsComplete : Prop :=
  ∀ s : State, s.Inv → s.mir.waits = [] →
    (∀ (p : TwinParams) (fr : MFrame), s.mir.twin = .paired → s.mir.cfg = some p → p.coord < 2 ^ 20 → digit p.coord 0 < 18 → fr.crcOk = true → fr.kind = 4 → fr.ackv = false → s.mirUp = true → s.dstate = true →
      CompletesVia (fun v => (s.takeoverRest p.coord v).settle) (.handoverFrame fr) s (fun v => s.takenOver p.coord v ∧ v.mir.takeSub = 1)) ∧
    (∀ (p : TwinParams) t0, s.mir.twin = .paired → s.dstate = true → s.mir.cfg = some p → p.coord < 2 ^ 20 → digit p.coord 0 < 18 → s.mir.d0Down = some t0 → s.hbMissed = true →
      t0 + s.fld .MIR_GUARD_GUARD ≤ s.tick →
      CompletesVia (fun v => (s.takeoverRest p.coord v).settle) .twinFailDeclare s (fun v => s.takenOver p.coord v ∧ v.mir.takeSub = 0)) ∧
    (s.mir.twin = .taking → CompletesVia (fun v => v.eventAt 0 0x41 s.mir.takeSub s.alias_ s.mir.installed s.mir.aliasAt) .takeoverComplete s
      (fun v => v.mir.twin = .solo ∧ v.regs = s.regs ∧ v.out = s.out ∧ KeepsMem s v)) ∧
    (s.reaches .MIR_CTL 0 → s.mir.twin = .paired → s.flt.safe = true →
      CompletesVia State.settle .handover s (fun u => u.mir.twin = .fenced ∧ u.flag .MIR_FLT_FENCED = true ∧ u.mir.handAt = s.tick ∧
        KeepsRegs s u [RegName.MIR_FLT.addr 0] ∧ KeepsMem s u)) ∧
    (s.reaches .MIR_CTL 0 → s.mir.twin = .paired → s.flt.safe = false →
      CompletesVia (fun v => let w := v.loseWrites
          (w.qmg.wq.foldl (fun t kv => t.suspendSoon kv.1) w).fenceTwin.settle) .handover s (fun v => v.flt.safe = true ∧ v.flag .HIF_STATUS_DMASTOP = true ∧ v.flag .FLT_SAFE_LATCH = true ∧ v.fld .FLT_SAFE_CAUSE = 0)) ∧
    (∀ t0, s.mir.noD0 = some t0 → s.mir.twin = .paired → t0 + s.fld .MIR_FENCEWIN_WIN ≤ s.tick → s.flt.safe = true →
      CompletesVia State.settle .fenceWindowExpire s (fun u => u.mir.twin = .fenced ∧ u.flag .MIR_FLT_FENCED = true ∧ u.mir.handAt = s.tick ∧
        KeepsRegs s u [RegName.MIR_FLT.addr 0] ∧ KeepsMem s u)) ∧
    (s.mir.twin = .fenced → s.mirUp = true → s.mir.handAt + 1000 ≤ s.tick →
      exec .handoverRepeat s = .next { s with out := s.out ++ [.mirror (s.mframe 4 0 [] [])], mir := { s.mir with handAt := s.tick } })

/-- A row of one descriptor issues the entry at the published head of its queue (R67, R153, R157, R158, R192, R193, R194, R251, R253, R389, R404, R419). -/
def Obligations.DescriptorRowsIssue : Prop :=
  ∀ (s : State) (e q : Nat) (d : Raw), s.Inv →
    let kr := (s.wq q).kr
    let c := (s.wq q).head
    let pst := s.pisteFor d
    (s.mayIssue e q d 0x00 → (d.sig = true → s.cqReady (s.wq q).cq = true) →
      CompletesVia (fun v => s.turnRest q (v.finish q (s.newDesc q d 0 0 e kr) 0)) (.nop q d) s (s.issued q (s.newDesc q d 0 0 e kr))) ∧
    (s.mayIssue e q d 0x01 → payloadLen d = 0 → putPackets d kr d.inlineBytes ≠ [] →
      CompletesVia (fun v => (s.turnRest q (v.sendAll q c pst false false (putPackets d kr d.inlineBytes))).settle) (.put q d) s
        (s.issued q (s.newDesc q d (putPackets d kr d.inlineBytes).length 0 e kr))) ∧
    (s.mayIssue e q d 0x02 → CompletesVia (fun v => (s.turnRest q (v.sendAll q c pst false false (getPackets d kr))).settle) (.get q d) s
        (s.issued q (s.newDesc q d ((getPackets d kr).map (fun k => (getPieces k).length)).sum 0 e kr))) ∧
    (s.mayIssue e q d 0x03 → payloadLen d = 0 → (∀ m, sendPackets d m d.inlineBytes ≠ []) →
      CompletesVia (fun v => (s.turnRest q (v.sendAll q c pst false true (sendPackets d (v.freeTag.getD 0) d.inlineBytes))).settle) (.send q d) s
        (s.issued q (s.newDesc q d (sendPackets d 0 d.inlineBytes).length 0 e kr))) ∧
    (s.mayIssue e q d 0x04 → CompletesVia (fun v => (s.turnRest q (v.recvPlace
        { q := q, cnt := c, sig := d.sig, tag := d.op0, mask := d.op1, src := d.dest, laddr := d.laddr, cap := d.len, kr := kr,
          func := s.wqOwner q, asid := (s.wq q).asid })).settle) (.recv q d) s (s.issued q (s.newDesc q d 1 0 e kr))) ∧
    (∀ x ∈ [(0x10, Instr.fadd64 q d), (0x11, .swap64 q d), (0x12, .cas64 q d), (0x14, .fadd128 q d), (0x15, .swap128 q d)], s.mayIssue e q d x.1 →
      CompletesVia (fun v => (s.turnRest q (v.sendAll q c pst true true [atomicPacket d kr []])).settle) x.2 s
        (s.issued q (s.newDesc q d 1 0 e kr))) ∧
    (s.mayIssue e q d 0x18 → s.counterOf d = none →
      CompletesVia (fun v => (s.turnRest q (v.sendAll q c none true true [atomicPacket d kr []])).settle) (.cfadd64 q d) s
        (s.issued q (s.newDesc q d 1 0 e kr))) ∧
    (∀ k, s.mayIssue e q d 0x18 → s.counterOf d = some k →
      CompletesVia (fun v => (s.turnRest q (v.sendAll q c none true true [{ dest := s.own, ptype := 0x0A, tclass := d.tclass, ext := extColl k 3 false 0 (s.ctx k).setupId 0 0 0, payload := leBytes 8 d.op0 }])).settle) (.cfadd64 q d) s
        (s.issued q (s.newDesc q d 1 0 e kr))) ∧
    (∀ k, s.mayIssue e q d 0x21 → s.collFor q d = some k →
      CompletesVia (fun v => (s.turnRest q (v.collIssue k q c { value := leBytes 8 (b2n (bitAt d.op0 0)), noCount := if bitAt d.op0 0 then 0 else 1, novoters := if bitAt d.op0 0 then [] else [s.own] })).settle) (.collVote q d) s (s.issued q (s.newDesc q d 1 0 e kr))) ∧
    (∀ k, s.mayIssue e q d 0x22 → s.collFor q d = some k →
      CompletesVia (fun v => (s.turnRest q (v.collIssue k q c {})).settle) (.collBarrier q d) s (s.issued q (s.newDesc q d 1 0 e kr))) ∧
    (∀ x ∈ [(0x30, Instr.lockAcquire q d), (0x31, .lockTry q d), (0x32, .lockRelease q d)], s.mayIssue e q d x.1 →
      CompletesVia (fun v => (s.turnRest q (v.sendAll q c none true true [{ dest := d.dest, ptype := 0x08, sub := d.opcode - 0x30, tclass := d.tclass, ext := extLock (d.key % 2 ^ 24) q (s.wqOwner q) c }])).settle) x.2 s
        (fun v => s.issued q (s.newDesc q d 1 0 e kr) v ∧
          (d.opcode = 0x30 → ∃ n, mget v.lck.recs n = some { home := d.dest, lock := d.key % 2 ^ 24, q := q, cnt := c }))) ∧
    (∀ x ∈ [(0x01, Instr.put q d), (0x03, .send q d), (0x16, .cas128 q d), (0x20, .collReduce q d)], s.mayIssue e q d x.1 → payloadLen d ≠ 0 →
      let r := (s.headTurn e q d).xlate (.payload q) (s.wqOwner q) (s.wq q).asid d.laddr (payloadLen d) false false kr []
      (r.2.wait = false → r.2.segs ≠ [] → CompletesVia State.settle x.2 s (fun u => (u.wq q).head = c ∧ KeepsMem s u ∧
        ∃ t, (u.wq q).turn = some t ∧ t.wait = .payload ∧ t.kr = kr ∧ t.segs = r.2.segs ∧ t.fail = r.2.fail)) ∧
      (r.2.wait = true → CompletesVia State.settle x.2 s (fun u => (u.wq q).head = c ∧ KeepsMem s u ∧
        ∃ t, (u.wq q).turn = some t ∧ t.wait = .walk ∧ t.kr = kr)))

/-- A row of one descriptor whose entry is in error, must wait, or completes before anything is sent (R80, R154, R157, R244, R263, R388, R390, R405, R421, R530, R668). -/
def Obligations.DescriptorRowsThatDoNotIssue : Prop :=
  ∀ (s : State) (e q : Nat) (d : Raw), s.Inv →
    let kr := (s.wq q).kr
    let c := (s.wq q).head
    let fin (x : Instr) (t : State) : State := if x = .nop q d then t else t.settle
    let stops (v : State) (st : Nat) : State := v.finish q (s.newDesc q d 0 st e kr) st
    ∀ x ∈ [(0x00, Instr.nop q d), (0x01, .put q d), (0x02, .get q d), (0x03, .send q d), (0x04, .recv q d), (0x10, .fadd64 q d),
        (0x11, .swap64 q d), (0x12, .cas64 q d), (0x14, .fadd128 q d), (0x15, .swap128 q d), (0x16, .cas128 q d), (0x18, .cfadd64 q d),
        (0x20, .collReduce q d), (0x21, .collVote q d), (0x22, .collBarrier q d), (0x30, .lockAcquire q d), (0x31, .lockTry q d),
        (0x32, .lockRelease q d)],
      (s.mayStart e q d x.1 → s.mirWq q = true → CompletesVia (fun v => fin x.2 (v.whenProtected (.turn q) (fun t => t.turnGo q))) x.2 s (fun v =>
        (v.wq q).head = c ∧ (v.wq q).reserved = add32 c 1 ∧ (v.wq q).turn = some { engine := e, left := 1, wait := .protect } ∧ KeepsMem s v)) ∧
      (s.mayStart e q d x.1 → s.mayBoundary q → d.malformed (s.noPiste q d) ≠ 0 →
        CompletesVia (fun v => fin x.2 (s.turnRest q ((v.wqError q (d.malformed (s.noPiste q d)) c).runWaitCmds q))) x.2 s (fun v =>
          (v.wq q).head = c ∧ (v.wq q).outst = (s.wq q).outst ∧ KeepsMem s v)) ∧
      (s.mayProcess e q d x.1 → ∀ p, s.issueWait q d = some p →
        CompletesVia (fun v => fin x.2 (s.turnRest q (v.endTurn q))) x.2 s (fun v =>
          (v.wq q).head = c ∧ (v.wq q).outst = (s.wq q).outst ∧ (p, q) ∈ v.qmg.parked ∧ KeepsMem s v)) ∧
      (s.mayProcess e q d x.1 → s.entryWait q d = none → s.cqReady (s.wq q).cq = true →
        (s.badDest d = true → CompletesVia (fun v => fin x.2 (s.turnRest q (stops v cDestInvalid))) x.2 s
          (s.issued q (s.newDesc q d 0 cDestInvalid e kr))) ∧
        (s.badDest d = false → s.badContext q d = true → CompletesVia (fun v => fin x.2 (s.turnRest q (stops v cKeyInvalid))) x.2 s
          (s.issued q (s.newDesc q d 0 cKeyInvalid e kr))))

/-- PAYLOAD_READ_DONE issues the entry whose payload it brings, or ends it with LOCAL_DMA (R157, R158, R162, R350, R361, R376, R389). -/
def Obligations.PayloadReadDoneIssues : Prop :=
  ∀ (s : State) (q : Nat) (t : Turn) (raw : Raw) (at_ : Nat) (rd : ReadStatus), s.Inv → (s.wq q).turn = some t → t.wait = .payload →
    (s.wq q).copy (s.wq q).head = some (raw, at_) → (∀ x ∈ (s.wq q).outst, x.cnt ≠ (s.wq q).head) →
    let c := (s.wq q).head
    let data := s.readSegs t.segs
    let st := match t.fail with | some k => localStatus k | none => 0
    (rd = .ok → s.issueWait q raw = none → ((s.wq q).kr = t.kr ∨ t.fail = some xWalkBus) →
      (raw.opcode = 0x01 → putPackets raw t.kr data ≠ [] →
        CompletesVia (fun v => ((v.sendAll q c (s.pisteFor raw) false false (putPackets raw t.kr data)).turnRun q).settle) (.payloadReadDone q rd) s
          (s.issued q (s.newDesc q raw (putPackets raw t.kr data).length st t.engine t.kr))) ∧
      (raw.opcode = 0x03 → (∀ m, sendPackets raw m data ≠ []) →
        CompletesVia (fun v => ((v.sendAll q c (s.pisteFor raw) false true (sendPackets raw (v.freeTag.getD 0) data)).turnRun q).settle) (.payloadReadDone q rd) s
          (s.issued q (s.newDesc q raw (sendPackets raw 0 data).length st t.engine t.kr))) ∧
      (raw.opcode = 0x16 → t.fail = none →
        CompletesVia (fun v => ((v.sendAll q c (s.pisteFor raw) true true [atomicPacket raw t.kr data]).turnRun q).settle) (.payloadReadDone q rd) s
          (s.issued q (s.newDesc q raw 1 0 t.engine t.kr))) ∧
      (∀ k, raw.opcode = 0x20 → t.fail = none → s.collFor q raw = some k →
        CompletesVia (fun v => ((v.collIssue k q c { value := data }).turnRun q).settle) (.payloadReadDone q rd) s
          (s.issued q (s.newDesc q raw 1 0 t.engine t.kr)))) ∧
    (rd = .ok → s.issueWait q raw = none → (s.wq q).kr ≠ t.kr → t.fail ≠ some xWalkBus →
      let r := (s.xlate (.payload q) (s.wqOwner q) (s.wq q).asid raw.laddr (payloadLen raw) false false (s.wq q).kr []).2
      r.wait = false → r.segs ≠ [] → CompletesVia (fun v => (v.turnRun q).settle) (.payloadReadDone q rd) s (fun v => (v.wq q).head = c ∧ KeepsMem s v ∧
        ∃ u, (v.wq q).turn = some u ∧ u.wait = .payload ∧ u.kr = (s.wq q).kr ∧ u.segs = r.segs ∧ u.fail = r.fail)) ∧
    (rd ≠ .ok → s.entryWait q raw = none → s.cqReady (s.wq q).cq = true →
      CompletesVia (fun v => ((v.finish q (s.newDesc q raw 0 cLocalDma t.engine (s.wq q).kr) cLocalDma).turnRun q).settle) (.payloadReadDone q rd) s
        (s.issued q (s.newDesc q raw 0 cLocalDma t.engine (s.wq q).kr)))

/-- TURN, STEAL, TARGET_TURN, DESCRIPTOR_FETCH_DONE and SHAPER_REFILL complete (R36, R42, R43, R46, R48, R155, R186, R187, R530, R673). -/
def Obligations.EngineRowsComplete : Prop :=
  ∀ s : State, s.Inv →
    (∀ e q t, s.runList e = .wq q :: t → s.engineIdle e = true → s.mayServe q →
      (s.mirWq q = false → (s.wq q).copy (s.wq q).head = none → (s.wq q).failed.contains (s.wq q).head = false →
        CompletesVia State.settle (.turn e) s (fun u => (u.wq q).turn = some { engine := e, left := (s.wq q).quantum, wait := .fetch } ∧
          (u.wq q).head = (s.wq q).head ∧ KeepsCounted s u [] ∧ KeepsMem s u)) ∧
      (∀ raw a, s.mirWq q = false → (s.wq q).copy (s.wq q).head = some (raw, a) → raw.mark = markOf (s.wq q).log2 (s.wq q).head →
        CompletesVia (fun v => (v.turnRun q).settle) (.turn e) s (fun v => (v.wq q).turn = some { engine := e, left := (s.wq q).quantum } ∧
          (v.wq q).head = (s.wq q).head ∧ KeepsCounted s v [] ∧ KeepsMem s v)) ∧
      (s.mirWq q = true →
        CompletesVia (fun v => (v.whenProtected (.turn q) (fun u => u.turnGo q)).settle) (.turn e) s (fun v =>
          (v.wq q).turn = some { engine := e, left := (s.wq q).quantum, wait := .protect } ∧
          (v.wq q).reserved = add32 (s.wq q).head (s.wq q).quantum ∧ (v.wq q).head = (s.wq q).head ∧ KeepsMem s v))) ∧
    (∀ e v q rd, v < 288 → s.engineIdle e = true → s.runList e = [] → s.victim (e / 16) = some v → (s.runList v).getLast? = some (.wq q) →
      s.mayServe q → s.mirWq q = false → (s.wq q).copy (s.wq q).head = none → (s.wq q).failed.contains (s.wq q).head = false →
      CompletesVia State.settle (.steal e rd) s (fun u => (u.wq q).turn = some { engine := e, left := (s.wq q).quantum, wait := .fetch } ∧
        (e ≠ v → u.fld .ENG_STEAL_COUNT e = min (2 ^ 32 - 1) (s.fld .ENG_STEAL_COUNT e + 1) ∧
          u.fld .ENG_STOLEN_COUNT v = min (2 ^ 32 - 1) (s.fld .ENG_STOLEN_COUNT v + 1)) ∧
        KeepsCounted s u [RegName.ENG_STEAL.addr e, RegName.ENG_STOLEN.addr v] ∧ KeepsMem s u)) ∧
    (∀ e c t r rest rd, s.runList e = .tctx c :: t → s.engineIdle e = true → s.noExec = false → s.tctxBusy c = false →
      mgetD s.tgt.tctx c [] = r :: rest → (r.loc = true → s.unitReset r.pkt.ptype = false) → (r.loc = false → s.respFull = false) →
      CompletesVia (fun v =>
        let u := serveTctx e c rd 15 ((v.takeReq c { r with rd := rd, eng := e } rest).turnHeld c 15)
        (if u.tctxBusy c || mgetD u.tgt.tctx c [] == [] then u else u.enqueue (.tctx c)).settle) (.targetTurn e rd) s
        (fun v => v.tgt = s.tgt ∧ v.runList e = t ∧ KeepsCounted s v [] ∧ KeepsMem s v)) ∧
    (∀ e w t rd, s.runList e = .winq w :: t → s.engineIdle e = true →
      exec (.targetTurn e rd) s = .next ((s.setRun e t).turnWinq e w).settle) ∧
    (∀ q cnt, (s.wq q).fetching.contains cnt = true →
      let copied (v : State) : Prop := (v.wq q).fetched = (s.wq q).fetched ++ [(cnt, Raw.ofBytes (s.read ((s.wq q).slot cnt) 64), s.now)] ∧
        (v.wq q).fetching.contains cnt = false ∧ (v.wq q).head = (s.wq q).head ∧ v.regs = s.regs ∧ KeepsMem s v
      ((∀ t, (s.wq q).turn = some t → t.wait ≠ .fetch ∨ cnt ≠ (s.wq q).head) → Completes (.descriptorFetchDone q cnt .ok) s copied) ∧
      (∀ t, (s.wq q).turn = some t → t.wait = .fetch → cnt = (s.wq q).head →
        CompletesVia (fun v => (v.turnRun q).settle) (.descriptorFetchDone q cnt .ok) s (fun v => copied v ∧ (v.wq q).turn = some { t with wait := .none }))) ∧
    (s.now % 1024 = 0 → Completes .shaperRefill s (fun t => (∀ q, mget t.qmg.wq q = (mget s.qmg.wq q).map WQ.refill) ∧
      (∀ q, (Park.shaper, q) ∈ s.qmg.parked → 0 < (t.wq q).credit → (Park.shaper, q) ∉ t.qmg.parked) ∧ (∀ p ∈ t.qmg.parked, p ∈ s.qmg.parked) ∧
      (s.flag .QMG_SMPSEL_EN = false → t.regs = s.regs) ∧
      KeepsRegs s t [RegName.QMG_SMP0.addr 0, RegName.QMG_SMP1.addr 0, RegName.QMG_SMP2.addr 0, RegName.QMG_SMP3.addr 0] ∧ KeepsMem s t)) ∧
    (s.now % 1024 ≠ 0 → exec .shaperRefill s = .next s)

/-- PUT, GET, atomic, window-read and window-write packets execute at their home, and a request behind others waits (R46, R67, R193, R195, R198, R201, R210, R227, R229, R312, R462, R513). -/
def Obligations.RegionRequestRowsComplete : Prop :=
  ∀ (s0 s : State) (r0 : Req) (e : Nat), s0.Inv →
    (∀ x ∈ requestRows r0, x.1 = true → s0.receives r0 →
      (s0.noExec = true ∨ s0.tctxBusy (tctxOf r0.pkt) = true ∨ mgetD s0.tgt.tctx (tctxOf r0.pkt) [] ≠ [] ∨ (r0.loc = false ∧ s0.respFull = true)) →
      exec x.2 s0 = .next (s0.targetWait r0)) ∧
    (∀ x ∈ requestRows r0, x.1 = true → s0.receives r0 → s0.noExec = false → s0.tctxBusy (tctxOf r0.pkt) = false →
      mgetD s0.tgt.tctx (tctxOf r0.pkt) [] = [] → (r0.loc = true ∨ s0.respFull = false) → s0.anyCluster = false → s0.tooOld r0 = false →
      exec x.2 s0 = .next (s0.answer r0 cNotReady).settle) ∧
    (∀ x ∈ requestRows r0, x.1 = true → s0.isLocal r0.pkt.dest = true → r0.rx ≤ s0.tick → r0.pkt.legal = false → r0.port < 72 → r0.loc = false →
      exec x.2 s0 = .next (s0.bump .FLK_PLINK_BADPKT r0.port)) ∧
    (s0.takes r0 e s →
      let r : Req := { r0 with eng := e }
      let a := s.access r
      let rk := s.rkey r r.pkt.key
      let g := s.region rk
      let x := (s.homeXlate r).2
      let known : Prop := x.wait = false ∧ x.fail = none ∧ s.dmaStop = false
      let rows := [(0x01, Instr.putPacket r0), (0x02, .getPacket r0), (0x05, .wrdPacket r0)] ++
        (if r.pkt.atomicOk then [(0x03, .atomicPacket r0)] else []) ++ [(0x06, .wwrPacket r0)]
      (∀ i ∈ rows, r.pkt.ptype = i.1 → s.firstCopy r →
        ((s.checkKey r r.pkt.key).2 ≠ 0 → exec i.2 s0 = .next ((s.checkKey r r.pkt.key).1.answer r (s.checkKey r r.pkt.key).2).settle) ∧
        ((s.checkKey r r.pkt.key).2 = 0 → g.permits r.pkt = false → exec i.2 s0 = .next (s.answer r cRightsDenied).settle) ∧
        ((s.checkKey r r.pkt.key).2 = 0 → g.permits r.pkt = true → g.size < r.pkt.offset + r.pkt.opLen →
          exec i.2 s0 = .next (s.answer r cOffsetRange).settle)) ∧
      (s.grantsKey r →
        (known → r.pkt.ptype = 0x01 → CompletesVia (fun v => (v.homeWrite (s.reqAlias r) rk (a.off / 4096) (g.right 4) { req := r }).settle) (.putPacket r0) s0
          (fun v => ∀ b, v.byte b = (writeSegs x.segs r.pkt.payload s).byte b)) ∧
        (known → r.pkt.ptype = 0x02 → r.rd = .ok →
          CompletesVia (fun v => (v.getAnswers r a.off (s.readSegs x.segs)).settle) (.getPacket r0) s0 (KeepsMem s)) ∧
        (known → r.pkt.ptype = 0x03 → r.rd = .ok → s.firstCopy r → r.pkt.atomicOk = true →
          let old := leNat (s.readSegs x.segs)
          let new := atomicNew r.pkt.sub old r.pkt.payload
          CompletesVia (fun v => (v.homeWrite (s.reqAlias r) rk (a.off / 4096) (g.right 4) { req := r, d0 := old % 2 ^ 64, d1 := old / 2 ^ 64, res := true }).settle)
            (.atomicPacket r0) s0 (fun v => (∀ b, v.byte b = (if new = old then s else writeSegs x.segs (leBytes a.n new) s).byte b) ∧
              (r.loc = false → mget v.tgt.dup r.pkt.rid.packed = some { pending := true, d0 := old % 2 ^ 64, d1 := old / 2 ^ 64, expire := r.expire }))) ∧
        (r.pkt.ptype = 0x05 → x.wait = false → x.fail = none → (r.pkt.nodata = false → r.rd = .ok) →
          CompletesVia (fun v =>
            let e := if r.pkt.leasereq then v.grant (s.reqAlias r) rk (a.off / 4096) r.pkt.src g.st else (0, v)
            (e.2.answer r 0 (extRes e.1 0) (if r.pkt.nodata then [] else s.readSegs x.segs)).settle) (.wrdPacket r0) s0 (KeepsMem s)) ∧
        (known → r.pkt.ptype = 0x06 → s.firstCopy r →
          CompletesVia (fun v => (v.homeWrite (s.reqAlias r) rk (a.off / 4096) (g.right 4) { req := r }).settle) (.wwrPacket r0) s0
          (fun v => (∀ b, v.byte b = (writeSegs x.segs (maskBytes r.pkt.bytemask (s.readSegs x.segs) r.pkt.payload) s).byte b) ∧
            (r.loc = false → mget v.tgt.dup r.pkt.rid.packed = some { pending := true, expire := r.expire })))))

/-- Message packets, invalidations, lock operations and grants execute at their target (R264, R265, R267, R319, R420, R423, R425, R429). -/
def Obligations.MessageAndLockRequestRowsComplete : Prop :=
  ∀ (s0 s : State) (r0 : Req) (e : Nat), s0.Inv → s0.takes r0 e s →
    let r : Req := { r0 with eng := e }
    (r.pkt.ptype = 0x04 → s.firstMessage r →
      let hit := s.msg.posted.find? (fun x => x.q == rqOf r.pkt.mtag && x.matches_ r.pkt.mtag r.pkt.src)
      let tot := if r.pkt.last then some r.pkt.total else none
      (hit = none → s.headersUsed < 262144 → s.slotsUsed < 524288 →
        CompletesVia (fun v => ((v.answer r 0).msgSettle s.msg.next).settle) (.sendPacket r0) s0 (fun v =>
          (∃ c ∈ v.msg.ctxs, c.id = r.pkt.mid ∧ c.set = [r.pkt.index] ∧ c.store = [(r.pkt.index, r.pkt.payload)] ∧ c.recv = none ∧
            c.total = tot ∧ c.deadline = r.expire) ∧ KeepsMem s v)) ∧
      (∀ y, hit = some y → s.dmaStop = false →
        let b := kept y.cap r.pkt.index r.pkt.payload
        let x := (s.xlate (.message r) y.func y.asid (y.laddr + 512 * r.pkt.index) b.length true false y.kr []).2
        (b ≠ [] → x.wait = false ∧ x.fail = none) →
        CompletesVia (fun v => ((v.answer r 0).msgSettle s.msg.next).settle) (.sendPacket r0) s0 (fun v =>
          (∃ c ∈ v.msg.ctxs, c.id = r.pkt.mid ∧ c.set = [r.pkt.index] ∧ c.recv = some y ∧ c.total = tot ∧ c.deadline = r.expire) ∧
          (∀ i, v.byte i = (if b = [] then s else writeSegs x.segs b s).byte i)))) ∧
    (r.pkt.ptype = 0x07 → CompletesVia (fun v => (v.answer r 0).settle) (.linvPacket r0) s0 (fun v =>
      (∀ f ∈ v.win.frames, ¬ (f.1 % 2 ^ 68 = gblock 0 r.pkt.invIndex r.pkt.invGen r.pkt.invBlock ∧ f.2.home = r.pkt.src)) ∧
      (∀ t (y : TagEnt), mget s.ini.tags t = some y → y.pkt.ptype = 0x05 → sameCell y.pkt.dest r.pkt.src = true →
        y.pkt.key % 2 ^ 32 = r.pkt.invIndex + 2 ^ 24 * r.pkt.invGen → y.pkt.offset / 4096 = r.pkt.invBlock →
        mget v.ini.tags t = some { y with inv := r.pkt.src :: y.inv }) ∧
      v.fld .NCC_INVRX_COUNT = min (2 ^ 32 - 1) (s.fld .NCC_INVRX_COUNT + 1) ∧ KeepsRegs s v [RegName.NCC_INVRX.addr 0] ∧ KeepsMem s v)) ∧
    (r.pkt.ptype = 0x08 → s.firstCopy r →
      let k := tableKey (s.reqAlias r) r.pkt.lock
      let l := s.lock k
      let w := waiterOf r.pkt
      (∀ x ∈ [(0, Instr.lockopAcquire r0), (1, .lockopTry r0), (2, .lockopRelease r0), (3, .lockopCancel r0), (4, .lockopProbe r0)],
        r.pkt.sub = x.1 → l.st = .disabled → exec x.2 s0 = .next (s.lockAnswer r false cKeyInvalid 0 false).settle) ∧
      (∀ x ∈ [(0, Instr.lockopAcquire r0), (1, .lockopTry r0)], r.pkt.sub = x.1 → l.st = .free →
        CompletesVia (fun v => (v.lockAnswer r true aGranted (2 * b2n l.aband + 4 * b2n l.forced + 2 ^ 32 * add32 l.gseq 1) true).settle) x.2 s0 (fun v =>
          v.lock k = { l with st := .held, aband := false, forced := false, owner := w.coord, func := w.func, wq := w.wq, gseq := add32 l.gseq 1 } ∧ KeepsMem s v)) ∧
      (∀ x ∈ [(0, Instr.lockopAcquire r0), (1, .lockopTry r0)], r.pkt.sub = x.1 → l.st = .held → l.ownedBy w = true →
        exec x.2 s0 = .next (s.lockAnswer r true aGranted (8 + 2 ^ 32 * l.gseq) true).settle) ∧
      (r.pkt.sub = 1 → l.st = .held → l.ownedBy w = false → exec (.lockopTry r0) s0 = .next (s.lockAnswer r true cLockBusy 0 false).settle) ∧
      (r.pkt.sub = 0 → l.st = .held → l.ownedBy w = false → l.line.any (fun x => x.same w) = false → s.lineUsed < 1048576 →
        CompletesVia (fun v => (v.lockAnswer r true aQueued 0 false).settle) (.lockopAcquire r0) s0 (fun v =>
          v.lock k = { l with line := l.line ++ [w] } ∧ KeepsMem s v)) ∧
      (r.pkt.sub = 2 → (l.st = .held ∨ l.st = .granting) → l.ownedBy w = true → l.line = [] →
        CompletesVia (fun v => (v.lockAnswer r true 0 0 false).settle) (.lockopRelease r0) s0 (fun v => v.lock k = l.freed ∧ KeepsMem s v)) ∧
      (∀ y t, r.pkt.sub = 2 → (l.st = .held ∨ l.st = .granting) → l.ownedBy w = true → l.line = y :: t →
        CompletesVia (fun v => ((v.whenProtected (.grant k (add32 l.gseq 1) (1 + 2 * b2n l.aband + 4 * b2n l.forced)) (fun u =>
            u.sendGrant k (1 + 2 * b2n l.aband + 4 * b2n l.forced))).lockAnswer r true 0 0 false).settle) (.lockopRelease r0) s0 (fun v =>
          (v.lock k).st = .granting ∧ (v.lock k).owner = y.coord ∧ (v.lock k).func = y.func ∧ (v.lock k).wq = y.wq ∧
          (v.lock k).gseq = add32 l.gseq 1 ∧ (v.lock k).line = t ∧ KeepsMem s v)) ∧
      (r.pkt.sub = 2 → l.st ≠ .disabled → (l.st = .free ∨ l.ownedBy w = false) →
        CompletesVia (fun v => (v.lockAnswer r true cNotOwner 0 false).settle) (.lockopRelease r0) s0 (fun v =>
          v.lck = s.lck ∧ v.fld .LCK_NOTOWNER_COUNT = min (2 ^ 32 - 1) (s.fld .LCK_NOTOWNER_COUNT + 1) ∧
          KeepsRegs s v [RegName.LCK_NOTOWNER.addr 0] ∧ KeepsMem s v)) ∧
      (r.pkt.sub = 3 → l.st ≠ .disabled → l.line.contains w = true →
        CompletesVia (fun v => (v.lockAnswer r false 0 0 false).settle) (.lockopCancel r0) s0 (fun v =>
          v.lock k = { l with line := l.line.filter (· != w) } ∧ KeepsMem s v)) ∧
      (r.pkt.sub = 4 → l.st ≠ .disabled → l.line.contains w = true →
        exec (.lockopProbe r0) s0 = .next (s.lockAnswer r false aWaiting 0 false).settle)) ∧
    (r.pkt.ptype = 0x09 → s.firstCopy r →
      (∀ x ∈ s.lck.recs, x.2.home = r.pkt.lhome → x.2.lock = r.pkt.lock → ∀ t, x.2.accepted ≠ some (t, r.pkt.gseq)) →
      let hit := s.lck.recs.find? (fun kv => kv.2.home == r.pkt.lhome && kv.2.lock == r.pkt.lock && kv.2.accepted.isNone && kv.2.q == r.pkt.lwq &&
        kv.2.cnt == r.pkt.lidx)
      (∀ n x, hit = some (n, x) → mget s.lck.recs n = some x → ((s.wq r.pkt.lwq).st = .active ∨ (s.wq r.pkt.lwq).st = .suspended) →
        CompletesVia (fun v => ((match v.desc x.q x.cnt with
            | some d => v.finish x.q d 0 (r.pkt.gflags + 2 ^ 32 * r.pkt.gseq) 0
            | none => v).answer r aAccepted).settle) (.lgrantPacket r0) s0 (fun v =>
          mget v.lck.recs n = some { x with accepted := some (s.tick, (r.pkt.gflags + 2 ^ 32 * r.pkt.gseq) / 2 ^ 32) } ∧ KeepsMem s v)) ∧
      (hit = none → exec (.lgrantPacket r0) s0 = .next ((s.remember r false aDeclined).answer r aDeclined).settle))

/-- Collective packets and teardown marks complete at a member (R385, R389, R394, R395, R396, R397, R405, R476). -/
def Obligations.CollectivePacketRowsComplete : Prop :=
  ∀ (s0 s : State) (r0 : Req) (e : Nat), s0.Inv →
    (s0.takes r0 e s → r0.pkt.ptype = 0x0A →
      let r : Req := { r0 with eng := e }
      let k := r.pkt.cctx
      let n := r.pkt.inst
      let c := s.ctx k
      (∀ x ∈ [(0, Instr.collContribution r0), (1, .collResult r0), (2, .collProbe r0)], r.pkt.ctype = x.1 → (s.reqAlias r = true ∨ c.st ≠ .set) →
        exec x.2 s0 = .next (s.answer r aNoctx).settle) ∧
      (s.reqAlias r = false → c.st = .set → c.setupId = r.pkt.setupid →
        (r.pkt.ctype = 0 → r.pkt.src = s.own → c.old n = false →
          CompletesVia (fun v => (((v.answer r 0).collRun k).instRun k).settle) (.collContribution r0) s0 (fun v =>
            (∃ i, (v.ctx k).inst n = some i ∧ i.own = some (contribOf r.pkt)) ∧ v.regs = s.regs ∧ KeepsMem s v)) ∧
        (r.pkt.ctype = 0 → r.pkt.src ≠ s.own → r.pkt.orphan = false → c.lost.contains r.pkt.src = false → c.children.contains r.pkt.src = true → c.old n = false →
          CompletesVia (fun v => ((v.answer r 0).collRun k).settle) (.collContribution r0) s0 (fun v =>
            (∃ i, (v.ctx k).inst n = some i ∧ (mget i.got r.pkt.src).isSome = true) ∧ v.regs = s.regs ∧ KeepsMem s v)) ∧
        (r.pkt.ctype = 1 → c.inst n = none → c.old n = false →
          CompletesVia (fun v => (((c.children.filter (fun y => !c.lost.contains y)).foldl (fun t y => t.sendColl k y 1 n false (contribOf r.pkt)) v).instRun k).settle)
            (.collResult r0) s0 (fun v => (∃ i, (v.ctx k).inst n = some i ∧ i.res = some (contribOf r.pkt)) ∧ KeepsMem s v)) ∧
        (r.pkt.ctype = 2 → exec (.collProbe r0) s0 = .next (s.answer r aAlive).settle) ∧
        (r.pkt.ctype = 3 → s.own ≠ c.root → c.rootLost = false → s.firstCopy r → (r.loc = false → s.batchFull k = false) →
          CompletesVia State.settle (.collMergedRequest r0) s0 (fun u =>
            (u.ctx k).batch = c.batch ++ [{ addend := leNat (r.pkt.payload.take 8), origin := r.rx - r.pkt.sentAgo - r.pkt.age, req := r }] ∧
            (r.loc = false → mget u.tgt.dup r.pkt.rid.packed = some { pending := true, expire := r.expire }) ∧ KeepsMem s u)))) ∧
    (r0.pkt.ptype = 0x0B → r0.pkt.legal = true →
      (s0.isLocal r0.pkt.dest = true → s0.noExec = false → exec (.pmarkPacket r0) s0 = .next (s0.answer r0 0).settle) ∧
      (s0.isLocal r0.pkt.dest = true → s0.noExec = true → exec (.pmarkPacket r0) s0 =
        .next ({ s0 with tgt := { s0.tgt with marks := s0.tgt.marks ++ [r0] } } : State).settle) ∧
      (s0.isLocal r0.pkt.dest = false → exec (.pmarkPacket r0) s0 =
        .next (s0.pistePkt (8 * r0.port + 6) { pkt := { r0.pkt with vc := 6 }, port := r0.port, rx := r0.rx }).settle))

/-- An answer, and the timers of requests, complete at the initiator (R97, R202, R222, R224, R229, R231, R233, R240, R243, R246, R260, R674). -/
def Obligations.AnswerAndRequestTimerRowsComplete : Prop :=
  ∀ (s : State), s.Inv →
    (∀ (p : Nat) (pkt : Pkt), pkt.isResp = true → pkt.legal = true → s.isAlias pkt.dest = true →
      exec (.respPacket p pkt) s = .next ({ s with ini := { s.ini with aliasDrops := s.ini.aliasDrops + 1 } } : State).settle) ∧
    (∀ (p : Nat) (pkt : Pkt) (e : TagEnt) (q cnt : Nat), pkt.isResp = true → pkt.legal = true → pkt.dest = s.own → pkt.age ≤ 500000 →
      mget s.ini.tags pkt.tag = some e → e.flushed = false → e.answered = false → e.done = false →
      (e.pkt.epoch ≠ pkt.epoch → codeReserved pkt.status = false → exec (.respPacket p pkt) s = .next s.settle) ∧
      (codeReserved pkt.status = true → p < 72 → exec (.respPacket p pkt) s = .next (s.bump .FLK_PLINK_BADPKT p).settle) ∧
      (e.pkt.epoch = pkt.epoch → (answersOf e.pkt).contains pkt.status = true → pkt.status = aBusy →
        CompletesVia State.settle (.respPacket p pkt) s (fun u => u.ini = s.ini ∧ KeepsCounted s u [] ∧ KeepsMem s u)) ∧
      (e.pkt.epoch = pkt.epoch → (answersOf e.pkt).contains pkt.status = true → pkt.status ≠ aBusy → e.owner = .desc q cnt → e.pkt.ptype ≠ 0x02 → e.loc = false →
        let x : TagEnt := { e with answered := true, infl := 0 }
        CompletesVia (fun v => (((v.tagAnswer pkt.tag q cnt).descAnswer e q cnt pkt).maybeRelease pkt.tag).settle) (.respPacket p pkt) s (fun v =>
          mget v.ini.tags pkt.tag = some x ∧ (∀ k, k ≠ pkt.tag → mget v.ini.tags k = mget s.ini.tags k) ∧ v.regs = s.regs ∧ KeepsMem s v ∧
          x.releaseAt s.tick = (if e.nonIdem then some (e.first + 2100000) else some (if e.attempt = 0 then s.tick else max s.tick (e.first + 2000000)))))) ∧
    (∀ (t : Nat) (e : TagEnt), mget s.ini.tags t = some e →
      (s.mayResend e = true → e.nextAt ≤ s.tick → CompletesVia (fun v => (v.resendTag t).settle) (.retransmit t) s (fun v =>
        mget v.ini.tags t = some { e with sched := e.sched + 1, last := s.tick } ∧
        (e.infl ≠ 0 → (v.cc e.cell).cwnd = 256 * s.fld .RTE_CCWMIN_CWNDMIN) ∧ v.regs = s.regs ∧ KeepsMem s v)) ∧
      (s.tick < e.nextAt → exec (.retransmit t) s = .next s.settle) ∧
      (∀ q cnt d, e.owner = .desc q cnt → s.desc q cnt = some d → d.op ≠ 0x30 → e.answered = false → e.done = false → e.flushed = false → e.loc = false →
        e.pkt.ptype ∉ [0x04, 0x05, 0x06] → e.origin + 2000000 ≤ s.tick →
        CompletesVia (fun v =>
          let o := ({ d with status := cUnknown } : Desc).outcome
          (((v.closeDesc q cnt).finish q { d with status := cUnknown } o.1 o.2.1 o.2.2).maybeRelease t).settle) (.unknownOutcome t) s
          (fun v => mget v.ini.tags t = some { e with done := true } ∧ v.regs = s.regs ∧ KeepsMem s v)) ∧
      (s.tick < e.origin + 2000000 → exec (.unknownOutcome t) s = .next s.settle) ∧
      (s.tagHeld e = true → exec (.tagRelease t) s = .next s.settle) ∧
      (∀ x, e.releaseAt s.tick = some x → x ≤ s.tick → s.tagHeld e = false → mwf s.ini.tags →
        CompletesVia (fun v => ((v.ccLeave e).wakeTags.unpark (fun r => r == .tag)).settle) (.tagRelease t) s (fun v =>
          mget v.ini.tags t = none ∧ (∀ k, k ≠ t → mget v.ini.tags k = mget s.ini.tags k) ∧ v.regs = s.regs ∧ KeepsMem s v)) ∧
      (∀ x, e.releaseAt s.tick = some x → s.tick < x → exec (.tagRelease t) s = .next s.settle)) ∧
    (∀ (i : ReqId) (e : DupEnt), mget s.tgt.dup i.packed = some e →
      (e.expire ≤ s.tick → mwf s.tgt.dup → Completes (.dupEntryExpire i) s (fun v =>
        mget v.tgt.dup i.packed = none ∧ (∀ k, k ≠ i.packed → mget v.tgt.dup k = mget s.tgt.dup k) ∧ v.regs = s.regs ∧ KeepsMem s v)) ∧
      (s.tick < e.expire → exec (.dupEntryExpire i) s = .next s)) ∧
    (Completes .ccBasePeriod s (fun v => v.regs = s.regs ∧ KeepsMem s v ∧
      ∀ c x, mget s.ini.cc c = some x →
        (x.period = s.now / 8000000 → mget v.ini.cc c = some x) ∧
        (x.period ≠ s.now / 8000000 → mget v.ini.cc c = some { x with
          period := s.now / 8000000, base0 := none, base1 := if s.now / 8000000 = x.period + 1 then x.base0 else none }))) ∧
    (∀ (q cnt : Nat) (d : Desc), s.desc q cnt = some d → d.op = 0x03 →
      let o := (s.sendTags q cnt).filter (fun kv => !kv.2.answered && !kv.2.done && !kv.2.loc)
      let loc := (s.sendTags q cnt).countP (fun kv => !kv.2.answered && kv.2.loc)
      let u := s.ini.waiting.any (fun w => w.owner == Owner.desc q cnt) || d.unsent
      let st := if o ≠ [] then cUnknown else if d.status ≠ cUnknown ∧ u = true then cReassembly else d.status
      let d1 : Desc := { d with status := if o = [] then d.status else cUnknown, unsent := u, left := loc }
      let kept (v : State) : Prop := v.ini.waiting = s.ini.waiting.filter (fun w => w.owner != .desc q cnt) ∧ v.ini.tags = s.ini.tags ∧
        v.qmg = s.qmg ∧ v.regs = s.regs ∧ KeepsMem s v
      (d.start + 2000000 ≤ s.tick → loc = 0 → CompletesVia (fun v => ((v.closeTags o).finish q d1 st d.given).settle) (.sendDeadline q cnt) s kept) ∧
      (d.start + 2000000 ≤ s.tick → loc ≠ 0 → CompletesVia (fun v => ((v.closeTags o).modDesc q cnt (fun _ => d1)).settle) (.sendDeadline q cnt) s kept) ∧
      (s.tick < d.start + 2000000 → exec (.sendDeadline q cnt) s = .next s.settle))

/-- Invalidation and grant answers and the timers of locks complete (R66, R317, R422, R427, R429). -/
def Obligations.LockAnswerAndTimerRowsComplete : Prop :=
  ∀ (s : State), s.Inv →
    (∀ (t : Nat) (e : TagEnt), mget s.ini.tags t = some e → e.answered = false → e.done = false → e.flushed = false →
      (∀ k h l, e.owner = .linv k h → e.pkt.ptype = 0x07 → mget s.win.leases k = some l →
        let rest := l.holders.filter (· != h)
        (l.writing = [] → CompletesVia (fun v => (v.maybeRelease t).settle) (.linvAck t) s (fun v => v.win = s.win ∧ v.regs = s.regs ∧ KeepsMem s v)) ∧
        (l.writing ≠ [] → rest ≠ [] ∨ l.ovf = true → CompletesVia (fun v => (v.maybeRelease t).settle) (.linvAck t) s (fun v =>
          v.lease k = { l with holders := rest } ∧ v.regs = s.regs ∧ KeepsMem s v)) ∧
        (l.writing ≠ [] → rest = [] → l.ovf = false → mwf s.win.leases →
          CompletesVia (fun v => ((l.writing.foldl (fun a w => a.visible w) v).maybeRelease t).settle) (.linvAck t) s (fun v =>
            mget v.win.leases k = none ∧ v.win.released = s.win.released ++ l.held ∧
            (s.ini.waiting = [] → v.regs = s.regs ∧ KeepsMem s v)))) ∧
      (∀ k, e.owner = .grant k → e.pkt.ptype = 0x09 → (s.lock k).st = .granting → (s.lock k).gseq = e.pkt.gseq →
        CompletesVia (fun v => (v.maybeRelease t).settle) (.grantAnswer t aAccepted) s (fun v =>
          v.lock k = { s.lock k with st := .held, granteeIdx := 0 } ∧ KeepsMem s v) ∧
        ((s.lock k).line = [] → CompletesVia (fun v => (v.maybeRelease t).settle) (.grantAnswer t aDeclined) s (fun v =>
          v.lock k = (s.lock k).freed ∧ KeepsMem s v)) ∧
        (∀ w r, (s.lock k).line = w :: r →
          let g := add32 (s.lock k).gseq 1
          let flags := 1 + 2 * b2n (s.lock k).aband + 4 * b2n (s.lock k).forced
          CompletesVia (fun v => ((v.whenProtected (.grant k g flags) (fun x => x.sendGrant k flags)).maybeRelease t).settle) (.grantAnswer t aDeclined) s (fun v =>
            v.lock k = { st := .granting, owner := w.coord, func := w.func, wq := w.wq, gseq := g, granteeIdx := w.wqidx, line := r } ∧
            v.fld .LCK_GRANT_COUNT = min (2 ^ 32 - 1) (s.fld .LCK_GRANT_COUNT + 1) ∧ KeepsMem s v)) ∧
        (e.loc = false → e.origin + 2000000 ≤ s.tick →
          CompletesVia (fun v => ((v.event0 0x21 0 (k % 2 ^ 24) (s.lock k).owner).maybeRelease t).settle) (.grantTimeout t) s (fun v =>
            v.lock k = { s.lock k with st := .held, granteeIdx := 0 } ∧ v.flag .LCK_FLT_GRANTUNK = true ∧ KeepsMem s v)))) ∧
    (∀ (n : Nat) (x : WaitRec), mget s.lck.recs n = some x →
      (s.dstate = false → exec (.lockProbeTimer n) s = .next s) ∧
      (s.dstate = true → x.queued = true → x.accepted = none →
        (x.since + s.fld .LCK_PROBEINT_INT ≤ s.tick →
          CompletesVia (fun v => (v.sendLockop (.lockProbe x.q x.cnt) x 4).settle) (.lockProbeTimer n) s (fun v =>
            mget v.lck.recs n = some { x with since := s.tick } ∧ v.regs = s.regs ∧ KeepsMem s v)) ∧
        (s.tick < x.since + s.fld .LCK_PROBEINT_INT → exec (.lockProbeTimer n) s = .next s)) ∧
      (∀ t g, x.accepted = some (t, g) →
        (t + 10000000 ≤ s.tick → mwf s.lck.recs → Completes (.waitingRecordExpire n) s (fun v => mget v.lck.recs n = none ∧
          (∀ k, k ≠ n → mget v.lck.recs k = mget s.lck.recs k) ∧ v.lck.words = s.lck.words ∧ v.regs = s.regs ∧ KeepsMem s v)) ∧
        (s.tick < t + 10000000 → exec (.waitingRecordExpire n) s = .next s)))

/-- The timers of messages and collectives complete (R278, R397, R405, R407, R668). -/
def Obligations.MessageAndCollectiveTimerRowsComplete : Prop :=
  ∀ (s : State), s.Inv →
    (∀ (i : ReqId),
      let gone (c : MsgCtx) (v : State) : Prop := v.msgAt c.key = none ∧ (∀ n, n ≠ c.key → v.msgAt n = s.msgAt n) ∧
        (∀ d, mget v.tgt.dup i.packed = some d → d.expire ≠ c.deadline) ∧ KeepsCounted s v [] ∧ KeepsMem s v
      (∀ c, s.msg.ctxs.find? (fun c => c.id == i && !c.complete) = some c →
        (c.deadline ≤ s.tick → mwf s.tgt.dup →
          (c.recv = none → Completes (.reassemblyTimeout i) s (gone c)) ∧
          (∀ x, c.recv = some x →
            CompletesVia (fun v => v.recvEnd c x (if c.failed then cLocalFault else cReassembly)) (.reassemblyTimeout i) s (gone c))) ∧
        (s.tick < c.deadline → exec (.reassemblyTimeout i) s = .next s)) ∧
      ((∀ c ∈ s.msg.ctxs, c.id = i → c.complete = true) → exec (.reassemblyTimeout i) s = .next s)) ∧
    (∀ (k peer t : Nat), s.awaits k peer = some t →
      let due := max t (mgetD (s.ctx k).probeAt peer 0) + s.fld .COL_PROBEINT_INT
      (s.dstate = false → exec (.collProbeTimer k peer) s = .next s) ∧
      (due ≤ s.tick → s.dstate = true → CompletesVia (fun v => (v.sendColl k peer 2 (s.ctx k).completed false {}).settle) (.collProbeTimer k peer) s (fun v =>
        mget (v.ctx k).probeAt peer = some s.tick ∧ (v.ctx k).insts = (s.ctx k).insts ∧ v.regs = s.regs ∧ KeepsMem s v)) ∧
      (s.tick < due → exec (.collProbeTimer k peer) s = .next s)) ∧
    (∀ (k : Nat),
      let c := s.ctx k
      let late := c.batch.filter (fun x => decide (x.origin + 1500000 ≤ s.tick))
      let go := c.batch.filter (fun x => decide (s.tick < x.origin + 1500000))
      let fail (v : State) : State := (late.foldl (fun t x => t.constitAnswer x cUnknown 0 x.req.pkt.age) v).unpark (fun r => r == .batch k)
      (c.st = .set → c.flight = [] → c.batch ≠ [] → c.batchAt + s.fld .COL_CWIN_WIN ≤ s.tick → s.dstate = true →
        CompletesVia (fun v =>
          let w := fail v
          (if (w.ctx k).batch = [] ∨ w.ini.waiting.any (fun x => x.owner == .merged k) = true then w
            else w.sendW { owner := .merged k, pkt := { dest := 0, ptype := 0x0A }, nonIdem := true }).settle)
          (.counterBatchSend k) s (fun v => v.ctx k = { c with batch := go } ∧ v.regs = s.regs ∧ KeepsMem s v)) ∧
      (∀ w x t, go = x :: t → ∃ s1 w1, s.mergedFill k w = some (s1, w1) ∧ s1.ctx k = { c with batch := late, flight := go } ∧
        w1.origin = some (t.foldl (fun a (y : Constit) => min a y.origin) x.origin) ∧
        w1.pkt = { w.pkt with dest := if c.parentLost then c.root else c.parent, tclass := c.tclass, ext := extColl k 3 false 0 c.setupId 0 0 0,
                              payload := leBytes 8 ((go.map Constit.addend).sum % 2 ^ 64) }) ∧
      (c.flight ≠ [] ∨ s.tick < c.batchAt + s.fld .COL_CWIN_WIN ∨ s.dstate = false → exec (.counterBatchSend k) s = .next s) ∧
      CompletesVia (fun v => (fail v).settle) (.constituentExpire k) s (fun v =>
        v.ctx k = { c with batch := go } ∧ v.regs = s.regs ∧ KeepsMem s v))

/-- The timers of leases and window accesses complete (R317, R325, R327, R328). -/
def Obligations.LeaseAndWindowTimerRowsComplete : Prop :=
  ∀ (s : State), s.Inv →
    (∀ (al : Bool) (region block : Nat) (l : Lease),
      let k := leaseKey (tableKey al region) block
      mget s.win.leases k = some l →
      (s.leaseEnd l ≤ s.tick → mwf s.win.leases → CompletesVia (fun v => (l.writing.foldl (fun t h => t.visible h) v).settle) (.leaseExpire al region block) s
        (fun v => mget v.win.leases k = none ∧ (∀ j, j ≠ k → mget v.win.leases j = mget s.win.leases j) ∧ v.win.released = s.win.released ++ l.held ∧
          (s.ini.waiting = [] → v.fld .NCC_EXPWAIT_COUNT = min (2 ^ 32 - 1) (s.fld .NCC_EXPWAIT_COUNT + l.writing.length) ∧
            KeepsRegs s v [RegName.NCC_EXPWAIT.addr 0] ∧ KeepsMem s v))) ∧
      (s.tick < s.leaseEnd l → exec (.leaseExpire al region block) s = .next s)) ∧
    (∀ (al : Bool) (t : Nat), (if al then s.win.startEndAlias else s.win.startEnd) = some t →
      let mine := s.win.startWrites.filter (fun x => x.al == al)
      (t ≤ s.tick → CompletesVia (fun v => ((mine.filterMap (fun x => x.write)).foldl (fun u h => u.visible h) v).settle) (.leaseStartWaitEnd al) s
        (fun v => v.startWait al = false ∧ v.startWait (!al) = s.startWait (!al) ∧ v.win.released = s.win.released ++ mine.filterMap (fun x => x.held) ∧
          v.win.startWrites = s.win.startWrites.filter (fun x => x.al != al) ∧ v.regs = s.regs ∧ KeepsMem s v)) ∧
      (s.tick < t → exec (.leaseStartWaitEnd al) s = .next s)) ∧
    (∀ (id b : Nat) (i : WItem), s.findItem id = some (b, i) → i.issued = true → i.expired = false →
      (s.overBudget i = true → i.write = false → ∀ m x, i.mids = (m, x) :: [] →
        CompletesVia (fun v => v.dropItem b id) (.windowBudgetExpire id) s (fun v => (∃ o, v.out = o ++ [.cxlData m (zeros 64) true]) ∧
          v.flag .GWN_FLT_UNREACH = true ∧ (∀ w ∈ v.ini.waiting, w.owner.winId id = false))) ∧
      (s.overBudget i = true → i.write = true → CompletesVia (fun v => v.fenceDrop id) (.windowBudgetExpire id) s (fun v =>
        (v.wblk b).settle = some (match i.first with | some t => t + 2000000 | none => s.tick) ∧ (∀ w ∈ v.ini.waiting, w.owner.winId id = false) ∧
        (∀ m ∈ i.mids, Emit.cxlDone m.1 ∈ v.out) ∧ (i.left ≠ 0 → v.flag .GWN_FLT_UNREACH = true))) ∧
      (s.overBudget i = false → exec (.windowBudgetExpire id) s = .next s)) ∧
    (∀ (b t : Nat), (s.wblk b).settle = some t → mwf s.win.blk →
      (t ≤ s.tick → CompletesVia (fun v => v.wakeBlk b) (.windowSettleExpire b) s (fun v =>
        v.wblk b = { items := (s.wblk b).items.filter (fun i => !i.expired), settle := none } ∧ v.regs = s.regs ∧ KeepsMem s v)) ∧
      (s.tick < t → exec (.windowSettleExpire b) s = .next s))

/-- Transit packets, the escape timer and piste control packets complete (R47, R56, R446, R454, R461, R467, R471, R475, R476, R513). -/
def Obligations.TransitRowsComplete : Prop :=
  ∀ (s : State), s.Inv →
    (∀ (p v : Nat) (x : InPkt) (t : List InPkt), mgetD s.rte.inq (inKey p v) [] = x :: t →
      (s.tick < x.at_ + s.fld .RTE_CTL_ESCWAIT → exec (.escwaitExpire p v) s = .next s) ∧
      (∀ q w k', x.at_ + s.fld .RTE_CTL_ESCWAIT ≤ s.tick → t = [] → s.route x = .send q w k' true false → x.pkt.vc ≠ 4 → x.pkt.vc ≠ 5 →
        s.heldBack x = false → s.blockBusy (0x40 + q / 8) = false →
        CompletesVia (fun u => (((u.trail x (some (inKey p v)) (.stream q w)).commit { x with esc := true } (some (inKey p v)) q w k').setInq (inKey p v) []).settle) (.escwaitExpire p v) s (fun u =>
          u.fld .RTE_ESC_COUNT = min (2 ^ 32 - 1) (s.fld .RTE_ESC_COUNT + 1) ∧ KeepsCounted s u [RegName.RTE_ESC.addr 0] ∧ KeepsMem s u))) ∧
    (∀ (p : Nat) (k : Pkt), s.portIn p = true → k.legal = false →
      exec (.transitPacket p k) s = .next (s.bump .FLK_PLINK_BADPKT p) ∧
      ∀ x ∈ [(0x81, Instr.psetup p k), (0x82, .pconfirm p k), (0x83, .preject p k), (0x84, .pbreak p k)], k.ptype = x.1 →
        exec x.2 s = .next (s.bump .FLK_PLINK_BADPKT p)) ∧
    (∀ (p : Nat) (k : Pkt), s.portIn p = true → k.legal = true → s.ctlFull = true →
      ∀ x ∈ [(0x81, Instr.psetup p k), (0x82, .pconfirm p k), (0x83, .preject p k), (0x84, .pbreak p k)], k.ptype = x.1 → exec x.2 s = .next s) ∧
    ∀ (p : Nat) (k : Pkt), s.portIn p = true → k.legal = true → s.ctlFull = false →
    let i : InPkt := { pkt := k, port := p, rx := s.tick, delay := s.fld .FLK_PDELAY_DELAY p, at_ := s.tick }
    let origin := bits (pay k 0 4) 0 20
    let n := pay k 4 1
    (k.isCtl = false → s.isLocal k.dest = true → k.redir = false → mgetD s.rte.inq (inKey p k.vc) [] = [] → s.rte.reinj = [] →
      CompletesVia State.settle (.transitPacket p k) s (fun u => u.rte.deliver = s.rte.deliver ++ [{ i with place := placeOf k }] ∧ (k.isResp = true → placeOf k = k.tag % 18) ∧ u.regs = s.regs ∧ KeepsMem s u)) ∧
    (k.isCtl = false → s.isLocal k.dest = false → k.vc ≠ 6 → k.redir = false → 15 < k.hops + 1 → mgetD s.rte.inq (inKey p k.vc) [] = [] → s.rte.reinj = [] →
      CompletesVia State.settle (.transitPacket p k) s (fun u => u.rte.deliver = s.rte.deliver ∧
        u.fld .RTE_HOPLIM_COUNT = min (2 ^ 32 - 1) (s.fld .RTE_HOPLIM_COUNT + 1) ∧ KeepsRegs s u [RegName.RTE_HOPLIM.addr 0] ∧ KeepsMem s u)) ∧
    (k.isCtl = false → s.isLocal k.dest = false → k.vc = 6 → 15 < k.hops + 1 → CompletesVia State.settle (.transitPacket p k) s (fun u =>
        u.fld .RTE_HOPLIM_COUNT = min (2 ^ 32 - 1) (s.fld .RTE_HOPLIM_COUNT + 1) ∧ KeepsRegs s u [RegName.RTE_HOPLIM.addr 0] ∧ KeepsMem s u)) ∧
    (∀ e, k.isCtl = false → s.isLocal k.dest = false → k.vc = 6 → k.hops + 1 ≤ 15 → mget s.rte.transit (pisteKey p k.plabel) = some e → mwf s.rte.transit →
      CompletesVia State.settle (.transitPacket p k) s (fun u =>
        (u.port e.outPort).queue 6 = (s.port e.outPort).queue 6 ++ [{ inp := { i with pkt := { k with plabel := e.outLabel, hops := k.hops + 1 } }, rest := ({ k with plabel := e.outLabel, hops := k.hops + 1 } : Pkt).flits 6, via := some (inKey p 6), ord := (s.port e.outPort).ordNext }] ∧
        (mget u.rte.transit (pisteKey p k.plabel)).isSome = decide (k.ptype ≠ 0x0B) ∧ KeepsCounted s u [] ∧ KeepsMem s u)) ∧
    (k.ptype = 0x81 →
      let h := bits (pay k 6 1) 0 4
      let j := bits (pay k 7 1) 0 4
      (h ≤ j → exec (.psetup p k) s = .next (s.sendCtl p 0x82 (k.payload.take 5 ++ zeros 11)).settle) ∧
      (∀ l q, j < h → s.freeLabel p = some l → s.pistePort (pathHop k j).1 (pathHop k j).2 (pay k 5 1) = some q →
        CompletesVia (fun v => (v.sendCtl q 0x81 (k.payload.take 7 ++ leBytes 1 (j + 1) ++ k.payload.drop 8)).settle) (.psetup p k) s (fun v =>
          mget v.rte.transit (pisteKey p l) = some { outPort := q, outLabel := 0, share := pay k 5 1, origin := origin, piste := n } ∧ v.regs = s.regs ∧ KeepsMem s v)) ∧
      (j < h → (s.freeLabel p = none ∨ s.pistePort (pathHop k j).1 (pathHop k j).2 (pay k 5 1) = none) →
        exec (.psetup p k) s = .next (s.sendCtl p 0x83 (k.payload.take 5 ++ zeros 3 ++ leBytes 4 s.own ++ zeros 4)).settle)) ∧
    (∀ y, origin = s.own → mget s.rte.pistes n = some y → y.outPort = p → mwf s.rte.pistes →
      (k.ptype = 0x82 → y.st = 1 →
        CompletesVia (fun v => (v.endB (fun b => b.op == 0x30 && b.obj == n) 0 y.hops (y.outPort + 2 ^ 16 * bits (pay k 8 2) 0 10)).settle) (.pconfirm p k) s (fun v =>
          mget v.rte.pistes n = some { y with st := 2, outLabel := bits (pay k 8 2) 0 10 } ∧ v.regs = s.regs ∧ KeepsMem s v)) ∧
      (k.ptype = 0x83 → y.st = 1 →
        CompletesVia (fun v => (v.endB (fun b => b.op == 0x30 && b.obj == n) sNoResource (bits (pay k 8 4) 0 20)).settle) (.preject p k) s (fun v =>
          mget v.rte.pistes n = none ∧ v.regs = s.regs ∧ KeepsMem s v)) ∧
      (k.ptype = 0x84 → bitAt (pay k 8 1) 0 = false → y.st = 2 →
        CompletesVia (fun v => ((((v.unqueuePiste y.outPort y.outLabel).unholdPiste n).latch .RTE_FLT_PISTEBRK).raise (512 + p) 0x1006 n).settle) (.pbreak p k) s (fun v =>
          mget v.rte.pistes n = some { y with st := 3 } ∧ v.regs = s.regs ∧ KeepsMem s v))) ∧
    (∀ key e, origin ≠ s.own → s.entryOut p origin n = some (key, e) → mwf s.rte.transit →
      (k.ptype = 0x82 → CompletesVia (fun v => (v.sendCtl (key / 1024) 0x82 (k.payload.take 5 ++ zeros 3 ++ leBytes 2 (key % 1024) ++ zeros 6)).settle) (.pconfirm p k) s (fun v =>
        mget v.rte.transit key = some { e with outLabel := bits (pay k 8 2) 0 10 } ∧ v.regs = s.regs ∧ KeepsMem s v)) ∧
      (k.ptype = 0x83 → CompletesVia (fun v => (v.sendCtl (key / 1024) 0x83 k.payload).settle) (.preject p k) s (fun v =>
        mget v.rte.transit key = none ∧ v.regs = s.regs ∧ KeepsMem s v)) ∧
      (k.ptype = 0x84 → bitAt (pay k 8 1) 0 = false → CompletesVia (fun v => (v.sendBreak (key / 1024) origin n false).settle) (.pbreak p k) s (fun v =>
        mget v.rte.transit key = none ∧ v.regs = s.regs ∧ KeepsMem s v)))

/-- Line notices, liveness, owner-reset and alias packets complete (R430, R432, R441, R442, R461, R542, R543). -/
def Obligations.CellControlRowsComplete : Prop :=
  ∀ (s : State) (p : Nat) (k : Pkt), s.Inv → s.portIn p = true → k.legal = true → s.ctlFull = false →
    let x := digit k.src 0
    (k.ptype = 0x80 →
      let d := bits (pay k 4 1) 0 2
      let key := 18 * d + digit k.src d
      let old := (mget s.rte.rows key).elim none (fun r => r.1)
      (later (pay k 0 4) old = true → CompletesVia (fun v => v.watchTwin.settle) (.lnotice p k) s (fun v =>
        mget v.rte.rows key = some (some (pay k 0 4), bits (pay k 8 4) 0 18) ∧ v.regs = s.regs ∧ KeepsMem s v)) ∧
      (later (pay k 0 4) old = false → exec (.lnotice p k) s = .next s.settle)) ∧
    (k.ptype = 0x85 → s.isLocal k.dest = true → exec (.lprobe p k) s = .next (s.sendCell k.src s.own 0x86 (k.payload.take 4 ++ zeros 4)).settle) ∧
    (∀ c ∈ [(0x85, Instr.lprobe p k), (0x86, .lanswer p k), (0x87, .oreset p k)], k.ptype = c.1 → s.isLocal k.dest = false →
      exec c.2 s = .next (s.sendCell k.dest k.src c.1 k.payload).settle) ∧
    (k.ptype = 0x86 → s.isLocal k.dest = true →
      (bitAt (pay k 4 1) 0 = true → CompletesVia (fun v => v.endNotices.settle) (.lanswer p k) s (fun v =>
        v.lck.notices = s.lck.notices.map (fun o => if o.num = pay k 0 4 then { o with answered := insertAsc o.answered x } else o) ∧
        v.lck.words = s.lck.words ∧ v.regs = s.regs ∧ KeepsMem s v)) ∧
      (∀ m t, bitAt (pay k 4 1) 0 = false → mget s.lck.probes x = some (m, t) → mwf s.lck.probes →
        CompletesVia State.settle (.lanswer p k) s (fun u => mget u.lck.probes x = (if m = pay k 0 4 then none else some (m, t)) ∧
          (∀ y, y ≠ x → mget u.lck.probes y = mget s.lck.probes y) ∧ u.regs = s.regs ∧ KeepsMem s u))) ∧
    (k.ptype = 0x87 → s.isLocal k.dest = true →
      (mget s.lck.applied x = some (pay k 1 1, pay k 4 4) →
        exec (.oreset p k) s = .next (s.sendCell k.src s.own 0x86 (leBytes 4 (pay k 4 4) ++ leBytes 1 1 ++ zeros 3)).settle) ∧
      (mget s.lck.applied x ≠ some (pay k 1 1, pay k 4 4) → CompletesVia (fun v =>
          ((v.peerDead k.src (if bitAt (pay k 0 1) 0 then none else some (bits (pay k 0 1) 1 6)) 1).sendCell k.src v.own 0x86
            (leBytes 4 (pay k 4 4) ++ leBytes 1 1 ++ zeros 3)).settle) (.oreset p k) s
        (fun v => mget v.lck.applied x = some (pay k 1 1, pay k 4 4) ∧ v.lck.words = s.lck.words ∧ v.regs = s.regs ∧ KeepsMem s v))) ∧
    (k.ptype = 0x88 →
      let d := bits (pay k 4 1) 0 5
      let on := bitAt (pay k 5 1) 0
      let holder := bits (pay k 0 4) 0 20
      (d = digit s.own 0 → on = true → CompletesVia (fun v => (if s.aliased then v else (v.event0 0x43 0 holder 0).recallReqs).settle) (.aliasPkt p k) s (fun v =>
        v.mir.aliasedAt = some s.tick ∧ v.regs = s.regs ∧ KeepsMem s v)) ∧
      (d = digit s.own 0 → on = false → CompletesVia (fun v => v.wakeTags.settle) (.aliasPkt p k) s (fun v =>
        v.mir.aliasedAt = none ∧ v.regs = s.regs ∧ KeepsMem s v)) ∧
      (d ≠ digit s.own 0 → d < 18 → on = true →
        CompletesVia (fun v => (if s.lck.aliasSeen.contains d then v else v.peerDead (setDigit s.own 0 d) none 2).settle) (.aliasPkt p k) s (fun v =>
          v.fld .RTE_ALIAS_DIGIT d = digit holder 0 ∧ v.flag .RTE_ALIAS_VALID d = true ∧ v.lck.aliasSeen.contains d = true ∧
          KeepsRegs s v [RegName.RTE_ALIAS.addr d] ∧ KeepsMem s v)) ∧
      (d ≠ digit s.own 0 → d < 18 → on = false → CompletesVia State.settle (.aliasPkt p k) s (fun u =>
        u.flag .RTE_ALIAS_VALID d = false ∧ u.fld .RTE_ALIAS_DIGIT d = s.fld .RTE_ALIAS_DIGIT d ∧ u.lck.aliasSeen.contains d = false ∧
        KeepsRegs s u [RegName.RTE_ALIAS.addr d] ∧ KeepsMem s u)))

/-- The timers of notices, pistes, liveness and aliases complete (R430, R432, R443, R470, R476, R542, R543). -/
def Obligations.RoutingTimerRowsComplete : Prop :=
  ∀ (s : State), s.Inv →
    (s.rte.lastRefresh + 100000 ≤ s.tick → CompletesVia State.settle .lnoticeRefresh s (fun u =>
      u.rte.lastRefresh = s.tick ∧ u.rte.lineSeq = (s.rte.lineSeq + 4) % 2 ^ 32 ∧ u.rte.rows = s.rte.rows ∧ u.regs = s.regs ∧ KeepsMem s u)) ∧
    (s.tick < s.rte.lastRefresh + 100000 → exec .lnoticeRefresh s = .next s) ∧
    (∀ (n : Nat) (y : Piste), mget s.rte.pistes n = some y → mwf s.rte.pistes →
      (y.st = 1 → y.since + 10000000 ≤ s.tick → CompletesVia (fun v => v.endB (fun b => b.op == 0x30 && b.obj == n) sTimeout) (.pisteSetupTimeout n) s
        (fun v => mget v.rte.pistes n = none ∧ (∀ m, m ≠ n → mget v.rte.pistes m = mget s.rte.pistes m) ∧ v.rte.transit = s.rte.transit ∧
          v.regs = s.regs ∧ KeepsMem s v)) ∧
      (y.st = 4 → y.since + 10000000 ≤ s.tick →
        CompletesVia (fun v => ({ v with rte := { v.rte with pistes := mdel v.rte.pistes n } } : State).endB (fun b => b.op == 0x31 && b.obj == n) sTimeout)
          (.pisteTeardownTimeout n) s (fun v => v = ((s.unqueuePiste y.outPort y.outLabel).unholdPiste n).forgetMark n ∧
            (∀ w ∈ v.ini.waiting, w.owner ≠ .pmark n))) ∧
      (∀ x ∈ [(1, Instr.pisteSetupTimeout n), (4, .pisteTeardownTimeout n)], y.st = x.1 → s.tick < y.since + 10000000 → exec x.2 s = .next s)) ∧
    (
      let due (o : Oreset) : Bool := decide (o.last + 10000 ≤ s.tick) && decide (s.tick < o.first + 100000)
      CompletesVia (fun v => (((s.lck.notices.filter due).foldl (fun t o => t.sendOreset o) v).endNotices).settle) .oresetRepeat s (fun v =>
        v.lck.notices = s.lck.notices.map (fun o => if due o then { o with last := s.tick } else o) ∧ v.lck.words = s.lck.words ∧ v.regs = s.regs ∧ KeepsMem s v)) ∧
    (∀ (x m t : Nat), mget s.lck.probes x = some (m, t) → mwf s.lck.probes →
      (t + s.fld .LCK_DEADWIN_WIN ≤ s.tick → CompletesVia (fun v => (v.peerDead (setDigit s.own 0 x) none 0).settle) (.livenessTimeout x) s (fun v =>
        mget v.lck.probes x = none ∧ (∀ y, y ≠ x → mget v.lck.probes y = mget s.lck.probes y) ∧ v.regs = s.regs ∧ KeepsMem s v)) ∧
      (s.tick < t + s.fld .LCK_DEADWIN_WIN → exec (.livenessTimeout x) s = .next s)) ∧
    (∀ on, s.rte.annSet = some on →
      let gap := if s.tick < s.rte.annFirst + 1000000 then 100000 else 1000000
      (on = false → s.rte.annFirst + 1000000 ≤ s.tick → Completes .aliasRepeat s (fun v => v.rte.annSet = none ∧ v.regs = s.regs ∧ KeepsMem s v)) ∧
      ((on = true ∨ s.tick < s.rte.annFirst + 1000000) →
        (s.rte.annLast + gap ≤ s.tick → CompletesVia (fun v => (v.sendAlias s.rte.annDigit on).settle) .aliasRepeat s (fun v =>
          v.rte.annLast = s.tick ∧ v.rte.annSet = some on ∧ v.regs = s.regs ∧ KeepsMem s v)) ∧
        (s.tick < s.rte.annLast + gap → exec .aliasRepeat s = .next s))) ∧
    (∀ t, s.mir.aliasedAt = some t →
      (t + 3000000 ≤ s.tick → CompletesVia (fun v => v.wakeTags.settle) .aliasedTimeout s (fun v =>
        v.mir.aliasedAt = none ∧ v.regs = s.regs ∧ KeepsMem s v)) ∧
      (s.tick < t + 3000000 → exec .aliasedTimeout s = .next s))

/-- The admin commands on work queues complete (R171, R183, R185, R188, R528). -/
def Obligations.WorkQueueCommandRowsComplete : Prop :=
  ∀ (s : State) (c : AdminCmd) (q : Nat), s.Inv →
    let r := c.raw
    let w := s.wq q
    let joins (v : State) : Prop := w.hasWork = true → w.turn = none → s.qmg.parked.all (fun x => x.2 != q) = true → RunEnt.wq q ∈ v.runList (q % 288)
    (∀ cq eq, s.wqTakes 1 c q → s.cqOf c.func (r.at_ 20 2) = some cq → s.eqOf c.func (r.at_ 24 2) = some eq → wqParamsOk r = true → w.st = .disabled →
      (s.cq cq).configured = true → (s.eq eq).configured = true → s.queueReady q cq eq = true → s.meetsTwin TwinParams.wqBase TwinParams.wqCount q 1 = false →
      CompletesVia (fun v => (v.wqEnd c q 0).settle) (.configWq c) s (fun v => KeepsMem s v ∧ v.wq q =
        { configured := true, base := r.at_ 8 8, log2 := r.at_ 16 1, turnq := r.at_ 17 1, asid := r.at_ 18 2, cq := cq, eq := eq, headwb := r.at_ 26 1 == 1, hwaddr := r.at_ 32 8, rate := r.at_ 40 2, burst := r.at_ 42 2, start := r.at_ 28 4, head := r.at_ 28 4, fidx := r.at_ 28 4, tail := r.at_ 28 4, reserved := r.at_ 28 4 })) ∧
    (s.wqTakes 2 c q → w.st = .disabled → w.configured = true → s.queueReady q w.cq w.eq = true →
      CompletesVia (fun v => (v.wqEnd c q 0).settle) (.enableWq c) s (fun v => v.wq q = { w with st := .active } ∧ joins v ∧ KeepsMem s v)) ∧
    (s.wqTakes 3 c q → (w.st = .active ∨ w.st = .suspended) → mwf s.qmg.run →
      CompletesVia (fun v =>
        let u := ((v.recvCancel q false).cancelWaits q).recWq q
        (if u.allDone q then u.drainDone q else u).settle) (.disableWq c) s (fun v =>
        v.wq q = { w with st := .draining, suspendDue := false, fetched := [], fetching := [], failed := [] } ∧
        v.qmg.bcmds = s.qmg.bcmds ++ [{ s.bcmdOf c 3 q with raw := r }] ∧ (∀ x ∈ v.qmg.parked, x.2 ≠ q) ∧ RunEnt.wq q ∉ v.runList (q % 288) ∧ v.regs = s.regs ∧ KeepsMem s v)) ∧
    (w.st = .draining → s.allDone q = true →
      CompletesVia (fun v => (((v.recWq q).recWqTail q).wqEvent q 0x03 0 w.head).endBProt (fun b => b.op == 3 && b.obj == q) 0) (.drainComplete q) s (fun v =>
        v.wq q = { w with st := .disabled, tail := w.head, fidx := w.head, tails := [] } ∧ v.regs = s.regs ∧ KeepsMem s v)) ∧
    ((w.st ≠ .draining ∨ s.allDone q = false) → exec (.drainComplete q) s = .next s) ∧
    (s.wqTakes 4 c q → w.st = .error → CompletesVia (fun v => (v.wqEnd c q 0).settle) (.resetWq c) s (fun v =>
      v.wq q = { w with st := .disabled, errKind := 0, tail := w.head, fidx := w.head, tails := [] } ∧ KeepsMem s v)) ∧
    (s.wqTakes 5 c q → w.st = .active → mwf s.qmg.run → CompletesVia (fun v => (((v.recWq q).wqEvent q 0x06 0 w.head).wqEnd c q 0).settle) (.suspendWq c) s (fun v =>
      v.wq q = { w with st := .suspended, suspendDue := false, fidx := w.head, fetched := [], fetching := [], failed := [] } ∧
      (∀ x ∈ v.qmg.parked, x.2 ≠ q) ∧ RunEnt.wq q ∉ v.runList (q % 288) ∧ v.regs = s.regs ∧ KeepsMem s v)) ∧
    (s.wqTakes 6 c q → w.st = .suspended →
      CompletesVia (fun v => (v.wqEnd c q 0).settle) (.resumeWq c) s (fun v => v.wq q = { w with st := .active } ∧ joins v ∧ KeepsMem s v)) ∧
    (s.wqTakes 7 c q → exec (.queryWq c) s = .next (s.adminEnd c 0 w.head (w.st.code + 8 * w.errKind + 256 * b2n w.configured))) ∧
    (s.wqTakes 8 c q → r.at_ 8 2 ≤ r.at_ 10 2 → w.configured = true → CompletesVia (fun v => ((v.recWq q).wqEnd c q 0).settle) (.setShaper c) s (fun v =>
      v.wq q = { w with newShape := some (r.at_ 8 2, r.at_ 10 2) } ∧ v.regs = s.regs ∧ KeepsMem s v))

/-- The admin commands on completion and event queues, allotments and regions complete (R110, R183, R184, R204, R206, R208, R209, R213, R216, R217, R370). -/
def Obligations.QueueAndRegionCommandRowsComplete : Prop :=
  ∀ (s : State) (c : AdminCmd), s.Inv →
    let r := c.raw
    let rk := tableKey s.asel r.object
    let g := s.region rk
    (∀ n eq, s.adminOk c false s.poolReady [(8, 9), (20, 2)] → s.cqOf c.func r.object = some n → s.eqOf c.func (r.at_ 20 2) = some eq → (s.dstate = true ∨ n < 896) →
      r.at_ 8 8 % 4096 = 0 → 6 ≤ r.at_ 16 1 → r.at_ 16 1 ≤ 20 → (∀ x ∈ s.qmg.wq, x.2.st = .disabled ∨ x.2.cq ≠ n) → s.meetsTwin TwinParams.cqBase TwinParams.cqCount n 1 = false →
      CompletesVia (fun v => if s.mirCq n then (v.cqDrain n).adminCplProt c.func { cid := r.cid, status := 0 } else (v.cqDrain n).adminEnd c 0) (.configCq c) s (fun v =>
        v.cq n = { configured := true, base := r.at_ 8 8, log2 := r.at_ 16 1, eq := eq, held := (s.cq n).held } ∧ (∀ m, m ≠ n → v.cq m = s.cq m) ∧ KeepsMem s v)) ∧
    (∀ n, s.adminOk c false s.poolReady [(8, 9), (20, 2)] → s.eqOf c.func r.object = some n → (s.dstate = true ∨ n < 128) →
      r.at_ 8 8 % 4096 = 0 → 4 ≤ r.at_ 16 1 → r.at_ 16 1 ≤ 16 → (if c.func = 0 then 3 ≤ r.at_ 20 2 ∧ r.at_ 20 2 ≤ 2047 else 1 ≤ r.at_ 20 2 ∧ r.at_ 20 2 ≤ 63) →
      (∀ x ∈ s.qmg.cq, x.2.configured = false ∨ x.2.eq ≠ n) → (∀ x ∈ s.qmg.wq, x.2.st = .disabled ∨ x.2.eq ≠ n) → s.meetsTwin TwinParams.eqBase TwinParams.eqCount n 1 = false →
      CompletesVia (fun v => if s.mirEq n then v.adminCplProt c.func { cid := r.cid, status := 0 } else v.adminEnd c 0) (.configEq c) s (fun v =>
        v.eq n = { configured := true, base := r.at_ 8 8, log2 := r.at_ 16 1, vector := r.at_ 20 2 } ∧ (∀ m, m ≠ n → v.eq m = s.eq m) ∧ KeepsMem s v)) ∧
    (let x := r.object
     let wb := r.at_ 8 4
     let wn := r.at_ 12 2
     let cb := r.at_ 14 2
     let cn := r.at_ 16 2
     let eb := r.at_ 18 2
     let en := r.at_ 20 1
     s.adminOk c true s.poolReady [(8, 13), (24, 4)] → 1 ≤ x → x ≤ 63 → wn ≤ 4096 → cn ≤ 1024 → en ≤ 32 → r.at_ 24 4 ≤ 2 ^ 24 →
      wb < 262144 → wb + wn ≤ 262144 → cb + cn ≤ 65536 → eb < 2048 → eb + en ≤ 2048 → s.allotClash .QMG_VFWQ_BASE .QMG_VFWQ_COUNT x wb wn = false →
      s.allotClash .QMG_VFCQ_BASE .QMG_VFCQ_COUNT x cb cn = false → s.allotClash .QMG_VFEQ_BASE .QMG_VFEQ_COUNT x eb en = false →
      s.host.vfs = 0 → (∀ y ∈ s.qmg.wq, y.2.st = .disabled) → s.twinClosed = false →
      CompletesVia (fun v => v.adminEnd c 0) (.setVfAllot c) s (fun v =>
        v.fld .QMG_VFWQ_BASE x = wb ∧ v.fld .QMG_VFWQ_COUNT x = wn ∧ v.fld .QMG_VFCQ_BASE x = cb ∧ v.fld .QMG_VFCQ_COUNT x = cn ∧
        v.fld .QMG_VFEQ_BASE x = eb ∧ v.fld .QMG_VFEQ_COUNT x = en ∧ v.fld .QMG_VFRGN_QUOTA x = r.at_ 24 4 ∧
        (∀ k y, (k, y) ∈ s.qmg.wq → inRange (s.fld .QMG_VFWQ_BASE x) (s.fld .QMG_VFWQ_COUNT x) k = inRange wb wn k → (k, y) ∈ v.qmg.wq) ∧
        KeepsRegs s v [RegName.QMG_VFWQ.addr x, RegName.QMG_VFCQ.addr x, RegName.QMG_VFEQ.addr x, RegName.QMG_VFRGN.addr x] ∧ KeepsMem s v)) ∧
    (s.adminOk c false s.gddrReady [(8, 24)] → r.object < 2 ^ 24 → s.objBusy [0x12] rk = false → r.at_ 8 8 % 4096 = 0 → r.at_ 16 8 ≠ 0 → r.at_ 16 8 % 4096 = 0 → r.at_ 16 8 ≤ 2 ^ 48 →
      r.at_ 26 1 < 32 → r.at_ 27 1 < 16 → r.at_ 28 4 ≠ 0 → g.lastCheck ≠ some (r.at_ 28 4) → g.st = .free → (c.func = 0 ∨ s.quotaUsed c.func < s.fld .QMG_VFRGN_QUOTA c.func) →
      CompletesVia (fun v => v.regionEnd c (r.object + 2 ^ 24 * g.gen)) (.registerRegion c) s (fun v => KeepsMem s v ∧ (∀ k, k ≠ rk → v.region k = s.region k) ∧
        v.region rk = { g with base := r.at_ 8 8, pages := r.at_ 16 8 / 4096 - 1, asid := r.at_ 24 2, st := .valid, rights := r.at_ 26 1, pkey := r.at_ 27 1, func := c.func, check := r.at_ 28 4, lastCheck := some (r.at_ 28 4), inflight := 0 })) ∧
    (s.adminOk c false s.gddrReady [(8, 1)] → r.object < 2 ^ 24 → (c.func = 0 ∨ g.func = c.func) → s.objBusy [0x12] rk = false → g.st = .valid → r.at_ 8 1 = g.gen →
      CompletesVia (fun v => (if bitAt g.rights 4 then v.recallRegion rk else v).settle) (.revokeRegion c) s (fun v => KeepsMem s v ∧ (∀ k, k ≠ rk → v.region k = s.region k) ∧
        v.region rk = { g with st := .revoking, revoke := some (c.func, r.cid), recorded := g.inflight } ∧ v.qmg.bcmds = s.qmg.bcmds ++ [s.bcmdOf c 0x12 rk])) ∧
    (∀ k, (s.region k).st = .revoking →
      let y := s.region k
      let gen := if y.gen = 255 then 1 else y.gen + 1
      let done (v : State) : State := if y.revoke.isSome then v.endBProt (fun b => b.op == 0x12 && b.obj == k) 0 gen (min (2 ^ 32 - 1) y.recorded) else v
      let freed (v : State) : Prop := v.region k = { y with st := .free, gen := gen, revoke := none, flush := none } ∧ (∀ j, j ≠ k → v.region j = s.region j) ∧
        v.regs = s.regs ∧ KeepsMem s v
      let d := (s.xltDiscard y.func false y.asid y.base y.size).2
      let clean (v : State) : Prop := ∀ x ∈ v.xlt.cache, coversLeaf y.func false y.asid y.base y.size x.2 = false
      (y.flush = none → y.inflight = 0 → s.regionLeases k = [] →
        (d.xltWaits s.xlt.next = false → CompletesVia done (.revokeComplete k) s (fun v => freed v ∧ clean v)) ∧
        (d.xltWaits s.xlt.next = true → Completes (.revokeComplete k) s (fun v => v.region k = { y with flush := some s.xlt.next } ∧
          (∀ j, j ≠ k → v.region j = s.region j) ∧ clean v ∧ v.regs = s.regs ∧ KeepsMem s v))) ∧
      (y.flush = none → (y.inflight ≠ 0 ∨ s.regionLeases k ≠ []) → exec (.revokeComplete k) s = .next s) ∧
      (∀ id, y.flush = some id →
        (s.xltWaits id = false → CompletesVia done (.revokeComplete k) s freed) ∧
        (s.xltWaits id = true → exec (.revokeComplete k) s = .next s))) ∧
    (s.adminOk c false s.gddrReady [(8, 8)] → r.object < 2 ^ 24 → (c.func = 0 ∨ g.func = c.func) → s.objBusy [0x12] rk = false → r.at_ 8 8 % 32 = 0 →
      exec (.queryRegion c) s = .next ((if r.at_ 8 8 = 0 then s else s.write (r.at_ 8 8) (g.bytes 0)).adminEnd c 0
        ((match g.st with | .free => 0 | .valid => 1 | .revoking => 2) + 2 ^ 8 * g.gen + 2 ^ 16 * (g.rights % 32) + 2 ^ 24 * (g.pkey % 16)) (min (2 ^ 32 - 1) g.inflight)))

/-- The admin commands on window maps and translations complete (R295, R296, R297, R367, R369). -/
def Obligations.WindowAndTranslationCommandRowsComplete : Prop :=
  ∀ (s : State) (c : AdminCmd), s.Inv →
    let r := c.raw
    let first := r.object
    let n := r.at_ 16 4
    (∀ l, s.adminOk c true s.gddrReady [(8, 12)] → first + n ≤ 2 ^ 24 → 1 ≤ n → n ≤ 65536 → r.at_ 8 8 % 16 = 0 → s.mapBusy first n = false → s.mapEntries (r.at_ 8 8) n = some l →
      (∀ x ∈ s.win.map, inRange first n x.1 = false) → s.meetsTwin TwinParams.mapBase TwinParams.mapCount first n = false →
      CompletesVia (fun v => v.adminCplProt c.func { cid := r.cid, status := 0, r0 := n }) (.mapWindow c .ok) s (fun v =>
        (∀ j, j < n → mget v.win.map (first + j) = l[j]?) ∧ (∀ k, inRange first n k = false → mget v.win.map k = mget s.win.map k) ∧ KeepsMem s v)) ∧
    (s.adminOk c true s.gddrReady [(16, 4)] → first + n ≤ 2 ^ 24 → 1 ≤ n → n ≤ 65536 → s.mapBusy first n = false → s.meetsTwin TwinParams.mapBase TwinParams.mapCount first n = false → mwf s.win.map →
      Completes (.unmapWindow c) s (fun v => (∀ k, mget v.win.map k = if inRange first n k then none else mget s.win.map k) ∧
        v.win.unmaps = s.win.unmaps ++ [{ func := c.func, cid := r.cid, first := first, count := n, ids := s.win.blk.flatMap (fun kv => (kv.2.items.filter (fun i => inRange first n i.entNo)).map WItem.id) }] ∧
        KeepsMem s v)) ∧
    (∀ k u, s.win.unmaps.find? (fun u => u.first == k) = some u →
      let live := s.win.blk.flatMap (fun kv => kv.2.items.map WItem.id)
      (u.ids.any (fun i => live.contains i) = false →
        CompletesVia (fun v => v.adminCplProt u.func { cid := u.cid, status := 0, r0 := u.count, b := true }) (.unmapWindowComplete k) s (fun v =>
          v.win.unmaps = s.win.unmaps.filter (fun x => x.first != k) ∧ v.win.map = s.win.map ∧ v.regs = s.regs ∧ KeepsMem s v)) ∧
      (u.ids.any (fun i => live.contains i) = true → exec (.unmapWindowComplete k) s = .next s)) ∧
    (let asid := bits first 0 16
     let all := bitAt first 31
     let va := r.at_ 8 8
     let len := r.at_ 16 8
     s.adminOk c false s.poolReady [(8, 16)] → bits first 16 15 = 0 → (all = true → asid = 0 ∧ va = 0 ∧ len = 0) → va % 4096 = 0 → len % 4096 = 0 → (len = 0 → va = 0) → va + len ≤ 2 ^ 57 →
      s.invalBusy c.func all asid = false →
      Completes (.invalidateXlt c) s (fun v => (∀ x ∈ v.xlt.cache, coversLeaf c.func all asid va len x.2 = false ∧ x ∈ s.xlt.cache) ∧
        (∀ x ∈ s.xlt.cache, coversLeaf c.func all asid va len x.2 = false → x ∈ v.xlt.cache) ∧ (∀ x ∈ v.xlt.wcache, coversWc c.func all asid len x.2 = false) ∧
        (∃ x, v.xlt.invals = s.xlt.invals ++ [x] ∧ x.id = s.xlt.next ∧ x.func = c.func ∧ x.cid = r.cid) ∧
        (∀ k w, mget s.xlt.walks k = some w → (c.func = 0 ∨ w.func = c.func) → (all = true ∨ w.asid = asid) → mget v.xlt.walks k = some { w with noInstall := true, inv := s.xlt.next :: w.inv }) ∧
        (∀ q y t, mget s.qmg.wq q = some y → y.turn = some t → (c.func = 0 ∨ s.wqOwner q = c.func) → (all = true ∨ y.asid = asid) → (v.wq q).turn = some { t with inv := s.xlt.next :: t.inv }) ∧ v.regs = s.regs ∧ KeepsMem s v)) ∧
    (∀ k x, s.xlt.invals.find? (fun x => x.id == k) = some x →
      (s.xltWaits k = false →
        CompletesVia (fun v => v.adminCpl x.func { cid := x.cid, status := 0, r0 := min (2 ^ 32 - 1) x.count, b := true }) (.invalidateXltComplete k) s (fun v =>
          v.xlt.invals = s.xlt.invals.filter (fun y => y.id != k) ∧ v.regs = s.regs ∧ KeepsMem s v)) ∧
      (s.xltWaits k = true → exec (.invalidateXltComplete k) s = .next s))

/-- The admin commands on collective contexts, pistes and locks complete (R383, R384, R386, R415, R416, R468, R471, R476). -/
def Obligations.CollectivePisteAndLockCommandRowsComplete : Prop :=
  ∀ (s : State) (c : AdminCmd), s.Inv →
    let r := c.raw
    let k := r.object
    (let l := s.memberList (r.at_ 8 8) (r.at_ 16 4)
     let root := r.at_ 20 4 % 2 ^ 20
     s.adminOk c true s.fwReady [(8, 51)] → s.objBusy [0x28] k = false → (s.ctx k).st = .free → k < 4096 → collParamsOk r = true →
      rising l = true → l.all s.valid = true → s.own ∈ l → root ∈ l → (r.at_ 24 1 = 3 → ∀ x ∈ s.col, x.1 = k ∨ x.2.st = .free ∨ x.2.kind ≠ 3 ∨ x.2.root ≠ root ∨ x.2.ckey ≠ r.at_ 44 8 ∨ x.2.coff ≠ r.at_ 52 6) →
      Completes (.collSetup c .ok) s (fun v => v.regs = s.regs ∧ KeepsMem s v ∧ v.qmg.bcmds = s.qmg.bcmds ++ [s.bcmdOf c 0x28 k] ∧ (∀ j, j ≠ k → v.ctx j = s.ctx j) ∧
        v.ctx k = { st := .setting, kind := r.at_ 24 1, operator := bits (r.at_ 25 1) 0 4, type := bits (r.at_ 25 1) 4 2, nelem := r.at_ 26 1, tclass := r.at_ 27 1, setupId := r.at_ 28 4, lossAddr := r.at_ 32 8, lossCap := r.at_ 40 4, ckey := r.at_ 44 8, coff := r.at_ 52 6, useFunc := r.at_ 58 1, root := root, parent := (treeParent l root s.own).getD nullCoord, members := l, children := treeChildren l root s.own })) ∧
    (∀ m, (s.ctx m).st = .setting →
      CompletesVia (fun v => v.endB (fun b => b.op == 0x28 && b.obj == m) 0 ((s.ctx m).children.length + 128 * b2n ((s.ctx m).root == s.own)) (s.ctx m).parent) (.collSetupComplete m) s
        (fun v => v.ctx m = { s.ctx m with st := .set } ∧ (∀ j, j ≠ m → v.ctx j = s.ctx j) ∧ v.regs = s.regs ∧ KeepsMem s v)) ∧
    (s.adminOk c true s.gddrReady [] → k < 4096 → s.objBusy [0x28, 0x29] k = false → (s.ctx k).st = .set →
      CompletesVia State.settle (.collTeardown c) s (fun u => (u.ctx k).st = .teardown ∧ (u.ctx k).batch = [] ∧ (u.ctx k).flight = (s.ctx k).flight ∧
        (∀ q, (Park.inst k, q) ∉ u.qmg.parked ∧ (Park.batch k, q) ∉ u.qmg.parked) ∧ ∃ l, u.qmg.bcmds = l ++ [s.bcmdOf c 0x29 k])) ∧
    (∀ m, (s.ctx m).st = .teardown → mwf s.col →
      ((s.ctx m).flight = [] → (s.ctx m).insts = [] → CompletesVia (fun v => v.endB (fun b => b.op == 0x29 && b.obj == m) 0) (.collTeardownComplete m) s (fun v =>
        v.ctx m = {} ∧ (∀ j, j ≠ m → v.ctx j = s.ctx j) ∧ v.regs = s.regs ∧ KeepsMem s v)) ∧
      ((s.ctx m).flight ≠ [] ∨ (s.ctx m).insts ≠ [] → exec (.collTeardownComplete m) s = .next s)) ∧
    (∀ d x t p, s.adminOk c true s.fwReady [(8, 7), (16, 8)] → mget s.rte.pistes k = none → k < 256 →
      s.valid (r.at_ 8 4) = true → r.at_ 8 4 ≠ s.own → 1 ≤ r.at_ 12 1 → r.at_ 12 1 ≤ 224 → r.at_ 13 1 ≤ 8 → r.at_ 14 1 < 64 →
      (∀ i, i < 8 → if i < r.at_ 13 1 then r.at_ (16 + i) 1 < 128 else r.at_ (16 + i) 1 = 0) →
      (if r.at_ 13 1 = 0 then s.choosePath (r.at_ 8 4) else some (givenPath r (r.at_ 13 1))) = some ((d, x) :: t) →
      pathEnd (s.rdRaw .GEN_SHAPE) (r.at_ 8 4) ((d, x) :: t) s.own 0 0 = some (r.at_ 8 4) → s.pistePort d x (r.at_ 12 1) = some p →
      CompletesVia (fun v => (v.sendCtl p 0x81 (pisteId s.own k ++ leBytes 1 (r.at_ 12 1) ++ leBytes 1 (t.length + 1) ++ leBytes 1 1 ++
          ((d, x) :: t).flatMap (fun h => leBytes 1 (h.1 + 4 * h.2)) ++ zeros (16 - (t.length + 1)))).settle) (.pisteSetup c) s (fun v =>
        mget v.rte.pistes k = some { st := 1, hops := t.length + 1, dest := r.at_ 8 4, func := r.at_ 14 1, share := r.at_ 12 1, outPort := p, path := (d, x) :: t, since := s.tick } ∧
        v.qmg.bcmds = s.qmg.bcmds ++ [s.bcmdOf c 0x30 k] ∧ v.regs = s.regs ∧ KeepsMem s v)) ∧
    (∀ y, s.adminOk c true s.gddrReady [] → k < 256 → s.objBusy [0x30, 0x31] k = false → mget s.rte.pistes k = some y → mwf s.rte.pistes →
      (y.st = 2 → CompletesVia (fun v => (v.sendReq (.pmark k) { dest := y.dest, ptype := 0x0B } false (some k)).settle) (.pisteTeardown c) s (fun v =>
        mget v.rte.pistes k = some { y with st := 4, since := s.tick } ∧ v.qmg.bcmds = s.qmg.bcmds ++ [s.bcmdOf c 0x31 k] ∧ v.regs = s.regs ∧ KeepsMem s v)) ∧
      (y.st = 3 → CompletesVia (fun v => (v.adminEnd c 0).settle) (.pisteTeardown c) s (fun v => mget v.rte.pistes k = none ∧ v.regs = s.regs ∧ KeepsMem s v))) ∧
    (∀ on : Bool,
      let a := tableKey s.asel k
      let n := r.at_ 8 4
      s.adminOk c true s.gddrReady [(8, 5)] → k < 2 ^ 24 → k + n ≤ 2 ^ 24 → 1 ≤ n → r.at_ 12 1 = b2n on → s.lockRangeIs a n (if on then .disabled else .free) = true →
      CompletesVia (fun v => v.adminEnd c 0) (.lockConfig c) s (fun v => KeepsMem s v ∧
        (∀ j, inRange a n j = true → v.lock j = { (s.lock j).freed with st := if on then .free else .disabled, aband := false, forced := false }) ∧
        (∀ j, inRange a n j = false → v.lock j = s.lock j))) ∧
    (let a := tableKey s.asel k
     let l := s.lock a
     let f := 5 + 2 * b2n l.aband
     s.adminOk c true s.gddrReady [] → k < 2 ^ 24 → l.st = .held →
      (l.line = [] → CompletesVia (fun v => (v.adminEnd c 0 l.owner (l.wq + 2 ^ 18 * l.func)).settle) (.lockForceRelease c) s (fun v =>
        v.lock a = ({ l with forced := true } : Lock).freed ∧ (∀ j, j ≠ a → v.lock j = s.lock j) ∧
        v.fld .LCK_FORCE_COUNT = min (2 ^ 32 - 1) (s.fld .LCK_FORCE_COUNT + 1) ∧ (s.ini.waiting = [] → KeepsMem s v))) ∧
      (∀ w t, l.line = w :: t → CompletesVia (fun v => ((v.whenProtected (.grant a (add32 l.gseq 1) f) (fun u => u.sendGrant a f)).adminEnd c 0 l.owner (l.wq + 2 ^ 18 * l.func)).settle) (.lockForceRelease c) s (fun v =>
        v.lock a = { st := .granting, owner := w.coord, func := w.func, wq := w.wq, gseq := add32 l.gseq 1, granteeIdx := w.wqidx, line := t } ∧
        (∀ j, j ≠ a → v.lock j = s.lock j) ∧ v.fld .LCK_FORCE_COUNT = min (2 ^ 32 - 1) (s.fld .LCK_FORCE_COUNT + 1) ∧ (s.ini.waiting = [] → KeepsMem s v))))

/-- TWIN_CONFIG, GET_LOG and FW_UPDATE complete (R533, R588, R591, R592, R613, R622, R646). -/
def Obligations.TwinLogAndFirmwareCommandRowsComplete : Prop :=
  ∀ (s : State) (c : AdminCmd), s.Inv →
    let r := c.raw
    (s.adminOk c true s.fwReady [(8, 1), (12, 24)] → s.mir.cmdAt = none → s.mir.twin = .unpaired → s.flag .GEN_READY_MIR = true → s.aliased = false → s.twinOk (s.twinParams r) = true →
      Completes (.twinConfig c) s (fun v => v.mir.cfg = some (s.twinParams r) ∧ v.mir.cmdAt = some s.tick ∧ v.mir.twin = .unpaired ∧ v.mir.shadow = {} ∧
        v.qmg.bcmds = s.qmg.bcmds ++ [{ s.bcmdOf c 0x40 r.object with raw := r }] ∧ v.regs = s.regs ∧ KeepsMem s v)) ∧
    (s.adminOk c true s.logReady [(8, 13), (24, 4)] → r.at_ 8 8 % 64 = 0 → 1 ≤ r.at_ 16 4 → r.at_ 20 1 ≤ 1 →
      let pick {α : Type} (l : List (Nat × α)) : List (Nat × α) := (l.filter (fun e => decide (r.at_ 24 4 ≤ e.1))).take (r.at_ 16 4)
      (∀ e, r.at_ 20 1 = 0 → r.at_ 16 4 ≤ 256 → s.flt.log.getLast? = some e →
        exec (.getLog c) s = .next ((s.write (r.at_ 8 8) ((pick s.flt.log).flatMap (fun e => e.2.bytes e.1))).adminEnd c 0 (pick s.flt.log).length e.1)) ∧
      (r.at_ 20 1 = 0 → r.at_ 16 4 ≤ 256 → s.flt.log = [] →
        CompletesVia (fun v => v.adminEnd c 0 0 (Config.openNat s.free)) (.getLog c) s (fun v => v.free = s.free + 1 ∧ v.regs = s.regs ∧ KeepsMem s v)) ∧
      (∀ e, r.at_ 20 1 = 1 → r.at_ 16 4 ≤ 512 → s.rst.histRows.getLast? = some e →
        exec (.getLog c) s = .next ((s.write (r.at_ 8 8) ((pick s.rst.histRows).flatMap (fun e => e.2))).adminEnd c 0 (pick s.rst.histRows).length e.1))) ∧
    (s.adminOk c true s.logReady [(8, 13)] → r.at_ 8 8 % 4096 = 0 → r.at_ 16 4 ≠ 0 → r.at_ 16 4 % 4096 = 0 →
      r.at_ 16 4 ≤ (if bitAt (r.at_ 20 1) 1 then 12288 else 2 ^ 23) → r.at_ 20 1 ≤ 2 →
      let b : BCmd := { s.bcmdOf c 0x49 r.object with raw := r }
      let x := s.read (r.at_ 8 8) (r.at_ 16 4)
      Completes (.fwUpdate c .ok) s (fun v => v.qmg.bcmds = s.qmg.bcmds ++ [b] ∧ v.regs = s.regs ∧ KeepsMem s v ∧
        (s.rst.fw = none → v.rst.fw = some b ∧ v.rst.fwBytes = x) ∧
        (s.rst.fw.isSome = true → v.rst.fw = s.rst.fw ∧ v.rst.fwBytes = s.rst.fwBytes ∧ v.rst.fwWait = s.rst.fwWait ++ [(b, x)]))) ∧
    (∀ (b : BCmd) (sig wr : Bool) (ver : Nat), s.rst.fw = some b → s.rst.fwVer = none →
      let set_ := bitAt (b.raw.at_ 20 1) 1
      let l := s.rst.fwBytes
      let k := 1 - s.fld .RST_BOOT_SLOT
      let written (v : State) : Prop := v.rst = s.rst ∧ v.regs = s.regs ∧ KeepsMem s v ∧ v.out = s.out ++
        (List.range ((l.length + 4095) / 4096)).flatMap (fun i => flashSector s.spiClk (slotAddr k + 4096 * i) ((l.drop (4096 * i)).take 4096)) ++
        [.flash (if bitAt s.rst.straps 0 then 0xEC else 0x13) (slotAddr k) [] s.spiClk]
      (sig = false ∨ s.recordOk (recordSlot l) ver = false →
        CompletesVia (fun v => (v.raise 0x62B 0x6001 (recordSlot l)).fwEnd b sBadSignature) (.fwUpdateComplete sig wr ver) s
          (fun v => v.flag .SEC_FLT_SIGFAIL = true ∧ v.rst = s.rst ∧ v.out = s.out ∧ KeepsRegs s v [RegName.SEC_FLT.addr 0] ∧ KeepsMem s v)) ∧
      (sig = true → s.recordOk (recordSlot l) ver = true →
        (wr = false → set_ = true → CompletesVia (fun v => v.fwEnd b sFwError) (.fwUpdateComplete sig wr ver) s (fun v =>
          v.rst = { s.rst with nv := mdel s.rst.nv (setBase s.setNext.1) } ∧ v.out = s.out ∧ v.regs = s.regs ∧ KeepsMem s v)) ∧
        (wr = true → set_ = true → s.rst.epoch ≠ .due → Completes (.fwUpdateComplete sig wr ver) s (fun v =>
          v.rst.fw = some b ∧ v.rst.fwVer = some ver ∧ v.rst.nvRow.toList ++ v.rst.nvQ = s.rst.nvRow.toList ++ setRows s.setNext.1 s.setNext.2 l ∧
          v.rst.nv = s.rst.nv ∧ v.out = s.out ∧ v.regs = s.regs ∧ KeepsMem s v)) ∧
        (wr = false → set_ = false → CompletesVia (fun v => v.fwEnd b sFwError) (.fwUpdateComplete sig wr ver) s written) ∧
        (wr = true → set_ = false → bitAt (b.raw.at_ 20 1) 0 = false → CompletesVia (fun v => v.fwEnd b 0 ver) (.fwUpdateComplete sig wr ver) s written) ∧
        (wr = true → set_ = false → bitAt (b.raw.at_ 20 1) 0 = true → CompletesVia (fun v =>
          let w := v.fwEnd b 0 ver
          let q := w.aq b.func
          ({ w with rst := { w.rst with restartAt := some (b.func, add32 q.cqProd q.held.length) } } : State).restartDue) (.fwUpdateComplete sig wr ver) s written)))

/-- The ends of table reads and compare-and-swaps, and the ageing of translations, complete (R339, R341, R347, R348, R352, R353, R355, R365, R369, R376, R670). -/
def Obligations.WalkRowsComplete : Prop :=
  ∀ (s : State) (n : Nat), s.Inv → mwf s.xlt.walks →
    (∀ (w : Walk), mget s.xlt.walks n = some w →
      let gone (v : State) : Prop := mget v.xlt.walks n = none ∧ (∀ k, k ≠ n → mget v.xlt.walks k = mget s.xlt.walks k)
      let fails (kind l a : Nat) (v : State) : State := ((v.xltFault w kind l a).walkFailed w.acc (heldOver w.inv w.got) kind).settle
      let waits (w' : Walk) (a l : Nat) (u : State) : Prop :=
        mget u.xlt.walks n = some { w' with phase := .level l (a - 8 * bits w.va (12 + 9 * l) 9) } ∧ u.out = s.out ++ [.hostRead w.func a 8] ∧
        u.fld .XLT_WALKRD_COUNT = min (2 ^ 32 - 1) (s.fld .XLT_WALKRD_COUNT + 1) ∧ KeepsRegs s u [RegName.XLT_WALKRD.addr 0] ∧ KeepsMem s u
      (∀ a, w.phase = .asid a →
        let v := leNat (s.read a 8)
        let top := bits v 52 3
        let root := bits v 12 40 * 2 ^ 12
        let e : WcEnt := { func := w.func, asid := w.asid, level := 5, prefix_ := 0, table := root, top := top, at_ := s.tick }
        (asidOk v w.func = true → w.va / 2 ^ (21 + 9 * top) = 0 → s.wcLookup w.func w.asid top w.va = none →
          s.excluded (pteSlot root top w.va) (pteSlot root top w.va + 7) = false →
          CompletesVia State.settle (.walkReadDone n .ok) s (waits { w with wc := w.wc ++ [e] } (pteSlot root top w.va) top)) ∧
        (asidOk v w.func = false → CompletesVia (fails xAsidInv 5 0) (.walkReadDone n .ok) s (fun v => gone v ∧ v.regs = s.regs ∧ KeepsMem s v))) ∧
      (∀ l table, w.phase = .level l table →
        let a := pteSlot table l w.va
        let v := leNat (s.read a 8)
        (pteP v = false → CompletesVia (fails xNotPresent l 0) (.walkReadDone n .ok) s (fun v => gone v ∧ v.regs = s.regs ∧ KeepsMem s v)) ∧
        (CompletesVia (fails xWalkBus l a) (.walkReadDone n .poison) s (fun v => gone v ∧ v.flag .HIF_FLT_POISONRX = true ∧ KeepsRegs s v [RegName.HIF_FLT.addr 0] ∧ KeepsMem s v)) ∧
        (pteP v = true → pteOk l v = true → pteLeaf v = false →
          let e : WcEnt := { func := w.func, asid := w.asid, level := l, prefix_ := w.va / 2 ^ (12 + 9 * l), table := pteAddr v, top := 0, at_ := s.tick }
          let b := pteSlot (pteAddr v) (l - 1) w.va
          s.wcLookup w.func w.asid (l - 1) w.va = none → s.excluded b (b + 7) = false →
          CompletesVia State.settle (.walkReadDone n .ok) s (waits { w with wc := w.wc ++ [e] } b (l - 1))) ∧
        (pteP v = true → pteOk l v = true → pteLeaf v = true →
          let e := leafOf w l a v s.tick
          s.excluded e.addr (e.addr + 2 ^ e.ps - 1) = false → (w.write = true → e.w = true) →
          (w.target = false → bitAt w.kr (32 + 2 * e.pkey) = false ∧ (w.write = true → bitAt w.kr (33 + 2 * e.pkey) = false)) →
          ((s.flag .XLT_CTL_ADSET = false ∨ ((w.reads = true → pteA v = true) ∧ (w.write = true → pteD v = true))) →
            CompletesVia (fun u => (if w.lost then u.walkFailed w.acc (heldOver w.inv (w.got ++ [e])) xWalkBus
                else u.walkGot w.acc (heldOver w.inv (w.got ++ [e]))).settle) (.walkReadDone n .ok) s (fun u =>
              gone u ∧ (w.noInstall = false → ∃ k, mget u.xlt.cache k = some e) ∧ (w.noInstall = true → u.xlt.cache = s.xlt.cache) ∧ u.regs = s.regs ∧ KeepsMem s u)) ∧
          (s.flag .XLT_CTL_ADSET = true → w.write = true → pteD v = false → s.excluded a (a + 7) = false → s.host.atomicOp = true → s.dmaStop = false →
            let swap := putBits (putBits v 4 1 1) 5 1 1
            CompletesVia State.settle (.walkReadDone n .ok) s (fun u =>
              mget u.xlt.walks n = some { w with phase := .cas e v swap 0 } ∧ u.out = s.out ++ [.hostCas w.func a v swap] ∧
              u.fld .XLT_ADCAS_COUNT = min (2 ^ 32 - 1) (s.fld .XLT_ADCAS_COUNT + 1) ∧ KeepsRegs s u [RegName.XLT_ADCAS.addr 0] ∧ KeepsMem s u)))) ∧
      (∀ e cmp swap tries, w.phase = .cas e cmp swap tries →
        (leNat (s.read e.eaddr 8) = cmp →
          let got := heldOver w.inv (w.got ++ [{ e with dseen := pteD swap, at_ := s.tick, val := swap }])
          CompletesVia (fun u => (if w.lost then u.walkFailed w.acc got xWalkBus else u.walkGot w.acc got).settle) (.adCasDone n .ok) s (fun u =>
            gone u ∧ leNat (u.read e.eaddr 8) = swap % 2 ^ 64 ∧ KeepsMemBut s u e.eaddr 8 ∧ u.regs = s.regs)) ∧
        (leNat (s.read e.eaddr 8) ≠ cmp → 8 ≤ tries + 1 →
          CompletesVia (fails xCasFail e.lvl 0) (.adCasDone n .ok) s (fun u => gone u ∧ u.regs = s.regs ∧ KeepsMem s u)))) ∧
    (∀ e, mget s.xlt.cache n = some e → mwf s.xlt.cache →
      (s.young e.at_ = false → Completes (.xltEntryAged n) s (fun v => mget v.xlt.cache n = none ∧ (∀ k, k ≠ n → mget v.xlt.cache k = mget s.xlt.cache k) ∧
        v.fld .XLT_AGED_COUNT = min (2 ^ 32 - 1) (s.fld .XLT_AGED_COUNT + 1) ∧ KeepsRegs s v [RegName.XLT_AGED.addr 0] ∧ KeepsMem s v)) ∧
      (s.young e.at_ = true → exec (.xltEntryAged n) s = .next s)) ∧
    (∀ e, mget s.xlt.cache n = none → mget s.xlt.wcache n = some e → mwf s.xlt.wcache →
      (s.young e.at_ = false → Completes (.xltEntryAged n) s (fun v => mget v.xlt.wcache n = none ∧ v.xlt.cache = s.xlt.cache ∧
        v.fld .XLT_AGED_COUNT = min (2 ^ 32 - 1) (s.fld .XLT_AGED_COUNT + 1) ∧ KeepsRegs s v [RegName.XLT_AGED.addr 0] ∧ KeepsMem s v)) ∧
      (s.young e.at_ = true → exec (.xltEntryAged n) s = .next s))

/-- A step runs the command at the front of the queue; every command completes; an idle step passes one tick (the model's choice, log 1) (R13, R550). -/
def Obligations.StepRunsTheFrontCommand : Prop :=
  (∀ (s : State) (c : Instr) (rest : List Instr), s.pending = c :: rest → step s = exec c (s.withPending rest)) ∧
  (∀ (c : Instr) (s : State), ∃ t, exec c s = .next t) ∧
  (∀ (s : State), s.pending = [] → ∃ t, step s = .next t ∧ (s.rst.power ≠ .run → t = s.passTick))

/-- State.reset holds every register's reset value, nothing is in progress, and it is consistent; memory that reads 0 and PERST# are the model's choices (log 4, 7) (R94, R577, R661). -/
def Obligations.ResetStateHoldsResetValues : Prop :=
  State.reset.Inv ∧ (∀ r i, State.reset.rdRaw r i = r.resetAt i) ∧ (∀ a, State.reset.byte a = 0) ∧
  State.reset.hif = false ∧ State.reset.dstate = false ∧ State.reset.timeLocked = false ∧ State.reset.ncc = false ∧ State.reset.ctxpool = false ∧
  (∀ q, (State.reset.wq q).st = .disabled) ∧ (∀ k, (State.reset.region k).st = .free ∧ (State.reset.region k).gen = 1) ∧
  (∀ k, (State.reset.lock k).st = .disabled) ∧ (∀ k, (State.reset.ctx k).st = .free) ∧ (∀ p, (State.reset.port p).st = 0) ∧
  State.reset.mir.twin = .unpaired ∧ State.reset.mir.link = 0 ∧ State.reset.flt.safe = false ∧ State.reset.rst.steward = false ∧
  State.reset.rst.perst = true ∧ State.reset.ini.quietUntil = 10000 ∧ State.reset.tick = 0 ∧
  State.reset.ini.tags = [] ∧ State.reset.tgt.dup = [] ∧ State.reset.win.map = [] ∧ State.reset.xlt.cache = [] ∧ State.reset.out = [] ∧ State.reset.pending = []

/-- Every step keeps the state consistent (R10, R15). -/
def Obligations.StepKeepsConsistency : Prop :=
  ∀ s t : State, s.Inv → step s = .next t → t.Inv

/-- The bytes of a packet, and the flits that carry it, give the packet back (R492, R513, R514). -/
def Obligations.PacketRoundTrip : Prop :=
  ∀ (p : Pkt) (rest : List Byte),
    p.dest < 2 ^ 20 → p.src < 2 ^ 20 → p.ptype < 256 → p.tclass < 8 → p.hops < 16 → p.attempt < 8 → p.tag < 2 ^ 17 → p.epoch < 256 → p.via < 32 → p.plabel < 1024 →
    p.sentAgo < 2 ^ 21 → p.age < 2 ^ 20 → p.txtime < 2 ^ 32 → p.status < 256 → p.sub < 256 → p.vc < 8 →
    p.ext.length % 8 = 0 → p.ext.length < 64 → p.payload.length < 1024 →
    decodePkt (p.bytes ++ rest) = p ∧
    (∀ v, v < 8 → decodePkt ((p.flits v).flatMap Flit.body) = { p with vc := v } ∧
      (∀ f ∈ p.flits v, f.kind = 1 ∧ f.vc = v ∧ f.body.length = 56) ∧
      (∃ f, (p.flits v).head? = some f ∧ f.sop = true) ∧ (∃ f, (p.flits v).getLast? = some f ∧ f.eop = true))

/-- A message of class 0 is not counted under R600 and reacts at level 1 or 0 (R605). -/
def Obligations.ClassZeroMessagesReactWithoutCounting : Prop :=
  ∀ (s : State) (m : FltMsg), s.Inv → minBy (fun x => s.fullTime x.time * 2 ^ 12 + x.src) s.flt.msgs = some m → slotOf m.src < 548 → m.code / 4096 = 0 →
    let k := slotOf m.src
    let w := s.fltWindow k (s.fullTime m.time / 2 ^ s.fld .FLT_SRCCFG_WLOG2 k)
    ∃ more, CompletesVia (fun v => (v.fltAct m.src (if 1 ≤ s.fld .FLT_SRCCFG_REACT k then 1 else 0) more).settle.timeCheck) .faultMessage s (fun v =>
      v.fld .FLT_SRCSTAT_WINCNT k = w.fld .FLT_SRCSTAT_WINCNT k ∧ v.flag .FLT_SRCSTAT_SEVERE k = w.flag .FLT_SRCSTAT_SEVERE k ∧
      v.flag .FLT_SRCSTAT_LATCH k = (s.flag .FLT_SRCSTAT_LATCH k || decide (1 ≤ s.fld .FLT_SRCCFG_REACT k)) ∧ KeepsMem s v)

/-- A block whose wait for idle ends by timeout is reset, with IDLETO and a fault message (R581). -/
def Obligations.IdleTimeoutResetsTheBlock : Prop :=
  ∀ (s : State) (c : Nat) (b : BlkRst), s.Inv → mget s.rst.blocks c = some b → b.idleWait = true → s.rst.nvPending.contains (.block c) = false →
    b.since + s.fld .RST_IDLETO_TO ≤ s.tick →
    let src := (s.blockSrc c).1
    let told (v : State) : Prop := v.flag .RST_FLT_IDLETO = true ∧ (∀ f : Fld, f.reg = .RST_FLT → 1 ≤ f.lo → f.lo + f.w ≤ 32 → v.fld f 0 = s.fld f 0) ∧ KeepsRegs s v [RegName.RST_FLT.addr 0] ∧
      v.flt.msgs = (if heldOf s.flt.msgs src < 4 then s.flt.msgs ++ [{ src := src, code := 0x4005, time := s.now % 2 ^ 32, addr := c }]
        else mergeLast src (s.now % 2 ^ 32) c s.flt.msgs) ∧ v.rst = s.rst ∧ KeepsMem s v
    (s.rst.nvRow = none → CompletesVia (fun v => (v.blockReset c).nvStart.settle) (.blockIdleTimeout c) s told) ∧
    (s.rst.nvRow.isSome = true → CompletesVia (fun v => ({ v with rst := { v.rst with nvPending := v.rst.nvPending ++ [.block c] } } : State).settle)
      (.blockIdleTimeout c) s told)
end

