-- ==== Sys2Proof/Laws/Maps.lean ====
section
/-! SUPPORT. The laws of sparse tables: a read after a write, what a write leaves alone, and that every write keeps the
canonical form. -/

namespace Sys2Proof.Machine

variable {α : Type}

@[simp] theorem mget_nil (k : Nat) : mget ([] : AMap α) k = none := rfl

/-- A value written is read back, whatever the table. -/
@[simp] theorem mget_mset_same (m : AMap α) (k : Nat) (v : α) : mget (mset m k v) k = some v := by
  induction m with
  | nil => simp [mset, mget]
  | cons x t ih =>
    obtain ⟨k', v'⟩ := x
    by_cases h : k = k'
    · simp [mset, mget, h]
    · by_cases h2 : k < k'
      · simp [mset, mget, h, h2]
      · have h3 : ¬ k' = k := fun e => h e.symm
        simp [mset, mget, h, h2, h3, ih]

/-- A write leaves every other key alone, whatever the table. -/
theorem mget_mset_ne (m : AMap α) {k j : Nat} (v : α) (hj : j ≠ k) : mget (mset m k v) j = mget m j := by
  induction m with
  | nil =>
    have h1 : ¬ k = j := fun e => hj e.symm
    simp [mset, mget, h1]
  | cons x t ih =>
    obtain ⟨k', v'⟩ := x
    by_cases h : k = k'
    · subst h
      have h1 : ¬ k = j := fun e => hj e.symm
      simp [mset, mget, h1]
    · by_cases h2 : k < k'
      · have h1 : ¬ k = j := fun e => hj e.symm
        simp only [mset, h, h2, if_false, if_true, mget, h1]
        by_cases h3 : j < k
        · have h4 : j < k' := Nat.lt_trans h3 h2
          have h5 : ¬ k' = j := fun e => absurd h4 (by omega)
          simp [h3, h4, h5]
        · simp [h3]
      · simp [mset, mget, h, h2, ih]

/-- In a canonical table every key of the tail lies above the head's. -/
theorem mwf_head_lt {k : Nat} {v : α} {t : AMap α} (h : mwf ((k, v) :: t)) : ∀ x ∈ t, k < x.1 := by
  intro x hx
  simp only [mwf, List.map_cons, List.pairwise_cons] at h
  exact h.1 x.1 (List.mem_map_of_mem hx)

theorem mwf_tail {x : Nat × α} {t : AMap α} (h : mwf (x :: t)) : mwf t := by
  simp only [mwf, List.map_cons, List.pairwise_cons] at h
  exact h.2

/-- A key below every key of a canonical table is not listed. -/
theorem mget_eq_none_of_lt {k : Nat} {m : AMap α} (h : ∀ x ∈ m, k < x.1) : mget m k = none := by
  cases m with
  | nil => rfl
  | cons x t =>
    obtain ⟨k', v'⟩ := x
    have hk : k < k' := h _ List.mem_cons_self
    have h1 : ¬ k' = k := by omega
    simp [mget, h1, hk]

theorem mget_mdel_same {m : AMap α} (h : mwf m) (k : Nat) : mget (mdel m k) k = none := by
  induction m with
  | nil => rfl
  | cons x t ih =>
    obtain ⟨k', v'⟩ := x
    by_cases h1 : k = k'
    · subst h1
      simpa [mdel] using mget_eq_none_of_lt (mwf_head_lt h)
    · by_cases h2 : k < k'
      · have h3 : ¬ k' = k := fun e => h1 e.symm
        simp [mdel, mget, h1, h2, h3]
      · have h3 : ¬ k' = k := fun e => h1 e.symm
        simp [mdel, mget, h1, h2, h3, ih (mwf_tail h)]

theorem mget_mdel_ne {m : AMap α} (h : mwf m) {k j : Nat} (hj : j ≠ k) : mget (mdel m k) j = mget m j := by
  induction m with
  | nil => rfl
  | cons x t ih =>
    obtain ⟨k', v'⟩ := x
    by_cases h1 : k = k'
    · subst h1
      have h2 : ¬ k = j := fun e => hj e.symm
      by_cases h3 : j < k
      · have : mget t j = none := mget_eq_none_of_lt fun x hx => Nat.lt_trans h3 (mwf_head_lt h x hx)
        simp [mdel, mget, h2, h3, this]
      · simp [mdel, mget, h2, h3]
    · by_cases h2 : k < k'
      · simp [mdel, h1, h2]
      · simp [mdel, mget, h1, h2, ih (mwf_tail h)]

theorem mem_mset {m : AMap α} {k : Nat} {v : α} {x : Nat × α} (h : x ∈ mset m k v) : x = (k, v) ∨ x ∈ m := by
  induction m with
  | nil => simpa [mset] using h
  | cons y t ih =>
    obtain ⟨k', v'⟩ := y
    simp only [mset] at h
    split at h
    · rcases List.mem_cons.1 h with h | h
      · exact .inl h
      · exact .inr (List.mem_cons_of_mem _ h)
    · split at h
      · rcases List.mem_cons.1 h with h | h
        · exact .inl h
        · exact .inr h
      · rcases List.mem_cons.1 h with h | h
        · exact .inr (h ▸ List.mem_cons_self)
        · rcases ih h with h | h
          · exact .inl h
          · exact .inr (List.mem_cons_of_mem _ h)

theorem mem_mdel {m : AMap α} {k : Nat} {x : Nat × α} (h : x ∈ mdel m k) : x ∈ m := by
  induction m with
  | nil => simp [mdel] at h
  | cons y t ih =>
    obtain ⟨k', v'⟩ := y
    simp only [mdel] at h
    split at h
    · exact List.mem_cons_of_mem _ h
    · split at h
      · exact h
      · rcases List.mem_cons.1 h with h | h
        · exact h ▸ List.mem_cons_self
        · exact List.mem_cons_of_mem _ (ih h)

theorem mwf_cons {k : Nat} {v : α} {t : AMap α} (h1 : ∀ x ∈ t, k < x.1) (h2 : mwf t) : mwf ((k, v) :: t) := by
  simp only [mwf, List.map_cons, List.pairwise_cons]
  refine ⟨?_, h2⟩
  intro y hy
  obtain ⟨x, hx, rfl⟩ := List.mem_map.1 hy
  exact h1 x hx

/-- A write keeps the canonical form. -/
theorem mwf_mset {m : AMap α} (h : mwf m) (k : Nat) (v : α) : mwf (mset m k v) := by
  induction m with
  | nil => simp [mset, mwf]
  | cons x t ih =>
    obtain ⟨k', v'⟩ := x
    have hlt := mwf_head_lt h
    simp only [mset]
    split
    · rename_i e
      subst e
      exact mwf_cons hlt (mwf_tail h)
    · split
      · rename_i h2
        refine mwf_cons ?_ h
        intro y hy
        rcases List.mem_cons.1 hy with hy | hy
        · exact hy ▸ h2
        · exact Nat.lt_trans h2 (hlt y hy)
      · rename_i h1 h2
        refine mwf_cons ?_ (ih (mwf_tail h))
        intro y hy
        rcases mem_mset hy with hy | hy
        · subst hy
          show k' < k
          omega
        · exact hlt y hy

/-- A removal keeps the canonical form. -/
theorem mwf_mdel {m : AMap α} (h : mwf m) (k : Nat) : mwf (mdel m k) := by
  induction m with
  | nil => simpa [mdel] using h
  | cons x t ih =>
    obtain ⟨k', v'⟩ := x
    simp only [mdel]
    split
    · exact mwf_tail h
    · split
      · exact h
      · exact mwf_cons (fun y hy => mwf_head_lt h y (mem_mdel hy)) (ih (mwf_tail h))

/-- A change of a listed value keeps the canonical form. -/
theorem mwf_mmod {m : AMap α} (h : mwf m) (k : Nat) (f : α → α) : mwf (mmod m k f) := by
  unfold mmod
  split
  · exact mwf_mset h k _
  · exact h

/-- A selection of entries keeps the canonical form. -/
theorem mwf_filter {m : AMap α} (h : mwf m) (p : Nat × α → Bool) : mwf (m.filter p) := by
  induction m with
  | nil => simp [mwf]
  | cons x t ih =>
    obtain ⟨k', v'⟩ := x
    rw [List.filter_cons]
    split
    · exact mwf_cons (fun y hy => mwf_head_lt h y (List.mem_filter.1 hy).1) (ih (mwf_tail h))
    · exact ih (mwf_tail h)

end Sys2Proof.Machine
end

