-- ==== Sys2Proof/Laws/Memory.lean ====
section
/-! SUPPORT. The laws of host memory: a read after a write, what a write leaves alone, and that every memory operation keeps
the canonical form. -/

namespace Sys2Proof.Machine

/-- A byte reads as the listed value, or 0. -/
theorem memGet_eq (m : List Host.Cell) (k : Nat) : memGet m k = (mget m k).getD 0 := by
  induction m with
  | nil => rfl
  | cons x t ih =>
    obtain ⟨k', v⟩ := x
    simp only [memGet, mget]
    split
    · rfl
    · split
      · rfl
      · exact ih

theorem Memory.wf_iff (m : List Host.Cell) : Memory.wf m = true ↔ mwf m ∧ ∀ c ∈ m, c.2 ≠ 0 := by
  simp [Memory.wf]

/-- A byte written keeps the canonical form. -/
theorem wf_memPut {m : List Host.Cell} (h : Memory.wf m = true) (k : Nat) (v : Byte) : Memory.wf (memPut m k v) = true := by
  rw [Memory.wf_iff] at h ⊢
  unfold memPut
  split
  · exact ⟨mwf_mdel h.1 k, fun c hc => h.2 c (mem_mdel hc)⟩
  · refine ⟨mwf_mset h.1 k v, fun c hc => ?_⟩
    rcases mem_mset hc with hc | hc
    · subst hc; assumption
    · exact h.2 c hc

/-- Bytes written keep the canonical form. -/
theorem wf_memWrite (l : List Byte) : ∀ {m : List Host.Cell} (a : Nat), Memory.wf m = true → Memory.wf (memWrite m a l) = true := by
  induction l with
  | nil => intro m a h; exact h
  | cons b t ih => intro m a h; exact ih (a + 1) (wf_memPut h _ b)

/-- A byte written is read back. -/
theorem memGet_memPut_same {m : List Host.Cell} (h : Memory.wf m = true) (k : Nat) (v : Byte) : memGet (memPut m k v) k = v := by
  rw [memGet_eq]
  unfold memPut
  split
  · rename_i e
    rw [mget_mdel_same ((Memory.wf_iff m).1 h).1]
    exact e.symm
  · simp

/-- A byte written leaves every other byte alone. -/
theorem memGet_memPut_ne {m : List Host.Cell} (h : Memory.wf m = true) {k j : Nat} (v : Byte) (hj : j ≠ k) :
    memGet (memPut m k v) j = memGet m j := by
  rw [memGet_eq, memGet_eq]
  unfold memPut
  split
  · rw [mget_mdel_ne ((Memory.wf_iff m).1 h).1 hj]
  · rw [mget_mset_ne m v hj]

/-- Bytes written leave every byte outside them alone. -/
theorem memGet_memWrite_out (l : List Byte) : ∀ {m : List Host.Cell} (a x : Nat), Memory.wf m = true →
    (∀ i, i < l.length → x ≠ (a + i) % 2 ^ 64) → memGet (memWrite m a l) x = memGet m x := by
  induction l with
  | nil => intro m a x _ _; rfl
  | cons b t ih =>
    intro m a x h hx
    have h0 : x ≠ a % 2 ^ 64 := by simpa using hx 0 (by simp)
    have h1 : ∀ i, i < t.length → x ≠ (a + 1 + i) % 2 ^ 64 := fun i hi => by
      have := hx (i + 1) (by simpa using hi)
      rwa [show a + (i + 1) = a + 1 + i by omega] at this
    show memGet (memWrite (memPut m (a % 2 ^ 64) b) (a + 1) t) x = _
    rw [ih (a + 1) x (wf_memPut h _ b) h1, memGet_memPut_ne h b h0]

/-- A write to host memory keeps the canonical form. -/
theorem State.wf_write {s : State} (h : Memory.wf s.hostMem = true) (a : Nat) (l : List Byte) :
    Memory.wf (s.write a l).hostMem = true := wf_memWrite l a h

/-- What the host stores keeps the canonical form. -/
theorem State.wf_hostStores (l : List Host.Cell) : ∀ {s : State}, Memory.wf s.hostMem = true →
    Memory.wf (s.hostStores l).hostMem = true := by
  induction l with
  | nil => intro s h; exact h
  | cons c t ih =>
    intro s h
    exact ih (s := { s with hostMem := memPut s.hostMem (c.1 % 2 ^ 64) c.2 }) (wf_memPut h _ _)

end Sys2Proof.Machine
end

