-- ==== Sys2Proof/Laws/State.lean ====
section
/-! SUPPORT. One lemma for each field and each primitive update of the state: what the update leaves as it was. -/

namespace Sys2Proof.Machine

@[simp] theorem State.wrRaw_hostMem (s : State) (r : RegName) (i v : Nat) : (s.wrRaw r i v).hostMem = s.hostMem := rfl
@[simp] theorem State.wrRaw_time (s : State) (r : RegName) (i v : Nat) : (s.wrRaw r i v).time = s.time := rfl
@[simp] theorem State.wrRaw_host (s : State) (r : RegName) (i v : Nat) : (s.wrRaw r i v).host = s.host := rfl
@[simp] theorem State.wrRaw_qmg (s : State) (r : RegName) (i v : Nat) : (s.wrRaw r i v).qmg = s.qmg := rfl
@[simp] theorem State.wrRaw_tgt (s : State) (r : RegName) (i v : Nat) : (s.wrRaw r i v).tgt = s.tgt := rfl
@[simp] theorem State.wrRaw_ini (s : State) (r : RegName) (i v : Nat) : (s.wrRaw r i v).ini = s.ini := rfl
@[simp] theorem State.wrRaw_msg (s : State) (r : RegName) (i v : Nat) : (s.wrRaw r i v).msg = s.msg := rfl
@[simp] theorem State.wrRaw_win (s : State) (r : RegName) (i v : Nat) : (s.wrRaw r i v).win = s.win := rfl
@[simp] theorem State.wrRaw_xlt (s : State) (r : RegName) (i v : Nat) : (s.wrRaw r i v).xlt = s.xlt := rfl
@[simp] theorem State.wrRaw_col (s : State) (r : RegName) (i v : Nat) : (s.wrRaw r i v).col = s.col := rfl
@[simp] theorem State.wrRaw_lck (s : State) (r : RegName) (i v : Nat) : (s.wrRaw r i v).lck = s.lck := rfl
@[simp] theorem State.wrRaw_rte (s : State) (r : RegName) (i v : Nat) : (s.wrRaw r i v).rte = s.rte := rfl
@[simp] theorem State.wrRaw_lnk (s : State) (r : RegName) (i v : Nat) : (s.wrRaw r i v).lnk = s.lnk := rfl
@[simp] theorem State.wrRaw_mir (s : State) (r : RegName) (i v : Nat) : (s.wrRaw r i v).mir = s.mir := rfl
@[simp] theorem State.wrRaw_rst (s : State) (r : RegName) (i v : Nat) : (s.wrRaw r i v).rst = s.rst := rfl
@[simp] theorem State.wrRaw_flt (s : State) (r : RegName) (i v : Nat) : (s.wrRaw r i v).flt = s.flt := rfl
@[simp] theorem State.wrRaw_pmu (s : State) (r : RegName) (i v : Nat) : (s.wrRaw r i v).pmu = s.pmu := rfl
@[simp] theorem State.wrRaw_sec (s : State) (r : RegName) (i v : Nat) : (s.wrRaw r i v).sec = s.sec := rfl
@[simp] theorem State.wrRaw_ring (s : State) (r : RegName) (i v : Nat) : (s.wrRaw r i v).ring = s.ring := rfl
@[simp] theorem State.wrRaw_out (s : State) (r : RegName) (i v : Nat) : (s.wrRaw r i v).out = s.out := rfl
@[simp] theorem State.wrRaw_free (s : State) (r : RegName) (i v : Nat) : (s.wrRaw r i v).free = s.free := rfl
@[simp] theorem State.wrRaw_pending (s : State) (r : RegName) (i v : Nat) : (s.wrRaw r i v).pending = s.pending := rfl

@[simp] theorem State.setFld_hostMem (s : State) (f : Fld) (v i : Nat) : (s.setFld f v i).hostMem = s.hostMem := rfl
@[simp] theorem State.setFld_time (s : State) (f : Fld) (v i : Nat) : (s.setFld f v i).time = s.time := rfl
@[simp] theorem State.setFld_host (s : State) (f : Fld) (v i : Nat) : (s.setFld f v i).host = s.host := rfl
@[simp] theorem State.setFld_qmg (s : State) (f : Fld) (v i : Nat) : (s.setFld f v i).qmg = s.qmg := rfl
@[simp] theorem State.setFld_tgt (s : State) (f : Fld) (v i : Nat) : (s.setFld f v i).tgt = s.tgt := rfl
@[simp] theorem State.setFld_ini (s : State) (f : Fld) (v i : Nat) : (s.setFld f v i).ini = s.ini := rfl
@[simp] theorem State.setFld_msg (s : State) (f : Fld) (v i : Nat) : (s.setFld f v i).msg = s.msg := rfl
@[simp] theorem State.setFld_win (s : State) (f : Fld) (v i : Nat) : (s.setFld f v i).win = s.win := rfl
@[simp] theorem State.setFld_xlt (s : State) (f : Fld) (v i : Nat) : (s.setFld f v i).xlt = s.xlt := rfl
@[simp] theorem State.setFld_col (s : State) (f : Fld) (v i : Nat) : (s.setFld f v i).col = s.col := rfl
@[simp] theorem State.setFld_lck (s : State) (f : Fld) (v i : Nat) : (s.setFld f v i).lck = s.lck := rfl
@[simp] theorem State.setFld_rte (s : State) (f : Fld) (v i : Nat) : (s.setFld f v i).rte = s.rte := rfl
@[simp] theorem State.setFld_lnk (s : State) (f : Fld) (v i : Nat) : (s.setFld f v i).lnk = s.lnk := rfl
@[simp] theorem State.setFld_mir (s : State) (f : Fld) (v i : Nat) : (s.setFld f v i).mir = s.mir := rfl
@[simp] theorem State.setFld_rst (s : State) (f : Fld) (v i : Nat) : (s.setFld f v i).rst = s.rst := rfl
@[simp] theorem State.setFld_flt (s : State) (f : Fld) (v i : Nat) : (s.setFld f v i).flt = s.flt := rfl
@[simp] theorem State.setFld_pmu (s : State) (f : Fld) (v i : Nat) : (s.setFld f v i).pmu = s.pmu := rfl
@[simp] theorem State.setFld_sec (s : State) (f : Fld) (v i : Nat) : (s.setFld f v i).sec = s.sec := rfl
@[simp] theorem State.setFld_ring (s : State) (f : Fld) (v i : Nat) : (s.setFld f v i).ring = s.ring := rfl
@[simp] theorem State.setFld_out (s : State) (f : Fld) (v i : Nat) : (s.setFld f v i).out = s.out := rfl
@[simp] theorem State.setFld_free (s : State) (f : Fld) (v i : Nat) : (s.setFld f v i).free = s.free := rfl
@[simp] theorem State.setFld_pending (s : State) (f : Fld) (v i : Nat) : (s.setFld f v i).pending = s.pending := rfl

@[simp] theorem State.wrAq_hostMem (s : State) (f : Nat) (r : RegName) (v : Nat) : (s.wrAq f r v).hostMem = s.hostMem := rfl
@[simp] theorem State.wrAq_time (s : State) (f : Nat) (r : RegName) (v : Nat) : (s.wrAq f r v).time = s.time := rfl
@[simp] theorem State.wrAq_host (s : State) (f : Nat) (r : RegName) (v : Nat) : (s.wrAq f r v).host = s.host := rfl
@[simp] theorem State.wrAq_qmg (s : State) (f : Nat) (r : RegName) (v : Nat) : (s.wrAq f r v).qmg = s.qmg := rfl
@[simp] theorem State.wrAq_tgt (s : State) (f : Nat) (r : RegName) (v : Nat) : (s.wrAq f r v).tgt = s.tgt := rfl
@[simp] theorem State.wrAq_ini (s : State) (f : Nat) (r : RegName) (v : Nat) : (s.wrAq f r v).ini = s.ini := rfl
@[simp] theorem State.wrAq_msg (s : State) (f : Nat) (r : RegName) (v : Nat) : (s.wrAq f r v).msg = s.msg := rfl
@[simp] theorem State.wrAq_win (s : State) (f : Nat) (r : RegName) (v : Nat) : (s.wrAq f r v).win = s.win := rfl
@[simp] theorem State.wrAq_xlt (s : State) (f : Nat) (r : RegName) (v : Nat) : (s.wrAq f r v).xlt = s.xlt := rfl
@[simp] theorem State.wrAq_col (s : State) (f : Nat) (r : RegName) (v : Nat) : (s.wrAq f r v).col = s.col := rfl
@[simp] theorem State.wrAq_lck (s : State) (f : Nat) (r : RegName) (v : Nat) : (s.wrAq f r v).lck = s.lck := rfl
@[simp] theorem State.wrAq_rte (s : State) (f : Nat) (r : RegName) (v : Nat) : (s.wrAq f r v).rte = s.rte := rfl
@[simp] theorem State.wrAq_lnk (s : State) (f : Nat) (r : RegName) (v : Nat) : (s.wrAq f r v).lnk = s.lnk := rfl
@[simp] theorem State.wrAq_mir (s : State) (f : Nat) (r : RegName) (v : Nat) : (s.wrAq f r v).mir = s.mir := rfl
@[simp] theorem State.wrAq_rst (s : State) (f : Nat) (r : RegName) (v : Nat) : (s.wrAq f r v).rst = s.rst := rfl
@[simp] theorem State.wrAq_flt (s : State) (f : Nat) (r : RegName) (v : Nat) : (s.wrAq f r v).flt = s.flt := rfl
@[simp] theorem State.wrAq_pmu (s : State) (f : Nat) (r : RegName) (v : Nat) : (s.wrAq f r v).pmu = s.pmu := rfl
@[simp] theorem State.wrAq_sec (s : State) (f : Nat) (r : RegName) (v : Nat) : (s.wrAq f r v).sec = s.sec := rfl
@[simp] theorem State.wrAq_ring (s : State) (f : Nat) (r : RegName) (v : Nat) : (s.wrAq f r v).ring = s.ring := rfl
@[simp] theorem State.wrAq_out (s : State) (f : Nat) (r : RegName) (v : Nat) : (s.wrAq f r v).out = s.out := rfl
@[simp] theorem State.wrAq_free (s : State) (f : Nat) (r : RegName) (v : Nat) : (s.wrAq f r v).free = s.free := rfl
@[simp] theorem State.wrAq_pending (s : State) (f : Nat) (r : RegName) (v : Nat) : (s.wrAq f r v).pending = s.pending := rfl

@[simp] theorem State.setFldAq_hostMem (s : State) (f : Nat) (g : Fld) (v : Nat) : (s.setFldAq f g v).hostMem = s.hostMem := rfl
@[simp] theorem State.setFldAq_time (s : State) (f : Nat) (g : Fld) (v : Nat) : (s.setFldAq f g v).time = s.time := rfl
@[simp] theorem State.setFldAq_host (s : State) (f : Nat) (g : Fld) (v : Nat) : (s.setFldAq f g v).host = s.host := rfl
@[simp] theorem State.setFldAq_qmg (s : State) (f : Nat) (g : Fld) (v : Nat) : (s.setFldAq f g v).qmg = s.qmg := rfl
@[simp] theorem State.setFldAq_tgt (s : State) (f : Nat) (g : Fld) (v : Nat) : (s.setFldAq f g v).tgt = s.tgt := rfl
@[simp] theorem State.setFldAq_ini (s : State) (f : Nat) (g : Fld) (v : Nat) : (s.setFldAq f g v).ini = s.ini := rfl
@[simp] theorem State.setFldAq_msg (s : State) (f : Nat) (g : Fld) (v : Nat) : (s.setFldAq f g v).msg = s.msg := rfl
@[simp] theorem State.setFldAq_win (s : State) (f : Nat) (g : Fld) (v : Nat) : (s.setFldAq f g v).win = s.win := rfl
@[simp] theorem State.setFldAq_xlt (s : State) (f : Nat) (g : Fld) (v : Nat) : (s.setFldAq f g v).xlt = s.xlt := rfl
@[simp] theorem State.setFldAq_col (s : State) (f : Nat) (g : Fld) (v : Nat) : (s.setFldAq f g v).col = s.col := rfl
@[simp] theorem State.setFldAq_lck (s : State) (f : Nat) (g : Fld) (v : Nat) : (s.setFldAq f g v).lck = s.lck := rfl
@[simp] theorem State.setFldAq_rte (s : State) (f : Nat) (g : Fld) (v : Nat) : (s.setFldAq f g v).rte = s.rte := rfl
@[simp] theorem State.setFldAq_lnk (s : State) (f : Nat) (g : Fld) (v : Nat) : (s.setFldAq f g v).lnk = s.lnk := rfl
@[simp] theorem State.setFldAq_mir (s : State) (f : Nat) (g : Fld) (v : Nat) : (s.setFldAq f g v).mir = s.mir := rfl
@[simp] theorem State.setFldAq_rst (s : State) (f : Nat) (g : Fld) (v : Nat) : (s.setFldAq f g v).rst = s.rst := rfl
@[simp] theorem State.setFldAq_flt (s : State) (f : Nat) (g : Fld) (v : Nat) : (s.setFldAq f g v).flt = s.flt := rfl
@[simp] theorem State.setFldAq_pmu (s : State) (f : Nat) (g : Fld) (v : Nat) : (s.setFldAq f g v).pmu = s.pmu := rfl
@[simp] theorem State.setFldAq_sec (s : State) (f : Nat) (g : Fld) (v : Nat) : (s.setFldAq f g v).sec = s.sec := rfl
@[simp] theorem State.setFldAq_ring (s : State) (f : Nat) (g : Fld) (v : Nat) : (s.setFldAq f g v).ring = s.ring := rfl
@[simp] theorem State.setFldAq_out (s : State) (f : Nat) (g : Fld) (v : Nat) : (s.setFldAq f g v).out = s.out := rfl
@[simp] theorem State.setFldAq_free (s : State) (f : Nat) (g : Fld) (v : Nat) : (s.setFldAq f g v).free = s.free := rfl
@[simp] theorem State.setFldAq_pending (s : State) (f : Nat) (g : Fld) (v : Nat) : (s.setFldAq f g v).pending = s.pending := rfl

@[simp] theorem State.bump_hostMem (s : State) (f : Fld) (i n : Nat) : (s.bump f i n).hostMem = s.hostMem := rfl
@[simp] theorem State.bump_time (s : State) (f : Fld) (i n : Nat) : (s.bump f i n).time = s.time := rfl
@[simp] theorem State.bump_host (s : State) (f : Fld) (i n : Nat) : (s.bump f i n).host = s.host := rfl
@[simp] theorem State.bump_qmg (s : State) (f : Fld) (i n : Nat) : (s.bump f i n).qmg = s.qmg := rfl
@[simp] theorem State.bump_tgt (s : State) (f : Fld) (i n : Nat) : (s.bump f i n).tgt = s.tgt := rfl
@[simp] theorem State.bump_ini (s : State) (f : Fld) (i n : Nat) : (s.bump f i n).ini = s.ini := rfl
@[simp] theorem State.bump_msg (s : State) (f : Fld) (i n : Nat) : (s.bump f i n).msg = s.msg := rfl
@[simp] theorem State.bump_win (s : State) (f : Fld) (i n : Nat) : (s.bump f i n).win = s.win := rfl
@[simp] theorem State.bump_xlt (s : State) (f : Fld) (i n : Nat) : (s.bump f i n).xlt = s.xlt := rfl
@[simp] theorem State.bump_col (s : State) (f : Fld) (i n : Nat) : (s.bump f i n).col = s.col := rfl
@[simp] theorem State.bump_lck (s : State) (f : Fld) (i n : Nat) : (s.bump f i n).lck = s.lck := rfl
@[simp] theorem State.bump_rte (s : State) (f : Fld) (i n : Nat) : (s.bump f i n).rte = s.rte := rfl
@[simp] theorem State.bump_lnk (s : State) (f : Fld) (i n : Nat) : (s.bump f i n).lnk = s.lnk := rfl
@[simp] theorem State.bump_mir (s : State) (f : Fld) (i n : Nat) : (s.bump f i n).mir = s.mir := rfl
@[simp] theorem State.bump_rst (s : State) (f : Fld) (i n : Nat) : (s.bump f i n).rst = s.rst := rfl
@[simp] theorem State.bump_flt (s : State) (f : Fld) (i n : Nat) : (s.bump f i n).flt = s.flt := rfl
@[simp] theorem State.bump_pmu (s : State) (f : Fld) (i n : Nat) : (s.bump f i n).pmu = s.pmu := rfl
@[simp] theorem State.bump_sec (s : State) (f : Fld) (i n : Nat) : (s.bump f i n).sec = s.sec := rfl
@[simp] theorem State.bump_ring (s : State) (f : Fld) (i n : Nat) : (s.bump f i n).ring = s.ring := rfl
@[simp] theorem State.bump_out (s : State) (f : Fld) (i n : Nat) : (s.bump f i n).out = s.out := rfl
@[simp] theorem State.bump_free (s : State) (f : Fld) (i n : Nat) : (s.bump f i n).free = s.free := rfl
@[simp] theorem State.bump_pending (s : State) (f : Fld) (i n : Nat) : (s.bump f i n).pending = s.pending := rfl

@[simp] theorem State.latch_hostMem (s : State) (f : Fld) (i : Nat) : (s.latch f i).hostMem = s.hostMem := rfl
@[simp] theorem State.latch_time (s : State) (f : Fld) (i : Nat) : (s.latch f i).time = s.time := rfl
@[simp] theorem State.latch_host (s : State) (f : Fld) (i : Nat) : (s.latch f i).host = s.host := rfl
@[simp] theorem State.latch_qmg (s : State) (f : Fld) (i : Nat) : (s.latch f i).qmg = s.qmg := rfl
@[simp] theorem State.latch_tgt (s : State) (f : Fld) (i : Nat) : (s.latch f i).tgt = s.tgt := rfl
@[simp] theorem State.latch_ini (s : State) (f : Fld) (i : Nat) : (s.latch f i).ini = s.ini := rfl
@[simp] theorem State.latch_msg (s : State) (f : Fld) (i : Nat) : (s.latch f i).msg = s.msg := rfl
@[simp] theorem State.latch_win (s : State) (f : Fld) (i : Nat) : (s.latch f i).win = s.win := rfl
@[simp] theorem State.latch_xlt (s : State) (f : Fld) (i : Nat) : (s.latch f i).xlt = s.xlt := rfl
@[simp] theorem State.latch_col (s : State) (f : Fld) (i : Nat) : (s.latch f i).col = s.col := rfl
@[simp] theorem State.latch_lck (s : State) (f : Fld) (i : Nat) : (s.latch f i).lck = s.lck := rfl
@[simp] theorem State.latch_rte (s : State) (f : Fld) (i : Nat) : (s.latch f i).rte = s.rte := rfl
@[simp] theorem State.latch_lnk (s : State) (f : Fld) (i : Nat) : (s.latch f i).lnk = s.lnk := rfl
@[simp] theorem State.latch_mir (s : State) (f : Fld) (i : Nat) : (s.latch f i).mir = s.mir := rfl
@[simp] theorem State.latch_rst (s : State) (f : Fld) (i : Nat) : (s.latch f i).rst = s.rst := rfl
@[simp] theorem State.latch_flt (s : State) (f : Fld) (i : Nat) : (s.latch f i).flt = s.flt := rfl
@[simp] theorem State.latch_pmu (s : State) (f : Fld) (i : Nat) : (s.latch f i).pmu = s.pmu := rfl
@[simp] theorem State.latch_sec (s : State) (f : Fld) (i : Nat) : (s.latch f i).sec = s.sec := rfl
@[simp] theorem State.latch_ring (s : State) (f : Fld) (i : Nat) : (s.latch f i).ring = s.ring := rfl
@[simp] theorem State.latch_out (s : State) (f : Fld) (i : Nat) : (s.latch f i).out = s.out := rfl
@[simp] theorem State.latch_free (s : State) (f : Fld) (i : Nat) : (s.latch f i).free = s.free := rfl
@[simp] theorem State.latch_pending (s : State) (f : Fld) (i : Nat) : (s.latch f i).pending = s.pending := rfl

@[simp] theorem State.setBit_hostMem (s : State) (f : Fld) (i : Nat) (on : Bool) (j : Nat) : (s.setBit f i on j).hostMem = s.hostMem := rfl
@[simp] theorem State.setBit_time (s : State) (f : Fld) (i : Nat) (on : Bool) (j : Nat) : (s.setBit f i on j).time = s.time := rfl
@[simp] theorem State.setBit_host (s : State) (f : Fld) (i : Nat) (on : Bool) (j : Nat) : (s.setBit f i on j).host = s.host := rfl
@[simp] theorem State.setBit_qmg (s : State) (f : Fld) (i : Nat) (on : Bool) (j : Nat) : (s.setBit f i on j).qmg = s.qmg := rfl
@[simp] theorem State.setBit_tgt (s : State) (f : Fld) (i : Nat) (on : Bool) (j : Nat) : (s.setBit f i on j).tgt = s.tgt := rfl
@[simp] theorem State.setBit_ini (s : State) (f : Fld) (i : Nat) (on : Bool) (j : Nat) : (s.setBit f i on j).ini = s.ini := rfl
@[simp] theorem State.setBit_msg (s : State) (f : Fld) (i : Nat) (on : Bool) (j : Nat) : (s.setBit f i on j).msg = s.msg := rfl
@[simp] theorem State.setBit_win (s : State) (f : Fld) (i : Nat) (on : Bool) (j : Nat) : (s.setBit f i on j).win = s.win := rfl
@[simp] theorem State.setBit_xlt (s : State) (f : Fld) (i : Nat) (on : Bool) (j : Nat) : (s.setBit f i on j).xlt = s.xlt := rfl
@[simp] theorem State.setBit_col (s : State) (f : Fld) (i : Nat) (on : Bool) (j : Nat) : (s.setBit f i on j).col = s.col := rfl
@[simp] theorem State.setBit_lck (s : State) (f : Fld) (i : Nat) (on : Bool) (j : Nat) : (s.setBit f i on j).lck = s.lck := rfl
@[simp] theorem State.setBit_rte (s : State) (f : Fld) (i : Nat) (on : Bool) (j : Nat) : (s.setBit f i on j).rte = s.rte := rfl
@[simp] theorem State.setBit_lnk (s : State) (f : Fld) (i : Nat) (on : Bool) (j : Nat) : (s.setBit f i on j).lnk = s.lnk := rfl
@[simp] theorem State.setBit_mir (s : State) (f : Fld) (i : Nat) (on : Bool) (j : Nat) : (s.setBit f i on j).mir = s.mir := rfl
@[simp] theorem State.setBit_rst (s : State) (f : Fld) (i : Nat) (on : Bool) (j : Nat) : (s.setBit f i on j).rst = s.rst := rfl
@[simp] theorem State.setBit_flt (s : State) (f : Fld) (i : Nat) (on : Bool) (j : Nat) : (s.setBit f i on j).flt = s.flt := rfl
@[simp] theorem State.setBit_pmu (s : State) (f : Fld) (i : Nat) (on : Bool) (j : Nat) : (s.setBit f i on j).pmu = s.pmu := rfl
@[simp] theorem State.setBit_sec (s : State) (f : Fld) (i : Nat) (on : Bool) (j : Nat) : (s.setBit f i on j).sec = s.sec := rfl
@[simp] theorem State.setBit_ring (s : State) (f : Fld) (i : Nat) (on : Bool) (j : Nat) : (s.setBit f i on j).ring = s.ring := rfl
@[simp] theorem State.setBit_out (s : State) (f : Fld) (i : Nat) (on : Bool) (j : Nat) : (s.setBit f i on j).out = s.out := rfl
@[simp] theorem State.setBit_free (s : State) (f : Fld) (i : Nat) (on : Bool) (j : Nat) : (s.setBit f i on j).free = s.free := rfl
@[simp] theorem State.setBit_pending (s : State) (f : Fld) (i : Nat) (on : Bool) (j : Nat) : (s.setBit f i on j).pending = s.pending := rfl

@[simp] theorem State.resetRegs_hostMem (s : State) (p : Nat → Bool) : (s.resetRegs p).hostMem = s.hostMem := rfl
@[simp] theorem State.resetRegs_time (s : State) (p : Nat → Bool) : (s.resetRegs p).time = s.time := rfl
@[simp] theorem State.resetRegs_host (s : State) (p : Nat → Bool) : (s.resetRegs p).host = s.host := rfl
@[simp] theorem State.resetRegs_qmg (s : State) (p : Nat → Bool) : (s.resetRegs p).qmg = s.qmg := rfl
@[simp] theorem State.resetRegs_tgt (s : State) (p : Nat → Bool) : (s.resetRegs p).tgt = s.tgt := rfl
@[simp] theorem State.resetRegs_ini (s : State) (p : Nat → Bool) : (s.resetRegs p).ini = s.ini := rfl
@[simp] theorem State.resetRegs_msg (s : State) (p : Nat → Bool) : (s.resetRegs p).msg = s.msg := rfl
@[simp] theorem State.resetRegs_win (s : State) (p : Nat → Bool) : (s.resetRegs p).win = s.win := rfl
@[simp] theorem State.resetRegs_xlt (s : State) (p : Nat → Bool) : (s.resetRegs p).xlt = s.xlt := rfl
@[simp] theorem State.resetRegs_col (s : State) (p : Nat → Bool) : (s.resetRegs p).col = s.col := rfl
@[simp] theorem State.resetRegs_lck (s : State) (p : Nat → Bool) : (s.resetRegs p).lck = s.lck := rfl
@[simp] theorem State.resetRegs_rte (s : State) (p : Nat → Bool) : (s.resetRegs p).rte = s.rte := rfl
@[simp] theorem State.resetRegs_lnk (s : State) (p : Nat → Bool) : (s.resetRegs p).lnk = s.lnk := rfl
@[simp] theorem State.resetRegs_mir (s : State) (p : Nat → Bool) : (s.resetRegs p).mir = s.mir := rfl
@[simp] theorem State.resetRegs_rst (s : State) (p : Nat → Bool) : (s.resetRegs p).rst = s.rst := rfl
@[simp] theorem State.resetRegs_flt (s : State) (p : Nat → Bool) : (s.resetRegs p).flt = s.flt := rfl
@[simp] theorem State.resetRegs_pmu (s : State) (p : Nat → Bool) : (s.resetRegs p).pmu = s.pmu := rfl
@[simp] theorem State.resetRegs_sec (s : State) (p : Nat → Bool) : (s.resetRegs p).sec = s.sec := rfl
@[simp] theorem State.resetRegs_ring (s : State) (p : Nat → Bool) : (s.resetRegs p).ring = s.ring := rfl
@[simp] theorem State.resetRegs_out (s : State) (p : Nat → Bool) : (s.resetRegs p).out = s.out := rfl
@[simp] theorem State.resetRegs_free (s : State) (p : Nat → Bool) : (s.resetRegs p).free = s.free := rfl
@[simp] theorem State.resetRegs_pending (s : State) (p : Nat → Bool) : (s.resetRegs p).pending = s.pending := rfl

@[simp] theorem State.emit_regs (s : State) (e : Emit) : (s.emit e).regs = s.regs := rfl
@[simp] theorem State.emit_hostMem (s : State) (e : Emit) : (s.emit e).hostMem = s.hostMem := rfl
@[simp] theorem State.emit_time (s : State) (e : Emit) : (s.emit e).time = s.time := rfl
@[simp] theorem State.emit_host (s : State) (e : Emit) : (s.emit e).host = s.host := rfl
@[simp] theorem State.emit_qmg (s : State) (e : Emit) : (s.emit e).qmg = s.qmg := rfl
@[simp] theorem State.emit_tgt (s : State) (e : Emit) : (s.emit e).tgt = s.tgt := rfl
@[simp] theorem State.emit_ini (s : State) (e : Emit) : (s.emit e).ini = s.ini := rfl
@[simp] theorem State.emit_msg (s : State) (e : Emit) : (s.emit e).msg = s.msg := rfl
@[simp] theorem State.emit_win (s : State) (e : Emit) : (s.emit e).win = s.win := rfl
@[simp] theorem State.emit_xlt (s : State) (e : Emit) : (s.emit e).xlt = s.xlt := rfl
@[simp] theorem State.emit_col (s : State) (e : Emit) : (s.emit e).col = s.col := rfl
@[simp] theorem State.emit_lck (s : State) (e : Emit) : (s.emit e).lck = s.lck := rfl
@[simp] theorem State.emit_rte (s : State) (e : Emit) : (s.emit e).rte = s.rte := rfl
@[simp] theorem State.emit_lnk (s : State) (e : Emit) : (s.emit e).lnk = s.lnk := rfl
@[simp] theorem State.emit_mir (s : State) (e : Emit) : (s.emit e).mir = s.mir := rfl
@[simp] theorem State.emit_rst (s : State) (e : Emit) : (s.emit e).rst = s.rst := rfl
@[simp] theorem State.emit_flt (s : State) (e : Emit) : (s.emit e).flt = s.flt := rfl
@[simp] theorem State.emit_pmu (s : State) (e : Emit) : (s.emit e).pmu = s.pmu := rfl
@[simp] theorem State.emit_sec (s : State) (e : Emit) : (s.emit e).sec = s.sec := rfl
@[simp] theorem State.emit_ring (s : State) (e : Emit) : (s.emit e).ring = s.ring := rfl
@[simp] theorem State.emit_free (s : State) (e : Emit) : (s.emit e).free = s.free := rfl
@[simp] theorem State.emit_pending (s : State) (e : Emit) : (s.emit e).pending = s.pending := rfl

@[simp] theorem State.write_regs (s : State) (a : Nat) (l : List Byte) : (s.write a l).regs = s.regs := rfl
@[simp] theorem State.write_time (s : State) (a : Nat) (l : List Byte) : (s.write a l).time = s.time := rfl
@[simp] theorem State.write_host (s : State) (a : Nat) (l : List Byte) : (s.write a l).host = s.host := rfl
@[simp] theorem State.write_qmg (s : State) (a : Nat) (l : List Byte) : (s.write a l).qmg = s.qmg := rfl
@[simp] theorem State.write_tgt (s : State) (a : Nat) (l : List Byte) : (s.write a l).tgt = s.tgt := rfl
@[simp] theorem State.write_ini (s : State) (a : Nat) (l : List Byte) : (s.write a l).ini = s.ini := rfl
@[simp] theorem State.write_msg (s : State) (a : Nat) (l : List Byte) : (s.write a l).msg = s.msg := rfl
@[simp] theorem State.write_win (s : State) (a : Nat) (l : List Byte) : (s.write a l).win = s.win := rfl
@[simp] theorem State.write_xlt (s : State) (a : Nat) (l : List Byte) : (s.write a l).xlt = s.xlt := rfl
@[simp] theorem State.write_col (s : State) (a : Nat) (l : List Byte) : (s.write a l).col = s.col := rfl
@[simp] theorem State.write_lck (s : State) (a : Nat) (l : List Byte) : (s.write a l).lck = s.lck := rfl
@[simp] theorem State.write_rte (s : State) (a : Nat) (l : List Byte) : (s.write a l).rte = s.rte := rfl
@[simp] theorem State.write_lnk (s : State) (a : Nat) (l : List Byte) : (s.write a l).lnk = s.lnk := rfl
@[simp] theorem State.write_mir (s : State) (a : Nat) (l : List Byte) : (s.write a l).mir = s.mir := rfl
@[simp] theorem State.write_rst (s : State) (a : Nat) (l : List Byte) : (s.write a l).rst = s.rst := rfl
@[simp] theorem State.write_flt (s : State) (a : Nat) (l : List Byte) : (s.write a l).flt = s.flt := rfl
@[simp] theorem State.write_pmu (s : State) (a : Nat) (l : List Byte) : (s.write a l).pmu = s.pmu := rfl
@[simp] theorem State.write_sec (s : State) (a : Nat) (l : List Byte) : (s.write a l).sec = s.sec := rfl
@[simp] theorem State.write_ring (s : State) (a : Nat) (l : List Byte) : (s.write a l).ring = s.ring := rfl
@[simp] theorem State.write_out (s : State) (a : Nat) (l : List Byte) : (s.write a l).out = s.out := rfl
@[simp] theorem State.write_free (s : State) (a : Nat) (l : List Byte) : (s.write a l).free = s.free := rfl
@[simp] theorem State.write_pending (s : State) (a : Nat) (l : List Byte) : (s.write a l).pending = s.pending := rfl

@[simp] theorem State.modWq_regs (s : State) (q : Nat) (f : WQ → WQ) : (s.modWq q f).regs = s.regs := rfl
@[simp] theorem State.modWq_hostMem (s : State) (q : Nat) (f : WQ → WQ) : (s.modWq q f).hostMem = s.hostMem := rfl
@[simp] theorem State.modWq_time (s : State) (q : Nat) (f : WQ → WQ) : (s.modWq q f).time = s.time := rfl
@[simp] theorem State.modWq_host (s : State) (q : Nat) (f : WQ → WQ) : (s.modWq q f).host = s.host := rfl
@[simp] theorem State.modWq_tgt (s : State) (q : Nat) (f : WQ → WQ) : (s.modWq q f).tgt = s.tgt := rfl
@[simp] theorem State.modWq_ini (s : State) (q : Nat) (f : WQ → WQ) : (s.modWq q f).ini = s.ini := rfl
@[simp] theorem State.modWq_msg (s : State) (q : Nat) (f : WQ → WQ) : (s.modWq q f).msg = s.msg := rfl
@[simp] theorem State.modWq_win (s : State) (q : Nat) (f : WQ → WQ) : (s.modWq q f).win = s.win := rfl
@[simp] theorem State.modWq_xlt (s : State) (q : Nat) (f : WQ → WQ) : (s.modWq q f).xlt = s.xlt := rfl
@[simp] theorem State.modWq_col (s : State) (q : Nat) (f : WQ → WQ) : (s.modWq q f).col = s.col := rfl
@[simp] theorem State.modWq_lck (s : State) (q : Nat) (f : WQ → WQ) : (s.modWq q f).lck = s.lck := rfl
@[simp] theorem State.modWq_rte (s : State) (q : Nat) (f : WQ → WQ) : (s.modWq q f).rte = s.rte := rfl
@[simp] theorem State.modWq_lnk (s : State) (q : Nat) (f : WQ → WQ) : (s.modWq q f).lnk = s.lnk := rfl
@[simp] theorem State.modWq_mir (s : State) (q : Nat) (f : WQ → WQ) : (s.modWq q f).mir = s.mir := rfl
@[simp] theorem State.modWq_rst (s : State) (q : Nat) (f : WQ → WQ) : (s.modWq q f).rst = s.rst := rfl
@[simp] theorem State.modWq_flt (s : State) (q : Nat) (f : WQ → WQ) : (s.modWq q f).flt = s.flt := rfl
@[simp] theorem State.modWq_pmu (s : State) (q : Nat) (f : WQ → WQ) : (s.modWq q f).pmu = s.pmu := rfl
@[simp] theorem State.modWq_sec (s : State) (q : Nat) (f : WQ → WQ) : (s.modWq q f).sec = s.sec := rfl
@[simp] theorem State.modWq_ring (s : State) (q : Nat) (f : WQ → WQ) : (s.modWq q f).ring = s.ring := rfl
@[simp] theorem State.modWq_out (s : State) (q : Nat) (f : WQ → WQ) : (s.modWq q f).out = s.out := rfl
@[simp] theorem State.modWq_free (s : State) (q : Nat) (f : WQ → WQ) : (s.modWq q f).free = s.free := rfl
@[simp] theorem State.modWq_pending (s : State) (q : Nat) (f : WQ → WQ) : (s.modWq q f).pending = s.pending := rfl

@[simp] theorem State.modCq_regs (s : State) (n : Nat) (f : CQ → CQ) : (s.modCq n f).regs = s.regs := rfl
@[simp] theorem State.modCq_hostMem (s : State) (n : Nat) (f : CQ → CQ) : (s.modCq n f).hostMem = s.hostMem := rfl
@[simp] theorem State.modCq_time (s : State) (n : Nat) (f : CQ → CQ) : (s.modCq n f).time = s.time := rfl
@[simp] theorem State.modCq_host (s : State) (n : Nat) (f : CQ → CQ) : (s.modCq n f).host = s.host := rfl
@[simp] theorem State.modCq_tgt (s : State) (n : Nat) (f : CQ → CQ) : (s.modCq n f).tgt = s.tgt := rfl
@[simp] theorem State.modCq_ini (s : State) (n : Nat) (f : CQ → CQ) : (s.modCq n f).ini = s.ini := rfl
@[simp] theorem State.modCq_msg (s : State) (n : Nat) (f : CQ → CQ) : (s.modCq n f).msg = s.msg := rfl
@[simp] theorem State.modCq_win (s : State) (n : Nat) (f : CQ → CQ) : (s.modCq n f).win = s.win := rfl
@[simp] theorem State.modCq_xlt (s : State) (n : Nat) (f : CQ → CQ) : (s.modCq n f).xlt = s.xlt := rfl
@[simp] theorem State.modCq_col (s : State) (n : Nat) (f : CQ → CQ) : (s.modCq n f).col = s.col := rfl
@[simp] theorem State.modCq_lck (s : State) (n : Nat) (f : CQ → CQ) : (s.modCq n f).lck = s.lck := rfl
@[simp] theorem State.modCq_rte (s : State) (n : Nat) (f : CQ → CQ) : (s.modCq n f).rte = s.rte := rfl
@[simp] theorem State.modCq_lnk (s : State) (n : Nat) (f : CQ → CQ) : (s.modCq n f).lnk = s.lnk := rfl
@[simp] theorem State.modCq_mir (s : State) (n : Nat) (f : CQ → CQ) : (s.modCq n f).mir = s.mir := rfl
@[simp] theorem State.modCq_rst (s : State) (n : Nat) (f : CQ → CQ) : (s.modCq n f).rst = s.rst := rfl
@[simp] theorem State.modCq_flt (s : State) (n : Nat) (f : CQ → CQ) : (s.modCq n f).flt = s.flt := rfl
@[simp] theorem State.modCq_pmu (s : State) (n : Nat) (f : CQ → CQ) : (s.modCq n f).pmu = s.pmu := rfl
@[simp] theorem State.modCq_sec (s : State) (n : Nat) (f : CQ → CQ) : (s.modCq n f).sec = s.sec := rfl
@[simp] theorem State.modCq_ring (s : State) (n : Nat) (f : CQ → CQ) : (s.modCq n f).ring = s.ring := rfl
@[simp] theorem State.modCq_out (s : State) (n : Nat) (f : CQ → CQ) : (s.modCq n f).out = s.out := rfl
@[simp] theorem State.modCq_free (s : State) (n : Nat) (f : CQ → CQ) : (s.modCq n f).free = s.free := rfl
@[simp] theorem State.modCq_pending (s : State) (n : Nat) (f : CQ → CQ) : (s.modCq n f).pending = s.pending := rfl

@[simp] theorem State.modEq_regs (s : State) (n : Nat) (f : EQ → EQ) : (s.modEq n f).regs = s.regs := rfl
@[simp] theorem State.modEq_hostMem (s : State) (n : Nat) (f : EQ → EQ) : (s.modEq n f).hostMem = s.hostMem := rfl
@[simp] theorem State.modEq_time (s : State) (n : Nat) (f : EQ → EQ) : (s.modEq n f).time = s.time := rfl
@[simp] theorem State.modEq_host (s : State) (n : Nat) (f : EQ → EQ) : (s.modEq n f).host = s.host := rfl
@[simp] theorem State.modEq_tgt (s : State) (n : Nat) (f : EQ → EQ) : (s.modEq n f).tgt = s.tgt := rfl
@[simp] theorem State.modEq_ini (s : State) (n : Nat) (f : EQ → EQ) : (s.modEq n f).ini = s.ini := rfl
@[simp] theorem State.modEq_msg (s : State) (n : Nat) (f : EQ → EQ) : (s.modEq n f).msg = s.msg := rfl
@[simp] theorem State.modEq_win (s : State) (n : Nat) (f : EQ → EQ) : (s.modEq n f).win = s.win := rfl
@[simp] theorem State.modEq_xlt (s : State) (n : Nat) (f : EQ → EQ) : (s.modEq n f).xlt = s.xlt := rfl
@[simp] theorem State.modEq_col (s : State) (n : Nat) (f : EQ → EQ) : (s.modEq n f).col = s.col := rfl
@[simp] theorem State.modEq_lck (s : State) (n : Nat) (f : EQ → EQ) : (s.modEq n f).lck = s.lck := rfl
@[simp] theorem State.modEq_rte (s : State) (n : Nat) (f : EQ → EQ) : (s.modEq n f).rte = s.rte := rfl
@[simp] theorem State.modEq_lnk (s : State) (n : Nat) (f : EQ → EQ) : (s.modEq n f).lnk = s.lnk := rfl
@[simp] theorem State.modEq_mir (s : State) (n : Nat) (f : EQ → EQ) : (s.modEq n f).mir = s.mir := rfl
@[simp] theorem State.modEq_rst (s : State) (n : Nat) (f : EQ → EQ) : (s.modEq n f).rst = s.rst := rfl
@[simp] theorem State.modEq_flt (s : State) (n : Nat) (f : EQ → EQ) : (s.modEq n f).flt = s.flt := rfl
@[simp] theorem State.modEq_pmu (s : State) (n : Nat) (f : EQ → EQ) : (s.modEq n f).pmu = s.pmu := rfl
@[simp] theorem State.modEq_sec (s : State) (n : Nat) (f : EQ → EQ) : (s.modEq n f).sec = s.sec := rfl
@[simp] theorem State.modEq_ring (s : State) (n : Nat) (f : EQ → EQ) : (s.modEq n f).ring = s.ring := rfl
@[simp] theorem State.modEq_out (s : State) (n : Nat) (f : EQ → EQ) : (s.modEq n f).out = s.out := rfl
@[simp] theorem State.modEq_free (s : State) (n : Nat) (f : EQ → EQ) : (s.modEq n f).free = s.free := rfl
@[simp] theorem State.modEq_pending (s : State) (n : Nat) (f : EQ → EQ) : (s.modEq n f).pending = s.pending := rfl

@[simp] theorem State.modAq_regs (s : State) (n : Nat) (f : AdminQ → AdminQ) : (s.modAq n f).regs = s.regs := rfl
@[simp] theorem State.modAq_hostMem (s : State) (n : Nat) (f : AdminQ → AdminQ) : (s.modAq n f).hostMem = s.hostMem := rfl
@[simp] theorem State.modAq_time (s : State) (n : Nat) (f : AdminQ → AdminQ) : (s.modAq n f).time = s.time := rfl
@[simp] theorem State.modAq_host (s : State) (n : Nat) (f : AdminQ → AdminQ) : (s.modAq n f).host = s.host := rfl
@[simp] theorem State.modAq_tgt (s : State) (n : Nat) (f : AdminQ → AdminQ) : (s.modAq n f).tgt = s.tgt := rfl
@[simp] theorem State.modAq_ini (s : State) (n : Nat) (f : AdminQ → AdminQ) : (s.modAq n f).ini = s.ini := rfl
@[simp] theorem State.modAq_msg (s : State) (n : Nat) (f : AdminQ → AdminQ) : (s.modAq n f).msg = s.msg := rfl
@[simp] theorem State.modAq_win (s : State) (n : Nat) (f : AdminQ → AdminQ) : (s.modAq n f).win = s.win := rfl
@[simp] theorem State.modAq_xlt (s : State) (n : Nat) (f : AdminQ → AdminQ) : (s.modAq n f).xlt = s.xlt := rfl
@[simp] theorem State.modAq_col (s : State) (n : Nat) (f : AdminQ → AdminQ) : (s.modAq n f).col = s.col := rfl
@[simp] theorem State.modAq_lck (s : State) (n : Nat) (f : AdminQ → AdminQ) : (s.modAq n f).lck = s.lck := rfl
@[simp] theorem State.modAq_rte (s : State) (n : Nat) (f : AdminQ → AdminQ) : (s.modAq n f).rte = s.rte := rfl
@[simp] theorem State.modAq_lnk (s : State) (n : Nat) (f : AdminQ → AdminQ) : (s.modAq n f).lnk = s.lnk := rfl
@[simp] theorem State.modAq_mir (s : State) (n : Nat) (f : AdminQ → AdminQ) : (s.modAq n f).mir = s.mir := rfl
@[simp] theorem State.modAq_rst (s : State) (n : Nat) (f : AdminQ → AdminQ) : (s.modAq n f).rst = s.rst := rfl
@[simp] theorem State.modAq_flt (s : State) (n : Nat) (f : AdminQ → AdminQ) : (s.modAq n f).flt = s.flt := rfl
@[simp] theorem State.modAq_pmu (s : State) (n : Nat) (f : AdminQ → AdminQ) : (s.modAq n f).pmu = s.pmu := rfl
@[simp] theorem State.modAq_sec (s : State) (n : Nat) (f : AdminQ → AdminQ) : (s.modAq n f).sec = s.sec := rfl
@[simp] theorem State.modAq_ring (s : State) (n : Nat) (f : AdminQ → AdminQ) : (s.modAq n f).ring = s.ring := rfl
@[simp] theorem State.modAq_out (s : State) (n : Nat) (f : AdminQ → AdminQ) : (s.modAq n f).out = s.out := rfl
@[simp] theorem State.modAq_free (s : State) (n : Nat) (f : AdminQ → AdminQ) : (s.modAq n f).free = s.free := rfl
@[simp] theorem State.modAq_pending (s : State) (n : Nat) (f : AdminQ → AdminQ) : (s.modAq n f).pending = s.pending := rfl

@[simp] theorem State.setRun_regs (s : State) (e : Nat) (l : List RunEnt) : (s.setRun e l).regs = s.regs := rfl
@[simp] theorem State.setRun_hostMem (s : State) (e : Nat) (l : List RunEnt) : (s.setRun e l).hostMem = s.hostMem := rfl
@[simp] theorem State.setRun_time (s : State) (e : Nat) (l : List RunEnt) : (s.setRun e l).time = s.time := rfl
@[simp] theorem State.setRun_host (s : State) (e : Nat) (l : List RunEnt) : (s.setRun e l).host = s.host := rfl
@[simp] theorem State.setRun_tgt (s : State) (e : Nat) (l : List RunEnt) : (s.setRun e l).tgt = s.tgt := rfl
@[simp] theorem State.setRun_ini (s : State) (e : Nat) (l : List RunEnt) : (s.setRun e l).ini = s.ini := rfl
@[simp] theorem State.setRun_msg (s : State) (e : Nat) (l : List RunEnt) : (s.setRun e l).msg = s.msg := rfl
@[simp] theorem State.setRun_win (s : State) (e : Nat) (l : List RunEnt) : (s.setRun e l).win = s.win := rfl
@[simp] theorem State.setRun_xlt (s : State) (e : Nat) (l : List RunEnt) : (s.setRun e l).xlt = s.xlt := rfl
@[simp] theorem State.setRun_col (s : State) (e : Nat) (l : List RunEnt) : (s.setRun e l).col = s.col := rfl
@[simp] theorem State.setRun_lck (s : State) (e : Nat) (l : List RunEnt) : (s.setRun e l).lck = s.lck := rfl
@[simp] theorem State.setRun_rte (s : State) (e : Nat) (l : List RunEnt) : (s.setRun e l).rte = s.rte := rfl
@[simp] theorem State.setRun_lnk (s : State) (e : Nat) (l : List RunEnt) : (s.setRun e l).lnk = s.lnk := rfl
@[simp] theorem State.setRun_mir (s : State) (e : Nat) (l : List RunEnt) : (s.setRun e l).mir = s.mir := rfl
@[simp] theorem State.setRun_rst (s : State) (e : Nat) (l : List RunEnt) : (s.setRun e l).rst = s.rst := rfl
@[simp] theorem State.setRun_flt (s : State) (e : Nat) (l : List RunEnt) : (s.setRun e l).flt = s.flt := rfl
@[simp] theorem State.setRun_pmu (s : State) (e : Nat) (l : List RunEnt) : (s.setRun e l).pmu = s.pmu := rfl
@[simp] theorem State.setRun_sec (s : State) (e : Nat) (l : List RunEnt) : (s.setRun e l).sec = s.sec := rfl
@[simp] theorem State.setRun_ring (s : State) (e : Nat) (l : List RunEnt) : (s.setRun e l).ring = s.ring := rfl
@[simp] theorem State.setRun_out (s : State) (e : Nat) (l : List RunEnt) : (s.setRun e l).out = s.out := rfl
@[simp] theorem State.setRun_free (s : State) (e : Nat) (l : List RunEnt) : (s.setRun e l).free = s.free := rfl
@[simp] theorem State.setRun_pending (s : State) (e : Nat) (l : List RunEnt) : (s.setRun e l).pending = s.pending := rfl

@[simp] theorem State.park_regs (s : State) (r : Park) (q : Nat) : (s.park r q).regs = s.regs := rfl
@[simp] theorem State.park_hostMem (s : State) (r : Park) (q : Nat) : (s.park r q).hostMem = s.hostMem := rfl
@[simp] theorem State.park_time (s : State) (r : Park) (q : Nat) : (s.park r q).time = s.time := rfl
@[simp] theorem State.park_host (s : State) (r : Park) (q : Nat) : (s.park r q).host = s.host := rfl
@[simp] theorem State.park_tgt (s : State) (r : Park) (q : Nat) : (s.park r q).tgt = s.tgt := rfl
@[simp] theorem State.park_ini (s : State) (r : Park) (q : Nat) : (s.park r q).ini = s.ini := rfl
@[simp] theorem State.park_msg (s : State) (r : Park) (q : Nat) : (s.park r q).msg = s.msg := rfl
@[simp] theorem State.park_win (s : State) (r : Park) (q : Nat) : (s.park r q).win = s.win := rfl
@[simp] theorem State.park_xlt (s : State) (r : Park) (q : Nat) : (s.park r q).xlt = s.xlt := rfl
@[simp] theorem State.park_col (s : State) (r : Park) (q : Nat) : (s.park r q).col = s.col := rfl
@[simp] theorem State.park_lck (s : State) (r : Park) (q : Nat) : (s.park r q).lck = s.lck := rfl
@[simp] theorem State.park_rte (s : State) (r : Park) (q : Nat) : (s.park r q).rte = s.rte := rfl
@[simp] theorem State.park_lnk (s : State) (r : Park) (q : Nat) : (s.park r q).lnk = s.lnk := rfl
@[simp] theorem State.park_mir (s : State) (r : Park) (q : Nat) : (s.park r q).mir = s.mir := rfl
@[simp] theorem State.park_rst (s : State) (r : Park) (q : Nat) : (s.park r q).rst = s.rst := rfl
@[simp] theorem State.park_flt (s : State) (r : Park) (q : Nat) : (s.park r q).flt = s.flt := rfl
@[simp] theorem State.park_pmu (s : State) (r : Park) (q : Nat) : (s.park r q).pmu = s.pmu := rfl
@[simp] theorem State.park_sec (s : State) (r : Park) (q : Nat) : (s.park r q).sec = s.sec := rfl
@[simp] theorem State.park_ring (s : State) (r : Park) (q : Nat) : (s.park r q).ring = s.ring := rfl
@[simp] theorem State.park_out (s : State) (r : Park) (q : Nat) : (s.park r q).out = s.out := rfl
@[simp] theorem State.park_free (s : State) (r : Park) (q : Nat) : (s.park r q).free = s.free := rfl
@[simp] theorem State.park_pending (s : State) (r : Park) (q : Nat) : (s.park r q).pending = s.pending := rfl

@[simp] theorem State.modPort_regs (s : State) (p : Nat) (f : PortSt → PortSt) : (s.modPort p f).regs = s.regs := rfl
@[simp] theorem State.modPort_hostMem (s : State) (p : Nat) (f : PortSt → PortSt) : (s.modPort p f).hostMem = s.hostMem := rfl
@[simp] theorem State.modPort_time (s : State) (p : Nat) (f : PortSt → PortSt) : (s.modPort p f).time = s.time := rfl
@[simp] theorem State.modPort_host (s : State) (p : Nat) (f : PortSt → PortSt) : (s.modPort p f).host = s.host := rfl
@[simp] theorem State.modPort_qmg (s : State) (p : Nat) (f : PortSt → PortSt) : (s.modPort p f).qmg = s.qmg := rfl
@[simp] theorem State.modPort_tgt (s : State) (p : Nat) (f : PortSt → PortSt) : (s.modPort p f).tgt = s.tgt := rfl
@[simp] theorem State.modPort_ini (s : State) (p : Nat) (f : PortSt → PortSt) : (s.modPort p f).ini = s.ini := rfl
@[simp] theorem State.modPort_msg (s : State) (p : Nat) (f : PortSt → PortSt) : (s.modPort p f).msg = s.msg := rfl
@[simp] theorem State.modPort_win (s : State) (p : Nat) (f : PortSt → PortSt) : (s.modPort p f).win = s.win := rfl
@[simp] theorem State.modPort_xlt (s : State) (p : Nat) (f : PortSt → PortSt) : (s.modPort p f).xlt = s.xlt := rfl
@[simp] theorem State.modPort_col (s : State) (p : Nat) (f : PortSt → PortSt) : (s.modPort p f).col = s.col := rfl
@[simp] theorem State.modPort_lck (s : State) (p : Nat) (f : PortSt → PortSt) : (s.modPort p f).lck = s.lck := rfl
@[simp] theorem State.modPort_rte (s : State) (p : Nat) (f : PortSt → PortSt) : (s.modPort p f).rte = s.rte := rfl
@[simp] theorem State.modPort_mir (s : State) (p : Nat) (f : PortSt → PortSt) : (s.modPort p f).mir = s.mir := rfl
@[simp] theorem State.modPort_rst (s : State) (p : Nat) (f : PortSt → PortSt) : (s.modPort p f).rst = s.rst := rfl
@[simp] theorem State.modPort_flt (s : State) (p : Nat) (f : PortSt → PortSt) : (s.modPort p f).flt = s.flt := rfl
@[simp] theorem State.modPort_pmu (s : State) (p : Nat) (f : PortSt → PortSt) : (s.modPort p f).pmu = s.pmu := rfl
@[simp] theorem State.modPort_sec (s : State) (p : Nat) (f : PortSt → PortSt) : (s.modPort p f).sec = s.sec := rfl
@[simp] theorem State.modPort_ring (s : State) (p : Nat) (f : PortSt → PortSt) : (s.modPort p f).ring = s.ring := rfl
@[simp] theorem State.modPort_out (s : State) (p : Nat) (f : PortSt → PortSt) : (s.modPort p f).out = s.out := rfl
@[simp] theorem State.modPort_free (s : State) (p : Nat) (f : PortSt → PortSt) : (s.modPort p f).free = s.free := rfl
@[simp] theorem State.modPort_pending (s : State) (p : Nat) (f : PortSt → PortSt) : (s.modPort p f).pending = s.pending := rfl

@[simp] theorem State.modCtx_regs (s : State) (k : Nat) (f : ColCtx → ColCtx) : (s.modCtx k f).regs = s.regs := rfl
@[simp] theorem State.modCtx_hostMem (s : State) (k : Nat) (f : ColCtx → ColCtx) : (s.modCtx k f).hostMem = s.hostMem := rfl
@[simp] theorem State.modCtx_time (s : State) (k : Nat) (f : ColCtx → ColCtx) : (s.modCtx k f).time = s.time := rfl
@[simp] theorem State.modCtx_host (s : State) (k : Nat) (f : ColCtx → ColCtx) : (s.modCtx k f).host = s.host := rfl
@[simp] theorem State.modCtx_qmg (s : State) (k : Nat) (f : ColCtx → ColCtx) : (s.modCtx k f).qmg = s.qmg := rfl
@[simp] theorem State.modCtx_tgt (s : State) (k : Nat) (f : ColCtx → ColCtx) : (s.modCtx k f).tgt = s.tgt := rfl
@[simp] theorem State.modCtx_ini (s : State) (k : Nat) (f : ColCtx → ColCtx) : (s.modCtx k f).ini = s.ini := rfl
@[simp] theorem State.modCtx_msg (s : State) (k : Nat) (f : ColCtx → ColCtx) : (s.modCtx k f).msg = s.msg := rfl
@[simp] theorem State.modCtx_win (s : State) (k : Nat) (f : ColCtx → ColCtx) : (s.modCtx k f).win = s.win := rfl
@[simp] theorem State.modCtx_xlt (s : State) (k : Nat) (f : ColCtx → ColCtx) : (s.modCtx k f).xlt = s.xlt := rfl
@[simp] theorem State.modCtx_lck (s : State) (k : Nat) (f : ColCtx → ColCtx) : (s.modCtx k f).lck = s.lck := rfl
@[simp] theorem State.modCtx_rte (s : State) (k : Nat) (f : ColCtx → ColCtx) : (s.modCtx k f).rte = s.rte := rfl
@[simp] theorem State.modCtx_lnk (s : State) (k : Nat) (f : ColCtx → ColCtx) : (s.modCtx k f).lnk = s.lnk := rfl
@[simp] theorem State.modCtx_mir (s : State) (k : Nat) (f : ColCtx → ColCtx) : (s.modCtx k f).mir = s.mir := rfl
@[simp] theorem State.modCtx_rst (s : State) (k : Nat) (f : ColCtx → ColCtx) : (s.modCtx k f).rst = s.rst := rfl
@[simp] theorem State.modCtx_flt (s : State) (k : Nat) (f : ColCtx → ColCtx) : (s.modCtx k f).flt = s.flt := rfl
@[simp] theorem State.modCtx_pmu (s : State) (k : Nat) (f : ColCtx → ColCtx) : (s.modCtx k f).pmu = s.pmu := rfl
@[simp] theorem State.modCtx_sec (s : State) (k : Nat) (f : ColCtx → ColCtx) : (s.modCtx k f).sec = s.sec := rfl
@[simp] theorem State.modCtx_ring (s : State) (k : Nat) (f : ColCtx → ColCtx) : (s.modCtx k f).ring = s.ring := rfl
@[simp] theorem State.modCtx_out (s : State) (k : Nat) (f : ColCtx → ColCtx) : (s.modCtx k f).out = s.out := rfl
@[simp] theorem State.modCtx_free (s : State) (k : Nat) (f : ColCtx → ColCtx) : (s.modCtx k f).free = s.free := rfl
@[simp] theorem State.modCtx_pending (s : State) (k : Nat) (f : ColCtx → ColCtx) : (s.modCtx k f).pending = s.pending := rfl

@[simp] theorem State.emit_out (s : State) (e : Emit) : (s.emit e).out = s.out ++ [e] := rfl
@[simp] theorem State.write_hostMem (s : State) (a : Nat) (l : List Byte) : (s.write a l).hostMem = memWrite s.hostMem a l := rfl
@[simp] theorem State.modWq_wq_same (s : State) (q : Nat) (f : WQ → WQ) : (s.modWq q f).wq q = f (s.wq q) := by
  simp [State.modWq, State.wq, mgetD]
theorem State.modWq_wq_ne (s : State) {q j : Nat} (f : WQ → WQ) (h : j ≠ q) : (s.modWq q f).wq j = s.wq j := by
  simp [State.modWq, State.wq, mgetD, mget_mset_ne _ _ h]
@[simp] theorem State.modCq_cq_same (s : State) (q : Nat) (f : CQ → CQ) : (s.modCq q f).cq q = f (s.cq q) := by
  simp [State.modCq, State.cq, mgetD]
theorem State.modCq_cq_ne (s : State) {q j : Nat} (f : CQ → CQ) (h : j ≠ q) : (s.modCq q f).cq j = s.cq j := by
  simp [State.modCq, State.cq, mgetD, mget_mset_ne _ _ h]
@[simp] theorem State.modEq_eq_same (s : State) (q : Nat) (f : EQ → EQ) : (s.modEq q f).eq q = f (s.eq q) := by
  simp [State.modEq, State.eq, mgetD]
theorem State.modEq_eq_ne (s : State) {q j : Nat} (f : EQ → EQ) (h : j ≠ q) : (s.modEq q f).eq j = s.eq j := by
  simp [State.modEq, State.eq, mgetD, mget_mset_ne _ _ h]
@[simp] theorem State.modAq_aq_same (s : State) (q : Nat) (f : AdminQ → AdminQ) : (s.modAq q f).aq q = f (s.aq q) := by
  simp [State.modAq, State.aq, mgetD]
theorem State.modAq_aq_ne (s : State) {q j : Nat} (f : AdminQ → AdminQ) (h : j ≠ q) : (s.modAq q f).aq j = s.aq j := by
  simp [State.modAq, State.aq, mgetD, mget_mset_ne _ _ h]
@[simp] theorem State.modPort_port_same (s : State) (p : Nat) (f : PortSt → PortSt) : (s.modPort p f).port p = f (s.port p) := by
  simp [State.modPort, State.port, mgetD]
@[simp] theorem State.modCtx_ctx_same (s : State) (k : Nat) (f : ColCtx → ColCtx) : (s.modCtx k f).ctx k = f (s.ctx k) := by
  simp [State.modCtx, State.ctx, mgetD]

@[simp] theorem State.withPending_regs (s : State) (l : List Instr) : (s.withPending l).regs = s.regs := rfl
@[simp] theorem State.withPending_hostMem (s : State) (l : List Instr) : (s.withPending l).hostMem = s.hostMem := rfl
@[simp] theorem State.withPending_time (s : State) (l : List Instr) : (s.withPending l).time = s.time := rfl
@[simp] theorem State.withPending_host (s : State) (l : List Instr) : (s.withPending l).host = s.host := rfl
@[simp] theorem State.withPending_qmg (s : State) (l : List Instr) : (s.withPending l).qmg = s.qmg := rfl
@[simp] theorem State.withPending_tgt (s : State) (l : List Instr) : (s.withPending l).tgt = s.tgt := rfl
@[simp] theorem State.withPending_ini (s : State) (l : List Instr) : (s.withPending l).ini = s.ini := rfl
@[simp] theorem State.withPending_msg (s : State) (l : List Instr) : (s.withPending l).msg = s.msg := rfl
@[simp] theorem State.withPending_win (s : State) (l : List Instr) : (s.withPending l).win = s.win := rfl
@[simp] theorem State.withPending_xlt (s : State) (l : List Instr) : (s.withPending l).xlt = s.xlt := rfl
@[simp] theorem State.withPending_col (s : State) (l : List Instr) : (s.withPending l).col = s.col := rfl
@[simp] theorem State.withPending_lck (s : State) (l : List Instr) : (s.withPending l).lck = s.lck := rfl
@[simp] theorem State.withPending_rte (s : State) (l : List Instr) : (s.withPending l).rte = s.rte := rfl
@[simp] theorem State.withPending_lnk (s : State) (l : List Instr) : (s.withPending l).lnk = s.lnk := rfl
@[simp] theorem State.withPending_mir (s : State) (l : List Instr) : (s.withPending l).mir = s.mir := rfl
@[simp] theorem State.withPending_rst (s : State) (l : List Instr) : (s.withPending l).rst = s.rst := rfl
@[simp] theorem State.withPending_flt (s : State) (l : List Instr) : (s.withPending l).flt = s.flt := rfl
@[simp] theorem State.withPending_pmu (s : State) (l : List Instr) : (s.withPending l).pmu = s.pmu := rfl
@[simp] theorem State.withPending_sec (s : State) (l : List Instr) : (s.withPending l).sec = s.sec := rfl
@[simp] theorem State.withPending_ring (s : State) (l : List Instr) : (s.withPending l).ring = s.ring := rfl
@[simp] theorem State.withPending_out (s : State) (l : List Instr) : (s.withPending l).out = s.out := rfl
@[simp] theorem State.withPending_free (s : State) (l : List Instr) : (s.withPending l).free = s.free := rfl
@[simp] theorem State.withPending_pending (s : State) (l : List Instr) : (s.withPending l).pending = l := rfl

end Sys2Proof.Machine
end

