-- ==== Sys2Proof/Laws/Regs.lean ====
section
/-! SUPPORT. The laws of registers: a register read after a write, what a write leaves alone, and that every register
operation keeps the table of values canonical. -/

namespace Sys2Proof.Machine

/-- No register resets to more than 32 bits. -/
theorem resetAt_lt (r : RegName) (i : Nat) : r.resetAt i < 2 ^ 32 := by
  cases r <;> simp only [RegName.resetAt, RegName.fam, srcCfgReset, crAllocReset] <;> (try split) <;> (try split) <;> (try split) <;> omega

theorem rdRaw_lt (s : State) (r : RegName) (i : Nat) : s.rdRaw r i < 2 ^ 32 := by
  unfold State.rdRaw
  split
  · exact BitVec.isLt _
  · exact resetAt_lt r i

/-- A value written to a register is read back, cut to 32 bits. -/
theorem rdRaw_wrRaw_same {s : State} (h : mwf s.regs) (r : RegName) (i v : Nat) : (s.wrRaw r i v).rdRaw r i = v % 2 ^ 32 := by
  unfold State.rdRaw State.wrRaw
  split
  · rename_i w hw
    dsimp only at hw
    split at hw
    · rw [mget_mdel_same h] at hw; cases hw
    · rw [mget_mset_same] at hw; cases hw; simp
  · rename_i hw
    dsimp only at hw
    split at hw
    · rename_i e; exact e.symm
    · rw [mget_mset_same] at hw; cases hw

/-- A write to a register leaves the value at every other key alone. -/
theorem mget_wrRaw_ne {s : State} (h : mwf s.regs) (r : RegName) (i v : Nat) {k : Nat} (hk : k ≠ r.addr i) :
    mget (s.wrRaw r i v).regs k = mget s.regs k := by
  unfold State.wrRaw
  dsimp only
  split
  · exact mget_mdel_ne h hk
  · exact mget_mset_ne _ _ hk

theorem rdRaw_wrRaw_ne {s : State} (h : mwf s.regs) {r r' : RegName} {i j : Nat} (v : Nat) (hk : r'.addr j ≠ r.addr i) :
    (s.wrRaw r i v).rdRaw r' j = s.rdRaw r' j := by
  unfold State.rdRaw
  rw [mget_wrRaw_ne h r i v hk]

/-- A write keeps the table canonical. -/
theorem mwf_wrRaw {s : State} (h : mwf s.regs) (r : RegName) (i v : Nat) : mwf (s.wrRaw r i v).regs := by
  unfold State.wrRaw
  dsimp only
  split
  · exact mwf_mdel h _
  · exact mwf_mset h _ _

theorem mwf_wrAq {s : State} (h : mwf s.regs) (f : Nat) (r : RegName) (v : Nat) : mwf (s.wrAq f r v).regs := by
  unfold State.wrAq
  dsimp only
  split
  · exact mwf_mdel h _
  · exact mwf_mset h _ _

theorem mwf_resetRegs {s : State} (h : mwf s.regs) (p : Nat → Bool) : mwf (s.resetRegs p).regs := mwf_filter h _

theorem mwf_setFld {s : State} (h : mwf s.regs) (f : Fld) (v i : Nat) : mwf (s.setFld f v i).regs := mwf_wrRaw h _ _ _
theorem mwf_setFldAq {s : State} (h : mwf s.regs) (f : Nat) (g : Fld) (v : Nat) : mwf (s.setFldAq f g v).regs := mwf_wrAq h _ _ _
theorem mwf_bump {s : State} (h : mwf s.regs) (f : Fld) (i n : Nat) : mwf (s.bump f i n).regs := mwf_setFld h _ _ _
theorem mwf_latch {s : State} (h : mwf s.regs) (f : Fld) (i : Nat) : mwf (s.latch f i).regs := mwf_setFld h _ _ _
theorem mwf_setBit {s : State} (h : mwf s.regs) (f : Fld) (i : Nat) (on : Bool) (j : Nat) : mwf (s.setBit f i on j).regs :=
  mwf_setFld h _ _ _

/-- A number splits at the two ends of a range of bits. -/
theorem bits_split (n lo w : Nat) : n = n / 2 ^ (lo + w) * 2 ^ (lo + w) + bits n lo w * 2 ^ lo + n % 2 ^ lo := by
  unfold bits
  rw [Nat.shiftRight_eq_div_pow, Nat.pow_add, ← Nat.div_div_eq_div_mul]
  have h1 := Nat.div_add_mod n (2 ^ lo)
  have h2 := Nat.div_add_mod (n / 2 ^ lo) (2 ^ w)
  calc n = 2 ^ lo * (2 ^ w * (n / 2 ^ lo / 2 ^ w) + n / 2 ^ lo % 2 ^ w) + n % 2 ^ lo := by rw [h2, h1]
    _ = _ := by ring

/-- Bits replaced: what stands above them and below them stays. -/
theorem putBits_split (n lo w v : Nat) :
    putBits n lo w v = n / 2 ^ (lo + w) * 2 ^ (lo + w) + v % 2 ^ w * 2 ^ lo + n % 2 ^ lo := by
  have h := bits_split n lo w
  unfold putBits
  omega

theorem bits_lt (n lo w : Nat) : bits n lo w < 2 ^ w := Nat.mod_lt _ (Nat.two_pow_pos w)

/-- The bits replaced are the value's. -/
theorem bits_putBits_same (n lo w v : Nat) : bits (putBits n lo w v) lo w = v % 2 ^ w := by
  rw [putBits_split]
  unfold bits
  rw [Nat.shiftRight_eq_div_pow, Nat.pow_add]
  have hp : 0 < 2 ^ lo := Nat.two_pow_pos lo
  have e : n / (2 ^ lo * 2 ^ w) * (2 ^ lo * 2 ^ w) + v % 2 ^ w * 2 ^ lo + n % 2 ^ lo
      = n % 2 ^ lo + 2 ^ lo * (n / (2 ^ lo * 2 ^ w) * 2 ^ w + v % 2 ^ w) := by ring
  rw [e, Nat.add_mul_div_left _ _ hp, Nat.div_eq_of_lt (Nat.mod_lt _ hp), Nat.zero_add, Nat.mul_comm, Nat.mul_add_mod,
    Nat.mod_mod]

theorem putBits_mod (n lo w v : Nat) : putBits n lo w v % 2 ^ lo = n % 2 ^ lo := by
  rw [putBits_split, Nat.pow_add]
  have e : n / (2 ^ lo * 2 ^ w) * (2 ^ lo * 2 ^ w) + v % 2 ^ w * 2 ^ lo + n % 2 ^ lo
      = 2 ^ lo * (n / (2 ^ lo * 2 ^ w) * 2 ^ w + v % 2 ^ w) + n % 2 ^ lo := by ring
  rw [e, Nat.mul_add_mod, Nat.mod_mod]

theorem putBits_div (n lo w v : Nat) : putBits n lo w v / 2 ^ (lo + w) = n / 2 ^ (lo + w) := by
  rw [putBits_split]
  have hp : 0 < 2 ^ (lo + w) := Nat.two_pow_pos _
  have h1 : n % 2 ^ lo < 2 ^ lo := Nat.mod_lt _ (Nat.two_pow_pos lo)
  have h2 : v % 2 ^ w < 2 ^ w := Nat.mod_lt _ (Nat.two_pow_pos w)
  have h3 : v % 2 ^ w * 2 ^ lo + n % 2 ^ lo < 2 ^ (lo + w) := by
    have : (v % 2 ^ w + 1) * 2 ^ lo ≤ 2 ^ w * 2 ^ lo := Nat.mul_le_mul_right _ h2
    rw [Nat.pow_add, Nat.mul_comm (2 ^ lo)]
    rw [Nat.add_mul] at this
    omega
  rw [Nat.add_assoc, Nat.mul_comm, Nat.mul_add_div hp, Nat.div_eq_of_lt h3, Nat.add_zero]

/-- Bits below the replaced ones stay. -/
theorem bits_putBits_below (n v : Nat) {lo w lo' w' : Nat} (h : lo' + w' ≤ lo) : bits (putBits n lo w v) lo' w' = bits n lo' w' := by
  have key (m : Nat) : bits m lo' w' = m % 2 ^ lo / 2 ^ lo' % 2 ^ w' := by
    unfold bits
    rw [Nat.shiftRight_eq_div_pow]
    obtain ⟨d, rfl⟩ := Nat.exists_eq_add_of_le h
    rw [Nat.pow_add, Nat.pow_add, Nat.mul_assoc, Nat.mod_mul_right_div_self, Nat.mod_mul_right_mod]
  rw [key, key, putBits_mod]

/-- Bits above the replaced ones stay. -/
theorem bits_putBits_above (n v : Nat) {lo w lo' w' : Nat} (h : lo + w ≤ lo') : bits (putBits n lo w v) lo' w' = bits n lo' w' := by
  have key (m : Nat) : bits m lo' w' = m / 2 ^ (lo + w) / 2 ^ (lo' - (lo + w)) % 2 ^ w' := by
    unfold bits
    rw [Nat.shiftRight_eq_div_pow, Nat.div_div_eq_div_mul, ← Nat.pow_add, Nat.add_sub_cancel' h]
  rw [key, key, putBits_div]

theorem putBits_lt {n lo w : Nat} (v : Nat) {k : Nat} (hn : n < 2 ^ k) (h : lo + w ≤ k) : putBits n lo w v < 2 ^ k := by
  have h1 : putBits n lo w v / 2 ^ (lo + w) = n / 2 ^ (lo + w) := putBits_div n lo w v
  obtain ⟨d, rfl⟩ := Nat.exists_eq_add_of_le h
  have h2 : n / 2 ^ (lo + w) < 2 ^ d := by
    rw [Nat.div_lt_iff_lt_mul (Nat.two_pow_pos _), Nat.mul_comm, ← Nat.pow_add]
    exact hn
  rw [← h1, Nat.div_lt_iff_lt_mul (Nat.two_pow_pos _), Nat.mul_comm, ← Nat.pow_add] at h2
  exact h2

/-- A field written is read back, cut to its width. -/
theorem fld_setFld_same {s : State} (h : mwf s.regs) (f : Fld) (v i : Nat) (hf : f.lo + f.w ≤ 32) :
    (s.setFld f v i).fld f i = v % 2 ^ f.w := by
  unfold State.fld State.setFld
  rw [rdRaw_wrRaw_same h, Nat.mod_eq_of_lt (putBits_lt v (rdRaw_lt s f.reg i) hf), bits_putBits_same]

/-- A field written leaves the other fields of its register alone. -/
theorem fld_setFld_other {s : State} (h : mwf s.regs) {f g : Fld} (v i : Nat) (hf : f.lo + f.w ≤ 32) (hr : g.reg = f.reg)
    (hd : g.lo + g.w ≤ f.lo ∨ f.lo + f.w ≤ g.lo) : (s.setFld f v i).fld g i = s.fld g i := by
  unfold State.fld State.setFld
  rw [hr, rdRaw_wrRaw_same h, Nat.mod_eq_of_lt (putBits_lt v (rdRaw_lt s f.reg i) hf)]
  rcases hd with hd | hd
  · exact bits_putBits_below _ _ hd
  · exact bits_putBits_above _ _ hd

/-- A field written leaves every other register alone. -/
theorem fld_setFld_ne {s : State} (h : mwf s.regs) {f g : Fld} (v : Nat) {i j : Nat} (hk : g.reg.addr j ≠ f.reg.addr i) :
    (s.setFld f v i).fld g j = s.fld g j := by
  unfold State.fld State.setFld
  rw [rdRaw_wrRaw_ne h _ hk]

theorem flag_latch_same {s : State} (h : mwf s.regs) (f : Fld) (i : Nat) (hf : f.lo + f.w ≤ 32) (hw : f.w ≠ 0) :
    (s.latch f i).flag f i = true := by
  unfold State.flag State.latch
  rw [fld_setFld_same h f 1 i hf, Nat.mod_eq_of_lt]
  · rfl
  · exact Nat.one_lt_two_pow hw

/-- A count saturates at its field's maximum (R135). -/
theorem fld_bump_same {s : State} (h : mwf s.regs) (f : Fld) (i n : Nat) (hf : f.lo + f.w ≤ 32) :
    (s.bump f i n).fld f i = min (2 ^ f.w - 1) (s.fld f i + n) := by
  unfold State.bump
  rw [fld_setFld_same h _ _ _ hf, Nat.mod_eq_of_lt]
  · rfl
  · have := Nat.two_pow_pos f.w
    unfold satAdd
    omega

end Sys2Proof.Machine
end

