-- ==== Sys2Proof/Tests/Slice0.lean ====
section
/-! SUPPORT. The model's own tests: ill-formed commands that WellFormed refuses; for every statement that has hypotheses, states and
operands that meet those of each of its clauses, at boundary values (`witness_<the statement>`); and single steps whose results the
rules of spec/ give (`test_<the statement>`, `test_<what>`). The commands and the rules of a test are those of the statement it names. -/

open Sys2Proof Sys2Proof.Machine

namespace Sys2Proof.Tests

set_option Elab.async false

/-- A state with fields of its registers set: field, instance, value. -/
def put (s : State) (l : List (Fld × Nat × Nat)) : State := l.foldl (fun t x => t.setFld x.1 x.2.2 x.2.1) s

/-- The state after a command. -/
def after (c : Instr) (s : State) : State :=
  match exec c s with
  | .next t => t
  | _ => { s with free := s.free + 12345 }

/-- A device in operation, of coordinate 5 in a machine of 18 × 2 × 2 × 2: 4 s after reset, its host link is up, its steward runs
and its units are ready. -/
def up : State := put { State.reset with
    time := { elapsed := 4000000000, now := 4000000000, periodAt := 4000000000 }
    host := { dl := true, vfs := 2, winCap := 2 ^ 40, hdm := [{ committed := true, base := 2 ^ 40, size := 2 ^ 28 }, { committed := true, base := 2 ^ 50, size := 2 ^ 48 }, {}, {}] }
    rst := { perst := false, rails := [true, true, true, true, true], steward := true, booted := true, fullBoot := false, cleared := false, epoch := .loaded }
    ring := { filled := true } }
  [(.GEN_READY_HIF, 0, 1), (.GEN_READY_DSTATE, 0, 1), (.GEN_READY_CTXPOOL, 0, 1), (.GEN_READY_TIME, 0, 1), (.GEN_READY_LB, 0, 511),
   (.GEN_READY_MEMCH, 0, 255), (.GEN_READYCL_CLUSTER, 0, 2 ^ 18 - 1), (.HIF_LINKSTAT_RATE, 0, 5), (.HIF_LINKSTAT_WIDTH, 0, 8), (.HIF_LINKSTAT_CXLMEM, 0, 1),
   (.GEN_COORD_COORD, 0, 5), (.GEN_SHAPE_N0, 0, 18), (.GEN_SHAPE_N1, 0, 2), (.GEN_SHAPE_N2, 0, 2), (.GEN_SHAPE_N3, 0, 2), (.TIM_STAT_REFOK, 0, 1)]

theorem witness_WindowAndNearCacheRows :
    up.Inv ∧
    up.reaches .GWN_WCFG 0 ∧
    up.flag .GWN_WCFG_EN 0 = false ∧
    up.windowOk 0 21 = true ∧
    up.reaches .GWN_WCFG 1 ∧
    up.flag .GWN_WCFG_EN 1 = false ∧
    up.windowOk 1 48 = true ∧
    up.reaches .NCC_CFG 0 ∧
    up.flag .NCC_CFG_EN = false ∧
    (put up [(.NCC_CFG_EN, 0, 1)]).Inv ∧
    (put up [(.NCC_CFG_EN, 0, 1)]).reaches .NCC_CFG 0 ∧
    (put up [(.NCC_CFG_EN, 0, 1)]).flag .NCC_CFG_EN = true ∧
    (put up [(.NCC_CFG_EN, 0, 1)]).dstate = true ∧
    (put up [(.NCC_CFG_EN, 0, 1)]).timeLocked = true ∧
    (put up [(.NCC_CFG_EN, 0, 1)]).blockBusy 0x25 = false := by
  unfold State.Inv State.reaches
  decide +kernel

theorem test_WindowAndNearCacheRows :
    (after (.windowEnable 1 48) up).flag .GWN_WCFG_EN 1 = true ∧
    (after (.windowEnable 1 48) up).fld .GWN_WCFG_GLOG2 1 = 48 ∧
    (after .nccEnable up).flag .NCC_CFG_EN = true ∧
    (after .nccDisable (put up [(.NCC_CFG_EN, 0, 1)])).regs = up.regs ∧
    (after .nccInitDone (put up [(.NCC_CFG_EN, 0, 1)])).ncc = true := by
  decide +kernel

theorem witness_WindowEnableDroppedUnlessItsCheckPasses :
    up.reaches .GWN_WCFG 2 ∧
    up.flag .GWN_WCFG_EN 2 = false ∧
    up.windowOk 2 21 = false := by
  unfold State.reaches
  decide +kernel

theorem test_WindowEnableDroppedUnlessItsCheckPasses :
    after (.windowEnable 0 20) up = up.accLog 4 true 0 0 (RegName.GWN_WCFG.addr 0) ∧
    after (.windowEnable 0 49) up = up.accLog 4 true 0 0 (RegName.GWN_WCFG.addr 0) ∧
    after (.windowEnable 2 21) up = up.accLog 4 true 0 0 (RegName.GWN_WCFG.addr 2) := by
  decide +kernel

theorem witness_TranslationWatchdogAndVoltageRows :
    (put up [(.XLT_CTL_EN, 0, 1)]).Inv ∧
    (put up [(.XLT_CTL_EN, 0, 1)]).reaches .XLT_CTL 0 ∧
    (put up [(.XLT_CTL_EN, 0, 1)]).flag .XLT_CTL_EN = true ∧
    up.Inv ∧
    up.reaches (exclReg 0) 0 ∧
    up.reaches (exclReg 3) 7 ∧
    up.reaches .RST_WDKICK 0 ∧
    up.reaches .PWR_CTL 0 ∧
    up.flag .PWR_CTL_AVSEN = false := by
  unfold State.Inv State.reaches
  decide +kernel

theorem test_TranslationWatchdogAndVoltageRows :
    (after .xltDisable (put up [(.XLT_CTL_EN, 0, 1)])).flag .XLT_CTL_EN = false ∧
    (after (.xltExclWrite 7 3 1) up).xlt = {} ∧
    (after (.xltExclWrite 7 3 1) up).rdRaw .XLT_EXCLLH 7 = 1 ∧
    (after (.watchdogKick 0x5A5A) up).rst.wdKick = 4000000000 ∧
    after (.watchdogKick 0x5A5B) up = up ∧
    (after .avsEnable up).out = [.avsRead 0, .avsStatus 0] := by
  decide +kernel

def pmuOn : State := put up [(.PMU_GCTL_SYNC, 3, 1), (.PMU_GCTL_EN, 4, 1)]

theorem witness_CounterGroupRows :
    pmuOn.Inv ∧
    pmuOn.reaches .PMU_CTL 0 ∧
    pmuOn.reaches .PMU_GCTL 0 ∧
    pmuOn.reaches .PMU_GCTL 17 ∧
    pmuOn.reaches .PMU_TAGSEED 0 := by
  unfold State.Inv State.reaches
  decide +kernel

theorem test_CounterGroupRows :
    (after .pmuStart pmuOn).flag .PMU_GCTL_EN 3 = true ∧
    (after .pmuStart pmuOn).flag .PMU_GCTL_EN 4 = true ∧
    (after .pmuStart pmuOn).flag .PMU_GCTL_EN 5 = false ∧
    (after .pmuStop (put pmuOn [(.PMU_GCTL_EN, 3, 1)])).flag .PMU_GCTL_EN 3 = false ∧
    (after .pmuStop pmuOn).flag .PMU_GCTL_EN 4 = true ∧
    (after (.pmuLoad 17) (put pmuOn [(.PMU_GSTAT_FROZEN, 17, 1)])).flag .PMU_GSTAT_FROZEN 17 = false ∧
    (after (.pmuTagSeed 0xFFFFFFFF) up).pmu.lfsr = 0xFFFFFFFF := by
  decide +kernel

/-- A flit as it is received. -/
def rx (f : Flit) : RxFlit := { toFlit := f }

/-- A device with port 8 in a state, with two lanes. -/
def pst (st : Nat) : State := (put up [(.RTE_PORT_EN, 8, 1), (.RTE_PORT_WIDTH, 8, 1), (.RTE_PORT_DIM, 8, 0), (.RTE_PORT_DIGIT, 8, 7)]).modPort 8 (fun ps =>
  { ps with st := st, since := 2000000000, lanes := [8, 9], awidth := 1, lastAck := 3000000000, limits := [64, 64, 64, 64, 64, 64, 64, 64] })

theorem witness_PortTrainingStatesFollowTheTable :
    ((pst 1).port 8).st = 1 ∧
    ((pst 2).port 8).st = 2 ∧
    ((pst 4).port 8).st = 4 ∧
    ((pst 5).port 8).st = 5 ∧
    (pst 3).portOfLane 9 = some (8, 1) ∧
    ((pst 3).port 8).st = 3 ∧
    bits 1 0 2 = 1 ∧
    ({ kind := 4, body := zeros 56 } : Flit).seal.intact = true ∧
    ((pst 8).port 8).st = 8 ∧
    ((pst 8).port 8).since + (pst 8).fld .FLK_HOLDOFF_HOLD ≤ (pst 8).tick ∧
    (pst 8).flag .RTE_PORT_EN 8 = true ∧
    (pst 8).lbReady (8 / 8) = true ∧
    up.Inv ∧
    up.reaches .RTE_PORT 68 ∧
    (up.port 68).st = 0 ∧
    portFits 68 2 = true ∧
    up.lanesOverlap 68 2 = false ∧
    up.lbReady (68 / 8) = true ∧
    up.valid up.own = true ∧
    up.reaches .RTE_PORT 71 ∧
    portFits 71 0 = true ∧
    up.lanesOverlap 71 0 = false := by
  unfold State.Inv State.reaches
  decide +kernel

theorem test_PortTrainingStatesFollowTheTable :
    ((after (.signalDetect 8) (pst 1)).port 8).st = 2 ∧
    ((after (.eqComplete 8) (pst 2)).port 8).st = 3 ∧
    ((after (.deskewLock 8) (pst 4)).port 8).st = 5 ∧
    ((after (.initFlit 8 (rx ({ kind := 4, body := zeros 56 } : Flit).seal)) (pst 5)).port 8).st = 6 ∧
    ((after (.trainingFrame 9 1 7) (pst 3)).port 8).peer = 7 ∧
    ((after (.holdoffExpire 8) (pst 8)).port 8).st = 1 ∧
    ((after (.portEnable 68 2 0 7) up).port 68).st = 1 ∧
    ((after (.portEnable 71 0 3 17) up).port 71).st = 1 := by
  decide +kernel

/-- A DATA flit of a sequence number. -/
def flitOf (n : Nat) : Flit := ({ kind := 1, seq := n, sop := true, eop := true, body := zeros 56 } : Flit).seal

def pend (st : Nat) : State := (pst st).modPort 8 (fun ps => { ps with replay := [flitOf 4095], toCount := 16 })

theorem witness_PortFailuresTakeThePortDown :
    ((pst 2).port 8).since + (pst 2).fld .FLK_EQTO_TO ≤ (pst 2).tick ∧
    ((pst 3).port 8).st = 3 ∧
    ((pst 5).port 8).since + 1000000 ≤ (pst 5).tick ∧
    ((pst 7).port 8).st = 7 ∧
    ((pst 7).port 8).since + (pst 7).fld .FLK_RTRTO_TO ≤ (pst 7).tick ∧
    ((pend 6).port 8).st = 6 ∧
    ((pend 6).port 8).replay ≠ [] ∧
    ((pend 6).port 8).lastAck + (pend 6).fld .FLK_REPLAYTO_TO ≤ (pend 6).tick ∧
    (pend 6).fld .FLK_CTL_REPLAYMAX ≤ ((pend 6).port 8).toCount ∧
    (pst 1).reaches .RTE_PORT 8 ∧
    ((pst 1).port 8).st ≠ 0 := by
  unfold State.reaches
  decide +kernel

theorem test_PortFailuresTakeThePortDown :
    ((after (.eqTimeout 8) (pst 2)).port 8).st = 8 ∧
    ((after (.trainTimeout 8) (pst 5)).port 8).st = 8 ∧
    ((after (.retrainTimeout 8) (pst 7)).port 8).st = 8 ∧
    ((after (.replayTimeout 8) (pend 6)).port 8).lanes = [] ∧
    ((after (.portDisable 8) (pst 1)).port 8).st = 0 := by
  decide +kernel

theorem witness_DataFlitAcceptedOnlyInSequence :
    (pst 6).linkUp 8 = true ∧
    (flitOf 0).intact = true ∧
    (flitOf 2048).intact = true ∧
    (flitOf 4096).intact = true ∧
    (flitOf 0).seq = ((pst 6).port 8).e ∧
    (flitOf 4095).seq ≠ ((pst 6).port 8).e ∧
    ((pst 6).port 8).e + 4096 - 4095 % 4096 = 1 ∧
    (((pst 6).port 8).e + 4096 - 2048 % 4096) % 4096 = 2048 ∧
    2048 < (((pst 6).port 8).e + 4096 - 2047 % 4096) % 4096 ∧
    (((pst 6).port 8).e + 4096 - 4096 % 4096) % 4096 = 0 ∧
    (flitOf 4096).seq ≠ ((pst 6).port 8).e := by
  decide +kernel

theorem test_DataFlitAcceptedOnlyInSequence :
    ((after (.dataFlit 8 (flitOf 0) 8 0) (pst 6)).port 8).e = 1 ∧
    ((after (.dataFlit 8 (flitOf 2048) 8 0) (pst 6)).port 8).e = 0 ∧
    (after (.dataFlit 8 (flitOf 2048) 8 0) (pst 6)).fld .FLK_PERR_DUP 8 = 1 ∧
    ((after (.dataFlit 8 (flitOf 2047) 8 0) (pst 6)).port 8).nakAt.isSome = true := by
  decide +kernel

def nak10 : Flit := ({ kind := 2, ackseq := 10, ackv := true, body := zeros 56 } : Flit).seal
def bad1 : BadFlit := { lane := 71, fl := { flitOf 3 with crc := (flitOf 3).crc ^^^ 1 } }

def unack : State := (pst 6).modPort 8 (fun ps => { ps with replay := [flitOf 10, flitOf 11] })

def nakked : State := { unack with time := { unack.time with now := 0 } }.modPort 8 (fun ps => { ps with nakAt := some 3999990000, toCount := 2 })

theorem witness_LinkLayerRowsComplete :
    (pst 6).linkUp 8 = true ∧
    (pst 5).linkUp 8 = true ∧
    ((unack.passRx 8 (rx nak10)).port 8).replay ≠ [] ∧
    ((unack.passRx 8 (rx nak10)).port 8).resend.any (fun x => x.seq == (10 + 1) % 4096) = false ∧
    nak10.intact = true ∧
    flitOf 0 = (flitOf 0).seal ∧
    (flitOf 0).crc ^^^ 1 ≠ (flitOf 0).crcOf ∧
    bad1.fails = true ∧
    ({ lane := 71, cw := false, fl := { flitOf 3 with crc := (flitOf 3).crc ^^^ 1 } } : BadFlit).fails = true ∧
    ({ lane := 71, fl := flitOf 3 } : BadFlit).fails = true ∧
    (pst 6).fld .FLK_LANEERR_WINCNT bad1.lane + bad1.events < (pst 6).fld .FLK_ERRTHR_BAD ∧
    (pst 6).Inv ∧
    ((unack).port 8).st = 6 ∧
    (unack.port 8).lastAck + unack.fld .FLK_REPLAYTO_TO ≤ unack.tick ∧
    (unack.port 8).toCount < unack.fld .FLK_CTL_REPLAYMAX ∧
    (nakked.port 8).nakAt = some 3999990000 ∧
    3999990000 + nakked.fld .FLK_REPLAYTO_TO / 2 ≤ nakked.tick ∧
    nakked.now % nakked.fld .FLK_ERRWIN_WIN = 0 := by
  unfold State.Inv
  decide +kernel

theorem test_LinkLayerRowsComplete :
    ((after (.nakFlit 8 (rx nak10)) unack).port 8).replay = [flitOf 11] ∧
    ((after (.badFlit 8 bad1) (pst 6)).port 8).nakAt.isSome = true ∧
    ((after (.replayTimeout 8) unack).port 8).toCount = 1 ∧
    ((after (.nakHoldExpire 8) nakked).port 8).nakAt = none ∧
    (after .errorWindow (nakked.modLane 8 (fun l => { l with corr := 5 }))).lane 8 = {} := by
  decide +kernel

/-- A RETRAIN flit that names a degrade to the half that holds no logical lane `i`. -/
def degradeFlit (i : Nat) : Flit := ({ kind := 5, body := zeros 8 ++ [1, BitVec.ofNat 8 i] ++ zeros 46 } : Flit).seal

/-- The identity word of coordinate 7, port 3, single lane, in dimension 0 towards digit 5. -/
def peerIdent : Nat := 7 + 18 * 2 ^ 20 + 2 * 2 ^ 25 + 2 * 2 ^ 30 + 2 * 2 ^ 35 + 3 * 2 ^ 44 + 5 * 2 ^ 53

def retr : State := (pst 7).modPort 8 (fun ps => { ps with remedy := some (1, 1), retrainMine := true, remedyAt := 3999999000, lanes := [8], awidth := 0 })

def tsxDue : State := (pst 6).modPort 8 (fun ps => { ps with tsxLast := 3999998976 })

theorem witness_RetrainRowsComplete :
    ((pst 6).port 8).st = 6 ∧
    leAt (degradeFlit 1).body 8 1 = 1 ∧
    leAt (degradeFlit 1).body 9 1 < ((pst 6).port 8).lanes.length ∧
    ((pst 6).passRx 8 (rx (degradeFlit 1))).halfFor 8 1 = some [8] ∧
    ((pst 6).passRx 8 (rx (degradeFlit 0))).halfFor 8 0 = some [9] ∧
    (retr.port 8).remedy = some (1, 1) ∧
    (retr.port 8).st = 7 ∧
    (retr.port 8).retrainMine = true ∧
    (retr.port 8).remedyAt + 1000 = retr.tick ∧
    (retr.port 8).lanes.length = 1 ∧
    retr.identAll 8 [peerIdent] [] = true ∧
    up.portOfLane 71 = none ∧
    (up.lane 71).sparing = false ∧
    (tsxDue.port 8).tsxLast + 1024 = tsxDue.tick ∧
    tsxDue.tick < tsxDue.time.periodAt + 1024 ∧
    tsxDue.linkUp 8 = true := by
  decide +kernel

theorem test_RetrainRowsComplete :
    ((after (.retrainFlit 8 (rx (degradeFlit 1))) (pst 6)).port 8).lanes = [8] ∧
    ((after (.retrainFlit 8 (rx (degradeFlit 1))) (pst 6)).port 8).st = 7 ∧
    ((after (.retrainRepeat 8) retr).port 8).remedyAt = 4000000000 ∧
    ((after (.retrainComplete 8 [peerIdent]) retr).port 8).st = 6 ∧
    (after (.laneSignalLoss 71) up).flag .FLK_LANESTAT_SIGDET 71 = false ∧
    ((after (.tsxSend 8) tsxDue).port 8).tsxLast = 4000000000 ∧
    ((after (.tsxFlit 8 (rx ({ kind := 3, body := [1] ++ zeros 55 } : Flit).seal) 512) (pst 6)).port 8).tsxEcho = 1 := by
  decide +kernel

def relock : State := put up [(.GEN_READY_TIME, 0, 0), (.TIM_CTL_EN, 0, 1), (.TIM_CTL_PPSINEN, 0, 1), (.TIM_CTL_PPSOUT, 0, 1), (.TIM_SETLO_TICKS, 0, 77)]

def ppsIn : State := put { up with time := { up.time with elapsed := 5000000000, ppsLast := some 3999900000, now := 4000000003, ppsOut := true, ppsOutAt := 4900000000, nb := [(71, { gm := 7, adv := 4999991808 })] } }
  [(.TIM_CTL_PPSOUT, 0, 1), (.TIM_STAT_PPSVALID, 0, 1)]

theorem witness_FabricTimeRowsComplete :
    relock.Inv ∧
    relock.flag .TIM_STAT_REFOK = true ∧
    relock.timeLocked = false ∧
    relock.flag .TIM_CTL_PPSINEN = true ∧
    relock.time.ppsLast = none ∧
    relock.flag .TIM_CTL_PPSOUT = true ∧
    relock.now % 1000000000 ≤ 2 ∧
    ppsIn.Inv ∧
    ppsIn.time.ppsLast = some 3999900000 ∧
    3999900000 + 1000100000 ≤ ppsIn.tick ∧
    ppsIn.flag .TIM_STAT_PPSVALID = true ∧
    ppsIn.flag .TIM_CTL_PPSOUT = true ∧
    2 < ppsIn.now % 1000000000 ∧
    ppsIn.time.ppsOut = true ∧
    ppsIn.time.ppsOutAt + 100000000 ≤ ppsIn.tick ∧
    mget ppsIn.time.nb 71 = some { gm := 7, adv := 4999991808 } ∧
    4999991808 + 8192 ≤ ppsIn.tick ∧
    relock.reaches .TIM_CTL 0 ∧
    relock.timeSelect.flag .TIM_STAT_GM = true ∧
    relock.timeSelect.timeLocked = false := by
  unfold State.Inv State.reaches
  decide +kernel

theorem test_FabricTimeRowsComplete :
    (after .refLost relock).flag .TIM_STAT_REFOK = false ∧
    (after .refLost relock).flag .TIM_FLT_REFLOST = true ∧
    (after .referencePresent (put relock [(.TIM_STAT_REFOK, 0, 0)])).flag .TIM_STAT_REFOK = true ∧
    (after .ppsEdge relock).time.ppsLast = some 4000000000 ∧
    (after .ppsInputLost ppsIn).flag .TIM_STAT_PPSVALID = false ∧
    (after .ppsOutPulse relock).time.ppsOut = true ∧
    (after .ppsOutPulse ppsIn).time.ppsOut = false ∧
    (after .timeStep relock).now = 77 := by
  decide +kernel

theorem witness_RegisterWriteByAlias :
    up.Inv ∧
    up.hif = true := by
  unfold State.Inv
  decide +kernel

theorem test_RegisterWriteByAlias :
    (after (.regWrite (word0 0xE07C 0xFFFFFFFF)) up).rdRaw .RST_BKP 15 = 0xFFFFFFFF ∧
    (after (.regWrite (word0 0x10E040 5)) (put up [(.RST_BKP_DATA, 0, 3)])).rdRaw .RST_BKP 0 = 7 ∧
    (after (.regWrite (word0 0x20E040 5)) (put up [(.RST_BKP_DATA, 0, 3)])).rdRaw .RST_BKP 0 = 2 ∧
    (after (.regWrite (word0 0x30E040 5)) (put up [(.RST_BKP_DATA, 0, 3)])).rdRaw .RST_BKP 0 = 6 := by
  decide +kernel

def xltHeld : State := { up with rst := { up.rst with blocks := [(0x21, { since := 0, idleWait := false })] } }

theorem witness_RefusedRegisterWriteIsDroppedWhole :
    up.Inv ∧
    up.hif = true ∧
    regAt 0x5000 = some (.GWN_BUDGET, 0) ∧
    up.refusesWrite 0 .GWN_BUDGET 0 99999 ∧
    up.refusesWrite 0 .GWN_BUDGET 0 1500001 ∧
    xltHeld.Inv ∧
    xltHeld.hif = true ∧
    regAt 0x4014 = some (.XLT_FLT, 0) ∧
    xltHeld.refusesWrite 3 .XLT_FLT 0 1 ∧
    (put up [(.QMG_AQCFG_EN, 0, 1)]).Inv ∧
    (put up [(.QMG_AQCFG_EN, 0, 1)]).hif = true ∧
    regAt 0x2040 = some (.QMG_AQSQLO, 0) ∧
    (put up [(.QMG_AQCFG_EN, 0, 1)]).refusesWrite 1 .QMG_AQSQLO 0 4096 := by
  unfold State.Inv State.refusesWrite
  decide +kernel

theorem test_RefusedRegisterWriteIsDroppedWhole :
    (after (.regWrite (word0 0x5000 99999)) up).rdRaw .GWN_BUDGET = 1000000 ∧
    (after (.regWrite (word0 0x5000 100000)) up).rdRaw .GWN_BUDGET = 100000 ∧
    (after (.regWrite (word0 0x5000 1500001)) up).rdRaw .GWN_BUDGET = 1000000 := by
  decide +kernel

def off : State := put up [(.GEN_READY_HIF, 0, 0)]

theorem witness_HostInterfaceNotReadyRefusesWrites :
    off.Inv ∧
    off.hif = false ∧
    off.funcOn 0 ∧
    off.funcOn 2 := by
  unfold State.Inv State.funcOn
  decide +kernel

theorem test_HostInterfaceNotReadyRefusesWrites :
    (after (.regWrite (word0 0xE040 1)) off).rdRaw .RST_BKP 0 = 0 ∧
    (after .nccEnable off).flag .NCC_CFG_EN = false ∧
    (after (.headDoorbell (word2 0x400000 5)) off).cq 0 = {} := by
  decide +kernel

/-- Queue 7, its completion queue 9 and event queue 3 are configured and queue 7 is ACTIVE. -/
def qs : State := ((up.modWq 7 (fun w => { w with configured := true, st := .active, base := 0x10000, log2 := 6, cq := 9, eq := 3, head := 10, fidx := 10, tail := 10, turnq := 4 })).modCq 9
  (fun c => { c with configured := true, base := 0x20000, eq := 3 })).modEq 3 (fun e => { e with configured := true, base := 0x30000, vector := 3 })

theorem witness_DoorbellRowsComplete :
    qs.hif = true ∧
    qs.wqOwner 7 = 0 ∧
    (qs.wq 7).st = .active ∧
    sub32 (74 % 2 ^ 32) (qs.wq 7).tail < 2 ^ 31 ∧
    sub32 (74 % 2 ^ 32) (qs.wq 7).head = 2 ^ (qs.wq 7).log2 ∧
    sub32 (10 % 2 ^ 32) (qs.wq 7).head ≤ 2 ^ (qs.wq 7).log2 ∧
    qs.wqOwner 262143 = 0 ∧
    qs.cqOwner 9 = 0 ∧
    (qs.cq 9).configured = true ∧
    qs.eqOwner 3 = 0 ∧
    (qs.eq 3).configured = true := by
  decide +kernel

theorem test_DoorbellRowsComplete :
    ((after (.tailDoorbell (word2 0x70 11) [(0x10000, 5)]) qs).wq 7).tail = 11 ∧
    (after (.tailDoorbell (word2 0x70 11) [(0x10000, 5)]) qs).byte 0x10000 = 5 ∧
    ((after (.tailDoorbell (word2 0x70 75) []) qs).wq 7).tail = 10 ∧
    ((after (.keyRightsWrite (word2 0x78 (2 ^ 64 - 1))) qs).wq 7).kr = 2 ^ 64 - 1 ∧
    ((after (.headDoorbell (word2 0x400048 (2 ^ 32 + 4))) qs).cq 9).armed = true ∧
    ((after (.headDoorbell (word2 0x480018 4)) qs).eq 3).head = 4 := by
  decide +kernel

def aqOn : State := put up [(.QMG_AQCFG_EN, 0, 1), (.QMG_AQSQLO_BASE, 0, 0x40), (.QMG_AQCQLO_BASE, 0, 0x41)]

theorem witness_AdminQueueRegisterRowsComplete :
    up.Inv ∧
    up.hif = true ∧
    up.funcOn 2 ∧
    up.aqEn 2 = false ∧
    aqOn.Inv ∧
    aqOn.hif = true ∧
    aqOn.funcOn 0 ∧
    aqOn.aqEn 0 = true := by
  unfold State.Inv State.funcOn
  decide +kernel

theorem test_AdminQueueRegisterRowsComplete :
    (after (.adminTailDoorbell 2 (2 ^ 32 - 1) [] .ok) up).rdAq 2 .QMG_AQTAIL = 2 ^ 32 - 1 ∧
    (after (.adminHeadDoorbell 0 9) aqOn).rdAq 0 .QMG_AQHEAD = 9 ∧
    (after (.adminQueueEnable 2) up).aqEn 2 = true ∧
    (after (.adminQueueDisable 0) aqOn).aqEn 0 = false := by
  decide +kernel

/-- An entry of the window map, of region key 0x0100000C at device 6. -/
def wEnt (fast nocache : Bool) : WEnt := { key := 0xABCD00000100000C, coord := 6, fast := fast, nocache := nocache, roff := 0 }

/-- Window 0 of 128 entries of 2 MiB over decoder 0, whose first and last entries are valid, and a frame of the first. -/
def win0 (fast nocache : Bool) : State :=
  let e := wEnt fast nocache
  let s : State := put up [(.GWN_WCFG_EN, 0, 1), (.GWN_WCFG_GLOG2, 0, 21), (.GEN_READY_NCC, 0, 1), (.NCC_CFG_EN, 0, 1)]
  { s with win := { s.win with map := [(0, e), (127, e)], frames := [(e.block 0, { home := 6, expiry := 4000100000, lines := [(1, List.replicate 64 9)] })] } }

/-- An accepted store to window 0 that waits. -/
def stored : State := after (.cxlMemWrite 4 (2 ^ 40 + 64) (zeros 64) 3) (win0 true false)

theorem witness_WindowAccessesComplete :
    (win0 false false).host.dl = true ∧
    (win0 false false).flag .HIF_LINKSTAT_CXLMEM = true ∧
    (win0 false false).decoderOf (2 ^ 40 + 64) = some 0 ∧
    (win0 false false).decoderOf (2 ^ 40 + 2 ^ 28 - 64) = some 0 ∧
    (win0 false false).winRefused = 0 ∧
    (win0 false false).winEntry 0 ((win0 false false).bar4 0 (2 ^ 40 + 64)) = some (wEnt false false) ∧
    (win0 true true).winEntry 0 ((win0 true true).bar4 0 (2 ^ 40 + 2 ^ 28 - 64)) = some (wEnt true true) ∧
    (win0 false false).isLocal (wEnt false false).coord = false ∧
    (win0 false false).ncc = true ∧
    mget (win0 false false).win.frames ((wEnt false false).block ((win0 false false).regionOff 0 ((win0 false false).bar4 0 (2 ^ 40 + 64)) (wEnt false false))) = some { home := 6, expiry := 4000100000, lines := [(1, List.replicate 64 9)] } ∧
    (win0 false false).frameUsable { home := 6, expiry := 4000100000, lines := [(1, List.replicate 64 9)] } = true ∧
    mget [(1, List.replicate 64 (9 : Byte))] ((win0 false false).regionOff 0 ((win0 false false).bar4 0 (2 ^ 40 + 64)) (wEnt false false) % 4096 / 64) = some (List.replicate 64 9) ∧
    ((win0 true true).wblk ((win0 true true).bar4 0 (2 ^ 40 + 2 ^ 28 - 64) / 4096)).items = [] ∧
    (win0 true true).decoderOf (2 ^ 40 + 2 ^ 28 - 64) = some 0 ∧
    (win0 true true).winRefused = 0 ∧
    (win0 false false).win.fences = [] ∧
    (win0 false false).win.blk = [] ∧
    (win0 false false).hif = true ∧
    (win0 false false).Inv ∧
    ((win0 false false).wblk ((win0 false false).bar4 0 (2 ^ 40 + 64) / 4096)).settle = none ∧
    (win0 true true).host.dl = true ∧
    (win0 true true).flag .HIF_LINKSTAT_CXLMEM = true ∧
    (2 ^ 64 * 5 : Nat) % 2 ^ 64 = 0 ∧
    (3 : Nat) % 2 ^ 64 ≠ 0 ∧
    (win0 false false).windowWrites 3 = [] ∧
    stored.Inv ∧
    stored.host.dl = true ∧
    stored.hif = true ∧
    stored.win.fences = [] ∧
    stored.windowWrites 0 ≠ [] ∧
    stored.windowWrites 3 = [] ∧
    regAt 0xE040 = some (.RST_BKP, 0) ∧
    (0xE040 : Nat) < 0xE0000 ∧
    RegName.RST_BKP ≠ .GWN_FENCE ∧
    locAt 0 0xDFFFC = .rsvd ∧
    locAt 0 0x3FFFFC = .rsvd := by
  unfold State.Inv
  and_intros <;> decide +kernel

theorem test_WindowAccessesComplete :
    (after (.cxlMemRead 4 (2 ^ 40 + 64)) (win0 false false)).out.getLast? = some (.cxlData 4 (List.replicate 64 9) false) ∧
    ((after (.cxlMemRead 4 (2 ^ 40 + 64)) (win0 false true)).wblk 0).items.length = 1 ∧
    (after (.cxlMemWrite 4 (2 ^ 40 + 64) (zeros 64) 3) (win0 true false)).out = [.cxlDone 4] ∧
    (after (.cxlMemWrite 4 (2 ^ 40 + 64) (zeros 64) 3) (win0 false false)).out = [] ∧
    (after (.cxlMemWrite 4 (2 ^ 40 + 64) (zeros 64) (2 ^ 64)) (win0 false true)).out = [.cxlDone 4] ∧
    (after (.fenceRead (read0 (RegName.GWN_FENCE.addr 0))) stored).win.fences = [{ regs := [(0, 0)], ids := [0] }] ∧
    (after (.fenceRead (read0 0xE040)) (put up [(.RST_BKP_DATA, 0, 77)])).out = [.pcieRead (some 77)] ∧
    (after (.fenceRead (read0 0xDFFFC)) up).out = [.pcieRead none] ∧
    (after (.fenceRead (read0 0xDFFFC)) up).fld .HIF_ACCCNT_BUSERR = 1 ∧
    (after (.fenceRead (read0 (RegName.GWN_FENCE.addr 3))) (win0 false false)).out = [.pcieRead (some 0)] := by
  decide +kernel

/-- A device whose grandmaster is the neighbour on port 8. -/
def slave : State := put { pst 6 with time := { up.time with nb := [(8, { gm := 7, pps := true, locked := true, prio := 255, adv := 4000000000 })] } } [(.TIM_CTL_EN, 0, 1)]

theorem witness_MailboxRowsAnswer :
    up.hif = true ∧
    mwf ({ up with host := { up.host with cxlEvents := [(1, [5, 6])] } } : State).host.cxlEvents ∧
    slave.hif = true ∧
    slave.timeSelect.flag .TIM_STAT_GM = false ∧
    up.host.dl = true := by
  decide +kernel

theorem test_MailboxRowsAnswer :
    (after (.cxlClearEventRecords 1 [5]) { up with host := { up.host with cxlEvents := [(1, [5, 6])] } }).host.cxlEvents = [(1, [6])] ∧
    (after .cxlGetTimestamp up).out = [.cxlMail .success (leBytes 8 4000000000)] ∧
    (after (.cxlSetTimestamp 9) slave).out = [.cxlMail .success []] ∧
    (after (.cxlUnsupportedCommand 0xFFFF) up).out = [.cxlMail .unsupported []] ∧
    (after .cxlGetTimestamp { up with host := { up.host with mailIrq := true } }).host.msixPend = [(vecKey 0 2, ())] := by
  decide +kernel

def linkDown : State := put { up with host := { up.host with dl := false, vfs := 0 } } [(.GEN_READY_HIF, 0, 0)]

def hostRst : State := { off with rst := { off.rst with hostReset := true } }

theorem witness_HostLinkAndConfigurationRowsComplete :
    linkDown.Inv ∧
    linkDown.awake = true ∧
    linkDown.rst.pcieOff = false ∧
    linkDown.host.dl = false ∧
    linkDown.bootDone = true ∧
    up.Inv ∧
    up.host.dl = true ∧
    8 ≤ up.fld .HIF_LINKSTAT_WIDTH ∧
    hostRst.Inv ∧
    hostRst.rst.hostReset = true ∧
    hostRst.host.dl = true ∧
    hostRst.linkOk = true ∧
    hostRst.bootDone = true ∧
    up.hif = true ∧
    up.host.hdm[2]? = some ({} : Hdm) ∧
    ({ up with host := { up.host with vfs := 0 } } : State).host.vfs = 0 := by
  unfold State.Inv
  decide +kernel

theorem test_HostLinkAndConfigurationRowsComplete :
    (after (.hostLinkUp 5 16 true true) linkDown).hif = true ∧
    (after (.hostLinkUp 4 4 false true) linkDown).fld .HIF_LINKSTAT_WIDTH = 4 ∧
    (after (.hostLinkUp 5 2 true true) linkDown).flag .HIF_FLT_BELOWMIN = true ∧
    (after (.hostLinkUp 5 2 true true) linkDown).hif = false ∧
    (after (.l0pWidthChange 8) up).fld .HIF_LINKSTAT_ACTW = 8 ∧
    (after .hostResetComplete hostRst).hif = true ∧
    ((after (.hdmDecoderCommit 2 0 (2 ^ 28) 1) { up with host := { up.host with winCap := 2 ^ 49 } }).host.hdm[2]?).map Hdm.committed = some true ∧
    ((after (.hdmDecoderCommit 3 0 (2 ^ 28) 1) up).host.hdm[3]?).map Hdm.err = some true ∧
    (mget (after (.msixUnmask 2 63) up).host.msixOpen (vecKey 2 63)).isSome = true ∧
    (after (.configurationWrite (.atomicOpEnable true)) up).flag .HIF_STATUS_ATOMEN = true ∧
    (after (.vfEnable 63) { up with host := { up.host with vfs := 0 } }).fld .HIF_STATUS_NUMVF = 63 := by
  decide +kernel

def booting : State := put { up with rst := { up.rst with cleared := true } } [(.GEN_READY_CTXPOOL, 0, 0), (.GEN_READY_DSTATE, 0, 0), (.GEN_READY_LB, 0, 0), (.GEN_READYCL_CLUSTER, 0, 0), (.TIM_STAT_REFOK, 0, 1)]

def noMem : State := put booting [(.GEN_READY_MEMCH, 0, 0x7F)]

theorem witness_UnitsBecomeReady :
    booting.Inv ∧
    booting.awake = true ∧
    booting.clusterReady 17 = false ∧
    mget booting.rst.blocks 17 = none ∧
    booting.dstate = false ∧
    booting.fld .GEN_READY_MEMCH = 0xFF ∧
    booting.rst.booted = true ∧
    booting.flag .SEC_STAT_DEBUGOPEN = false ∧
    booting.rst.cleared = true ∧
    booting.lbReady 8 = false ∧
    booting.rst.fullBoot = false ∧
    booting.flag .TIM_STAT_REFOK = true ∧
    noMem.Inv ∧
    noMem.awake = true ∧
    bitAt (noMem.fld .GEN_READY_MEMCH) 7 = false ∧
    mget noMem.rst.blocks 0x37 = none ∧
    noMem.rst.fullBoot = false := by
  unfold State.Inv
  decide +kernel

theorem test_UnitsBecomeReady :
    (after .ctxpoolReady booting).ctxpool = true ∧
    (after (.clusterSelftestDone 17 true) booting).clusterReady 17 = true ∧
    (after (.clusterSelftestDone 17 false) booting).flag .ENG_STAT_STFLT 17 = true ∧
    (after (.memTrainDone 7 true) noMem).fld .GEN_READY_MEMCH = 0xFF ∧
    (after (.memTrainDone 7 false) noMem).flag .HIF_MEMSTAT_TRAINFLT 7 = true ∧
    (after .dstateReady booting).dstate = true ∧
    (after .dstateReady booting).tgt.supStart = 4000000000 ∧
    (after (.lbCalibrationDone 8 true) booting).lbReady 8 = true := by
  decide +kernel

/-- A write pulse of a row is in progress, and resets and rows wait for it. -/
def nvBusy (l : List PendReset) (s : State) (row : Nat × List Byte := (519, zeros 64)) (q : List (Nat × List Byte) := []) : State :=
  { s with rst := { s.rst with nvRow := some row, nvPending := l, nvQ := q } }
/-- A firmware settings update whose record is being written. -/
def setW : State := nvBusy [] { up with rst := { up.rst with fw := some { func := 0, cid := 9, op := 0x49, obj := 0 }, fwVer := some 0x20001 } } (264, zeros 64)

/-- Queue 287 has a turn on engine 287, queue 286 a fetched copy and an issued entry, and target context 9 is busy on engine 280. -/
def busyC : State :=
  let s : State := (up.modWq 287 (fun w => { w with configured := true, st := .active, turn := some { engine := 287, left := 1, wait := .walk } })).modWq 286 (fun w =>
    { w with configured := true, st := .active, fetched := [(0, 0, 0)], outst := [{ cnt := 0, op := 0, raw := 0, start := 0 }], head := 1 })
  { s with tgt := { s.tgt with busy := [(9, 280)] } }

/-- A paired device whose mirror link is ACTIVE; its twin is coordinate 6. -/
def mpair : State := { up with mir := { up.mir with link := 5, twin := .paired, cfg := some { coord := 6 }, lastHb := some 3999999000 } }

theorem witness_BlockResetRowsComplete :
    (nvBusy [] up).Inv ∧
    (nvBusy [] up).reaches .RST_BLKCMD 0 ∧
    (nvBusy [] up).rst.blocks = [] ∧
    (nvBusy [] up).rst.nvRow.isSome = true ∧
    up.rst.nvRow = none ∧
    busyC.rst.nvRow = none ∧
    mpair.rst.nvRow = none ∧
    mpair.mir.cmdAt = none ∧
    up.rst.fwWait = [] ∧
    (∀ x ∈ busyC.xlt.walks, x.1 < busyC.xlt.next ∧ x.2.phase ≠ .held) ∧
    up.rst.steward = true ∧
    up.Inv ∧
    up.reaches .RST_BLKCMD 0 ∧
    up.rst.blocks = [] ∧
    busyC.Inv ∧
    busyC.reaches .RST_BLKCMD 0 ∧
    busyC.rst.blocks = [] ∧
    mwf busyC.qmg.wq ∧
    mwf busyC.tgt.busy ∧
    mwf busyC.xlt.walks ∧
    (busyC.wq 287).turn.map Turn.engine = some 287 ∧
    mget busyC.tgt.busy 9 = some 280 ∧
    (mpair).Inv ∧
    mpair.reaches .RST_BLKCMD 0 ∧
    mpair.rst.blocks = [] ∧
    mpair.mir.twin = .paired ∧
    mpair.mir.waits = [] ∧
    up.rst.fw = none ∧
    (∀ p ∈ numsFrom (8 * 8) 8, (up.port p).st ≠ 6 ∧ (up.port p).st ≠ 7) := by
  unfold State.Inv State.reaches
  and_intros <;> decide +kernel

theorem test_BlockResetRowsComplete :
    (after (.blockResetNearCache true) (nvBusy [] up)).rst.nvPending = [.block 0x25] ∧
    mget (after (.blockResetGddr7Controller 7 false) up).rst.blocks 0x37 = some { since := 4000000000, idleWait := true, slots := [] } ∧
    (after (.blockResetCluster 17 true) busyC).clusterReady 17 = false ∧
    ((after (.blockResetCluster 17 true) busyC).wq 287).turn = none ∧
    (after (.blockResetCluster 17 true) busyC).tgt.busy = [] ∧
    ((after (.blockResetCluster 17 true) busyC).wq 286).fetched = [] ∧
    ((after (.blockResetQueueManager true) busyC).wq 286).outst = [] ∧
    (after (.blockResetQueueManager true) busyC).ini.quietUntil = 4000010000 ∧
    (after (.blockResetTranslationUnit true) busyC).rst.blocks = [] ∧
    (after (.blockResetNearCache true) (win0 false false)).win.frames = [] ∧
    (after (.blockResetMirrorUnit true) mpair).mir.twin = .unpaired ∧
    (after (.blockResetSteward true) up).rst.steward = false ∧
    (after (.blockResetGddr7Controller 7 true) up).dstate = false ∧
    ((after (.blockResetLaneBlock 1 true) (pst 3)).port 8).since = 4000000000 := by
  decide +kernel

theorem witness_BlockResetRegisters :
    up.Inv ∧
    blockCode 0 = true ∧
    blockCode 0x48 = true ∧
    0 < RegName.ENG_CTL.fam.n1 * RegName.ENG_CTL.fam.n2 ∧
    blockOfReg (RegName.ENG_STAT.addr 17) = some 17 ∧
    blockOfReg (RegName.GEN_ID.addr 0) ≠ some 17 := by
  unfold State.Inv
  decide +kernel

theorem test_BlockResetRegisters :
    ((put up [(.ENG_STAT_STFLT, 17, 1)]).blockRegs 17).rdRaw .ENG_STAT 17 = RegName.ENG_STAT.resetAt 17 := by
  decide +kernel

def idling (c : Nat) : State := { up with rst := { up.rst with blocks := [(c, { since := 3999900000, idleWait := true })] } }

theorem witness_BlockIdleRowsComplete :
    (idling 17).rst.nvPending.contains (.block 17) = false ∧
    (idling 17).rst.nvRow = none ∧
    (idling 0x37).rst.nvRow = none ∧
    (idling 17).Inv ∧
    mget (idling 17).rst.blocks 17 = some { since := 3999900000, idleWait := true } ∧
    (idling 17).blockQuiet 17 = true ∧
    (idling 0x37).Inv ∧
    mget (idling 0x37).rst.blocks (0x30 + 7) = some { since := 3999900000, idleWait := true } ∧
    3999900000 + (idling 0x37).fld .RST_IDLETO_TO = (idling 0x37).tick ∧
    mget up.rst.blocks 255 = none := by
  unfold State.Inv
  decide +kernel

theorem test_BlockIdleRowsComplete :
    (after (.blockIdle 17) (idling 17)).clusterReady 17 = false ∧
    (after (.blockIdle 0x37) (idling 0x37)).dstate = false ∧
    (after (.blockIdleTimeout 0x37) (idling 0x37)).flag .RST_FLT_IDLETO = true ∧
    after (.blockIdleTimeout 255) up = up := by
  decide +kernel

/-- Queue 7 and its completion queue belong to VF 2. -/
def vfq : State := put qs [(.QMG_VFWQ_BASE, 2, 7), (.QMG_VFWQ_COUNT, 2, 1), (.QMG_VFCQ_BASE, 2, 9), (.QMG_VFCQ_COUNT, 2, 1)]

theorem witness_HostResetRowsComplete :
    up.Inv ∧
    mwf up.qmg.wq ∧
    mwf up.qmg.cq ∧
    mwf up.qmg.eq ∧
    vfq.Inv ∧
    vfq.host.dl = true ∧
    vfq.rst.nvRow = none ∧
    mwf vfq.qmg.wq ∧
    vfq.wqOwner 7 = 2 ∧
    vfq.cqOwner 9 = 2 ∧
    up.host.dl = true ∧
    up.rst.nvRow = none ∧
    2 ≤ up.host.vfs := by
  unfold State.Inv
  decide +kernel

theorem test_HostResetRowsComplete :
    (after .hotReset up).rdRaw .RST_CAUSE = 8 ∧
    (after .hotReset up).rdRaw .HIF_LINKSTAT = up.rdRaw .HIF_LINKSTAT ∧
    (after .dlDown up).host.dl = false ∧
    (after .dlDown up).flag .HIF_FLT_LINKDN = true ∧
    (after .flrPf up).rdRaw .RST_CAUSE = 16 ∧
    (after .flrPf up).host.hdm = up.host.hdm ∧
    (after (.flrVf 2) vfq).wq 7 = {} ∧
    (after (.flrVf 2) vfq).cq 9 = {} ∧
    (after (.flrVf 2) vfq).host.vfs = 2 := by
  decide +kernel

def wdog : State := put up [(.RST_WDCTL_EN, 0, 1), (.RST_WDCTL_PERIOD, 0, 1)]

def entering : State := { up with rst := { up.rst with power := .entering, powerAt := 3999000000 } }

theorem witness_FullResetRowsComplete :
    up.Inv ∧
    up.rst.perst = false ∧
    up.rst.power = .run ∧
    up.rst.nvRow = none ∧
    wdog.Inv ∧
    wdog.flag .RST_WDCTL_EN = true ∧
    wdog.rst.power = .run ∧
    wdog.rst.wdKick + wdog.fld .RST_WDCTL_PERIOD * 2 ^ 20 ≤ wdog.tick ∧
    wdog.rst.nvRow = none ∧
    entering.Inv ∧
    entering.rst.power = .entering ∧
    entering.rst.powerAt + 1000000 = entering.tick ∧
    entering.rst.nvRow = none := by
  unfold State.Inv
  decide +kernel

theorem test_FullResetRowsComplete :
    (after .perstAssert up).rdRaw .RST_CAUSE = 4 ∧
    (after .perstAssert qs).qmg = {} ∧
    (after .watchdogExpire wdog).rdRaw .RST_CAUSE = 32 ∧
    (after .watchdogExpire wdog).rst.wdogMsg = true ∧
    (after .standbyPowerDown entering).rst.power = .standby ∧
    (after .standbyPowerDown entering).rst.rails = [true, true, true, false, false] ∧
    (after .powerOnReset up).regs = [] ∧
    (after .powerOnReset up).time = {} := by
  decide +kernel

/-- Boot media with one image, and no settings. -/
def media (good : Bool) (shape : Nat := 0x01020304) : BootMedia :=
  { slotA := { present := true, valid := good, keySlot := 1, version := 0x20001, site := { winCap := 2 ^ 30, coord := 7, shape := shape, presets := [9] } }, slotB := { present := false, valid := false, keySlot := 0, version := 0, site := {} }, copy0 := true, copy1 := true }

def noFw (full : Bool) : State := { up with rst := { up.rst with steward := false, booted := false, fullBoot := full, epoch := if full then .due else .loaded } }
/-- A device whose steward runs with an image and writes the epoch's row. -/
def epochW (shape : Nat) : State := after (.stewardBoot (media true shape)) (noFw true)
/-- The row it writes. -/
def row1 : Nat × List Byte := (1, epochRow 1 1)

theorem witness_ResetsWaitForTheWritePulse :
    (nvBusy [] up).Inv ∧
    (nvBusy [] up).rst.nvRow = some (519, zeros 64) ∧
    (nvBusy [] up).host.dl = true ∧
    (nvBusy [] wdog).Inv ∧
    (nvBusy [] wdog).flag .RST_WDCTL_EN = true ∧
    (nvBusy [] wdog).rst.power = .run ∧
    (nvBusy [] wdog).rst.wdKick + (nvBusy [] wdog).fld .RST_WDCTL_PERIOD * 2 ^ 20 ≤ (nvBusy [] wdog).tick ∧
    (nvBusy [] up).rst.nvPending = [] ∧
    (nvBusy [.wdog] up).Inv ∧
    (nvBusy [.wdog] up).rst.nvPending = [.wdog] ∧
    mwf (nvBusy [] up).rst.nv ∧
    (nvBusy [] up (16, zeros 64) [(17, zeros 64)]).rst.nvQ ≠ [] ∧
    (nvBusy [] up (511, zeros 64) [(16, zeros 64)]).Inv ∧
    setW.Inv ∧
    setW.rst.nvQ = [] ∧
    setW.rst.fw = some { func := 0, cid := 9, op := 0x49, obj := 0 } ∧
    setW.rst.fwVer = some 0x20001 ∧
    (noFw true).rst.epochLast = (0, 0, 0) ∧
    (nvBusy [] { up with rst := { up.rst with epoch := .due } } row1).Inv ∧
    (nvBusy [] { up with rst := { up.rst with epoch := .due } } row1).rst.epochLast = (0, 0, 0) ∧
    row1 = ((0 + 1) % 16, epochRow (0 + 1) ((0 + 1) % 256)) := by
  unfold State.Inv
  decide +kernel

theorem test_ResetsWaitForTheWritePulse :
    (after .hotReset (nvBusy [] up)).rst.nvPending = [.hot] ∧
    (after .watchdogExpire (nvBusy [] wdog)).rst.nvPending = [.wdog] ∧
    (after .nvWriteDone (nvBusy [] up)).rst.nv = [(519, zeros 64)] ∧
    (after .nvWriteDone (nvBusy [.wdog] up)).rdRaw .RST_CAUSE = 32 ∧
    (after .nvWriteDone (nvBusy [] { up with rst := { up.rst with epoch := .due } } row1)).fld .RST_NVSTAT_EPOCHROW = 1 ∧
    (after .nvWriteDone setW).rst.fw = none := by
  decide +kernel

def standing (up_ : Bool) : State := put { up with rst := { up.rst with power := .standby, powerAt := 3000000000, railUp := false, railAt := 3999000000, rails := [up_, false, false, false, false] } }
  [(.PWR_WAKECFG_SDEN, 0, 1), (.PWR_SDMASK_LANES, 2, 128), (.TIM_ALMCTL_EN, 0, 8), (.TIM_ALMCTL_WAKE, 0, 8), (.TIM_ALARM_AT, 3, 4000000000 / 2 ^ 20)]

def rails (b : List Bool) (u : Bool) : State := { up with rst := { up.rst with rails := b, railUp := u, railAt := 3990000000 } }

def alarmed : State := put up [(.TIM_ALMCTL_EN, 0, 8), (.TIM_ALARM_AT, 3, 4000000000 / 2 ^ 20), (.PWR_WAKECFG_SDEN, 0, 1)]

theorem witness_BootAndWakeRowsComplete :
    (noFw false).Inv ∧
    (noFw false).awake = true ∧
    (noFw false).rst.steward = false ∧
    (noFw false).slotOk (media true).slotA = true ∧
    (noFw false).slotOk (media true).slotB = false ∧
    (noFw true).awake = true ∧
    (noFw true).rst.steward = false ∧
    (noFw true).slotOk (media true).slotA = true ∧
    (noFw true).slotOk (media true).slotB = false ∧
    (noFw false).rst.fullBoot = false ∧
    (noFw false).rst.hostReset = false ∧
    (noFw true).Inv ∧
    (noFw true).rst.fullBoot = true ∧
    (noFw true).rst.epoch = .due ∧
    (noFw true).rst.nvRow = none ∧
    (epochW 5).Inv ∧
    (epochW 5).rst.fullBoot = true ∧
    (epochW 5).rst.steward = true ∧
    (epochW 5).rst.epoch = .due ∧
    (epochW 5).rst.site = some (media true 5).slotA.site ∧
    (epochW 5).rst.nvRow = some row1 ∧
    row1.1 < 16 ∧
    (epochW 5).rst.nvPending = [] ∧
    mwf (epochW 5).rst.nv ∧
    (noFw false).slotOk (media false).slotA = false ∧
    ({ up with rst := { up.rst with perst := true } } : State).rst.power = .run ∧
    alarmed.Inv ∧
    alarmed.reaches .PWR_CTL 0 ∧
    alarmed.rst.power = .run ∧
    alarmed.flag .PWR_WAKECFG_SDEN = true ∧
    (standing true).Inv ∧
    (standing true).rst.power = .standby ∧
    (standing true).flag .PWR_WAKECFG_SDEN = true ∧
    bitAt ((standing true).fld .PWR_SDMASK_LANES (71 / 32)) (71 % 32) = true ∧
    (standing true).railsDown = false ∧
    (standing true).rst.wakeHeld = none ∧
    (standing false).Inv ∧
    (standing false).railsDown = true ∧
    (standing false).rst.nvRow = none ∧
    bitAt (alarmed.fld .TIM_ALMCTL_EN) 3 = true ∧
    alarmed.now / 2 ^ 20 % 2 ^ 32 = alarmed.fld .TIM_ALARM_AT 3 ∧
    mget alarmed.time.fired 3 ≠ some (alarmed.now / 2 ^ 20) ∧
    bitAt ((standing true).fld .TIM_ALMCTL_WAKE) 3 = true ∧
    (rails [true, true, true, false, false] true).rst.railAt + 10000000 = (rails [true, true, true, false, false] true).tick ∧
    (rails [true, true, true, false, false] false).rst.railUp = false := by
  unfold State.Inv State.reaches
  and_intros <;> decide +kernel

theorem test_BootAndWakeRowsComplete :
    (after (.stewardBoot (media true)) (noFw false)).rst.steward = true ∧
    (after (.stewardBoot (media true)) (noFw false)).fld .SEC_STAT_RUNSLOT = 1 ∧
    (epochW 0).rst.nvRow = some row1 ∧
    (after .nvWriteDone (epochW 0x01020304)).own = 7 ∧
    (after .nvWriteDone (epochW 0x01020304)).rdRaw .GEN_SHAPE = 0x01020304 ∧
    (after .nvWriteDone (epochW 0x01010213)).rdRaw .GEN_SHAPE = 0x01010101 ∧
    (after .nvWriteDone (epochW 0x01020104)).rdRaw .GEN_SHAPE = 0x01010101 ∧
    (after .nvWriteDone (epochW 0)).host.winCap = 2 ^ 30 ∧
    (after .nvWriteDone (epochW 0)).lnk.presets = [9] ∧
    (after .nvWriteDone (epochW 0)).fld .GEN_EPOCH_EPOCH = 1 ∧
    (after (.stewardBoot (media false)) (noFw false)).fld .RST_BOOT_STAGE = 4 ∧
    (after .perstDeassert { up with rst := { up.rst with perst := true } }).rst.perst = false ∧
    (after .standby alarmed).rst.power = .entering ∧
    (after (.signalDetectWake 71) (standing true)).rst.wakeHeld = some { sig := true, lane := 71 } ∧
    (after (.signalDetectWake 71) (standing false)).rdRaw .PWR_WAKE = 16 + 64 * 71 ∧
    (after (.signalDetectWake 71) (standing false)).rdRaw .RST_CAUSE = 2 ∧
    bitAt ((after (.timeAlarm 3) alarmed).fld .TIM_ALMCTL_FIRED) 3 = true ∧
    (after (.timeAlarm 3) (standing true)).rst.wakeHeld = some { alarms := 8 } ∧
    (after .railenSequence (rails [true, true, true, false, false] true)).rst.rails = [true, true, true, true, true] ∧
    (after .railenSequence (rails [true, true, true, false, false] false)).rst.rails = [true, false, false, false, false] := by
  decide +kernel

def avs (n : Nat) : State := put { up with rst := { up.rst with avsFails := n } } [(.PWR_CTL_AVSEN, 0, 1)]

theorem witness_SensorAndVoltageRowsComplete :
    up.Inv ∧
    up.rst.power = .run ∧
    List.replicate 36 1023 ≠ [] ∧
    (List.replicate 36 1023).foldl min 65535 < 1024 ∧
    up.avsRuns = false ∧
    up.rst.paceAt + 1024 ≤ up.tick ∧
    ({ up with rst := { up.rst with paceAt := 3999998977 } } : State).tick < 3999998977 + 1024 ∧
    (avs 2).Inv ∧
    (avs 2).avsRuns = true ∧
    2 ≤ (avs 2).rst.avsFails ∧
    (avs 1).avsRuns = true ∧
    880 < tjVal 881 ∧
    tjVal 839 < 840 ∧
    tjVal 4095 < 840 ∧
    up.host.dl = true := by
  unfold State.Inv
  decide +kernel

theorem test_SensorAndVoltageRowsComplete :
    (after (.paceWindow (List.replicate 36 1023)) up).fld .PWR_PACE_PACE = 1023 ∧
    (after (.paceWindow (List.replicate 36 1023)) up).flag .PWR_FLT_PACE = true ∧
    (after (.paceWindow (List.replicate 36 1023)) { up with rst := { up.rst with paceAt := 3999998977 } }).flag .PWR_FLT_PACE = false ∧
    (after (.avsTransactionDone true 1023) (avs 2)).fld .PWR_VCORE_READ = 1023 ∧
    (after (.avsTransactionDone false 0) (avs 2)).flag .PWR_FLT_AVSERR = true ∧
    (after (.avsTransactionDone false 0) (avs 1)).rst.avsFails = 2 ∧
    (after (.junctionHot 881) up).flag .PWR_FLT_HOT = true ∧
    (after (.junctionCool 4095) up).fld .PWR_TEMP_TJ = 4095 ∧
    (after (.hostUncorr 64) up).flag .HIF_FLT_UNCORR = true := by
  decide +kernel

def locked : State := put up [(.SEC_STAT_LOCKOUT, 0, 1)]

def burning : State := put { up with sec := { up.sec with fuse := some (3, 1), fails := 7 } } [(.SEC_DBGCNT_FAILS, 0, 7), (.SEC_STAT_CHALVALID, 0, 1)]

def chal : State := put { up with flt := { up.flt with safe := true } } [(.SEC_STAT_CHALVALID, 0, 1)]

theorem witness_SecurityRowsComplete :
    up.Inv ∧
    up.reaches .SEC_CTL 0 ∧
    up.flag .SEC_STAT_LOCKOUT = false ∧
    locked.Inv ∧
    locked.reaches .SEC_CTL 0 ∧
    locked.flag .SEC_STAT_LOCKOUT = true ∧
    up.flag .SEC_STAT_CHALVALID = false ∧
    7 ≤ burning.sec.fails ∧
    up.sec.fuse = none ∧
    chal.Inv ∧
    chal.reaches .SEC_CTL 0 ∧
    chal.flag .SEC_STAT_CHALVALID = true ∧
    chal.flt.safe = true ∧
    chal.mir.twin ≠ .paired ∧
    (up.rst.steward && bitAt 14 (up.fld .SEC_STAT_RUNSLOT)) = false ∧
    bitAt up.sec.present 0 = true ∧
    bitAt (up.sec.revoked ||| 14) 0 = false ∧
    burning.Inv ∧
    burning.reaches .SEC_CTL 0 ∧
    burning.sec.fuse = some (3, 1) := by
  unfold State.Inv State.reaches
  decide +kernel

theorem test_SecurityRowsComplete :
    (after .newchal locked).flag .SEC_STAT_CHALVALID = false ∧
    (after .unlock up).fld .SEC_DBGCNT_FAILS = 1 ∧
    (after .unlock (put burning [(.SEC_STAT_CHALVALID, 0, 0)])).flag .SEC_STAT_LOCKOUT = true ∧
    (after .floor { up with sec := { up.sec with runVersion := 9 } }).sec.fuse = some (9, 0) ∧
    (after (.revoke 14) up).sec.fuse = some (0, 14) ∧
    (after .fuseWriteDone burning).sec.revoked = 1 := by
  decide +kernel

/-- A fault message of class 4 from source 0x500 + 2. -/
def msg4 (c : Nat) : FltMsg := { src := 0x410, code := c * 4096 + 1, time := 4000000000 % 2 ^ 32, addr := 0 }

def flts (c : Nat) : State := { up with flt := { up.flt with msgs := [msg4 c], logq := [{ msg := msg4 c, timeHi := 0, level := 1, severe := false, escalated := false, safe := false }] } }

theorem witness_FaultRowsComplete :
    up.Inv ∧
    up.reaches .FLT_INJ 0 ∧
    kindOk (bits (4 * 2 ^ 28 + 5 * 2 ^ 16 + 0x620) 28 4 * 4096 + bits (4 * 2 ^ 28 + 5 * 2 ^ 16 + 0x620) 16 12) (bits (4 * 2 ^ 28 + 5 * 2 ^ 16 + 0x620) 0 12) = true ∧
    heldOf up.flt.msgs 0x620 < 4 ∧
    bits (2 ^ 32 - 1) 16 16 ≠ 0 ∧
    kindOk (bits (2 ^ 32 - 1) 28 4 * 4096 + bits (2 ^ 32 - 1) 16 12) (bits (2 ^ 32 - 1) 0 12) = false ∧
    (flts 4).Inv ∧
    minBy (fun x => (flts 4).fullTime x.time * 2 ^ 12 + x.src) (flts 4).flt.msgs = some (msg4 4) ∧
    slotOf (msg4 4).src < 548 ∧
    (flts 4).flt.logq.length < 64 ∧
    up.flag .FLT_SRCSTAT_LATCH 547 = false ∧
    mgetD up.flt.win 547 0 < up.now / 2 ^ up.fld .FLT_SRCCFG_WLOG2 547 ∧
    (flts 4).rst.steward = true ∧
    (flts 4).rst.fullBoot = false ∧
    (∀ m ∈ (flts 4).flt.msgs, slotOf m.src = 547 → (flts 4).now / 2 ^ (flts 4).fld .FLT_SRCCFG_WLOG2 547 ≤ (flts 4).fullTime m.time / 2 ^ (flts 4).fld .FLT_SRCCFG_WLOG2 547) ∧
    (flts 4).flt.logq = [{ msg := msg4 4, timeHi := 0, level := 1, severe := false, escalated := false, safe := false }] := by
  unfold State.Inv State.reaches
  decide +kernel

theorem test_FaultRowsComplete :
    (after (.faultInject (4 * 2 ^ 28 + 5 * 2 ^ 16 + 0x620)) up).flt.msgs = [{ src := 0x620, code := 0x4005, time := 4000000000, addr := 0 }] ∧
    after (.faultInject (2 ^ 32 - 1)) up = up.accLog 4 true 0 0 (RegName.FLT_INJ.addr 0) ∧
    (after .faultMessage (flts 4)).fld .FLT_SRCCNT_COUNT (slotOf 0x410) = 1 ∧
    (after .faultMessage (flts 4)).fld .FLT_SRCLAST_CODE (slotOf 0x410) = 0x4001 ∧
    mget (after (.faultWindowEnd 547) up).flt.win 547 = some (4000000000 / 2 ^ up.fld .FLT_SRCCFG_WLOG2 547) ∧
    (after .faultLogWrite (flts 4)).flt.logNum = 1 := by
  decide +kernel

/-- A ring flit from stop 3 to stop 20 in which one bit of each of two words is wrong, and of the headers' copies one each. -/
def oneF : RingFlit :=
  let f := ringFlit 3 20 [5, 2 ^ 63, 7, 0, 1, 2, 3, 4]
  { f with srcs := (3, 31, 3), dsts := (20, 20, 0), words := (f.words.map (fun x => (x.1 ^^^ 4, x.2))).take 2 ++ f.words.drop 2 }
/-- One in which two bits of a word are wrong. -/
def badF : RingFlit := let f := ringFlit 3 20 [5, 9, 0, 0, 0, 0, 0, 1]; { f with words := f.words.map (fun x => (x.1 ^^^ 6, x.2)) }

theorem test_secded :
    (List.range 64).all (fun i => secCheck (0x123456789ABCDEF0 ^^^ BitVec.ofNat 64 (2 ^ i)) (secded 0x123456789ABCDEF0) == some (0x123456789ABCDEF0, true)) = true ∧
    (List.range 8).all (fun i => secCheck 0x123456789ABCDEF0 (secded 0x123456789ABCDEF0 ^^^ BitVec.ofNat 8 (2 ^ i)) == some (0x123456789ABCDEF0, true)) = true ∧
    secCheck 5 (secded 5) = some (5, false) ∧
    secCheck (5 ^^^ 2 ^ 63) (secded 5 ^^^ 1) = none ∧
    majority3 3 31 3 = 3 ∧
    shortCw 3 19 = true ∧
    shortCw 3 20 = false ∧
    shortCw 30 1 = true := by
  decide +kernel

def ringed : State := (after (.cxlMemRead 4 (2 ^ 40)) (win0 false true))

def safeUp (b : Bool) : State := put { up with flt := { up.flt with safe := b } } [(.FLT_SAFE_LATCH, 0, 1)]

theorem witness_ErrorRowsComplete :
    up.Inv ∧
    up.ring.filled = true ∧
    up.ring.stopped = [] ∧
    up.ring.flits = [] ∧
    State.reset.ring.filled = false ∧
    badF.bad = true ∧
    oneF.bad = false ∧
    (∀ r, r < 4 → up.flag .FLT_SRCSTAT_SEVERE (slotOf (0x626 + r)) = false) ∧
    ringed.ring.filled = true ∧
    ringed.ring.stopped.contains (pairKey badF.src badF.dst) = false ∧
    ringed.ring.flits.any (fun g => pairKey g.src g.dst == pairKey badF.src badF.dst) = false ∧
    (∀ r, r < 4 → ringed.flag .FLT_SRCSTAT_SEVERE (slotOf (0x626 + r)) = false) ∧
    oneF.corrected = 2 ∧
    pairKey badF.src badF.dst = 32 * 3 + 20 ∧
    ((ringed.wblk 0).items.map WItem.expired) = [false] ∧
    ringed.Inv ∧
    (ringed.findItem 0).isSome = true ∧
    ringed.findItem 0 = some (0, (ringed.wblk 0).items.headD { id := 0, d := 0, a := 0, off := 0, write := true, ent := wEnt false false, entNo := 0 }) ∧
    ((ringed.wblk 0).items.map WItem.write) = [false] ∧
    up.mir.twin ≠ .paired ∧
    ({ up with pmu := { up.pmu with bwAt := 0 } } : State).pmu.bwAt / 2 ^ up.fld .PMU_BWWIN_LOG2 < up.now / 2 ^ up.fld .PMU_BWWIN_LOG2 ∧
    ({ up with pmu := { up.pmu with bwAt := 4000000000 } } : State).now / 2 ^ up.fld .PMU_BWWIN_LOG2 ≤ 4000000000 / 2 ^ up.fld .PMU_BWWIN_LOG2 ∧
    (safeUp false).Inv ∧
    (safeUp false).reaches .FLT_SAFE 0 ∧
    (safeUp false).flag .FLT_SAFE_LATCH = true ∧
    (safeUp false).safeGone = true ∧
    (safeUp false).flt.safe = false ∧
    (safeUp true).Inv ∧
    (safeUp true).reaches .FLT_SAFE 0 ∧
    (safeUp true).flag .FLT_SAFE_LATCH = true ∧
    (safeUp true).safeGone = true ∧
    (safeUp true).rst.power = .run ∧
    up.reaches .FLT_SAFE 0 ∧
    up.flag .FLT_SAFE_LATCH = false := by
  unfold State.Inv State.reaches
  and_intros <;> decide +kernel

theorem test_ErrorRowsComplete :
    mgetD (after (.ringFlitUe oneF.srcs oneF.dsts oneF.words .none) up).ring.corrected 20 0 = 2 ∧
    (after (.ringFlitUe oneF.srcs oneF.dsts oneF.words .none) up).flt.msgs = [] ∧
    (after (.ringFlitUe badF.srcs badF.dsts badF.words .none) State.reset).flt.msgs = [] ∧
    (after (.critStateUe (.memCorrected 7)) up).fld .HIF_MEMSTAT_CECNT 7 = 1 ∧
    (after (.critStateUe (.memUe 7 64)) up).flag .HIF_MEMSTAT_UEFLT 7 = true ∧
    (after (.critStateUe (.xltEntry 3)) up).fld .RST_CRITCNT_COUNT = 1 ∧
    (after .bwWindowEnd up).pmu.bwAt = 4000000000 ∧
    (after .safeStateClear (safeUp false)).flag .FLT_SAFE_LATCH = false ∧
    (after .safeStateClear (safeUp true)).flt.safe = false ∧
    after .safeStateClear up = up := by
  decide +kernel

def mlink (n : Nat) : State := { up with mir := { up.mir with link := n, since := 3999000000, trainAt := 3900000000 } }

/-- One whose lanes are tuned on both sides. -/
def tuned (n : Nat) : State := { mlink n with mir := { (mlink n).mir with lanes := (numsFrom 0 16).map (fun l => (l, { rxdone := true, peerDone := true })) } }

theorem witness_MirrorLinkTrainingRowsComplete :
    up.Inv ∧
    up.reaches .MIR_CTL 0 ∧
    up.mir.link = 0 ∧
    (mlink 4).Inv ∧
    (tuned 4).Inv ∧
    (tuned 4).mir.link = 4 ∧
    (tuned 4).mirTuned = true ∧
    bitAt 0x40 6 ≠ ((mlink 4).mlane (bits 0x1E 1 4)).reqtog ∧
    (mpair).mirUp = true ∧
    (mlink 4).mir.trainAt + 100000000 = (mlink 4).tick ∧
    (mlink 1).mir.trainAt + 100000000 = (mlink 1).tick ∧
    (mlink 4).mir.twin ≠ .pairing ∧
    (mlink 7).Inv ∧
    (mlink 7).mir.since + 1000000 = (mlink 7).tick := by
  unfold State.Inv State.reaches
  decide +kernel

theorem test_MirrorLinkTrainingRowsComplete :
    (after .mirLinkEnable up).mir.link = 1 ∧
    (after .mirClockDetect (mlink 1)).mir.link = 2 ∧
    (after .mirLanesLocked (mlink 2)).mir.link = 3 ∧
    (after .mirCommaAligned (mlink 3)).mir.link = 4 ∧
    (after .mirTuneDone (tuned 4)).mir.link = 5 ∧
    (after .mirTrainTimeout (mlink 4)).mir.link = 7 ∧
    (after .mirDownExpire (mlink 7)).mir.link = 1 := by
  decide +kernel

def mtx : State := { mpair with mir := { mpair.mir with unacked := [{ kind := 1, seq := 65535 }, { kind := 1, seq := 0 }], txSeq := 1, lastAck := 3999998000, toCount := 14 } }

/-- A good frame of a kind and number. -/
def mfr (k n : Nat) : MFrame := ({ kind := k, seq := n } : MFrame).seal

theorem witness_MirrorFrameRowsComplete :
    mpair.Inv ∧
    (mfr 1 0).crcOk = true ∧
    (mfr 2 0).crcOk = true ∧
    ({ kind := 3, hb := leBytes 4 6 ++ zeros 60 } : MFrame).seal.crcOk = true ∧
    ({ kind := 0, ackv := true, ackseq := 0 } : MFrame).seal.crcOk = true ∧
    mpair.mirUp = true ∧
    mpair.mir.twin ≠ .taking ∧
    mpair.mir.twin ≠ .solo ∧
    mpair.takesRecords = true ∧
    (0 : Nat) = mpair.mirNext ∧
    bits (leAt (leBytes 4 6 ++ zeros 60) 0 4) 0 20 ≠ mpair.own ∧
    sameCell (bits (leAt (leBytes 4 6 ++ zeros 60) 0 4) 0 20) mpair.own = true ∧
    mtx.Inv ∧
    mtx.mirUp = true ∧
    mtx.mir.unacked = [({ kind := 1, seq := 65535 } : MFrame)] ++ [{ kind := 1, seq := 0 }] ∧
    mtx.mir.queue = [] ∧
    mtx.mir.waits = [] ∧
    mtx.mir.unacked ≠ [] ∧
    mtx.mir.lastAck + 2000 = mtx.tick ∧
    mtx.mir.toCount < 15 ∧
    up.now % 10000 = 0 ∧
    up.mir.hbSent ≠ some up.now ∧
    ({ mpair with mir := { mpair.mir with lastHb := some 3999970000 } } : State).mir.lastHb = some 3999970000 ∧
    3999970000 + 30000 = mpair.tick := by
  unfold State.Inv
  decide +kernel

theorem test_MirrorFrameRowsComplete :
    (after (.record (mfr 1 0)) mpair).mir.rxAny = true ∧
    (after (.record (mfr 1 1)) mpair).mir.rxAny = false ∧
    (after (.mirNak (mfr 2 0)) mtx).out.length = 2 ∧
    (after (.heartbeat ({ kind := 3, hb := leBytes 4 6 ++ zeros 60 } : MFrame).seal) mpair).mir.lastHb = some 4000000000 ∧
    (after (.mirIdle ({ kind := 0, ackv := true, ackseq := 0 } : MFrame).seal) mtx).mir.unacked = [] ∧
    (after .mirReplayTimeout mtx).mir.toCount = 15 ∧
    (after .heartbeatSend mpair).mir.hbSent = some 4000000000 ∧
    (after .mirReadyTimeout { put mpair [(.GEN_READY_MIR, 0, 1)] with mir := { mpair.mir with lastHb := some 3999970000 } }).flag .GEN_READY_MIR = false := by
  decide +kernel

def pairing : State := { mpair with mir := { mpair.mir with twin := .pairing, copySeq := some 9, copyRx := true, cmdAt := some 3000000000 } }

def solo : State := put { mpair with mir := { mpair.mir with twin := .solo }, lck := { mpair.lck with words := [(3, { st := .free }), (2 ^ 24, { st := .free })] } } [(.GEN_ALIAS_COORD, 0, 6), (.RTE_ALIAS_VALID, 6, 1)]

def hbGone (d : Option Nat) : State := { mpair with mir := { mpair.mir with lastHb := some 3000000000, d0Down := d } }

theorem witness_PairRowsComplete :
    mpair.Inv ∧
    (mfr 5 0).crcOk = true ∧
    mpair.mir.waits = [] ∧
    mpair.reaches .MIR_CTL 0 ∧
    mpair.mir.twin = .paired ∧
    up.mir.twin = .unpaired ∧
    up.mir.waits = [] ∧
    mpair.mirUp = true ∧
    pairing.Inv ∧
    pairing.mir.waits = [] ∧
    pairing.mir.copySeq = some 9 ∧
    pairing.mir.twin = .pairing ∧
    pairing.mir.copyRx = true ∧
    pairing.mirOpen 9 = false ∧
    pairing.mir.cmdAt = some 3000000000 ∧
    3000000000 + 1000000000 = pairing.tick ∧
    (hbGone none).Inv ∧
    (hbGone none).mir.waits = [] ∧
    (hbGone none).hbMissed = true ∧
    (hbGone none).mir.d0Down = none ∧
    solo.Inv ∧
    solo.mir.waits = [] ∧
    solo.reaches .MIR_CTL 0 ∧
    solo.mir.twin = .solo ∧
    digit solo.alias_ 0 < 18 := by
  unfold State.Inv State.reaches
  and_intros <;> decide +kernel

theorem test_PairRowsComplete :
    (after .unpair mpair).mir.twin = .unpaired ∧
    (after (.unpairFrame (mfr 5 0)) mpair).mir.twin = .unpaired ∧
    (after .pairingComplete pairing).mir.twin = .paired ∧
    (after .twinConfigTimeout pairing).mir.twin = .unpaired ∧
    (after .twinIsolate (hbGone none)).mir.twin = .isolated ∧
    (after .release solo).alias_ = nullCoord ∧
    (after .release solo).lck.words = [(3, { st := .free })] := by
  decide +kernel

def fencing : State := { mpair with flt := { mpair.flt with safe := true }, mir := { mpair.mir with noD0 := some 3999995000 } }

theorem witness_TakeoverAndFenceRowsComplete :
    mpair.Inv ∧
    mpair.mir.waits = [] ∧
    mpair.mir.twin = .paired ∧
    mpair.mir.cfg = some { coord := 6 } ∧
    mpair.dstate = true ∧
    (hbGone (some 3999980000)).dstate = true ∧
    (hbGone (some 3999980000)).mir.cfg = some { coord := 6 } ∧
    (6 : Nat) < 2 ^ 20 ∧
    digit 6 0 < 18 ∧
    mpair.mirUp = true ∧
    (hbGone (some 3999980000)).Inv ∧
    (hbGone (some 3999980000)).mir.waits = [] ∧
    (hbGone (some 3999980000)).mir.d0Down = some 3999980000 ∧
    (hbGone (some 3999980000)).hbMissed = true ∧
    3999980000 + (hbGone (some 3999980000)).fld .MIR_GUARD_GUARD = (hbGone (some 3999980000)).tick ∧
    ({ mpair with mir := { mpair.mir with twin := .taking } } : State).mir.twin = .taking ∧
    fencing.Inv ∧
    fencing.reaches .MIR_CTL 0 ∧
    fencing.flt.safe = true ∧
    mpair.flt.safe = false ∧
    mpair.qmg.wq = [] ∧
    fencing.mir.noD0 = some 3999995000 ∧
    3999995000 + fencing.fld .MIR_FENCEWIN_WIN = fencing.tick ∧
    ({ mpair with mir := { mpair.mir with twin := .fenced, handAt := 3999999000 } } : State).mirUp = true := by
  unfold State.Inv State.reaches
  decide +kernel

theorem test_TakeoverAndFenceRowsComplete :
    (after (.handoverFrame (mfr 4 0)) mpair).mir.twin = .taking ∧
    (after (.handoverFrame (mfr 4 0)) mpair).alias_ = 6 ∧
    (after .twinFailDeclare (hbGone (some 3999980000))).mir.takeSub = 0 ∧
    (after .twinFailDeclare (hbGone (some 3999980000))).mir.twin = .taking ∧
    (after .takeoverComplete { mpair with mir := { mpair.mir with twin := .taking } }).mir.twin = .solo ∧
    (after .handover fencing).mir.twin = .fenced ∧
    (after .handover mpair).flag .HIF_STATUS_DMASTOP = true ∧
    (after .fenceWindowExpire fencing).mir.twin = .fenced ∧
    (after .handoverRepeat { mpair with mir := { mpair.mir with twin := .fenced, handAt := 3999999000 } }).out.length = 1 := by
  decide +kernel

/-- A descriptor of an opcode with MARK 1: inline or not, destination 6, KEY, LADDR, LENGTH and OPERAND0. -/
def dsc (op : Nat) (inl : Bool) (dest key laddr len op0 : Nat) : Raw :=
  BitVec.ofNat 512 (op + 2 ^ 10 * b2n inl + 2 ^ 32 * dest + 2 ^ 64 * key + 2 ^ 192 * laddr + 2 ^ 256 * len + 2 ^ 320 * op0 + 2 ^ 511)

/-- Translation is enabled and one 2 MiB page of the PF's ASID 0 is cached. -/
def xon (s : State) : State :=
  let e : XEnt := { func := 0, asid := 0, page := 0, ps := 21, addr := 0x40000000, w := true, pkey := 0, dseen := true, at_ := s.tick, val := 0x37 }
  put { s with xlt := { s.xlt with cache := [(0, e)], next := 1 } } [(.XLT_CTL_EN, 0, 1)]

/-- Collective context 3 of a kind: 5 is a member below the root 4; 7 is its child. -/
def cctx (kind : Nat) : ColCtx :=
  { st := .set, kind := kind, nelem := 1, type := 1, setupId := 77, ckey := 0xABCD00000100000C, root := 4, parent := 4, members := [4, 5, 7], children := [7] }

/-- Queue 7 with the descriptor `d` held at its published head, and context 3 of a kind. -/
def dq (kind : Nat) (d : Raw) : State :=
  { (xon qs).modWq 7 (fun w => { w with tail := 11, fetched := [(10, d, 4000000000)] }) with col := [(3, cctx kind)] }

/-- A CFADD64 of the counter of context 3. -/
def cfd : Raw := dsc 0x18 false 4 0xABCD00000100000C 0 0 7

theorem witness_DescriptorRowsIssue :
    (dq 3 (dsc 0 false 0 0 0 0 0)).mayIssue 7 7 (dsc 0 false 0 0 0 0 0) 0x0 ∧
    (dq 3 (dsc 1 true 6 9 0 16 7)).mayIssue 7 7 (dsc 1 true 6 9 0 16 7) 0x1 ∧
    (dq 3 (dsc 2 false 6 9 64 4097 0)).mayIssue 7 7 (dsc 2 false 6 9 64 4097 0) 0x2 ∧
    (dq 3 (dsc 3 true 6 0 5 0 0)).mayIssue 7 7 (dsc 3 true 6 0 5 0 0) 0x3 ∧
    (dq 3 (dsc 4 false 0xFFFFF 0 64 512 5)).mayIssue 7 7 (dsc 4 false 0xFFFFF 0 64 512 5) 0x4 ∧
    (dq 3 (dsc 0x10 false 6 9 0 0 7)).mayIssue 7 7 (dsc 0x10 false 6 9 0 0 7) 0x10 ∧
    (dq 3 (dsc 0x11 false 6 9 0 0 7)).mayIssue 7 7 (dsc 0x11 false 6 9 0 0 7) 0x11 ∧
    (dq 3 (dsc 0x12 false 6 9 0 0 7)).mayIssue 7 7 (dsc 0x12 false 6 9 0 0 7) 0x12 ∧
    (dq 3 (dsc 0x14 false 6 9 0 0 7)).mayIssue 7 7 (dsc 0x14 false 6 9 0 0 7) 0x14 ∧
    (dq 3 (dsc 0x15 false 6 9 0 0 7)).mayIssue 7 7 (dsc 0x15 false 6 9 0 0 7) 0x15 ∧
    (dq 3 (dsc 0x18 false 6 9 0 0 7)).mayIssue 7 7 (dsc 0x18 false 6 9 0 0 7) 0x18 ∧
    (dq 1 (dsc 0x21 false 0 3 0 0 1)).mayIssue 7 7 (dsc 0x21 false 0 3 0 0 1) 0x21 ∧
    (dq 2 (dsc 0x22 false 0 3 0 0 0)).mayIssue 7 7 (dsc 0x22 false 0 3 0 0 0) 0x22 ∧
    (dq 3 (dsc 0x30 false 6 9 0 0 0)).mayIssue 7 7 (dsc 0x30 false 6 9 0 0 0) 0x30 ∧
    (dq 3 (dsc 0x31 false 6 9 0 0 0)).mayIssue 7 7 (dsc 0x31 false 6 9 0 0 0) 0x31 ∧
    (dq 3 (dsc 0x32 false 6 9 0 0 0)).mayIssue 7 7 (dsc 0x32 false 6 9 0 0 0) 0x32 ∧
    (dq 0 (dsc 0 false 0 0 0 0 0)).Inv ∧
    (dsc 0 false 0 0 0 0 0).sig = false ∧
    payloadLen (dsc 1 true 6 9 0 16 7) = 0 ∧
    putPackets (dsc 1 true 6 9 0 16 7) 0 (dsc 1 true 6 9 0 16 7).inlineBytes ≠ [] ∧
    payloadLen (dsc 3 true 6 0 5 0 0) = 0 ∧
    (dq 3 (dsc 0x18 false 6 9 0 0 7)).counterOf (dsc 0x18 false 6 9 0 0 7) = none ∧
    (dq 3 cfd).mayIssue 7 7 cfd 0x18 ∧
    (dq 3 cfd).counterOf cfd = some 3 ∧
    (dq 1 (dsc 0x21 false 0 3 0 0 1)).collFor 7 (dsc 0x21 false 0 3 0 0 1) = some 3 ∧
    (dq 2 (dsc 0x22 false 0 3 0 0 0)).collFor 7 (dsc 0x22 false 0 3 0 0 0) = some 3 ∧
    (dq 0 (dsc 1 false 6 9 64 512 0)).mayIssue 7 7 (dsc 1 false 6 9 64 512 0) 0x1 ∧
    payloadLen (dsc 1 false 6 9 64 512 0) ≠ 0 ∧
    (((dq 0 (dsc 1 false 6 9 64 512 0)).headTurn 7 7 (dsc 1 false 6 9 64 512 0)).xlate (.payload 7) ((dq 0 (dsc 1 false 6 9 64 512 0)).wqOwner 7) ((dq 0 (dsc 1 false 6 9 64 512 0)).wq 7).asid (dsc 1 false 6 9 64 512 0).laddr (payloadLen (dsc 1 false 6 9 64 512 0)) false false ((dq 0 (dsc 1 false 6 9 64 512 0)).wq 7).kr []).2.wait = false ∧
    (((dq 0 (dsc 1 false 6 9 64 512 0)).headTurn 7 7 (dsc 1 false 6 9 64 512 0)).xlate (.payload 7) ((dq 0 (dsc 1 false 6 9 64 512 0)).wqOwner 7) ((dq 0 (dsc 1 false 6 9 64 512 0)).wq 7).asid (dsc 1 false 6 9 64 512 0).laddr (payloadLen (dsc 1 false 6 9 64 512 0)) false false ((dq 0 (dsc 1 false 6 9 64 512 0)).wq 7).kr []).2.segs ≠ [] ∧
    (dq 0 (dsc 3 false 6 0 64 512 0)).mayIssue 7 7 (dsc 3 false 6 0 64 512 0) 0x3 ∧
    payloadLen (dsc 3 false 6 0 64 512 0) ≠ 0 ∧
    (((dq 0 (dsc 3 false 6 0 64 512 0)).headTurn 7 7 (dsc 3 false 6 0 64 512 0)).xlate (.payload 7) ((dq 0 (dsc 3 false 6 0 64 512 0)).wqOwner 7) ((dq 0 (dsc 3 false 6 0 64 512 0)).wq 7).asid (dsc 3 false 6 0 64 512 0).laddr (payloadLen (dsc 3 false 6 0 64 512 0)) false false ((dq 0 (dsc 3 false 6 0 64 512 0)).wq 7).kr []).2.wait = false ∧
    (((dq 0 (dsc 3 false 6 0 64 512 0)).headTurn 7 7 (dsc 3 false 6 0 64 512 0)).xlate (.payload 7) ((dq 0 (dsc 3 false 6 0 64 512 0)).wqOwner 7) ((dq 0 (dsc 3 false 6 0 64 512 0)).wq 7).asid (dsc 3 false 6 0 64 512 0).laddr (payloadLen (dsc 3 false 6 0 64 512 0)) false false ((dq 0 (dsc 3 false 6 0 64 512 0)).wq 7).kr []).2.segs ≠ [] ∧
    (dq 0 (dsc 0x16 false 6 9 64 0 0)).mayIssue 7 7 (dsc 0x16 false 6 9 64 0 0) 0x16 ∧
    payloadLen (dsc 0x16 false 6 9 64 0 0) ≠ 0 ∧
    (((dq 0 (dsc 0x16 false 6 9 64 0 0)).headTurn 7 7 (dsc 0x16 false 6 9 64 0 0)).xlate (.payload 7) ((dq 0 (dsc 0x16 false 6 9 64 0 0)).wqOwner 7) ((dq 0 (dsc 0x16 false 6 9 64 0 0)).wq 7).asid (dsc 0x16 false 6 9 64 0 0).laddr (payloadLen (dsc 0x16 false 6 9 64 0 0)) false false ((dq 0 (dsc 0x16 false 6 9 64 0 0)).wq 7).kr []).2.wait = false ∧
    (((dq 0 (dsc 0x16 false 6 9 64 0 0)).headTurn 7 7 (dsc 0x16 false 6 9 64 0 0)).xlate (.payload 7) ((dq 0 (dsc 0x16 false 6 9 64 0 0)).wqOwner 7) ((dq 0 (dsc 0x16 false 6 9 64 0 0)).wq 7).asid (dsc 0x16 false 6 9 64 0 0).laddr (payloadLen (dsc 0x16 false 6 9 64 0 0)) false false ((dq 0 (dsc 0x16 false 6 9 64 0 0)).wq 7).kr []).2.segs ≠ [] ∧
    (dq 0 (dsc 0x20 false 0 (3 + 2 ^ 20) 64 8 0)).mayIssue 7 7 (dsc 0x20 false 0 (3 + 2 ^ 20) 64 8 0) 0x20 ∧
    payloadLen (dsc 0x20 false 0 (3 + 2 ^ 20) 64 8 0) ≠ 0 ∧
    (((dq 0 (dsc 0x20 false 0 (3 + 2 ^ 20) 64 8 0)).headTurn 7 7 (dsc 0x20 false 0 (3 + 2 ^ 20) 64 8 0)).xlate (.payload 7) ((dq 0 (dsc 0x20 false 0 (3 + 2 ^ 20) 64 8 0)).wqOwner 7) ((dq 0 (dsc 0x20 false 0 (3 + 2 ^ 20) 64 8 0)).wq 7).asid (dsc 0x20 false 0 (3 + 2 ^ 20) 64 8 0).laddr (payloadLen (dsc 0x20 false 0 (3 + 2 ^ 20) 64 8 0)) false false ((dq 0 (dsc 0x20 false 0 (3 + 2 ^ 20) 64 8 0)).wq 7).kr []).2.wait = false ∧
    (((dq 0 (dsc 0x20 false 0 (3 + 2 ^ 20) 64 8 0)).headTurn 7 7 (dsc 0x20 false 0 (3 + 2 ^ 20) 64 8 0)).xlate (.payload 7) ((dq 0 (dsc 0x20 false 0 (3 + 2 ^ 20) 64 8 0)).wqOwner 7) ((dq 0 (dsc 0x20 false 0 (3 + 2 ^ 20) 64 8 0)).wq 7).asid (dsc 0x20 false 0 (3 + 2 ^ 20) 64 8 0).laddr (payloadLen (dsc 0x20 false 0 (3 + 2 ^ 20) 64 8 0)) false false ((dq 0 (dsc 0x20 false 0 (3 + 2 ^ 20) 64 8 0)).wq 7).kr []).2.segs ≠ [] ∧
    (dq 0 (dsc 0x20 false 0 (3 + 2 ^ 20) 64 8 0)).collFor 7 (dsc 0x20 false 0 (3 + 2 ^ 20) 64 8 0) = some 3 := by
  unfold State.Inv State.mayIssue State.mayProcess State.mayStart State.mayTurn State.mayBoundary
  and_intros <;> decide +kernel

theorem test_DescriptorRowsIssue :
    ((after (.nop 7 (dsc 0 false 0 0 0 0 0)) (dq 3 (dsc 0 false 0 0 0 0 0))).wq 7).head = 11 ∧
    ((after (.recv 7 (dsc 4 false 0xFFFFF 0 64 512 5)) (dq 3 (dsc 4 false 0xFFFFF 0 64 512 5))).wq 7).head = 11 ∧
    ((after (.put 7 (dsc 1 false 6 9 64 512 0)) (dq 0 (dsc 1 false 6 9 64 512 0))).wq 7).turn.map Turn.wait = some .payload ∧
    ((after (.send 7 (dsc 3 false 6 0 64 512 0)) (dq 0 (dsc 3 false 6 0 64 512 0))).wq 7).turn.map Turn.wait = some .payload ∧
    ((after (.cas128 7 (dsc 0x16 false 6 9 64 0 0)) (dq 0 (dsc 0x16 false 6 9 64 0 0))).wq 7).turn.map Turn.wait = some .payload ∧
    ((after (.collReduce 7 (dsc 0x20 false 0 (3 + 2 ^ 20) 64 8 0)) (dq 0 (dsc 0x20 false 0 (3 + 2 ^ 20) 64 8 0))).wq 7).turn.map Turn.wait = some .payload := by
  decide +kernel

/-- The other pages are not cached, so that a walk begins. -/
def walkq (d : Raw) : State := let s := dq 0 d; { s with xlt := { s.xlt with cache := [] } }

theorem witness_DescriptorRowsIssueByWalk :
    (walkq (dsc 1 false 6 9 64 512 0)).Inv ∧
    (walkq (dsc 1 false 6 9 64 512 0)).mayIssue 7 7 (dsc 1 false 6 9 64 512 0) 0x1 ∧
    (walkq (dsc 3 false 6 0 64 512 0)).Inv ∧
    (walkq (dsc 3 false 6 0 64 512 0)).mayIssue 7 7 (dsc 3 false 6 0 64 512 0) 0x3 ∧
    (walkq (dsc 0x16 false 6 9 64 0 0)).Inv ∧
    (walkq (dsc 0x16 false 6 9 64 0 0)).mayIssue 7 7 (dsc 0x16 false 6 9 64 0 0) 0x16 ∧
    (walkq (dsc 0x20 false 0 (3 + 2 ^ 20) 64 8 0)).Inv ∧
    (walkq (dsc 0x20 false 0 (3 + 2 ^ 20) 64 8 0)).mayIssue 7 7 (dsc 0x20 false 0 (3 + 2 ^ 20) 64 8 0) 0x20 ∧
    (((walkq (dsc 1 false 6 9 64 512 0)).headTurn 7 7 (dsc 1 false 6 9 64 512 0)).xlate (.payload 7) ((walkq (dsc 1 false 6 9 64 512 0)).wqOwner 7) ((walkq (dsc 1 false 6 9 64 512 0)).wq 7).asid (dsc 1 false 6 9 64 512 0).laddr (payloadLen (dsc 1 false 6 9 64 512 0)) false false ((walkq (dsc 1 false 6 9 64 512 0)).wq 7).kr []).2.wait = true ∧
    (((walkq (dsc 3 false 6 0 64 512 0)).headTurn 7 7 (dsc 3 false 6 0 64 512 0)).xlate (.payload 7) ((walkq (dsc 3 false 6 0 64 512 0)).wqOwner 7) ((walkq (dsc 3 false 6 0 64 512 0)).wq 7).asid (dsc 3 false 6 0 64 512 0).laddr (payloadLen (dsc 3 false 6 0 64 512 0)) false false ((walkq (dsc 3 false 6 0 64 512 0)).wq 7).kr []).2.wait = true ∧
    (((walkq (dsc 0x16 false 6 9 64 0 0)).headTurn 7 7 (dsc 0x16 false 6 9 64 0 0)).xlate (.payload 7) ((walkq (dsc 0x16 false 6 9 64 0 0)).wqOwner 7) ((walkq (dsc 0x16 false 6 9 64 0 0)).wq 7).asid (dsc 0x16 false 6 9 64 0 0).laddr (payloadLen (dsc 0x16 false 6 9 64 0 0)) false false ((walkq (dsc 0x16 false 6 9 64 0 0)).wq 7).kr []).2.wait = true ∧
    (((walkq (dsc 0x20 false 0 (3 + 2 ^ 20) 64 8 0)).headTurn 7 7 (dsc 0x20 false 0 (3 + 2 ^ 20) 64 8 0)).xlate (.payload 7) ((walkq (dsc 0x20 false 0 (3 + 2 ^ 20) 64 8 0)).wqOwner 7) ((walkq (dsc 0x20 false 0 (3 + 2 ^ 20) 64 8 0)).wq 7).asid (dsc 0x20 false 0 (3 + 2 ^ 20) 64 8 0).laddr (payloadLen (dsc 0x20 false 0 (3 + 2 ^ 20) 64 8 0)) false false ((walkq (dsc 0x20 false 0 (3 + 2 ^ 20) 64 8 0)).wq 7).kr []).2.wait = true := by
  unfold State.Inv State.mayIssue State.mayProcess State.mayStart State.mayTurn State.mayBoundary
  and_intros <;> decide +kernel

theorem test_DescriptorRowsIssueByWalk :
    ((after (.put 7 (dsc 1 false 6 9 64 512 0)) (walkq (dsc 1 false 6 9 64 512 0))).wq 7).turn.map Turn.wait = some .walk ∧
    ((after (.send 7 (dsc 3 false 6 0 64 512 0)) (walkq (dsc 3 false 6 0 64 512 0))).wq 7).turn.map Turn.wait = some .walk ∧
    ((after (.cas128 7 (dsc 0x16 false 6 9 64 0 0)) (walkq (dsc 0x16 false 6 9 64 0 0))).wq 7).turn.map Turn.wait = some .walk ∧
    ((after (.collReduce 7 (dsc 0x20 false 0 (3 + 2 ^ 20) 64 8 0)) (walkq (dsc 0x20 false 0 (3 + 2 ^ 20) 64 8 0))).wq 7).turn.map Turn.wait = some .walk := by
  decide +kernel

/-- Queue 7 of a paired device, which both devices hold. -/
def mirq (d : Raw) : State := let s := dq 3 d; { s with mir := { s.mir with link := 5, twin := .paired, cfg := some { coord := 6, wqBase := 7, wqCount := 1 }, lastHb := some 3999999000 } }

/-- A descriptor with a reserved byte set, which no opcode admits. -/
def badd (op : Nat) : Raw := dsc op false 6 9 64 8 0 ||| 2 ^ 500

/-- A descriptor with FENCE, behind an entry that is not complete. -/
def fenced (op : Nat) : Raw := dsc op false 0 0 0 0 0 ||| 2 ^ 9
def behind (d : Raw) : State := (dq 3 d).modWq 7 (fun w => { w with outst := [{ cnt := 9, op := 0, raw := 0, start := 0 }] })

/-- A state in which a send waits: a request waits for a tag; the window is full; the context has 8 instances or a full batch. -/
def gd : Raw := dsc 2 false 6 9 64 4097 0
def waitTag : State := let s := dq 3 gd; { s with ini := { s.ini with waiting := [{ owner := .desc 8 0, pkt := { dest := 6, src := 5, ptype := 1 } }] } }
def waitCwnd : State := let s := dq 3 (dsc 2 false 36 9 64 4097 0); { s with ini := { s.ini with cc := [(cellNum 36, { cwnd := 65536, infl := 1 })] } }
def waitQuiet : State := let s := dq 3 gd; { s with ini := { s.ini with quietUntil := 4000000001 } }
def waitInst : State := { dq 2 (dsc 0x22 false 0 3 0 0 0) with col := [(3, { cctx 2 with issued := 3, completed := 2 ^ 32 - 5 })] }
def waitDstate : State := put (dq 2 (dsc 0x22 false 0 3 0 0 0)) [(.GEN_READY_DSTATE, 0, 0)]

theorem witness_DescriptorRowsThatDoNotIssue :
    (mirq (badd 0)).Inv ∧
    (dq 3 (badd 0)).Inv ∧
    (behind (fenced 0)).Inv ∧
    (mirq (badd 0)).mirWq 7 = true ∧
    (mirq (badd 0x0)).mayStart 7 7 (badd 0x0) 0x0 ∧
    (dq 3 (badd 0x0)).mayStart 7 7 (badd 0x0) 0x0 ∧
    (dq 3 (badd 0x0)).mayBoundary 7 ∧
    (badd 0x0).malformed ((dq 3 (badd 0x0)).noPiste 7 (badd 0x0)) ≠ 0 ∧
    (behind ((dsc 0 false 0 0 0 0 0) ||| 2 ^ 9)).mayProcess 7 7 ((dsc 0 false 0 0 0 0 0) ||| 2 ^ 9) 0x0 ∧
    (behind ((dsc 0 false 0 0 0 0 0) ||| 2 ^ 9)).issueWait 7 ((dsc 0 false 0 0 0 0 0) ||| 2 ^ 9) = some .fence ∧
    (mirq (badd 0x1)).mayStart 7 7 (badd 0x1) 0x1 ∧
    (dq 3 (badd 0x1)).mayStart 7 7 (badd 0x1) 0x1 ∧
    (dq 3 (badd 0x1)).mayBoundary 7 ∧
    (badd 0x1).malformed ((dq 3 (badd 0x1)).noPiste 7 (badd 0x1)) ≠ 0 ∧
    (behind ((dsc 1 true 6 9 0 16 7) ||| 2 ^ 9)).mayProcess 7 7 ((dsc 1 true 6 9 0 16 7) ||| 2 ^ 9) 0x1 ∧
    (behind ((dsc 1 true 6 9 0 16 7) ||| 2 ^ 9)).issueWait 7 ((dsc 1 true 6 9 0 16 7) ||| 2 ^ 9) = some .fence ∧
    (dq 3 (dsc 1 true 18 9 0 16 7)).mayProcess 7 7 (dsc 1 true 18 9 0 16 7) 0x1 ∧
    (dq 3 (dsc 1 true 18 9 0 16 7)).entryWait 7 (dsc 1 true 18 9 0 16 7) = none ∧
    (dq 3 (dsc 1 true 18 9 0 16 7)).cqReady ((dq 3 (dsc 1 true 18 9 0 16 7)).wq 7).cq = true ∧
    (dq 3 (dsc 1 true 18 9 0 16 7)).badDest (dsc 1 true 18 9 0 16 7) = true ∧
    (mirq (badd 0x2)).mayStart 7 7 (badd 0x2) 0x2 ∧
    (dq 3 (badd 0x2)).mayStart 7 7 (badd 0x2) 0x2 ∧
    (dq 3 (badd 0x2)).mayBoundary 7 ∧
    (badd 0x2).malformed ((dq 3 (badd 0x2)).noPiste 7 (badd 0x2)) ≠ 0 ∧
    (behind ((dsc 2 false 6 9 64 4097 0) ||| 2 ^ 9)).mayProcess 7 7 ((dsc 2 false 6 9 64 4097 0) ||| 2 ^ 9) 0x2 ∧
    (behind ((dsc 2 false 6 9 64 4097 0) ||| 2 ^ 9)).issueWait 7 ((dsc 2 false 6 9 64 4097 0) ||| 2 ^ 9) = some .fence ∧
    (dq 3 (dsc 2 false 18 9 64 4097 0)).mayProcess 7 7 (dsc 2 false 18 9 64 4097 0) 0x2 ∧
    (dq 3 (dsc 2 false 18 9 64 4097 0)).entryWait 7 (dsc 2 false 18 9 64 4097 0) = none ∧
    (dq 3 (dsc 2 false 18 9 64 4097 0)).cqReady ((dq 3 (dsc 2 false 18 9 64 4097 0)).wq 7).cq = true ∧
    (dq 3 (dsc 2 false 18 9 64 4097 0)).badDest (dsc 2 false 18 9 64 4097 0) = true ∧
    (mirq (badd 0x3)).mayStart 7 7 (badd 0x3) 0x3 ∧
    (dq 3 (badd 0x3)).mayStart 7 7 (badd 0x3) 0x3 ∧
    (dq 3 (badd 0x3)).mayBoundary 7 ∧
    (badd 0x3).malformed ((dq 3 (badd 0x3)).noPiste 7 (badd 0x3)) ≠ 0 ∧
    (behind ((dsc 3 true 6 0 5 0 0) ||| 2 ^ 9)).mayProcess 7 7 ((dsc 3 true 6 0 5 0 0) ||| 2 ^ 9) 0x3 ∧
    (behind ((dsc 3 true 6 0 5 0 0) ||| 2 ^ 9)).issueWait 7 ((dsc 3 true 6 0 5 0 0) ||| 2 ^ 9) = some .fence ∧
    (dq 3 (dsc 3 true 18 0 5 0 0)).mayProcess 7 7 (dsc 3 true 18 0 5 0 0) 0x3 ∧
    (dq 3 (dsc 3 true 18 0 5 0 0)).entryWait 7 (dsc 3 true 18 0 5 0 0) = none ∧
    (dq 3 (dsc 3 true 18 0 5 0 0)).cqReady ((dq 3 (dsc 3 true 18 0 5 0 0)).wq 7).cq = true ∧
    (dq 3 (dsc 3 true 18 0 5 0 0)).badDest (dsc 3 true 18 0 5 0 0) = true ∧
    (mirq (badd 0x4)).mayStart 7 7 (badd 0x4) 0x4 ∧
    (dq 3 (badd 0x4)).mayStart 7 7 (badd 0x4) 0x4 ∧
    (dq 3 (badd 0x4)).mayBoundary 7 ∧
    (badd 0x4).malformed ((dq 3 (badd 0x4)).noPiste 7 (badd 0x4)) ≠ 0 ∧
    (behind ((dsc 4 false 0xFFFFF 0 64 512 5) ||| 2 ^ 9)).mayProcess 7 7 ((dsc 4 false 0xFFFFF 0 64 512 5) ||| 2 ^ 9) 0x4 ∧
    (behind ((dsc 4 false 0xFFFFF 0 64 512 5) ||| 2 ^ 9)).issueWait 7 ((dsc 4 false 0xFFFFF 0 64 512 5) ||| 2 ^ 9) = some .fence ∧
    (dq 3 (dsc 4 false 18 0 64 512 5)).mayProcess 7 7 (dsc 4 false 18 0 64 512 5) 0x4 ∧
    (dq 3 (dsc 4 false 18 0 64 512 5)).entryWait 7 (dsc 4 false 18 0 64 512 5) = none ∧
    (dq 3 (dsc 4 false 18 0 64 512 5)).cqReady ((dq 3 (dsc 4 false 18 0 64 512 5)).wq 7).cq = true ∧
    (dq 3 (dsc 4 false 18 0 64 512 5)).badDest (dsc 4 false 18 0 64 512 5) = true ∧
    (mirq (badd 0x10)).mayStart 7 7 (badd 0x10) 0x10 ∧
    (dq 3 (badd 0x10)).mayStart 7 7 (badd 0x10) 0x10 ∧
    (dq 3 (badd 0x10)).mayBoundary 7 ∧
    (badd 0x10).malformed ((dq 3 (badd 0x10)).noPiste 7 (badd 0x10)) ≠ 0 ∧
    (behind ((dsc 0x10 false 6 9 0 0 7) ||| 2 ^ 9)).mayProcess 7 7 ((dsc 0x10 false 6 9 0 0 7) ||| 2 ^ 9) 0x10 ∧
    (behind ((dsc 0x10 false 6 9 0 0 7) ||| 2 ^ 9)).issueWait 7 ((dsc 0x10 false 6 9 0 0 7) ||| 2 ^ 9) = some .fence ∧
    (dq 3 (dsc 0x10 false 18 9 0 0 7)).mayProcess 7 7 (dsc 0x10 false 18 9 0 0 7) 0x10 ∧
    (dq 3 (dsc 0x10 false 18 9 0 0 7)).entryWait 7 (dsc 0x10 false 18 9 0 0 7) = none ∧
    (dq 3 (dsc 0x10 false 18 9 0 0 7)).cqReady ((dq 3 (dsc 0x10 false 18 9 0 0 7)).wq 7).cq = true ∧
    (dq 3 (dsc 0x10 false 18 9 0 0 7)).badDest (dsc 0x10 false 18 9 0 0 7) = true ∧
    (mirq (badd 0x11)).mayStart 7 7 (badd 0x11) 0x11 ∧
    (dq 3 (badd 0x11)).mayStart 7 7 (badd 0x11) 0x11 ∧
    (dq 3 (badd 0x11)).mayBoundary 7 ∧
    (badd 0x11).malformed ((dq 3 (badd 0x11)).noPiste 7 (badd 0x11)) ≠ 0 ∧
    (behind ((dsc 0x11 false 6 9 0 0 7) ||| 2 ^ 9)).mayProcess 7 7 ((dsc 0x11 false 6 9 0 0 7) ||| 2 ^ 9) 0x11 ∧
    (behind ((dsc 0x11 false 6 9 0 0 7) ||| 2 ^ 9)).issueWait 7 ((dsc 0x11 false 6 9 0 0 7) ||| 2 ^ 9) = some .fence ∧
    (dq 3 (dsc 0x11 false 18 9 0 0 7)).mayProcess 7 7 (dsc 0x11 false 18 9 0 0 7) 0x11 ∧
    (dq 3 (dsc 0x11 false 18 9 0 0 7)).entryWait 7 (dsc 0x11 false 18 9 0 0 7) = none ∧
    (dq 3 (dsc 0x11 false 18 9 0 0 7)).cqReady ((dq 3 (dsc 0x11 false 18 9 0 0 7)).wq 7).cq = true ∧
    (dq 3 (dsc 0x11 false 18 9 0 0 7)).badDest (dsc 0x11 false 18 9 0 0 7) = true ∧
    (mirq (badd 0x12)).mayStart 7 7 (badd 0x12) 0x12 ∧
    (dq 3 (badd 0x12)).mayStart 7 7 (badd 0x12) 0x12 ∧
    (dq 3 (badd 0x12)).mayBoundary 7 ∧
    (badd 0x12).malformed ((dq 3 (badd 0x12)).noPiste 7 (badd 0x12)) ≠ 0 ∧
    (behind ((dsc 0x12 false 6 9 0 0 7) ||| 2 ^ 9)).mayProcess 7 7 ((dsc 0x12 false 6 9 0 0 7) ||| 2 ^ 9) 0x12 ∧
    (behind ((dsc 0x12 false 6 9 0 0 7) ||| 2 ^ 9)).issueWait 7 ((dsc 0x12 false 6 9 0 0 7) ||| 2 ^ 9) = some .fence ∧
    (dq 3 (dsc 0x12 false 18 9 0 0 7)).mayProcess 7 7 (dsc 0x12 false 18 9 0 0 7) 0x12 ∧
    (dq 3 (dsc 0x12 false 18 9 0 0 7)).entryWait 7 (dsc 0x12 false 18 9 0 0 7) = none ∧
    (dq 3 (dsc 0x12 false 18 9 0 0 7)).cqReady ((dq 3 (dsc 0x12 false 18 9 0 0 7)).wq 7).cq = true ∧
    (dq 3 (dsc 0x12 false 18 9 0 0 7)).badDest (dsc 0x12 false 18 9 0 0 7) = true ∧
    (mirq (badd 0x14)).mayStart 7 7 (badd 0x14) 0x14 ∧
    (dq 3 (badd 0x14)).mayStart 7 7 (badd 0x14) 0x14 ∧
    (dq 3 (badd 0x14)).mayBoundary 7 ∧
    (badd 0x14).malformed ((dq 3 (badd 0x14)).noPiste 7 (badd 0x14)) ≠ 0 ∧
    (behind ((dsc 0x14 false 6 9 0 0 7) ||| 2 ^ 9)).mayProcess 7 7 ((dsc 0x14 false 6 9 0 0 7) ||| 2 ^ 9) 0x14 ∧
    (behind ((dsc 0x14 false 6 9 0 0 7) ||| 2 ^ 9)).issueWait 7 ((dsc 0x14 false 6 9 0 0 7) ||| 2 ^ 9) = some .fence ∧
    (dq 3 (dsc 0x14 false 18 9 0 0 7)).mayProcess 7 7 (dsc 0x14 false 18 9 0 0 7) 0x14 ∧
    (dq 3 (dsc 0x14 false 18 9 0 0 7)).entryWait 7 (dsc 0x14 false 18 9 0 0 7) = none ∧
    (dq 3 (dsc 0x14 false 18 9 0 0 7)).cqReady ((dq 3 (dsc 0x14 false 18 9 0 0 7)).wq 7).cq = true ∧
    (dq 3 (dsc 0x14 false 18 9 0 0 7)).badDest (dsc 0x14 false 18 9 0 0 7) = true ∧
    (mirq (badd 0x15)).mayStart 7 7 (badd 0x15) 0x15 ∧
    (dq 3 (badd 0x15)).mayStart 7 7 (badd 0x15) 0x15 ∧
    (dq 3 (badd 0x15)).mayBoundary 7 ∧
    (badd 0x15).malformed ((dq 3 (badd 0x15)).noPiste 7 (badd 0x15)) ≠ 0 ∧
    (behind ((dsc 0x15 false 6 9 0 0 7) ||| 2 ^ 9)).mayProcess 7 7 ((dsc 0x15 false 6 9 0 0 7) ||| 2 ^ 9) 0x15 ∧
    (behind ((dsc 0x15 false 6 9 0 0 7) ||| 2 ^ 9)).issueWait 7 ((dsc 0x15 false 6 9 0 0 7) ||| 2 ^ 9) = some .fence ∧
    (dq 3 (dsc 0x15 false 18 9 0 0 7)).mayProcess 7 7 (dsc 0x15 false 18 9 0 0 7) 0x15 ∧
    (dq 3 (dsc 0x15 false 18 9 0 0 7)).entryWait 7 (dsc 0x15 false 18 9 0 0 7) = none ∧
    (dq 3 (dsc 0x15 false 18 9 0 0 7)).cqReady ((dq 3 (dsc 0x15 false 18 9 0 0 7)).wq 7).cq = true ∧
    (dq 3 (dsc 0x15 false 18 9 0 0 7)).badDest (dsc 0x15 false 18 9 0 0 7) = true ∧
    (mirq (badd 0x18)).mayStart 7 7 (badd 0x18) 0x18 ∧
    (dq 3 (badd 0x18)).mayStart 7 7 (badd 0x18) 0x18 ∧
    (dq 3 (badd 0x18)).mayBoundary 7 ∧
    (badd 0x18).malformed ((dq 3 (badd 0x18)).noPiste 7 (badd 0x18)) ≠ 0 ∧
    (behind ((dsc 0x18 false 6 9 0 0 7) ||| 2 ^ 9)).mayProcess 7 7 ((dsc 0x18 false 6 9 0 0 7) ||| 2 ^ 9) 0x18 ∧
    (behind ((dsc 0x18 false 6 9 0 0 7) ||| 2 ^ 9)).issueWait 7 ((dsc 0x18 false 6 9 0 0 7) ||| 2 ^ 9) = some .fence ∧
    (dq 3 (dsc 0x18 false 18 9 0 0 7)).mayProcess 7 7 (dsc 0x18 false 18 9 0 0 7) 0x18 ∧
    (dq 3 (dsc 0x18 false 18 9 0 0 7)).entryWait 7 (dsc 0x18 false 18 9 0 0 7) = none ∧
    (dq 3 (dsc 0x18 false 18 9 0 0 7)).cqReady ((dq 3 (dsc 0x18 false 18 9 0 0 7)).wq 7).cq = true ∧
    (dq 3 (dsc 0x18 false 18 9 0 0 7)).badDest (dsc 0x18 false 18 9 0 0 7) = true ∧
    (mirq (badd 0x21)).mayStart 7 7 (badd 0x21) 0x21 ∧
    (dq 3 (badd 0x21)).mayStart 7 7 (badd 0x21) 0x21 ∧
    (dq 3 (badd 0x21)).mayBoundary 7 ∧
    (badd 0x21).malformed ((dq 3 (badd 0x21)).noPiste 7 (badd 0x21)) ≠ 0 ∧
    (behind ((dsc 0x21 false 0 3 0 0 1) ||| 2 ^ 9)).mayProcess 7 7 ((dsc 0x21 false 0 3 0 0 1) ||| 2 ^ 9) 0x21 ∧
    (behind ((dsc 0x21 false 0 3 0 0 1) ||| 2 ^ 9)).issueWait 7 ((dsc 0x21 false 0 3 0 0 1) ||| 2 ^ 9) = some .fence ∧
    (dq 3 (dsc 0x21 false 0 3 0 0 1)).mayProcess 7 7 (dsc 0x21 false 0 3 0 0 1) 0x21 ∧
    (dq 3 (dsc 0x21 false 0 3 0 0 1)).entryWait 7 (dsc 0x21 false 0 3 0 0 1) = none ∧
    (dq 3 (dsc 0x21 false 0 3 0 0 1)).cqReady ((dq 3 (dsc 0x21 false 0 3 0 0 1)).wq 7).cq = true ∧
    (dq 3 (dsc 0x21 false 0 3 0 0 1)).badDest (dsc 0x21 false 0 3 0 0 1) = false ∧
    (dq 3 (dsc 0x21 false 0 3 0 0 1)).badContext 7 (dsc 0x21 false 0 3 0 0 1) = true ∧
    (mirq (badd 0x22)).mayStart 7 7 (badd 0x22) 0x22 ∧
    (dq 3 (badd 0x22)).mayStart 7 7 (badd 0x22) 0x22 ∧
    (dq 3 (badd 0x22)).mayBoundary 7 ∧
    (badd 0x22).malformed ((dq 3 (badd 0x22)).noPiste 7 (badd 0x22)) ≠ 0 ∧
    (behind ((dsc 0x22 false 0 3 0 0 0) ||| 2 ^ 9)).mayProcess 7 7 ((dsc 0x22 false 0 3 0 0 0) ||| 2 ^ 9) 0x22 ∧
    (behind ((dsc 0x22 false 0 3 0 0 0) ||| 2 ^ 9)).issueWait 7 ((dsc 0x22 false 0 3 0 0 0) ||| 2 ^ 9) = some .fence ∧
    (dq 3 (dsc 0x22 false 0 3 0 0 0)).mayProcess 7 7 (dsc 0x22 false 0 3 0 0 0) 0x22 ∧
    (dq 3 (dsc 0x22 false 0 3 0 0 0)).entryWait 7 (dsc 0x22 false 0 3 0 0 0) = none ∧
    (dq 3 (dsc 0x22 false 0 3 0 0 0)).cqReady ((dq 3 (dsc 0x22 false 0 3 0 0 0)).wq 7).cq = true ∧
    (dq 3 (dsc 0x22 false 0 3 0 0 0)).badDest (dsc 0x22 false 0 3 0 0 0) = false ∧
    (dq 3 (dsc 0x22 false 0 3 0 0 0)).badContext 7 (dsc 0x22 false 0 3 0 0 0) = true ∧
    (mirq (badd 0x30)).mayStart 7 7 (badd 0x30) 0x30 ∧
    (dq 3 (badd 0x30)).mayStart 7 7 (badd 0x30) 0x30 ∧
    (dq 3 (badd 0x30)).mayBoundary 7 ∧
    (badd 0x30).malformed ((dq 3 (badd 0x30)).noPiste 7 (badd 0x30)) ≠ 0 ∧
    (behind ((dsc 0x30 false 6 9 0 0 0) ||| 2 ^ 9)).mayProcess 7 7 ((dsc 0x30 false 6 9 0 0 0) ||| 2 ^ 9) 0x30 ∧
    (behind ((dsc 0x30 false 6 9 0 0 0) ||| 2 ^ 9)).issueWait 7 ((dsc 0x30 false 6 9 0 0 0) ||| 2 ^ 9) = some .fence ∧
    (dq 3 (dsc 0x30 false 18 9 0 0 0)).mayProcess 7 7 (dsc 0x30 false 18 9 0 0 0) 0x30 ∧
    (dq 3 (dsc 0x30 false 18 9 0 0 0)).entryWait 7 (dsc 0x30 false 18 9 0 0 0) = none ∧
    (dq 3 (dsc 0x30 false 18 9 0 0 0)).cqReady ((dq 3 (dsc 0x30 false 18 9 0 0 0)).wq 7).cq = true ∧
    (dq 3 (dsc 0x30 false 18 9 0 0 0)).badDest (dsc 0x30 false 18 9 0 0 0) = true ∧
    (mirq (badd 0x31)).mayStart 7 7 (badd 0x31) 0x31 ∧
    (dq 3 (badd 0x31)).mayStart 7 7 (badd 0x31) 0x31 ∧
    (dq 3 (badd 0x31)).mayBoundary 7 ∧
    (badd 0x31).malformed ((dq 3 (badd 0x31)).noPiste 7 (badd 0x31)) ≠ 0 ∧
    (behind ((dsc 0x31 false 6 9 0 0 0) ||| 2 ^ 9)).mayProcess 7 7 ((dsc 0x31 false 6 9 0 0 0) ||| 2 ^ 9) 0x31 ∧
    (behind ((dsc 0x31 false 6 9 0 0 0) ||| 2 ^ 9)).issueWait 7 ((dsc 0x31 false 6 9 0 0 0) ||| 2 ^ 9) = some .fence ∧
    (dq 3 (dsc 0x31 false 18 9 0 0 0)).mayProcess 7 7 (dsc 0x31 false 18 9 0 0 0) 0x31 ∧
    (dq 3 (dsc 0x31 false 18 9 0 0 0)).entryWait 7 (dsc 0x31 false 18 9 0 0 0) = none ∧
    (dq 3 (dsc 0x31 false 18 9 0 0 0)).cqReady ((dq 3 (dsc 0x31 false 18 9 0 0 0)).wq 7).cq = true ∧
    (dq 3 (dsc 0x31 false 18 9 0 0 0)).badDest (dsc 0x31 false 18 9 0 0 0) = true ∧
    (mirq (badd 0x32)).mayStart 7 7 (badd 0x32) 0x32 ∧
    (dq 3 (badd 0x32)).mayStart 7 7 (badd 0x32) 0x32 ∧
    (dq 3 (badd 0x32)).mayBoundary 7 ∧
    (badd 0x32).malformed ((dq 3 (badd 0x32)).noPiste 7 (badd 0x32)) ≠ 0 ∧
    (behind ((dsc 0x32 false 6 9 0 0 0) ||| 2 ^ 9)).mayProcess 7 7 ((dsc 0x32 false 6 9 0 0 0) ||| 2 ^ 9) 0x32 ∧
    (behind ((dsc 0x32 false 6 9 0 0 0) ||| 2 ^ 9)).issueWait 7 ((dsc 0x32 false 6 9 0 0 0) ||| 2 ^ 9) = some .fence ∧
    (dq 3 (dsc 0x32 false 18 9 0 0 0)).mayProcess 7 7 (dsc 0x32 false 18 9 0 0 0) 0x32 ∧
    (dq 3 (dsc 0x32 false 18 9 0 0 0)).entryWait 7 (dsc 0x32 false 18 9 0 0 0) = none ∧
    (dq 3 (dsc 0x32 false 18 9 0 0 0)).cqReady ((dq 3 (dsc 0x32 false 18 9 0 0 0)).wq 7).cq = true ∧
    (dq 3 (dsc 0x32 false 18 9 0 0 0)).badDest (dsc 0x32 false 18 9 0 0 0) = true ∧
    (mirq (badd 0x16)).mayStart 7 7 (badd 0x16) 0x16 ∧
    (dq 3 (badd 0x16)).mayStart 7 7 (badd 0x16) 0x16 ∧
    (dq 3 (badd 0x16)).mayBoundary 7 ∧
    (badd 0x16).malformed ((dq 3 (badd 0x16)).noPiste 7 (badd 0x16)) ≠ 0 ∧
    (behind ((dsc 0x16 false 6 9 64 0 0) ||| 2 ^ 9)).mayProcess 7 7 ((dsc 0x16 false 6 9 64 0 0) ||| 2 ^ 9) 0x16 ∧
    (behind ((dsc 0x16 false 6 9 64 0 0) ||| 2 ^ 9)).issueWait 7 ((dsc 0x16 false 6 9 64 0 0) ||| 2 ^ 9) = some .fence ∧
    (dq 3 (dsc 0x16 false 18 9 64 0 0)).mayProcess 7 7 (dsc 0x16 false 18 9 64 0 0) 0x16 ∧
    (dq 3 (dsc 0x16 false 18 9 64 0 0)).entryWait 7 (dsc 0x16 false 18 9 64 0 0) = none ∧
    (dq 3 (dsc 0x16 false 18 9 64 0 0)).cqReady ((dq 3 (dsc 0x16 false 18 9 64 0 0)).wq 7).cq = true ∧
    (dq 3 (dsc 0x16 false 18 9 64 0 0)).badDest (dsc 0x16 false 18 9 64 0 0) = true ∧
    (mirq (badd 0x20)).mayStart 7 7 (badd 0x20) 0x20 ∧
    (dq 3 (badd 0x20)).mayStart 7 7 (badd 0x20) 0x20 ∧
    (dq 3 (badd 0x20)).mayBoundary 7 ∧
    (badd 0x20).malformed ((dq 3 (badd 0x20)).noPiste 7 (badd 0x20)) ≠ 0 ∧
    (behind ((dsc 0x20 false 0 (3 + 2 ^ 20) 64 8 0) ||| 2 ^ 9)).mayProcess 7 7 ((dsc 0x20 false 0 (3 + 2 ^ 20) 64 8 0) ||| 2 ^ 9) 0x20 ∧
    (behind ((dsc 0x20 false 0 (3 + 2 ^ 20) 64 8 0) ||| 2 ^ 9)).issueWait 7 ((dsc 0x20 false 0 (3 + 2 ^ 20) 64 8 0) ||| 2 ^ 9) = some .fence ∧
    (dq 3 (dsc 0x20 false 0 (3 + 2 ^ 20) 64 8 0)).mayProcess 7 7 (dsc 0x20 false 0 (3 + 2 ^ 20) 64 8 0) 0x20 ∧
    (dq 3 (dsc 0x20 false 0 (3 + 2 ^ 20) 64 8 0)).entryWait 7 (dsc 0x20 false 0 (3 + 2 ^ 20) 64 8 0) = none ∧
    (dq 3 (dsc 0x20 false 0 (3 + 2 ^ 20) 64 8 0)).cqReady ((dq 3 (dsc 0x20 false 0 (3 + 2 ^ 20) 64 8 0)).wq 7).cq = true ∧
    (dq 3 (dsc 0x20 false 0 (3 + 2 ^ 20) 64 8 0)).badDest (dsc 0x20 false 0 (3 + 2 ^ 20) 64 8 0) = false ∧
    (dq 3 (dsc 0x20 false 0 (3 + 2 ^ 20) 64 8 0)).badContext 7 (dsc 0x20 false 0 (3 + 2 ^ 20) 64 8 0) = true ∧
    waitTag.mayProcess 7 7 gd 2 ∧
    waitTag.issueWait 7 gd = some .tag ∧
    waitQuiet.issueWait 7 gd = some .hold ∧
    waitCwnd.mayProcess 7 7 (dsc 2 false 36 9 64 4097 0) 2 ∧
    waitCwnd.issueWait 7 (dsc 2 false 36 9 64 4097 0) = some (.cwnd (cellNum 36)) ∧
    waitInst.issueWait 7 (dsc 0x22 false 0 3 0 0 0) = some (.inst 3) ∧
    waitDstate.issueWait 7 (dsc 0x22 false 0 3 0 0 0) = some .dstate ∧
    waitDstate.mayProcess 7 7 (dsc 0x22 false 0 3 0 0 0) 0x22 := by
  unfold State.Inv State.mayProcess State.mayStart State.mayTurn State.mayBoundary
  and_intros <;> decide +kernel

theorem test_DescriptorRowsThatDoNotIssue :
    ((after (.nop 7 (badd 0)) (mirq (badd 0))).wq 7).reserved = 11 ∧
    ((after (.put 7 (badd 1)) (dq 3 (badd 1))).wq 7).st = .error ∧
    ((after (.put 7 (badd 1)) (dq 3 (badd 1))).wq 7).errKind = 2 ∧
    (.fence, 7) ∈ (after (.nop 7 (fenced 0)) (behind (fenced 0))).qmg.parked ∧
    ((after (.get 7 (dsc 2 false 18 9 64 4097 0)) (dq 3 (dsc 2 false 18 9 64 4097 0))).wq 7).head = 11 ∧
    (after (.get 7 (dsc 2 false 18 9 64 4097 0)) (dq 3 (dsc 2 false 18 9 64 4097 0))).ini.tags = [] ∧
    (.tag, 7) ∈ (after (.get 7 gd) waitTag).qmg.parked := by
  decide +kernel

/-- Queue 7 whose turn on engine 7 waits for the payload of `d`; `kr` is the key-rights value that the queue now has. -/
def pqK (d : Raw) (kr : Nat) : State := (dq 0 d).modWq 7 (fun w => { w with kr := kr, turn := some { engine := 7, left := 1, wait := .payload, segs := [(0x40000040, 512)] } })
def pq (d : Raw) : State := pqK d 0
/-- One whose translation ended in WALK_BUS before the key-rights value changed. -/
def pqB (d : Raw) : State := (pqK d 5).modWq 7 (fun w => { w with turn := some { engine := 7, left := 1, wait := .payload, segs := [(0x40000040, 512)], fail := some xWalkBus } })

theorem witness_PayloadReadDoneIssues :
    (pq (dsc 1 false 6 9 64 512 0)).Inv ∧
    ((pq (dsc 1 false 6 9 64 512 0)).wq 7).turn = some { engine := 7, left := 1, wait := .payload, segs := [(0x40000040, 512)] } ∧
    ((pq (dsc 1 false 6 9 64 512 0)).wq 7).copy ((pq (dsc 1 false 6 9 64 512 0)).wq 7).head = some ((dsc 1 false 6 9 64 512 0), 4000000000) ∧
    ((pq (dsc 1 false 6 9 64 512 0)).wq 7).outst = [] ∧
    (dsc 1 false 6 9 64 512 0).opcode = 0x1 ∧
    ((pq (dsc 1 false 6 9 64 512 0)).wq 7).kr = 0 ∧
    (pq (dsc 1 false 6 9 64 512 0)).issueWait 7 (dsc 1 false 6 9 64 512 0) = none ∧
    (pq (dsc 1 false 6 9 64 512 0)).entryWait 7 (dsc 1 false 6 9 64 512 0) = none ∧
    (pq (dsc 1 false 6 9 64 512 0)).cqReady ((pq (dsc 1 false 6 9 64 512 0)).wq 7).cq = true ∧
    ((pqK (dsc 1 false 6 9 64 512 0) 5).wq 7).turn = some { engine := 7, left := 1, wait := .payload, segs := [(0x40000040, 512)] } ∧
    ((pqK (dsc 1 false 6 9 64 512 0) 5).wq 7).kr ≠ 0 ∧
    (pqK (dsc 1 false 6 9 64 512 0) 5).issueWait 7 (dsc 1 false 6 9 64 512 0) = none ∧
    ((pqK (dsc 1 false 6 9 64 512 0) 5).xlate (.payload 7) ((pqK (dsc 1 false 6 9 64 512 0) 5).wqOwner 7) ((pqK (dsc 1 false 6 9 64 512 0) 5).wq 7).asid (dsc 1 false 6 9 64 512 0).laddr (payloadLen (dsc 1 false 6 9 64 512 0)) false false ((pqK (dsc 1 false 6 9 64 512 0) 5).wq 7).kr []).2.wait = false ∧
    ((pqK (dsc 1 false 6 9 64 512 0) 5).xlate (.payload 7) ((pqK (dsc 1 false 6 9 64 512 0) 5).wqOwner 7) ((pqK (dsc 1 false 6 9 64 512 0) 5).wq 7).asid (dsc 1 false 6 9 64 512 0).laddr (payloadLen (dsc 1 false 6 9 64 512 0)) false false ((pqK (dsc 1 false 6 9 64 512 0) 5).wq 7).kr []).2.segs ≠ [] ∧
    (pq (dsc 3 false 6 0 64 512 0)).Inv ∧
    ((pq (dsc 3 false 6 0 64 512 0)).wq 7).turn = some { engine := 7, left := 1, wait := .payload, segs := [(0x40000040, 512)] } ∧
    ((pq (dsc 3 false 6 0 64 512 0)).wq 7).copy ((pq (dsc 3 false 6 0 64 512 0)).wq 7).head = some ((dsc 3 false 6 0 64 512 0), 4000000000) ∧
    ((pq (dsc 3 false 6 0 64 512 0)).wq 7).outst = [] ∧
    (dsc 3 false 6 0 64 512 0).opcode = 0x3 ∧
    ((pq (dsc 3 false 6 0 64 512 0)).wq 7).kr = 0 ∧
    (pq (dsc 3 false 6 0 64 512 0)).issueWait 7 (dsc 3 false 6 0 64 512 0) = none ∧
    (pq (dsc 3 false 6 0 64 512 0)).entryWait 7 (dsc 3 false 6 0 64 512 0) = none ∧
    (pq (dsc 3 false 6 0 64 512 0)).cqReady ((pq (dsc 3 false 6 0 64 512 0)).wq 7).cq = true ∧
    ((pqK (dsc 3 false 6 0 64 512 0) 5).wq 7).turn = some { engine := 7, left := 1, wait := .payload, segs := [(0x40000040, 512)] } ∧
    ((pqK (dsc 3 false 6 0 64 512 0) 5).wq 7).kr ≠ 0 ∧
    (pqK (dsc 3 false 6 0 64 512 0) 5).issueWait 7 (dsc 3 false 6 0 64 512 0) = none ∧
    ((pqK (dsc 3 false 6 0 64 512 0) 5).xlate (.payload 7) ((pqK (dsc 3 false 6 0 64 512 0) 5).wqOwner 7) ((pqK (dsc 3 false 6 0 64 512 0) 5).wq 7).asid (dsc 3 false 6 0 64 512 0).laddr (payloadLen (dsc 3 false 6 0 64 512 0)) false false ((pqK (dsc 3 false 6 0 64 512 0) 5).wq 7).kr []).2.wait = false ∧
    ((pqK (dsc 3 false 6 0 64 512 0) 5).xlate (.payload 7) ((pqK (dsc 3 false 6 0 64 512 0) 5).wqOwner 7) ((pqK (dsc 3 false 6 0 64 512 0) 5).wq 7).asid (dsc 3 false 6 0 64 512 0).laddr (payloadLen (dsc 3 false 6 0 64 512 0)) false false ((pqK (dsc 3 false 6 0 64 512 0) 5).wq 7).kr []).2.segs ≠ [] ∧
    (pq (dsc 0x16 false 6 9 64 0 0)).Inv ∧
    ((pq (dsc 0x16 false 6 9 64 0 0)).wq 7).turn = some { engine := 7, left := 1, wait := .payload, segs := [(0x40000040, 512)] } ∧
    ((pq (dsc 0x16 false 6 9 64 0 0)).wq 7).copy ((pq (dsc 0x16 false 6 9 64 0 0)).wq 7).head = some ((dsc 0x16 false 6 9 64 0 0), 4000000000) ∧
    ((pq (dsc 0x16 false 6 9 64 0 0)).wq 7).outst = [] ∧
    (dsc 0x16 false 6 9 64 0 0).opcode = 0x16 ∧
    ((pq (dsc 0x16 false 6 9 64 0 0)).wq 7).kr = 0 ∧
    (pq (dsc 0x16 false 6 9 64 0 0)).issueWait 7 (dsc 0x16 false 6 9 64 0 0) = none ∧
    (pq (dsc 0x16 false 6 9 64 0 0)).entryWait 7 (dsc 0x16 false 6 9 64 0 0) = none ∧
    (pq (dsc 0x16 false 6 9 64 0 0)).cqReady ((pq (dsc 0x16 false 6 9 64 0 0)).wq 7).cq = true ∧
    ((pqK (dsc 0x16 false 6 9 64 0 0) 5).wq 7).turn = some { engine := 7, left := 1, wait := .payload, segs := [(0x40000040, 512)] } ∧
    ((pqK (dsc 0x16 false 6 9 64 0 0) 5).wq 7).kr ≠ 0 ∧
    (pqK (dsc 0x16 false 6 9 64 0 0) 5).issueWait 7 (dsc 0x16 false 6 9 64 0 0) = none ∧
    ((pqK (dsc 0x16 false 6 9 64 0 0) 5).xlate (.payload 7) ((pqK (dsc 0x16 false 6 9 64 0 0) 5).wqOwner 7) ((pqK (dsc 0x16 false 6 9 64 0 0) 5).wq 7).asid (dsc 0x16 false 6 9 64 0 0).laddr (payloadLen (dsc 0x16 false 6 9 64 0 0)) false false ((pqK (dsc 0x16 false 6 9 64 0 0) 5).wq 7).kr []).2.wait = false ∧
    ((pqK (dsc 0x16 false 6 9 64 0 0) 5).xlate (.payload 7) ((pqK (dsc 0x16 false 6 9 64 0 0) 5).wqOwner 7) ((pqK (dsc 0x16 false 6 9 64 0 0) 5).wq 7).asid (dsc 0x16 false 6 9 64 0 0).laddr (payloadLen (dsc 0x16 false 6 9 64 0 0)) false false ((pqK (dsc 0x16 false 6 9 64 0 0) 5).wq 7).kr []).2.segs ≠ [] ∧
    (pq (dsc 0x20 false 0 (3 + 2 ^ 20) 64 8 0)).Inv ∧
    ((pq (dsc 0x20 false 0 (3 + 2 ^ 20) 64 8 0)).wq 7).turn = some { engine := 7, left := 1, wait := .payload, segs := [(0x40000040, 512)] } ∧
    ((pq (dsc 0x20 false 0 (3 + 2 ^ 20) 64 8 0)).wq 7).copy ((pq (dsc 0x20 false 0 (3 + 2 ^ 20) 64 8 0)).wq 7).head = some ((dsc 0x20 false 0 (3 + 2 ^ 20) 64 8 0), 4000000000) ∧
    ((pq (dsc 0x20 false 0 (3 + 2 ^ 20) 64 8 0)).wq 7).outst = [] ∧
    (dsc 0x20 false 0 (3 + 2 ^ 20) 64 8 0).opcode = 0x20 ∧
    ((pq (dsc 0x20 false 0 (3 + 2 ^ 20) 64 8 0)).wq 7).kr = 0 ∧
    (pq (dsc 0x20 false 0 (3 + 2 ^ 20) 64 8 0)).issueWait 7 (dsc 0x20 false 0 (3 + 2 ^ 20) 64 8 0) = none ∧
    (pq (dsc 0x20 false 0 (3 + 2 ^ 20) 64 8 0)).entryWait 7 (dsc 0x20 false 0 (3 + 2 ^ 20) 64 8 0) = none ∧
    (pq (dsc 0x20 false 0 (3 + 2 ^ 20) 64 8 0)).cqReady ((pq (dsc 0x20 false 0 (3 + 2 ^ 20) 64 8 0)).wq 7).cq = true ∧
    ((pqK (dsc 0x20 false 0 (3 + 2 ^ 20) 64 8 0) 5).wq 7).turn = some { engine := 7, left := 1, wait := .payload, segs := [(0x40000040, 512)] } ∧
    ((pqK (dsc 0x20 false 0 (3 + 2 ^ 20) 64 8 0) 5).wq 7).kr ≠ 0 ∧
    (pqK (dsc 0x20 false 0 (3 + 2 ^ 20) 64 8 0) 5).issueWait 7 (dsc 0x20 false 0 (3 + 2 ^ 20) 64 8 0) = none ∧
    ((pqK (dsc 0x20 false 0 (3 + 2 ^ 20) 64 8 0) 5).xlate (.payload 7) ((pqK (dsc 0x20 false 0 (3 + 2 ^ 20) 64 8 0) 5).wqOwner 7) ((pqK (dsc 0x20 false 0 (3 + 2 ^ 20) 64 8 0) 5).wq 7).asid (dsc 0x20 false 0 (3 + 2 ^ 20) 64 8 0).laddr (payloadLen (dsc 0x20 false 0 (3 + 2 ^ 20) 64 8 0)) false false ((pqK (dsc 0x20 false 0 (3 + 2 ^ 20) 64 8 0) 5).wq 7).kr []).2.wait = false ∧
    ((pqK (dsc 0x20 false 0 (3 + 2 ^ 20) 64 8 0) 5).xlate (.payload 7) ((pqK (dsc 0x20 false 0 (3 + 2 ^ 20) 64 8 0) 5).wqOwner 7) ((pqK (dsc 0x20 false 0 (3 + 2 ^ 20) 64 8 0) 5).wq 7).asid (dsc 0x20 false 0 (3 + 2 ^ 20) 64 8 0).laddr (payloadLen (dsc 0x20 false 0 (3 + 2 ^ 20) 64 8 0)) false false ((pqK (dsc 0x20 false 0 (3 + 2 ^ 20) 64 8 0) 5).wq 7).kr []).2.segs ≠ [] ∧
    (pqB (dsc 1 false 6 9 64 512 0)).Inv ∧
    ((pqB (dsc 1 false 6 9 64 512 0)).wq 7).kr ≠ 0 ∧
    (pqB (dsc 1 false 6 9 64 512 0)).issueWait 7 (dsc 1 false 6 9 64 512 0) = none ∧
    putPackets (dsc 1 false 6 9 64 512 0) 0 ((pqB (dsc 1 false 6 9 64 512 0)).readSegs [(0x40000040, 512)]) ≠ [] ∧
    putPackets (dsc 1 false 6 9 64 512 0) 0 ((pq (dsc 1 false 6 9 64 512 0)).readSegs [(0x40000040, 512)]) ≠ [] ∧
    (pq (dsc 0x20 false 0 (3 + 2 ^ 20) 64 8 0)).collFor 7 (dsc 0x20 false 0 (3 + 2 ^ 20) 64 8 0) = some 3 ∧
    ReadStatus.poison ≠ .ok := by
  unfold State.Inv
  and_intros <;> decide +kernel

theorem test_PayloadReadDoneIssues :
    ((after (.payloadReadDone 7 .poison) (pq (dsc 1 false 6 9 64 512 0))).wq 7).head = 11 ∧
    ((after (.payloadReadDone 7 .ok) (pqK (dsc 1 false 6 9 64 512 0) 5)).wq 7).turn.map Turn.kr = some 5 ∧
    ((after (.payloadReadDone 7 .poison) (pq (dsc 3 false 6 0 64 512 0))).wq 7).head = 11 ∧
    ((after (.payloadReadDone 7 .ok) (pqK (dsc 3 false 6 0 64 512 0) 5)).wq 7).turn.map Turn.kr = some 5 ∧
    ((after (.payloadReadDone 7 .poison) (pq (dsc 0x16 false 6 9 64 0 0))).wq 7).head = 11 ∧
    ((after (.payloadReadDone 7 .ok) (pqK (dsc 0x16 false 6 9 64 0 0) 5)).wq 7).turn.map Turn.kr = some 5 ∧
    ((after (.payloadReadDone 7 .poison) (pq (dsc 0x20 false 0 (3 + 2 ^ 20) 64 8 0))).wq 7).head = 11 ∧
    ((after (.payloadReadDone 7 .ok) (pqK (dsc 0x20 false 0 (3 + 2 ^ 20) 64 8 0) 5)).wq 7).turn.map Turn.kr = some 5 := by
  decide +kernel

theorem witness_sends :
    (∀ m, sendPackets (dsc 3 true 6 0 5 0 0) m (dsc 3 true 6 0 5 0 0).inlineBytes ≠ []) ∧
    (∀ m, sendPackets (dsc 3 false 6 0 64 512 0) m ((pq (dsc 3 false 6 0 64 512 0)).readSegs [(0x40000040, 512)]) ≠ []) := by
  constructor <;> intro m <;> simp only [sendPackets, ne_eq, List.map_eq_nil_iff] <;> decide +kernel

def running (e : Nat) : State := (qs.modWq 7 (fun w => { w with tail := 12 })).setRun e [.wq 7]

/-- A request packet of device 6 to this one, and the request as its engine serves it. -/
def req (k : Pkt) : Req := { pkt := { k with dest := 5, src := 6, tag := 9, epoch := 3 }, rx := 4000000000, port := 8 }
def eng (r : Req) : Req := { r with eng := tctxOf r.pkt % 288 }

def served : State := let r := req { ptype := 0x0A, ext := extColl 3 2 false 0 77 0 0 0 }
  { up.setRun 287 [.tctx 287] with tgt := { up.tgt with tctx := [(287, [r, r])] } }

def rich : State := put ((((running 7).setRun 7 [.wq 8, .wq 7])).modWq 8 (fun w => { w with st := .active })) [(.ENG_CTL_STEALEN, 1, 1), (.ENG_CTL_STEALMIN, 1, 2)]

def fetching : State := qs.modWq 7 (fun w => { w with tail := 12, fetching := [10, 11] })

def fetchTurn : State := fetching.modWq 7 (fun w => { w with turn := some { engine := 7, left := 1, wait := .fetch } })

def runCopy : State := (dq 3 (dsc 0 false 0 0 0 0 0)).setRun 7 [.wq 7]

def runMir : State := (mirq (dsc 0 false 0 0 0 0 0)).setRun 7 [.wq 7]

def refills : State := { put qs [(.QMG_SMPSEL_EN, 0, 0)] with qmg := { qs.qmg with parked := [(.shaper, 7)], wq := qs.qmg.wq.map (fun x => (x.1, { x.2 with rate := 4096, credit := 0, burst := 16 })) } }

theorem witness_EngineRowsComplete :
    (running 7).Inv ∧
    (running 7).runList 7 = [.wq 7] ∧
    (running 7).engineIdle 7 = true ∧
    (running 7).mayServe 7 ∧
    (running 7).mirWq 7 = false ∧
    ((running 7).wq 7).copy ((running 7).wq 7).head = none ∧
    ((running 7).wq 7).failed = [] ∧
    runCopy.Inv ∧
    runCopy.runList 7 = [.wq 7] ∧
    runCopy.engineIdle 7 = true ∧
    runCopy.mayServe 7 ∧
    runCopy.mirWq 7 = false ∧
    (runCopy.wq 7).copy (runCopy.wq 7).head = some (dsc 0 false 0 0 0 0 0, 4000000000) ∧
    (dsc 0 false 0 0 0 0 0).mark = markOf (runCopy.wq 7).log2 (runCopy.wq 7).head ∧
    runMir.Inv ∧
    runMir.runList 7 = [.wq 7] ∧
    runMir.engineIdle 7 = true ∧
    runMir.mayServe 7 ∧
    runMir.mirWq 7 = true ∧
    rich.Inv ∧
    rich.engineIdle 16 = true ∧
    rich.runList 16 = [] ∧
    rich.victim (16 / 16) = some 7 ∧
    (rich.runList 7).getLast? = some (.wq 7) ∧
    rich.mayServe 7 ∧
    rich.mirWq 7 = false ∧
    (rich.wq 7).copy (rich.wq 7).head = none ∧
    (rich.wq 7).failed = [] ∧
    served.Inv ∧
    served.runList 287 = [.tctx 287] ∧
    served.engineIdle 287 = true ∧
    served.noExec = false ∧
    served.tctxBusy 287 = false ∧
    served.respFull = false ∧
    (mgetD served.tgt.tctx 287 []).map Req.loc = [false, false] ∧
    (mgetD served.tgt.tctx 287 []).length = 2 ∧
    (up.setRun 287 [.winq 9]).runList 287 = [.winq 9] ∧
    (up.setRun 287 [.winq 9]).engineIdle 287 = true ∧
    (up.setRun 287 [.winq 9]).Inv ∧
    fetching.Inv ∧
    (fetching.wq 7).fetching.contains 11 = true ∧
    (fetching.wq 7).turn = none ∧
    fetchTurn.Inv ∧
    (fetchTurn.wq 7).fetching.contains 10 = true ∧
    (fetchTurn.wq 7).head = 10 ∧
    (fetchTurn.wq 7).turn = some { engine := 7, left := 1, wait := .fetch } ∧
    qs.Inv ∧
    qs.now % 1024 = 0 ∧
    refills.Inv ∧
    refills.now % 1024 = 0 ∧
    refills.flag .QMG_SMPSEL_EN = false ∧
    (Park.shaper, 7) ∈ refills.qmg.parked ∧
    ppsIn.Inv ∧
    ppsIn.now % 1024 ≠ 0 := by
  unfold State.Inv State.mayServe State.mayTurn
  and_intros <;> decide +kernel

theorem test_EngineRowsComplete :
    ((after (.turn 7) (running 7)).wq 7).turn.map Turn.wait = some .fetch ∧
    ((after (.turn 7) runCopy).wq 7).head = 11 ∧
    ((after (.turn 7) runMir).wq 7).reserved = 14 ∧
    (after (.steal 16 .ok) rich).fld .ENG_STEAL_COUNT 16 = 1 ∧
    (after (.steal 16 .ok) rich).fld .ENG_STOLEN_COUNT 7 = 1 ∧
    ((after (.descriptorFetchDone 7 11 .ok) fetching).wq 7).fetched.length = 1 ∧
    ((after (.descriptorFetchDone 7 10 .ok) fetchTurn).wq 7).fetching.head? = some 11 ∧
    after .shaperRefill ppsIn = ppsIn ∧
    (after .shaperRefill refills).qmg.parked = [] ∧
    mgetD (after (.targetTurn 287 .ok) served).tgt.tctx 287 [] = [] := by
  decide +kernel

/-- Region 12 of the PF, of 16 pages, with every right and translation. -/
def reg12 : State :=
  { xon up with tgt := { up.tgt with regions := [(12, { base := 0, pages := 15, st := .valid, rights := 31, check := 0xABCD0000 })] } }

def rkey12 : Nat := 0xABCD00000100000C

def putR : Req := req { ptype := 0x01, ext := extOne rkey12 0xFFF8 0 8 0 0, payload := leBytes 8 77 }
def getR : Req := req { ptype := 0x02, ext := extOne rkey12 0 8 8 0 0 }
def atomR : Req := req { ptype := 0x03, sub := 0x10, ext := extOne rkey12 8 0 0 0 0, payload := leBytes 8 5 }
def withKey (r : Req) (k : Nat) : Req := { r with pkt := { r.pkt with ext := leBytes 8 k ++ r.pkt.ext.drop 8 } }
def withOff (r : Req) (o : Nat) : Req := { r with pkt := { r.pkt with ext := r.pkt.ext.take 8 ++ leBytes 6 o ++ r.pkt.ext.drop 14 } }
def behindT (r : Req) : State := { reg12 with tgt := { reg12.tgt with busy := [(tctxOf r.pkt, 3)] } }
def regNo : State := { reg12 with tgt := { reg12.tgt with regions := [(12, { base := 0, pages := 15, st := .valid, rights := 0, check := 0xABCD0000 })] } }
def wrdN : Req := req { ptype := 0x05, ext := extWin rkey12 0 true true 0 }
def wrdR : Req := req { ptype := 0x05, ext := extWin rkey12 0 true false 0 }
def wwrR : Req := req { ptype := 0x06, ext := extWin rkey12 0 false false 1, payload := List.replicate 64 7 }

/-- No cluster accepts turns. -/
def noCl : State := put reg12 [(.GEN_READYCL_CLUSTER, 0, 0)]
def badP : Req := { putR with pkt := { putR.pkt with ext := [] } }

theorem witness_RegionRequestRowsComplete :
    reg12.Inv ∧
    reg12.dmaStop = false ∧
    reg12.noExec = false ∧
    reg12.takes putR (tctxOf putR.pkt % 288) reg12 ∧
    reg12.grantsKey (eng putR) ∧
    (reg12.homeXlate (eng putR)).2.wait = false ∧
    (reg12.homeXlate (eng putR)).2.fail = none ∧
    (eng putR).pkt.ptype = 1 ∧
    reg12.firstCopy (eng putR) ∧
    (behindT putR).receives putR ∧
    (behindT putR).tctxBusy (tctxOf putR.pkt) = true ∧
    (reg12.checkKey (eng putR) 0xABCD00000100000D).2 ≠ 0 ∧
    reg12.takes (withKey putR 0xABCD00000100000D) (tctxOf (withKey putR 0xABCD00000100000D).pkt % 288) reg12 ∧
    (reg12.checkKey (eng (withKey putR 0xABCD00000100000D)) (eng (withKey putR 0xABCD00000100000D)).pkt.key).2 ≠ 0 ∧
    regNo.takes putR (tctxOf putR.pkt % 288) regNo ∧
    (regNo.checkKey (eng putR) (eng putR).pkt.key).2 = 0 ∧
    (regNo.region (regNo.rkey (eng putR) (eng putR).pkt.key)).permits (eng putR).pkt = false ∧
    reg12.takes (withOff putR 0x10000) (tctxOf (withOff putR 0x10000).pkt % 288) reg12 ∧
    (reg12.checkKey (eng (withOff putR 0x10000)) (eng (withOff putR 0x10000)).pkt.key).2 = 0 ∧
    (reg12.region (reg12.rkey (eng (withOff putR 0x10000)) (eng (withOff putR 0x10000)).pkt.key)).permits (eng (withOff putR 0x10000)).pkt = true ∧
    (reg12.region (reg12.rkey (eng (withOff putR 0x10000)) (eng (withOff putR 0x10000)).pkt.key)).size < (eng (withOff putR 0x10000)).pkt.offset + (eng (withOff putR 0x10000)).pkt.opLen ∧
    reg12.takes getR (tctxOf getR.pkt % 288) reg12 ∧
    reg12.grantsKey (eng getR) ∧
    (reg12.homeXlate (eng getR)).2.wait = false ∧
    (reg12.homeXlate (eng getR)).2.fail = none ∧
    (eng getR).pkt.ptype = 2 ∧
    reg12.firstCopy (eng getR) ∧
    (behindT getR).receives getR ∧
    (behindT getR).tctxBusy (tctxOf getR.pkt) = true ∧
    (reg12.checkKey (eng getR) 0xABCD00000100000D).2 ≠ 0 ∧
    reg12.takes (withKey getR 0xABCD00000100000D) (tctxOf (withKey getR 0xABCD00000100000D).pkt % 288) reg12 ∧
    (reg12.checkKey (eng (withKey getR 0xABCD00000100000D)) (eng (withKey getR 0xABCD00000100000D)).pkt.key).2 ≠ 0 ∧
    regNo.takes getR (tctxOf getR.pkt % 288) regNo ∧
    (regNo.checkKey (eng getR) (eng getR).pkt.key).2 = 0 ∧
    (regNo.region (regNo.rkey (eng getR) (eng getR).pkt.key)).permits (eng getR).pkt = false ∧
    reg12.takes (withOff getR 0x10000) (tctxOf (withOff getR 0x10000).pkt % 288) reg12 ∧
    (reg12.checkKey (eng (withOff getR 0x10000)) (eng (withOff getR 0x10000)).pkt.key).2 = 0 ∧
    (reg12.region (reg12.rkey (eng (withOff getR 0x10000)) (eng (withOff getR 0x10000)).pkt.key)).permits (eng (withOff getR 0x10000)).pkt = true ∧
    (reg12.region (reg12.rkey (eng (withOff getR 0x10000)) (eng (withOff getR 0x10000)).pkt.key)).size < (eng (withOff getR 0x10000)).pkt.offset + (eng (withOff getR 0x10000)).pkt.opLen ∧
    reg12.takes atomR (tctxOf atomR.pkt % 288) reg12 ∧
    reg12.grantsKey (eng atomR) ∧
    (reg12.homeXlate (eng atomR)).2.wait = false ∧
    (reg12.homeXlate (eng atomR)).2.fail = none ∧
    (eng atomR).pkt.ptype = 3 ∧
    reg12.firstCopy (eng atomR) ∧
    (behindT atomR).receives atomR ∧
    (behindT atomR).tctxBusy (tctxOf atomR.pkt) = true ∧
    (reg12.checkKey (eng atomR) 0xABCD00000100000D).2 ≠ 0 ∧
    reg12.takes (withKey atomR 0xABCD00000100000D) (tctxOf (withKey atomR 0xABCD00000100000D).pkt % 288) reg12 ∧
    (reg12.checkKey (eng (withKey atomR 0xABCD00000100000D)) (eng (withKey atomR 0xABCD00000100000D)).pkt.key).2 ≠ 0 ∧
    regNo.takes atomR (tctxOf atomR.pkt % 288) regNo ∧
    (regNo.checkKey (eng atomR) (eng atomR).pkt.key).2 = 0 ∧
    (regNo.region (regNo.rkey (eng atomR) (eng atomR).pkt.key)).permits (eng atomR).pkt = false ∧
    reg12.takes (withOff atomR 0x10000) (tctxOf (withOff atomR 0x10000).pkt % 288) reg12 ∧
    (reg12.checkKey (eng (withOff atomR 0x10000)) (eng (withOff atomR 0x10000)).pkt.key).2 = 0 ∧
    (reg12.region (reg12.rkey (eng (withOff atomR 0x10000)) (eng (withOff atomR 0x10000)).pkt.key)).permits (eng (withOff atomR 0x10000)).pkt = true ∧
    (reg12.region (reg12.rkey (eng (withOff atomR 0x10000)) (eng (withOff atomR 0x10000)).pkt.key)).size < (eng (withOff atomR 0x10000)).pkt.offset + (eng (withOff atomR 0x10000)).pkt.opLen ∧
    reg12.takes wrdR (tctxOf wrdR.pkt % 288) reg12 ∧
    reg12.grantsKey (eng wrdR) ∧
    (reg12.homeXlate (eng wrdR)).2.wait = false ∧
    (reg12.homeXlate (eng wrdR)).2.fail = none ∧
    (eng wrdR).pkt.ptype = 5 ∧
    reg12.firstCopy (eng wrdR) ∧
    (behindT wrdR).receives wrdR ∧
    (behindT wrdR).tctxBusy (tctxOf wrdR.pkt) = true ∧
    (reg12.checkKey (eng wrdR) 0xABCD00000100000D).2 ≠ 0 ∧
    reg12.takes (withKey wrdR 0xABCD00000100000D) (tctxOf (withKey wrdR 0xABCD00000100000D).pkt % 288) reg12 ∧
    (reg12.checkKey (eng (withKey wrdR 0xABCD00000100000D)) (eng (withKey wrdR 0xABCD00000100000D)).pkt.key).2 ≠ 0 ∧
    regNo.takes wrdR (tctxOf wrdR.pkt % 288) regNo ∧
    (regNo.checkKey (eng wrdR) (eng wrdR).pkt.key).2 = 0 ∧
    (regNo.region (regNo.rkey (eng wrdR) (eng wrdR).pkt.key)).permits (eng wrdR).pkt = false ∧
    reg12.takes (withOff wrdR 0x10000) (tctxOf (withOff wrdR 0x10000).pkt % 288) reg12 ∧
    (reg12.checkKey (eng (withOff wrdR 0x10000)) (eng (withOff wrdR 0x10000)).pkt.key).2 = 0 ∧
    (reg12.region (reg12.rkey (eng (withOff wrdR 0x10000)) (eng (withOff wrdR 0x10000)).pkt.key)).permits (eng (withOff wrdR 0x10000)).pkt = true ∧
    (reg12.region (reg12.rkey (eng (withOff wrdR 0x10000)) (eng (withOff wrdR 0x10000)).pkt.key)).size < (eng (withOff wrdR 0x10000)).pkt.offset + (eng (withOff wrdR 0x10000)).pkt.opLen ∧
    reg12.takes wwrR (tctxOf wwrR.pkt % 288) reg12 ∧
    reg12.grantsKey (eng wwrR) ∧
    (reg12.homeXlate (eng wwrR)).2.wait = false ∧
    (reg12.homeXlate (eng wwrR)).2.fail = none ∧
    (eng wwrR).pkt.ptype = 6 ∧
    reg12.firstCopy (eng wwrR) ∧
    (behindT wwrR).receives wwrR ∧
    (behindT wwrR).tctxBusy (tctxOf wwrR.pkt) = true ∧
    (reg12.checkKey (eng wwrR) 0xABCD00000100000D).2 ≠ 0 ∧
    reg12.takes (withKey wwrR 0xABCD00000100000D) (tctxOf (withKey wwrR 0xABCD00000100000D).pkt % 288) reg12 ∧
    (reg12.checkKey (eng (withKey wwrR 0xABCD00000100000D)) (eng (withKey wwrR 0xABCD00000100000D)).pkt.key).2 ≠ 0 ∧
    regNo.takes wwrR (tctxOf wwrR.pkt % 288) regNo ∧
    (regNo.checkKey (eng wwrR) (eng wwrR).pkt.key).2 = 0 ∧
    (regNo.region (regNo.rkey (eng wwrR) (eng wwrR).pkt.key)).permits (eng wwrR).pkt = false ∧
    reg12.takes (withOff wwrR 0x10000) (tctxOf (withOff wwrR 0x10000).pkt % 288) reg12 ∧
    (reg12.checkKey (eng (withOff wwrR 0x10000)) (eng (withOff wwrR 0x10000)).pkt.key).2 = 0 ∧
    (reg12.region (reg12.rkey (eng (withOff wwrR 0x10000)) (eng (withOff wwrR 0x10000)).pkt.key)).permits (eng (withOff wwrR 0x10000)).pkt = true ∧
    (reg12.region (reg12.rkey (eng (withOff wwrR 0x10000)) (eng (withOff wwrR 0x10000)).pkt.key)).size < (eng (withOff wwrR 0x10000)).pkt.offset + (eng (withOff wwrR 0x10000)).pkt.opLen ∧
    (eng getR).rd = .ok ∧
    (eng atomR).rd = .ok ∧
    (eng wrdR).rd = .ok ∧
    (eng atomR).pkt.atomicOk = true ∧
    wrdR.pkt.nodata = false ∧
    wrdN.pkt.nodata = true ∧
    reg12.takes wrdN (tctxOf wrdN.pkt % 288) reg12 ∧
    reg12.grantsKey (eng wrdN) ∧
    wrdR.pkt.leasereq = true ∧
    atomR.loc = false ∧
    wwrR.loc = false ∧
    (requestRows putR).any (fun x => x.1) = true ∧
    noCl.Inv ∧
    noCl.receives putR ∧
    noCl.noExec = false ∧
    noCl.tctxBusy (tctxOf putR.pkt) = false ∧
    mgetD noCl.tgt.tctx (tctxOf putR.pkt) [] = [] ∧
    noCl.respFull = false ∧
    noCl.anyCluster = false ∧
    noCl.tooOld putR = false ∧
    (requestRows badP).any (fun x => x.1) = true ∧
    reg12.isLocal badP.pkt.dest = true ∧
    badP.rx ≤ reg12.tick ∧
    badP.pkt.legal = false ∧
    badP.port < 72 ∧
    badP.loc = false := by
  unfold State.Inv State.takes State.receives State.firstCopy State.grantsKey
  and_intros <;> decide +kernel

theorem test_RegionRequestRowsComplete :
    (after (.putPacket putR) noCl).byte 0x4000FFF8 = 0 ∧
    (after (.putPacket badP) reg12).fld .FLK_PLINK_BADPKT 8 = 1 ∧
    (after (.putPacket putR) reg12).byte 0x4000FFF8 = 77 ∧
    (after (.wwrPacket wwrR) reg12).byte 0x40000000 = 7 ∧
    (after (.wwrPacket wwrR) reg12).byte 0x40000001 = 0 ∧
    (after (.atomicPacket atomR) reg12).byte 0x40000008 = 5 ∧
    (after (.getPacket getR) reg12).hostMem = [] ∧
    (after (.wrdPacket wrdR) (put reg12 [(.NCC_CFG_HOMEEN, 0, 1)])).win.leases = [(leaseKey 12 0, { holders := [6], latest := 4000000000 + reg12.fld .NCC_LEASEDUR_DUR })] := by
  decide +kernel

def sendR : Req := req { ptype := 0x04, ext := extMsg (7 * 2 ^ 46 + 5) 9 0 true 512, payload := List.replicate 512 7 }
def linvR : Req := req { ptype := 0x07, ext := extInv 0xFFFFFF 255 (2 ^ 36 - 1) }
def lockR (sub : Nat) : Req := req { ptype := 0x08, sub := sub, ext := extLock 0xFFFFFF 262143 63 9 }
def grantR : Req := req { ptype := 0x09, ext := extGrant 9 7 0 10 4 6 true false false }

/-- The last lock word in a state; `w` is the waiter of `lockR`. -/
def lockS (l : Lock) : State := { up with lck := { up.lck with words := [(0xFFFFFF, l)] } }
def lockW : Waiter := { coord := 6, func := 63, wq := 262143, wqidx := 9 }
def lockHeld (line : List Waiter) : State := lockS { st := .held, owner := 6, func := 63, wq := 262143, gseq := 2 ^ 32 - 1, line := line }
def lockOther (line : List Waiter) : State := lockS { st := .held, owner := 7, func := 0, wq := 1, line := line }
def waitR : State := { qs with lck := { qs.lck with recs := [(2, { home := 6, lock := 9, q := 7, cnt := 10 })] } }

/-- A posted receive of queue 7 that the message matches, with a buffer on a cached page; an outstanding read of the last block. -/
def postR : State := let s := xon qs; { s with msg := { s.msg with posted := [{ q := 7, cnt := 3, sig := false, tag := 0, mask := 0, src := nullCoord, laddr := 64, cap := 513, kr := 0 }] } }
def linvT : State := { qs with ini := { qs.ini with tags := [(3, { owner := .winRead 0, first := 0, last := 0, origin := 0, pkt := { dest := 6, src := 5, ptype := 5, ext := extWin (0xFFFFFF + 2 ^ 24 * 255) (2 ^ 48 - 64) false false 0 } })] } }

theorem witness_MessageAndLockRequestRowsComplete :
    (lockS { st := .disabled }).Inv ∧
    (lockS { st := .disabled }).takes (lockR 0) (tctxOf (lockR 0).pkt % 288) (lockS { st := .disabled }) ∧
    (lockS { st := .disabled }).takes (lockR 1) (tctxOf (lockR 1).pkt % 288) (lockS { st := .disabled }) ∧
    (lockS { st := .disabled }).takes (lockR 2) (tctxOf (lockR 2).pkt % 288) (lockS { st := .disabled }) ∧
    (lockS { st := .disabled }).takes (lockR 3) (tctxOf (lockR 3).pkt % 288) (lockS { st := .disabled }) ∧
    (lockS { st := .disabled }).takes (lockR 4) (tctxOf (lockR 4).pkt % 288) (lockS { st := .disabled }) ∧
    (lockS { st := .disabled }).firstCopy (eng (lockR 0)) ∧
    (lockS { st := .disabled }).firstCopy (eng (lockR 1)) ∧
    (lockS { st := .disabled }).firstCopy (eng (lockR 2)) ∧
    (lockS { st := .disabled }).firstCopy (eng (lockR 3)) ∧
    (lockS { st := .disabled }).firstCopy (eng (lockR 4)) ∧
    ((lockS { st := .disabled }).lock (tableKey false 0xFFFFFF)).st = .disabled ∧
    (qs).Inv ∧
    (qs).takes sendR (tctxOf sendR.pkt % 288) (qs) ∧
    (eng sendR).pkt.ptype = 0x04 ∧
    qs.firstMessage (eng sendR) ∧
    qs.msg.posted = [] ∧
    qs.headersUsed < 262144 ∧
    qs.slotsUsed < 524288 ∧
    (postR).Inv ∧
    (postR).takes sendR (tctxOf sendR.pkt % 288) (postR) ∧
    postR.firstMessage (eng sendR) ∧
    (postR.msg.posted.find? (fun x => x.q == rqOf (eng sendR).pkt.mtag && x.matches_ (eng sendR).pkt.mtag (eng sendR).pkt.src)).isSome = true ∧
    postR.dmaStop = false ∧
    kept 512 (eng sendR).pkt.index (eng sendR).pkt.payload ≠ [] ∧
    (postR.xlate (.message (eng sendR)) 0 0 (64 + 512 * (eng sendR).pkt.index) 512 true false 0 []).2.wait = false ∧
    (postR.xlate (.message (eng sendR)) 0 0 (64 + 512 * (eng sendR).pkt.index) 512 true false 0 []).2.fail = none ∧
    (linvT).Inv ∧
    (linvT).takes linvR (tctxOf linvR.pkt % 288) (linvT) ∧
    (eng linvR).pkt.ptype = 0x07 ∧
    (mget linvT.ini.tags 3).map (fun y => y.pkt.ptype) = some 5 ∧
    (mget linvT.ini.tags 3).map (fun y => (sameCell y.pkt.dest (eng linvR).pkt.src, y.pkt.key % 2 ^ 32 == (eng linvR).pkt.invIndex + 2 ^ 24 * (eng linvR).pkt.invGen, y.pkt.offset / 4096 == (eng linvR).pkt.invBlock)) = some (true, true, true) ∧
    ((lockS { st := .free })).Inv ∧
    ((lockS { st := .free })).takes (lockR 0) (tctxOf (lockR 0).pkt % 288) ((lockS { st := .free })) ∧
    ((lockS { st := .free })).Inv ∧
    ((lockS { st := .free })).takes (lockR 1) (tctxOf (lockR 1).pkt % 288) ((lockS { st := .free })) ∧
    ((lockS { st := .free })).Inv ∧
    ((lockS { st := .free })).takes (lockR 2) (tctxOf (lockR 2).pkt % 288) ((lockS { st := .free })) ∧
    (lockS { st := .free }).firstCopy (eng (lockR 0)) ∧
    (eng (lockR 0)).pkt.ptype = 0x08 ∧
    (eng (lockR 0)).pkt.sub = 0 ∧
    (eng (lockR 1)).pkt.sub = 1 ∧
    (eng (lockR 2)).pkt.sub = 2 ∧
    (eng (lockR 3)).pkt.sub = 3 ∧
    (eng (lockR 4)).pkt.sub = 4 ∧
    (lockS { st := .free }).reqAlias (eng (lockR 0)) = false ∧
    (eng (lockR 0)).pkt.lock = 0xFFFFFF ∧
    ((lockS { st := .free }).lock (tableKey false 0xFFFFFF)).st = .free ∧
    waiterOf (eng (lockR 2)).pkt = lockW ∧
    ((lockHeld [])).Inv ∧
    ((lockHeld [])).takes (lockR 0) (tctxOf (lockR 0).pkt % 288) ((lockHeld [])) ∧
    (lockHeld []).firstCopy (eng (lockR 0)) ∧
    ((lockHeld [])).Inv ∧
    ((lockHeld [])).takes (lockR 1) (tctxOf (lockR 1).pkt % 288) ((lockHeld [])) ∧
    (lockHeld []).firstCopy (eng (lockR 1)) ∧
    ((lockHeld [])).Inv ∧
    ((lockHeld [])).takes (lockR 2) (tctxOf (lockR 2).pkt % 288) ((lockHeld [])) ∧
    (lockHeld []).firstCopy (eng (lockR 2)) ∧
    ((lockOther [])).Inv ∧
    ((lockOther [])).takes (lockR 0) (tctxOf (lockR 0).pkt % 288) ((lockOther [])) ∧
    (lockOther []).firstCopy (eng (lockR 0)) ∧
    ((lockOther [])).Inv ∧
    ((lockOther [])).takes (lockR 1) (tctxOf (lockR 1).pkt % 288) ((lockOther [])) ∧
    (lockOther []).firstCopy (eng (lockR 1)) ∧
    ((lockOther [])).Inv ∧
    ((lockOther [])).takes (lockR 2) (tctxOf (lockR 2).pkt % 288) ((lockOther [])) ∧
    (lockOther []).firstCopy (eng (lockR 2)) ∧
    ((lockHeld [{ coord := 7, func := 1, wq := 2, wqidx := 3 }])).Inv ∧
    ((lockHeld [{ coord := 7, func := 1, wq := 2, wqidx := 3 }])).takes (lockR 2) (tctxOf (lockR 2).pkt % 288) ((lockHeld [{ coord := 7, func := 1, wq := 2, wqidx := 3 }])) ∧
    (lockHeld [{ coord := 7, func := 1, wq := 2, wqidx := 3 }]).firstCopy (eng (lockR 2)) ∧
    ((lockOther [lockW])).Inv ∧
    ((lockOther [lockW])).takes (lockR 3) (tctxOf (lockR 3).pkt % 288) ((lockOther [lockW])) ∧
    (lockOther [lockW]).firstCopy (eng (lockR 3)) ∧
    ((lockOther [lockW])).Inv ∧
    ((lockOther [lockW])).takes (lockR 4) (tctxOf (lockR 4).pkt % 288) ((lockOther [lockW])) ∧
    (lockOther [lockW]).firstCopy (eng (lockR 4)) ∧
    ((lockHeld []).lock 0xFFFFFF).st = .held ∧
    ((lockHeld []).lock 0xFFFFFF).ownedBy lockW = true ∧
    ((lockHeld []).lock 0xFFFFFF).line = [] ∧
    ((lockOther []).lock 0xFFFFFF).st = .held ∧
    ((lockOther []).lock 0xFFFFFF).ownedBy lockW = false ∧
    ((lockOther []).lock 0xFFFFFF).line = [] ∧
    (lockOther []).lineUsed < 1048576 ∧
    ((lockHeld [{ coord := 7, func := 1, wq := 2, wqidx := 3 }]).lock 0xFFFFFF).ownedBy lockW = true ∧
    ((lockHeld [{ coord := 7, func := 1, wq := 2, wqidx := 3 }]).lock 0xFFFFFF).line = [{ coord := 7, func := 1, wq := 2, wqidx := 3 }] ∧
    ((lockOther [lockW]).lock 0xFFFFFF).st ≠ .disabled ∧
    ((lockOther [lockW]).lock 0xFFFFFF).line.contains lockW = true ∧
    (waitR).Inv ∧
    (waitR).takes grantR (tctxOf grantR.pkt % 288) (waitR) ∧
    waitR.firstCopy (eng grantR) ∧
    (eng grantR).pkt.ptype = 0x09 ∧
    (waitR.lck.recs.map (fun x => x.2.accepted)) = [none] ∧
    waitR.lck.recs.find? (fun kv => kv.2.home == (eng grantR).pkt.lhome && kv.2.lock == (eng grantR).pkt.lock && kv.2.accepted.isNone && kv.2.q == (eng grantR).pkt.lwq && kv.2.cnt == (eng grantR).pkt.lidx) = some (2, { home := 6, lock := 9, q := 7, cnt := 10 }) ∧
    mget waitR.lck.recs 2 = some { home := 6, lock := 9, q := 7, cnt := 10 } ∧
    (waitR.wq (eng grantR).pkt.lwq).st = .active ∧
    (up).Inv ∧
    (up).takes grantR (tctxOf grantR.pkt % 288) (up) ∧
    up.lck.recs = [] := by
  unfold State.Inv State.takes State.receives State.firstCopy State.firstMessage
  and_intros <;> decide +kernel

theorem test_MessageAndLockRequestRowsComplete :
    ((after (.lockopAcquire (lockR 0)) (lockS { st := .disabled })).lock 0xFFFFFF).line = [] ∧
    (after (.sendPacket sendR) qs).msg.ctxs.length = 1 ∧
    (after (.sendPacket sendR) postR).byte 0x4000023F = 7 ∧
    (after (.sendPacket sendR) postR).byte 0x40000240 = 0 ∧
    (after (.linvPacket linvR) linvT).fld .NCC_INVRX_COUNT = 1 ∧
    (mget (after (.linvPacket linvR) linvT).ini.tags 3).map TagEnt.inv = some [6] ∧
    ((after (.lockopAcquire (lockR 0)) (lockS { st := .free })).lock 0xFFFFFF).owner = 6 ∧
    ((after (.lockopTry (lockR 1)) (lockS { st := .free })).lock 0xFFFFFF).gseq = 1 ∧
    ((after (.lockopAcquire (lockR 0)) (lockOther [])).lock 0xFFFFFF).line = [lockW] ∧
    ((after (.lockopTry (lockR 1)) (lockOther [])).lock 0xFFFFFF).line = [] ∧
    ((after (.lockopRelease (lockR 2)) (lockHeld [])).lock 0xFFFFFF).st = .free ∧
    (after (.lockopRelease (lockR 2)) (lockOther [])).fld .LCK_NOTOWNER_COUNT = 1 ∧
    ((after (.lockopCancel (lockR 3)) (lockOther [lockW])).lock 0xFFFFFF).line = [] ∧
    ((after (.lockopProbe (lockR 4)) (lockOther [lockW])).lock 0xFFFFFF).line = [lockW] ∧
    mget (after (.lgrantPacket grantR) waitR).lck.recs 2 = some { home := 6, lock := 9, q := 7, cnt := 10, accepted := some (4000000000, 4) } := by
  decide +kernel

/-- A collective packet of a child, the parent or another member. -/
def collR (src ctype inst : Nat) (payload : List Byte) : Req :=
  { pkt := { dest := 5, src := src, ptype := 0x0A, tag := 9, ext := extColl 3 ctype false 0 77 inst 0 0, payload := payload }, rx := 4000000000, port := 8 }
def markR (dest : Nat) : Req := { pkt := { dest := dest, src := 6, ptype := 0x0B, tag := 9 }, rx := 4000000000, port := 8 }
def colS (kind : Nat) : State := { up with col := [(3, cctx kind)] }

/-- A collective packet of this device to itself. -/
def ownR (ctype inst : Nat) (payload : List Byte) : Req :=
  { pkt := { dest := 5, src := 5, ptype := 0x0A, tag := 9, ext := extColl 3 ctype false 0 77 inst 0 0, payload := payload }, rx := 4000000000, port := 72, loc := true }

/-- Aliased: it executes no request. -/
def asleep : State := { up with mir := { up.mir with aliasedAt := some 3999999999 } }

theorem witness_CollectivePacketRowsComplete :
    asleep.Inv ∧
    (markR 5).pkt.legal = true ∧
    (markR 5).pkt.ptype = 0x0B ∧
    asleep.isLocal (markR 5).pkt.dest = true ∧
    asleep.noExec = true ∧
    up.isLocal (markR 5).pkt.dest = true ∧
    up.noExec = false ∧
    ((colS 0)).Inv ∧
    ((colS 0)).takes (collR 7 0 0 (zeros 8)) (tctxOf (collR 7 0 0 (zeros 8)).pkt % 288) ((colS 0)) ∧
    (collR 7 0 0 (zeros 8)).pkt.ptype = 0x0A ∧
    (colS 0).reqAlias (eng (collR 7 0 0 (zeros 8))) = false ∧
    ((colS 0).ctx (eng (collR 7 0 0 (zeros 8))).pkt.cctx).st = .set ∧
    ((colS 0).ctx 3).setupId = (eng (collR 7 0 0 (zeros 8))).pkt.setupid ∧
    ((colS 0)).Inv ∧
    ((colS 0)).takes (ownR 0 0 (zeros 8)) (tctxOf (ownR 0 0 (zeros 8)).pkt % 288) ((colS 0)) ∧
    (ownR 0 0 (zeros 8)).pkt.ptype = 0x0A ∧
    (colS 0).reqAlias (eng (ownR 0 0 (zeros 8))) = false ∧
    ((colS 0).ctx (eng (ownR 0 0 (zeros 8))).pkt.cctx).st = .set ∧
    ((colS 0).ctx 3).setupId = (eng (ownR 0 0 (zeros 8))).pkt.setupid ∧
    ((colS 0)).Inv ∧
    ((colS 0)).takes (collR 4 1 0 (zeros 8)) (tctxOf (collR 4 1 0 (zeros 8)).pkt % 288) ((colS 0)) ∧
    (collR 4 1 0 (zeros 8)).pkt.ptype = 0x0A ∧
    (colS 0).reqAlias (eng (collR 4 1 0 (zeros 8))) = false ∧
    ((colS 0).ctx (eng (collR 4 1 0 (zeros 8))).pkt.cctx).st = .set ∧
    ((colS 0).ctx 3).setupId = (eng (collR 4 1 0 (zeros 8))).pkt.setupid ∧
    ((colS 0)).Inv ∧
    ((colS 0)).takes (collR 4 2 0 []) (tctxOf (collR 4 2 0 []).pkt % 288) ((colS 0)) ∧
    (collR 4 2 0 []).pkt.ptype = 0x0A ∧
    (colS 0).reqAlias (eng (collR 4 2 0 [])) = false ∧
    ((colS 0).ctx (eng (collR 4 2 0 [])).pkt.cctx).st = .set ∧
    ((colS 0).ctx 3).setupId = (eng (collR 4 2 0 [])).pkt.setupid ∧
    (up).Inv ∧
    (up).takes (collR 7 0 0 (zeros 8)) (tctxOf (collR 7 0 0 (zeros 8)).pkt % 288) (up) ∧
    (up).Inv ∧
    (up).takes (collR 4 1 0 (zeros 8)) (tctxOf (collR 4 1 0 (zeros 8)).pkt % 288) (up) ∧
    (up).Inv ∧
    (up).takes (collR 4 2 0 []) (tctxOf (collR 4 2 0 []).pkt % 288) (up) ∧
    (up.ctx 3).st ≠ .set ∧
    (eng (collR 7 0 0 (zeros 8))).pkt.ctype = 0 ∧
    (eng (ownR 0 0 (zeros 8))).pkt.ctype = 0 ∧
    (eng (collR 4 1 0 (zeros 8))).pkt.ctype = 1 ∧
    (eng (collR 4 2 0 [])).pkt.ctype = 2 ∧
    (eng (collR 7 3 0 (leBytes 8 5))).pkt.ctype = 3 ∧
    (eng (ownR 0 0 (zeros 8))).pkt.src = (colS 0).own ∧
    (eng (collR 7 0 0 (zeros 8))).pkt.src ≠ (colS 0).own ∧
    (eng (collR 7 0 0 (zeros 8))).pkt.orphan = false ∧
    ((colS 0).ctx 3).lost.contains 7 = false ∧
    ((colS 0).ctx 3).children.contains 7 = true ∧
    ((colS 0).ctx 3).old 0 = false ∧
    ((colS 0).ctx 3).inst 0 = none ∧
    ((colS 3)).Inv ∧
    ((colS 3)).takes (collR 7 3 0 (leBytes 8 5)) (tctxOf (collR 7 3 0 (leBytes 8 5)).pkt % 288) ((colS 3)) ∧
    (colS 3).own ≠ ((colS 3).ctx 3).root ∧
    ((colS 3).ctx 3).rootLost = false ∧
    (colS 3).firstCopy (eng (collR 7 3 0 (leBytes 8 5))) ∧
    (eng (collR 7 3 0 (leBytes 8 5))).loc = false ∧
    (colS 3).batchFull 3 = false ∧
    up.Inv ∧
    (markR 5).pkt.ptype = 0x0B ∧
    (markR 5).pkt.legal = true ∧
    up.isLocal (markR 5).pkt.dest = true ∧
    (markR 6).pkt.legal = true ∧
    up.isLocal (markR 6).pkt.dest = false := by
  unfold State.Inv State.takes State.receives State.firstCopy
  and_intros <;> decide +kernel

theorem test_CollectivePacketRowsComplete :
    (((after (.collContribution (collR 7 0 0 (zeros 8))) (colS 0)).ctx 3).inst 0).isSome = true ∧
    ((after (.collMergedRequest (collR 7 3 0 (leBytes 8 5))) (colS 3)).ctx 3).batch.length = 1 ∧
    (after (.pmarkPacket (markR 5)) asleep).tgt.marks = [markR 5] ∧
    (after (.pmarkPacket (markR 6)) up).regs = up.regs := by
  decide +kernel

/-- Request tag 9 of the descriptor 10 of queue 7, in flight to device 6. -/
def tagE (ty : Nat) (ni : Bool) (at_ : Nat) : TagEnt :=
  { owner := .desc 7 10, pkt := { dest := 6, src := 5, ptype := ty, sub := 0x10, tag := 9, epoch := 3 }, first := at_, last := at_, origin := at_, nonIdem := ni, infl := 72, port := 8 }
def tagS (e : TagEnt) : State := { qs with ini := { qs.ini with tags := [(9, e)] } }
def resp (status : Nat) : Pkt := { dest := 5, src := 6, ptype := 0x40, tag := 9, epoch := 3, status := status, age := 500000 }
def descOf (op start : Nat) : Desc := { cnt := 10, op := op, raw := 0, left := 1, start := start }
def descS (e : TagEnt) (op start : Nat) : State := (tagS e).modWq 7 (fun w => { w with head := 11, fidx := 11, tail := 11, outst := [descOf op start] })
def dupS : State := { up with tgt := { up.tgt with dup := [(ReqId.packed ⟨6, 9, 3⟩, { status := 0, expire := 4000000000 })] } }
def onPeriod : State := { up with ini := { up.ini with cc := [(0, { base0 := some 5, period := 499 }), (1, { base0 := some 6, period := 500 })] } }

/-- The completion of the descriptor waits while host accesses are stopped. -/
def heldS (at_ : Nat) : State := put ((tagS (tagE 1 true at_)).modCq 9 (fun c => { c with held := [{ gwq := 7, wq := 7, wqidx := 10, opcode := 1 }] })) [(.HIF_STATUS_DMASTOP, 0, 1)]

def aliasS : State := put (tagS (tagE 1 false 3999999000)) [(.GEN_ALIAS_COORD, 0, 6)]
def aliasResp : Pkt := { resp 0 with dest := 6, src := 7 }

/-- A SEND of which no packet was sent, and one whose only packet is served on this device. -/
def sendU : State := let s := descS (tagE 4 true 3998000000) 3 3998000000; { s with ini := { s.ini with tags := [], waiting := [{ owner := .desc 7 10, pkt := {} }] } }
def sendL : State := let s := descS (tagE 4 true 3998000000) 3 3998000000; { s with ini := { s.ini with tags := [(9, { tagE 4 true 3998000000 with loc := true })] } }

theorem witness_AnswerAndRequestTimerRowsComplete :
    aliasS.Inv ∧
    aliasResp.isResp = true ∧
    aliasResp.legal = true ∧
    aliasS.isAlias aliasResp.dest = true ∧
    (tagS (tagE 3 true 3999999000)).Inv ∧
    (resp 0).isResp = true ∧
    (resp 0).legal = true ∧
    (resp 0).dest = (tagS (tagE 3 true 3999999000)).own ∧
    (resp 0).age ≤ 500000 ∧
    mget (tagS (tagE 3 true 3999999000)).ini.tags (resp 0).tag = some (tagE 3 true 3999999000) ∧
    (tagE 3 true 3999999000).pkt.epoch = (resp 0).epoch ∧
    (answersOf (tagE 3 true 3999999000).pkt).contains aBusy = true ∧
    (answersOf (tagE 3 true 3999999000).pkt).contains 0 = true ∧
    (0 : Nat) ≠ aBusy ∧
    (tagS (tagE 3 true 3999999000)).tick < (tagE 3 true 3999999000).first + 2100000 ∧
    (answersOf (tagE 1 false 3999999000).pkt).contains 0 = true ∧
    (tagE 1 false 3999999000).attempt = 0 ∧
    mwf (tagS (tagE 1 false 3999999000)).ini.tags ∧
    (tagE 3 true 3999999000).pkt.epoch ≠ ({ resp 0 with epoch := 255 } : Pkt).epoch ∧
    ({ resp 0 with epoch := 255 } : Pkt).legal = true ∧
    (tagS (tagE 3 true 3999980000)).mayResend (tagE 3 true 3999980000) = true ∧
    (tagE 3 true 3999980000).nextAt = (tagS (tagE 3 true 3999980000)).tick ∧
    (tagE 3 true 3999980000).infl ≠ 0 ∧
    (tagS (tagE 3 true 3999980001)).tick < (tagE 3 true 3999980001).nextAt ∧
    (descS (tagE 1 false 3998000000) 1 3998000000).Inv ∧
    (descS (tagE 1 false 3998000000) 1 3998000000).desc 7 10 = some (descOf 1 3998000000) ∧
    (tagE 1 false 3998000000).origin + 2000000 = (descS (tagE 1 false 3998000000) 1 3998000000).tick ∧
    (tagS (tagE 1 false 3998000001)).tick < (tagE 1 false 3998000001).origin + 2000000 ∧
    (tagE 3 true 3997900000).releaseAt (tagS (tagE 3 true 3997900000)).tick = some 4000000000 ∧
    (tagE 3 true 3997900001).releaseAt (tagS (tagE 3 true 3997900001)).tick = some 4000000001 ∧
    dupS.Inv ∧
    mget dupS.tgt.dup (ReqId.packed ⟨6, 9, 3⟩) = some { status := 0, expire := 4000000000 } ∧
    mwf dupS.tgt.dup ∧
    (4000000000 : Nat) ≤ dupS.tick ∧
    onPeriod.now / 8000000 = 499 + 1 ∧
    mget onPeriod.ini.cc 0 = some { base0 := some 5, period := 499 } ∧
    mget onPeriod.ini.cc 1 = some { base0 := some 6, period := onPeriod.now / 8000000 } ∧
    codeReserved (resp 0x12).status = true ∧
    (resp 0x12).legal = true ∧
    codeReserved 0x8B = true ∧
    codeReserved 0 = false ∧
    (heldS 3997900000).tagHeld (tagE 1 true 3997900000) = true ∧
    (heldS 3997900000).Inv ∧
    mget (heldS 3997900000).ini.tags 9 = some (tagE 1 true 3997900000) ∧
    (tagS (tagE 3 true 3997900000)).tagHeld (tagE 3 true 3997900000) = false ∧
    (descS (tagE 4 true 3998000000) 3 3998000000).desc 7 10 = some (descOf 3 3998000000) ∧
    (descOf 3 3998000000).start + 2000000 = (descS (tagE 4 true 3998000000) 3 3998000000).tick ∧
    (((descS (tagE 4 true 3998000000) 3 3998000000).sendTags 7 10).filter (fun kv => !kv.2.answered && !kv.2.done && !kv.2.loc)).length = 1 ∧
    ((descS (tagE 4 true 3998000000) 3 3998000000).sendTags 7 10).countP (fun kv => !kv.2.answered && kv.2.loc) = 0 ∧
    sendU.Inv ∧
    sendU.desc 7 10 = some (descOf 3 3998000000) ∧
    (sendU.sendTags 7 10).length = 0 ∧
    sendU.ini.waiting.length = 1 ∧
    sendL.Inv ∧
    sendL.desc 7 10 = some (descOf 3 3998000000) ∧
    (sendL.sendTags 7 10).countP (fun kv => !kv.2.answered && kv.2.loc) = 1 ∧
    (descS (tagE 4 true 3998000001) 3 3998000001).tick < (descOf 3 3998000001).start + 2000000 := by
  unfold State.Inv
  and_intros <;> decide +kernel

theorem test_AnswerAndRequestTimerRowsComplete :
    (after (.respPacket 8 aliasResp) aliasS).ini.tags = aliasS.ini.tags ∧
    (after (.respPacket 8 aliasResp) aliasS).ini.aliasDrops = 1 ∧
    mget (after (.respPacket 8 (resp 0)) (tagS (tagE 3 true 3999999000))).ini.tags 9 = some { tagE 3 true 3999999000 with answered := true, infl := 0 } ∧
    mget (after (.respPacket 8 (resp 0)) (tagS (tagE 1 false 3999999000))).ini.tags 9 = none ∧
    mget (after (.tagRelease 9) (tagS (tagE 3 true 3997900000))).ini.tags 9 = none ∧
    (after (.tagRelease 9) (tagS (tagE 3 true 3997900001))).ini.tags.length = 1 ∧
    (after (.dupEntryExpire ⟨6, 9, 3⟩) dupS).tgt.dup = [] ∧
    mget (after .ccBasePeriod onPeriod).ini.cc 0 = some { base0 := none, base1 := some 5, period := 500 } ∧
    mget (after .ccBasePeriod onPeriod).ini.cc 1 = some { base0 := some 6, period := 500 } ∧
    mget (after (.tagRelease 9) (heldS 3997900000)).ini.tags 9 = some (tagE 1 true 3997900000) ∧
    (after (.respPacket 8 (resp 0x12)) (tagS (tagE 3 true 3999999000))).fld .FLK_PLINK_BADPKT 8 = 1 ∧
    ((after (.unknownOutcome 9) (descS (tagE 1 false 3998000000) 1 3998000000)).wq 7).outst = [] ∧
    ((after (.sendDeadline 7 10) (descS (tagE 4 true 3998000000) 3 3998000000)).wq 7).outst = [] ∧
    ((mget (after (.retransmit 9) (tagS (tagE 3 true 3999980000))).ini.tags 9).map TagEnt.sched) = some 1 := by
  decide +kernel

def linvS (l : Lease) : State := { tagS { tagE 7 false 3999999000 with owner := .linv (leaseKey 12 3) 6 } with win := { up.win with leases := [(leaseKey 12 3, l)] } }
def hwr : HomeWrite := { req := wwrR }
def lease1 : Lease := { holders := [6], latest := 3999999975, writing := [hwr] }
def lease2 : Lease := { holders := [6, 7], latest := 4000100000, writing := [hwr] }
def lease3 : Lease := { holders := [6], latest := 4000100000, writing := [hwr], ovf := true }
def grantE (at_ : Nat) : TagEnt := { tagE 9 true at_ with owner := .grant 0xFFFFFF, pkt := { dest := 6, src := 5, ptype := 0x09, tag := 9, epoch := 3, ext := extGrant 0xFFFFFF 7 0 10 41 5 true false false } }
def grantS (at_ : Nat) : State := { tagS (grantE at_) with lck := { up.lck with words := [(0xFFFFFF, { st := .granting, owner := 6, gseq := 41, granteeIdx := 10 })] } }
def grantL (at_ : Nat) : State := { tagS (grantE at_) with lck := { up.lck with words := [(0xFFFFFF, { st := .granting, owner := 6, gseq := 41, granteeIdx := 10, line := [{ coord := 7, func := 1, wq := 2, wqidx := 3 }] })] } }
def recS (x : WaitRec) : State := { up with lck := { up.lck with recs := [(65535, x)] } }
def rec1 (t : Nat) : WaitRec := { home := 6, lock := 9, q := 7, cnt := 10, queued := true, since := t }
def rec2 (t : Nat) : WaitRec := { home := 6, lock := 9, q := 7, cnt := 10, accepted := some (t, 5) }

theorem witness_LockAnswerAndTimerRowsComplete :
    (linvS lease1).Inv ∧
    mget (linvS lease1).ini.tags 9 = some { tagE 7 false 3999999000 with owner := .linv (leaseKey 12 3) 6 } ∧
    (linvS lease1).ini.waiting = [] ∧
    mget (linvS lease2).win.leases (leaseKey 12 3) = some lease2 ∧
    lease2.holders.filter (· != 6) ≠ [] ∧
    lease1.writing ≠ [] ∧
    lease2.writing ≠ [] ∧
    mget (linvS lease3).win.leases (leaseKey 12 3) = some lease3 ∧
    lease3.ovf = true ∧
    mget (linvS { lease2 with writing := [] }).win.leases (leaseKey 12 3) = some { lease2 with writing := [] } ∧
    (linvS { lease2 with writing := [] }).Inv ∧
    lease1.holders.filter (· != 6) = [] ∧
    lease1.ovf = false ∧
    mwf (linvS lease1).win.leases ∧
    (grantS 3998000000).Inv ∧
    mget (grantS 3998000000).ini.tags 9 = some (grantE 3998000000) ∧
    ((grantS 3998000000).lock 0xFFFFFF).st = .granting ∧
    ((grantS 3998000000).lock 0xFFFFFF).gseq = (grantE 3998000000).pkt.gseq ∧
    (grantE 3998000000).origin + 2000000 = (grantS 3998000000).tick ∧
    (grantE 3998000000).loc = false ∧
    ((grantS 3998000000).lock 0xFFFFFF).line = [] ∧
    (grantL 3998000000).Inv ∧
    mget (grantL 3998000000).ini.tags 9 = some (grantE 3998000000) ∧
    ((grantL 3998000000).lock 0xFFFFFF).st = .granting ∧
    ((grantL 3998000000).lock 0xFFFFFF).gseq = (grantE 3998000000).pkt.gseq ∧
    ((grantL 3998000000).lock 0xFFFFFF).line = [{ coord := 7, func := 1, wq := 2, wqidx := 3 }] ∧
    (grantS 3998000000).ini.waiting = [] ∧
    (recS (rec1 3999000000)).dstate = true ∧
    (rec1 3999000000).queued = true ∧
    (rec1 3999000000).accepted = none ∧
    (put (recS (rec1 3999000000)) [(.GEN_READY_DSTATE, 0, 0)]).dstate = false ∧
    mget (recS (rec1 3999000000)).lck.recs 65535 = some (rec1 3999000000) ∧
    (rec1 3999000000).since + (recS (rec1 3999000000)).fld .LCK_PROBEINT_INT = (recS (rec1 3999000000)).tick ∧
    (recS (rec1 3999000001)).tick < (rec1 3999000001).since + (recS (rec1 3999000001)).fld .LCK_PROBEINT_INT ∧
    (recS (rec2 3990000000)).Inv ∧
    mwf (recS (rec2 3990000000)).lck.recs ∧
    3990000000 + 10000000 = (recS (rec2 3990000000)).tick ∧
    (recS (rec2 3990000001)).tick < 3990000001 + 10000000 := by
  unfold State.Inv
  and_intros <;> decide +kernel

theorem test_LockAnswerAndTimerRowsComplete :
    (after (.linvAck 9) (linvS lease2)).lease (leaseKey 12 3) = { lease2 with holders := [7] } ∧
    (after (.linvAck 9) (linvS lease1)).win.leases = [] ∧
    (after (.linvAck 9) (linvS { lease2 with writing := [] })).lease (leaseKey 12 3) = { lease2 with writing := [] } ∧
    ((after (.grantAnswer 9 aDeclined) (grantS 3998000000)).lock 0xFFFFFF).st = .free ∧
    ((after (.grantAnswer 9 aAccepted) (grantS 3998000000)).lock 0xFFFFFF).st = .held ∧
    (after (.grantTimeout 9) (grantS 3998000000)).flag .LCK_FLT_GRANTUNK = true ∧
    ((after (.grantTimeout 9) (grantS 3998000000)).lock 0xFFFFFF).st = .held ∧
    (after (.waitingRecordExpire 65535) (recS (rec2 3990000000))).lck.recs = [] ∧
    after (.waitingRecordExpire 65535) (recS (rec2 3990000001)) = recS (rec2 3990000001) := by
  decide +kernel

def msgC (x : Option Recv) : MsgCtx := { id := ⟨6, 9, 3⟩, q := 7, tag := 5, recv := x, deadline := 4000000000, set := [0], total := some 1024 }
def recv1 : Recv := { q := 7, cnt := 10, sig := true, tag := 5, mask := 0, src := 6, laddr := 0, cap := 4096, kr := 0 }
def msgS (c : MsgCtx) : State := { descS (tagE 3 true 3999999000) 4 3999000000 with msg := { up.msg with ctxs := [c] } }
def waitC (t : Nat) : State := { up with col := [(4095, { cctx 0 with insts := [{ n := 0, own := some {}, since := t }], probeAt := [(7, 3999000000)] })] }
def con (o : Nat) : Constit := { addend := 2 ^ 64 - 1, origin := o, req := collR 7 3 0 (leBytes 8 5) }
def batchS (l : List Constit) (at_ : Nat) : State := put { up with col := [(3, { cctx 3 with batch := l, batchAt := at_ })] } [(.COL_CWIN_WIN, 0, 1000)]

theorem witness_MessageAndCollectiveTimerRowsComplete :
    (msgS (msgC none)).Inv ∧
    (msgS (msgC none)).msg.ctxs.find? (fun c => c.id == ⟨6, 9, 3⟩ && !c.complete) = some (msgC none) ∧
    (msgC none).deadline = (msgS (msgC none)).tick ∧
    (msgC none).complete = false ∧
    mwf (msgS (msgC none)).tgt.dup ∧
    (msgS (msgC (some recv1))).msg.ctxs.find? (fun c => c.id == ⟨6, 9, 3⟩ && !c.complete) = some (msgC (some recv1)) ∧
    (msgS (msgC (some recv1))).Inv ∧
    mwf (msgS (msgC (some recv1))).tgt.dup ∧
    (msgC (some recv1)).recv = some recv1 ∧
    (msgS { msgC none with deadline := 4000000001 }).tick < ({ msgC none with deadline := 4000000001 } : MsgCtx).deadline ∧
    ({ msgC none with set := [0, 1] } : MsgCtx).complete = true ∧
    (waitC 3999900000).Inv ∧
    (waitC 3999900000).awaits 4095 7 = some 3999900000 ∧
    max 3999900000 (mgetD ((waitC 3999900000).ctx 4095).probeAt 7 0) + (waitC 3999900000).fld .COL_PROBEINT_INT = (waitC 3999900000).tick ∧
    (waitC 3999900001).awaits 4095 7 = some 3999900001 ∧
    (waitC 3999900001).tick < max 3999900001 (mgetD ((waitC 3999900001).ctx 4095).probeAt 7 0) + (waitC 3999900001).fld .COL_PROBEINT_INT ∧
    (batchS [con 3999999000, con 3998500000] 3999999000).Inv ∧
    ((batchS [con 3999999000, con 3998500000] 3999999000).ctx 3).st = .set ∧
    ((batchS [con 3999999000, con 3998500000] 3999999000).ctx 3).flight = [] ∧
    ((batchS [con 3999999000, con 3998500000] 3999999000).ctx 3).batch ≠ [] ∧
    (batchS [con 3999999000, con 3998500000] 3999999000).dstate = true ∧
    (waitC 3999900000).dstate = true ∧
    (put (waitC 3999900000) [(.GEN_READY_DSTATE, 0, 0)]).awaits 4095 7 = some 3999900000 ∧
    (put (waitC 3999900000) [(.GEN_READY_DSTATE, 0, 0)]).dstate = false ∧
    ((batchS [con 3999999000, con 3998500000] 3999999000).ctx 3).batch.filter (fun x => decide ((batchS [] 0).tick < x.origin + 1500000)) = [con 3999999000] ∧
    ((batchS [con 3999999000, con 3998500000] 3999999000).ctx 3).batchAt + (batchS [con 3999999000, con 3998500000] 3999999000).fld .COL_CWIN_WIN = (batchS [con 3999999000, con 3998500000] 3999999000).tick ∧
    (batchS [] 3999999001).tick < ((batchS [] 3999999001).ctx 3).batchAt + (batchS [] 3999999001).fld .COL_CWIN_WIN := by
  unfold State.Inv
  and_intros <;> decide +kernel

theorem test_MessageAndCollectiveTimerRowsComplete :
    (after (.reassemblyTimeout ⟨6, 9, 3⟩) (msgS (msgC none))).msg.ctxs = [] ∧
    ((after (.reassemblyTimeout ⟨6, 9, 3⟩) (msgS (msgC (some recv1)))).wq 7).outst = [] ∧
    ((after (.constituentExpire 3) (batchS [con 3999999000, con 3998500000] 3999999000)).ctx 3).batch = [con 3999999000] := by
  decide +kernel

def leaseS (l : Lease) : State := { up with win := { up.win with leases := [(leaseKey (tableKey true 0xFFFFFF) 3, l)] } }
def startS (t : Nat) : State := { up with win := { up.win with startEnd := some t, startEndAlias := some 4000000001, startWrites := [{ al := false, key := 5, write := some hwr }, { al := true, key := 5, write := some hwr }, { al := false, key := 5, held := some wrdR }] } }
def witem (w : Bool) (first : Nat) : WItem := { id := 5, d := 0, a := 64, off := 64, write := w, mids := [(4, 1)], ent := wEnt false true, entNo := 0, issued := true, left := 1, first := some first }
def itemS (w : Bool) (first : Nat) (t : Nat) : State := { tagS { tagE (if w then 6 else 5) w t with owner := if w then .winWrite 5 1 else .winRead 5 } with win := { up.win with blk := [(0, { items := [witem w first] })], nextId := 6 } }
def neverS : State := let s := itemS true 3999000000 3999000000; { s with ini := { s.ini with tags := [] } }
def settleS (t : Nat) : State := { up with win := { up.win with blk := [(2, { items := [{ witem true 0 with expired := true }], settle := some t })] } }

theorem witness_LeaseAndWindowTimerRowsComplete :
    (leaseS lease1).Inv ∧
    mget (leaseS lease1).win.leases (leaseKey (tableKey true 0xFFFFFF) 3) = some lease1 ∧
    (leaseS lease1).leaseEnd lease1 = (leaseS lease1).tick ∧
    mwf (leaseS lease1).win.leases ∧
    (leaseS lease2).tick < (leaseS lease2).leaseEnd lease2 ∧
    (startS 4000000000).Inv ∧
    (startS 4000000000).win.startEnd = some 4000000000 ∧
    (startS 4000000000).win.startEndAlias = some 4000000001 ∧
    (4000000000 : Nat) ≤ (startS 4000000000).tick ∧
    (startS 4000000000).tick < 4000000001 ∧
    (startS 4000000000).win.startWrites.length = 3 ∧
    (itemS false 3999000000 3999000000).Inv ∧
    (itemS false 3999000000 3999000000).findItem 5 = some (0, witem false 3999000000) ∧
    (itemS false 3999000000 3999000000).overBudget (witem false 3999000000) = true ∧
    (itemS true 3999000000 3999000000).overBudget (witem true 3999000000) = true ∧
    (witem true 3999000000).issued = true ∧
    (witem true 3999000000).expired = false ∧
    (neverS).Inv ∧
    neverS.findItem 5 = some (0, witem true 3999000000) ∧
    neverS.overBudget (witem true 3999000000) = true ∧
    neverS.openTags 5 = [] ∧
    (witem false 3999000000).mids = [(4, 1)] ∧
    (itemS true 3999000000 3999000000).findItem 5 = some (0, witem true 3999000000) ∧
    ((itemS true 3999000000 3999000000).openTags 5).length = 1 ∧
    (itemS true 3999000001 3999000001).overBudget (witem true 3999000001) = false ∧
    (itemS true 3999000001 3999000001).findItem 5 = some (0, witem true 3999000001) ∧
    (settleS 4000000000).Inv ∧
    ((settleS 4000000000).wblk 2).settle = some 4000000000 ∧
    mwf (settleS 4000000000).win.blk ∧
    (settleS 4000000001).tick < 4000000001 := by
  unfold State.Inv
  and_intros <;> decide +kernel

theorem test_LeaseAndWindowTimerRowsComplete :
    (after (.leaseExpire true 0xFFFFFF 3) (leaseS lease1)).win.leases = [] ∧
    (after (.leaseExpire true 0xFFFFFF 3) (leaseS lease2)).win.leases.length = 1 ∧
    (after (.leaseStartWaitEnd false) (startS 4000000000)).startWait false = false ∧
    (after (.leaseStartWaitEnd false) (startS 4000000000)).startWait true = true ∧
    (after (.windowBudgetExpire 5) (itemS false 3999000000 3999000000)).out = [.cxlData 4 (zeros 64) true] ∧
    ((after (.windowBudgetExpire 5) (itemS true 3999000000 3999000000)).wblk 0).settle = some 4001000000 ∧
    (after (.windowBudgetExpire 5) neverS).out.contains (.cxlDone 4) = true ∧
    ((after (.windowBudgetExpire 5) (itemS true 3999000001 3999000001)).wblk 0).settle = none ∧
    (after (.leaseStartWaitEnd false) (startS 4000000000)).win.startWrites.length = 1 ∧
    (after (.windowSettleExpire 2) (settleS 4000000000)).wblk 2 = {} := by
  decide +kernel

/-- Ports 8 to digit 7 and 12 to digit 6 of dimension 0 are UP, with transit entries and pistes through them. -/
def tr : State :=
  let s := (put (pst 6) [(.RTE_PMAP_AVAL, 7, 1), (.RTE_PMAP_PORTA, 7, 8), (.RTE_PMAP_AVAL, 6, 1), (.RTE_PMAP_PORTA, 6, 12), (.RTE_PORT_EN, 12, 1), (.RTE_PORT_DIM, 12, 0), (.RTE_PORT_DIGIT, 12, 6)]).modPort 12
    (fun ps => { ps with st := 6, lanes := [12], limits := [64, 64, 64, 64, 64, 64, 64, 64] })
  { s with rte := { s.rte with transit := [(pisteKey 8 1023, { outPort := 12, outLabel := 5, share := 8, origin := 7, piste := 255 })], pistes := [(254, { st := 1, hops := 1, dest := 6, outPort := 12, share := 8 })] } }
/-- A packet to a coordinate on a channel. -/
def tpkt (dest vc hops : Nat) : Pkt := { dest := dest, src := 7, ptype := 0x07, vc := vc, hops := hops, plabel := 1023, ext := extInv 3 1 9 }
/-- A control packet of pistes. -/
def pctl (ty origin n : Nat) (rest : List Byte) : Pkt := { dest := 5, src := 6, ptype := ty, vc := 7, payload := leBytes 4 origin ++ leBytes 1 n ++ rest ++ zeros (ctlLen ty - 5 - rest.length) }
def psetupK (hops i hop : Nat) : Pkt := pctl 0x81 7 9 (leBytes 1 224 ++ leBytes 1 hops ++ leBytes 1 i ++ leBytes 1 hop ++ leBytes 1 hop)
def inpS (n : Nat) (at_ : Nat) (l : List InPkt) : State := { tr with rte := { tr.rte with inq := [(inKey 8 n, { pkt := tpkt 6 n 0, port := 8, rx := 3999000000, at_ := at_ } :: l)] } }
def pstS (st : Nat) : State := { tr with rte := { tr.rte with pistes := [(254, { st := st, hops := 1, dest := 6, outPort := 12, share := 8 })] } }
/-- Port 12 has no credit on channel 0. -/
def inpE (at_ : Nat) : State := (inpS 0 at_ []).modPort 12 (fun ps => { ps with limits := [0, 64, 64, 64, 64, 64, 64, 64] })

theorem witness_TransitRowsComplete :
    tr.Inv ∧
    tr.ctlFull = false ∧
    ({ tpkt 6 0 0 with ext := [] } : Pkt).legal = false ∧
    ({ psetupK 2 2 0 with payload := [] } : Pkt).legal = false ∧
    ({ psetupK 2 2 0 with payload := [] } : Pkt).ptype = 0x81 ∧
    (inpE 3999999800).heldBack { pkt := tpkt 6 0 0, port := 8, rx := 3999000000, at_ := 3999999800 } = false ∧
    (inpE 3999999800).blockBusy (0x40 + 12 / 8) = false ∧
    (tpkt 6 6 15).legal = true ∧
    15 < (tpkt 6 6 15).hops + 1 ∧
    (tpkt 6 6 14).hops + 1 ≤ 15 ∧
    tr.portIn 8 = true ∧
    (tpkt 5 0 0).legal = true ∧
    (tpkt 5 0 0).isCtl = false ∧
    tr.isLocal (tpkt 5 0 0).dest = true ∧
    (tpkt 5 0 0).redir = false ∧
    mgetD tr.rte.inq (inKey 8 0) [] = [] ∧
    tr.rte.reinj = [] ∧
    tr.isLocal (tpkt 6 0 15).dest = false ∧
    15 < (tpkt 6 0 15).hops + 1 ∧
    (tpkt 6 0 15).legal = true ∧
    (tpkt 6 6 0).legal = true ∧
    (tpkt 6 6 0).vc = 6 ∧
    mget tr.rte.transit (pisteKey 8 (tpkt 6 6 0).plabel) = some { outPort := 12, outLabel := 5, share := 8, origin := 7, piste := 255 } ∧
    mwf tr.rte.transit ∧
    ({ tpkt 5 1 0 with ptype := 0x40, tag := 131071 } : Pkt).legal = true ∧
    ({ tpkt 5 1 0 with ptype := 0x40, tag := 131071 } : Pkt).isResp = true ∧
    ({ tpkt 5 1 0 with ptype := 0x40, tag := 131071 } : Pkt).isCtl = false ∧
    placeOf { tpkt 5 1 0 with ptype := 0x40, tag := 131071 } = 13 ∧
    (mgetD (inpS 0 3999999800 []).rte.inq (inKey 8 0) []).length = 1 ∧
    (inpS 0 3999999801 []).tick < 3999999801 + (inpS 0 3999999801 []).fld .RTE_CTL_ESCWAIT ∧
    3999999800 + (inpE 3999999800).fld .RTE_CTL_ESCWAIT = (inpE 3999999800).tick ∧
    (inpE 3999999800).route { pkt := tpkt 6 0 0, port := 8, rx := 3999000000, at_ := 3999999800 } = .send 12 2 (tpkt 6 0 0) true false ∧
    (inpE 3999999800).portIn 8 = true ∧
    (tpkt 6 0 0).vc ≠ 4 ∧
    (psetupK 2 2 0).legal = true ∧
    (psetupK 2 2 0).ptype = 0x81 ∧
    bits (pay (psetupK 2 2 0) 6 1) 0 4 ≤ bits (pay (psetupK 2 2 0) 7 1) 0 4 ∧
    bits (pay (psetupK 2 0 24) 7 1) 0 4 < bits (pay (psetupK 2 0 24) 6 1) 0 4 ∧
    pathHop (psetupK 2 0 24) 0 = (0, 6) ∧
    (put tr [(.RTE_PCAP_CAP, 0, 255)]).pistePort 0 6 (pay (psetupK 2 0 24) 5 1) = some 12 ∧
    tr.pistePort 1 0 224 = none ∧
    pathHop (psetupK 2 1 1) 1 = (1, 0) ∧
    tr.portIn 12 = true ∧
    bits (pay (pctl 0x82 5 254 []) 0 4) 0 20 = tr.own ∧
    pay (pctl 0x82 5 254 []) 4 1 = 254 ∧
    mget tr.rte.pistes 254 = some { st := 1, hops := 1, dest := 6, outPort := 12, share := 8 } ∧
    mwf tr.rte.pistes ∧
    (pctl 0x82 5 254 []).legal = true ∧
    (pctl 0x83 5 254 []).legal = true ∧
    (pctl 0x84 5 254 []).legal = true ∧
    bitAt (pay (pctl 0x84 5 254 []) 8 1) 0 = false ∧
    mget (pstS 2).rte.pistes 254 = some { st := 2, hops := 1, dest := 6, outPort := 12, share := 8 } ∧
    bits (pay (pctl 0x82 7 255 []) 0 4) 0 20 ≠ tr.own ∧
    tr.entryOut 12 7 255 = some (pisteKey 8 1023, { outPort := 12, outLabel := 5, share := 8, origin := 7, piste := 255 }) ∧
    (pctl 0x82 7 255 []).legal = true ∧
    (pctl 0x83 7 255 []).legal = true ∧
    (pctl 0x84 7 255 []).legal = true := by
  unfold State.Inv
  and_intros <;> decide +kernel

theorem test_TransitRowsComplete :
    (after (.transitPacket 8 (tpkt 6 6 15)) tr).fld .RTE_HOPLIM_COUNT = 1 ∧
    (after (.transitPacket 8 { tpkt 6 0 0 with ext := [] }) tr).fld .FLK_PLINK_BADPKT 8 = 1 ∧
    (after (.transitPacket 8 (tpkt 6 0 15)) tr).fld .RTE_HOPLIM_COUNT = 1 ∧
    (after (.escwaitExpire 8 0) (inpE 3999999800)).fld .RTE_ESC_COUNT = 1 ∧
    (mget (after (.pconfirm 12 (pctl 0x82 5 254 (zeros 3 ++ leBytes 2 9))) tr).rte.pistes 254).map (fun y => (y.st, y.outLabel)) = some (2, 9) ∧
    mget (after (.preject 12 (pctl 0x83 5 254 [])) tr).rte.pistes 254 = none ∧
    (mget (after (.pbreak 12 (pctl 0x84 5 254 [])) (pstS 2)).rte.pistes 254).map Piste.st = some 3 ∧
    (after (.preject 12 (pctl 0x83 7 255 [])) tr).rte.transit = [] ∧
    (after (.pbreak 12 (pctl 0x84 7 255 [])) tr).rte.transit = [] ∧
    (mget (after (.pconfirm 12 (pctl 0x82 7 255 (zeros 3 ++ leBytes 2 9))) tr).rte.transit (pisteKey 8 1023)).map TransitEnt.outLabel = some 9 := by
  decide +kernel

/-- A state whose control stop holds `n` packets. -/
def stopped (s : State) (n : Nat) : State := { s with rte := { s.rte with deliver := List.replicate n { pkt := {}, port := 72, rx := 0, at_ := 0, place := 18 } } }

theorem stopped_keeps :
    (∀ (s : State) (n : Nat), (s.Inv → (stopped s n).Inv) ∧ (s.portIn 8 = true → (stopped s n).portIn 8 = true)) := fun _ _ => ⟨fun h => h, fun h => h⟩

theorem witness_control_stop :
    (∃ s : State, s.Inv ∧ s.portIn 8 = true ∧ s.ctlFull = true) := by
  refine ⟨stopped tr (Config.ctlRoom + 1), (stopped_keeps _ _).1 ?_, (stopped_keeps _ _).2 ?_, ?_⟩
  · unfold State.Inv
    decide +kernel
  · decide +kernel
  · simp [State.ctlFull, stopped]

theorem witness_free_label :
    (∃ l, tr.freeLabel 8 = some l) := by
  unfold State.freeLabel
  rw [if_neg (by decide +kernel)]
  dsimp only
  split
  · exact ⟨_, rfl⟩
  · exact ⟨_, rfl⟩

/-- A control packet of the cell from device 6 or to it. -/
def cell (ty dest : Nat) (b : List Byte) : Pkt := { dest := dest, src := 6, ptype := ty, vc := 7, payload := b ++ zeros (ctlLen ty - b.length) }
def aliasK (dg on : Nat) : Pkt := { cell 0x88 5 (leBytes 4 (setDigit 5 0 9) ++ leBytes 1 dg ++ leBytes 1 on) with src := 7 }
def asking : State := { tr with lck := { tr.lck with notices := [{ num := 8, all := true, func := 0, first := 3999990000, last := 3999990000 }], probes := [(6, (8, 3999800000))], applied := [(6, (2, 77))] }, rte := { tr.rte with rows := [(6, (some 5, 0))] } }

theorem witness_CellControlRowsComplete :
    asking.Inv ∧
    asking.ctlFull = false ∧
    asking.portIn 8 = true ∧
    asking.portIn 12 = true ∧
    (cell 0x80 5 (leBytes 4 6)).legal = true ∧
    later 6 (some 5) = true ∧
    (mget asking.rte.rows 6).elim none (fun r => r.1) = some 5 ∧
    later 5 (some 5) = false ∧
    later (2 ^ 31 + 5) (some 5) = false ∧
    later (2 ^ 31 + 4) (some 5) = true ∧
    (cell 0x85 5 []).legal = true ∧
    (cell 0x85 5 []).ptype = 0x85 ∧
    asking.isLocal 5 = true ∧
    asking.isLocal 6 = false ∧
    (cell 0x86 6 []).legal = true ∧
    (cell 0x87 6 []).legal = true ∧
    (cell 0x86 5 (leBytes 4 8 ++ [1])).legal = true ∧
    bitAt (pay (cell 0x86 5 (leBytes 4 8 ++ [1])) 4 1) 0 = true ∧
    bitAt (pay (cell 0x86 5 (leBytes 4 8)) 4 1) 0 = false ∧
    mget asking.lck.probes 6 = some (8, 3999800000) ∧
    mwf asking.lck.probes ∧
    mget asking.lck.applied 6 = some (pay (cell 0x87 5 [0, 2, 0, 0, 77]) 1 1, pay (cell 0x87 5 [0, 2, 0, 0, 77]) 4 4) ∧
    mget asking.lck.applied 6 ≠ some (pay (cell 0x87 5 [0, 2, 0, 0, 78]) 1 1, pay (cell 0x87 5 [0, 2, 0, 0, 78]) 4 4) ∧
    (aliasK 5 1).legal = true ∧
    bits (pay (aliasK 5 1) 4 1) 0 5 = digit asking.own 0 ∧
    bitAt (pay (aliasK 5 1) 5 1) 0 = true ∧
    bitAt (pay (aliasK 5 0) 5 1) 0 = false ∧
    bits (pay (aliasK 17 1) 4 1) 0 5 ≠ digit asking.own 0 := by
  unfold State.Inv
  and_intros <;> decide +kernel

theorem test_CellControlRowsComplete :
    mget (after (.lnotice 12 (cell 0x80 5 (leBytes 4 6))) asking).rte.rows 6 = some (some 6, 0) ∧
    mget (after (.lnotice 12 (cell 0x80 5 (leBytes 4 5))) asking).rte.rows 6 = some (some 5, 0) ∧
    (after (.lanswer 12 (cell 0x86 5 (leBytes 4 8 ++ [1]))) asking).lck.notices.map Oreset.answered = [[6]] ∧
    mget (after (.lanswer 12 (cell 0x86 5 (leBytes 4 8))) asking).lck.probes 6 = none ∧
    mget (after (.oreset 12 (cell 0x87 5 [1, 2, 0, 0, 78])) asking).lck.applied 6 = some (2, 78) ∧
    (after (.aliasPkt 12 (aliasK 5 1)) asking).mir.aliasedAt = some 4000000000 ∧
    (after (.aliasPkt 12 (aliasK 17 1)) asking).flag .RTE_ALIAS_VALID 17 = true ∧
    (after (.aliasPkt 12 (aliasK 17 0)) (put asking [(.RTE_ALIAS_VALID, 17, 1)])).flag .RTE_ALIAS_VALID 17 = false := by
  decide +kernel

def pisteT (st t : Nat) : State := { tr with rte := { tr.rte with lastRefresh := 3999900000, pistes := [(255, { st := st, since := t })] } }
def annS (on : Bool) (f l : Nat) : State := { up with rte := { up.rte with annSet := some on, annFirst := f, annLast := l, annDigit := 6 }, mir := { up.mir with aliasedAt := some l } }

theorem witness_RoutingTimerRowsComplete :
    (pisteT 1 3990000000).Inv ∧
    (pisteT 1 3990000000).rte.lastRefresh + 100000 = (pisteT 1 3990000000).tick ∧
    ({ pisteT 1 0 with rte := { tr.rte with lastRefresh := 3999900001 } } : State).tick < 3999900001 + 100000 ∧
    mget (pisteT 1 3990000000).rte.pistes 255 = some { st := 1, since := 3990000000 } ∧
    mwf (pisteT 1 3990000000).rte.pistes ∧
    3990000000 + 10000000 = (pisteT 1 3990000000).tick ∧
    mget (pisteT 4 3990000001).rte.pistes 255 = some { st := 4, since := 3990000001 } ∧
    (pisteT 4 3990000001).tick < 3990000001 + 10000000 ∧
    asking.lck.notices = [{ num := 8, all := true, func := 0, first := 3999990000, last := 3999990000 }] ∧
    (3999990000 : Nat) + 10000 = asking.tick ∧
    mget asking.lck.probes 6 = some (8, 3999800000) ∧
    3999800000 + asking.fld .LCK_DEADWIN_WIN = asking.tick ∧
    (annS true 3000000000 3999000000).Inv ∧
    (annS true 3000000000 3999000000).rte.annSet = some true ∧
    (annS true 3000000000 3999000000).rte.annLast + 1000000 = (annS true 3000000000 3999000000).tick ∧
    (annS true 3999500000 3999900000).tick < (annS true 3999500000 3999900000).rte.annFirst + 1000000 ∧
    (annS true 3999500000 3999900000).rte.annLast + 100000 = (annS true 3999500000 3999900000).tick ∧
    (annS true 3999500000 3999900001).tick < (annS true 3999500000 3999900001).rte.annLast + 100000 ∧
    (annS false 3999000000 3999000000).rte.annFirst + 1000000 = (annS false 3999000000 3999000000).tick ∧
    (annS true 0 3997000000).mir.aliasedAt = some 3997000000 ∧
    3997000000 + 3000000 = (annS true 0 3997000000).tick ∧
    (annS true 0 3997000001).tick < 3997000001 + 3000000 ∧
    mget (pisteT 4 3990000000).rte.pistes 255 = some { st := 4, since := 3990000000 } ∧
    (pisteT 4 3990000000).Inv := by
  unfold State.Inv
  decide +kernel

theorem test_RoutingTimerRowsComplete :
    (after .lnoticeRefresh (pisteT 1 3990000000)).rte.lineSeq = 4 ∧
    (after (.pisteSetupTimeout 255) (pisteT 1 3990000000)).rte.pistes = [] ∧
    (after (.pisteTeardownTimeout 255) (pisteT 4 3990000000)).rte.pistes = [] ∧
    (after .oresetRepeat asking).lck.notices.map Oreset.last = [4000000000] ∧
    (after (.livenessTimeout 6) asking).lck.probes = [] ∧
    (after .aliasRepeat (annS false 3999000000 3999000000)).rte.annSet = none ∧
    (after .aliasRepeat (annS true 3000000000 3999000000)).rte.annLast = 4000000000 ∧
    (after .aliasedTimeout (annS true 0 3997000000)).mir.aliasedAt = none := by
  decide +kernel

/-- An admin command of function 0 with CID 9: opcode, OBJECT, and values at bytes. -/
def adm (op obj : Nat) (l : List (Nat × Nat)) : AdminCmd :=
  { func := 0, raw := BitVec.ofNat 512 (op + 2 ^ 16 * 9 + 2 ^ 32 * obj + (l.map (fun x => 2 ^ (8 * x.1) * x.2)).sum) }
/-- Ports 8 and 12 are UP, queue 7 in a state, queue 262143 not configured. -/
def qst (st : WqState) : State := tr.modWq 7 (fun w => { w with configured := true, st := st, base := 0x10000, cq := 9, eq := 3, head := 10, fidx := 10, tail := 11 }) |>.modCq 9 (fun c => { c with configured := true, eq := 3 }) |>.modEq 3 (fun e => { e with configured := true })
def cfgWq : AdminCmd := adm 1 262143 [(8, 0x7000), (16, 16), (18, 4), (20, 9), (24, 3), (26, 1), (28, 5), (32, 0x88), (40, 3), (42, 4)]

theorem witness_WorkQueueCommandRowsComplete :
    (qst .active).Inv ∧
    (qst .active).wqTakes 1 cfgWq 262143 ∧
    (qst .active).cqOf 0 (cfgWq.raw.at_ 20 2) = some 9 ∧
    (qst .active).eqOf 0 (cfgWq.raw.at_ 24 2) = some 3 ∧
    wqParamsOk cfgWq.raw = true ∧
    ((qst .active).wq 262143).st = .disabled ∧
    ((qst .active).cq 9).configured = true ∧
    ((qst .active).eq 3).configured = true ∧
    (qst .active).queueReady 262143 9 3 = true ∧
    (qst .active).meetsTwin TwinParams.wqBase TwinParams.wqCount 262143 1 = false ∧
    (qst .disabled).wqTakes 2 (adm 2 7 []) 7 ∧
    ((qst .disabled).wq 7).st = .disabled ∧
    ((qst .disabled).wq 7).configured = true ∧
    (qst .disabled).queueReady 7 9 3 = true ∧
    ((qst .disabled).wq 7).hasWork = true ∧
    (qst .disabled).qmg.parked.all (fun x => x.2 != 7) = true ∧
    (qst .active).wqTakes 3 (adm 3 7 []) 7 ∧
    (qst .suspended).wqTakes 3 (adm 3 7 []) 7 ∧
    mwf (qst .active).qmg.run ∧
    ((qst .draining).wq 7).st = .draining ∧
    (qst .draining).allDone 7 = true ∧
    ((qst .active).wq 7).st ≠ .draining ∧
    ({ qst .draining with qmg := { (qst .draining).qmg with cq := [(9, { configured := true, held := [{ gwq := 7, wq := 7, wqidx := 10, opcode := 0 }] })] } } : State).allDone 7 = false ∧
    (qst .error).wqTakes 4 (adm 4 7 []) 7 ∧
    ((qst .error).wq 7).st = .error ∧
    (qst .active).wqTakes 5 (adm 5 7 []) 7 ∧
    (qst .suspended).wqTakes 6 (adm 6 7 []) 7 ∧
    (qst .active).wqTakes 7 (adm 7 7 []) 7 ∧
    (qst .active).wqTakes 8 (adm 8 7 [(8, 3), (10, 3)]) 7 ∧
    (adm 8 7 [(8, 3), (10, 3)]).raw.at_ 8 2 ≤ (adm 8 7 [(8, 3), (10, 3)]).raw.at_ 10 2 := by
  unfold State.Inv State.wqTakes State.adminOk
  and_intros <;> decide +kernel

theorem test_WorkQueueCommandRowsComplete :
    (after (.configWq cfgWq) (qst .active)).wq 262143 = { configured := true, base := 0x7000, log2 := 16, asid := 4, cq := 9, eq := 3, headwb := true, hwaddr := 0x88, rate := 3, burst := 4, start := 5, head := 5, fidx := 5, tail := 5, reserved := 5 } ∧
    ((after (.enableWq (adm 2 7 [])) (qst .disabled)).wq 7).st = .active ∧
    ((after (.disableWq (adm 3 7 [])) (qst .active)).wq 7).st = .disabled ∧
    ((after (.drainComplete 7) (qst .draining)).wq 7).st = .disabled ∧
    ((after (.resetWq (adm 4 7 [])) (qst .error)).wq 7).st = .disabled ∧
    ((after (.suspendWq (adm 5 7 [])) (qst .active)).wq 7).st = .suspended ∧
    ((after (.resumeWq (adm 6 7 [])) (qst .suspended)).wq 7).st = .active ∧
    ((after (.setShaper (adm 8 7 [(8, 3), (10, 3)])) (qst .active)).wq 7).newShape = some (3, 3) := by
  decide +kernel

def cfgCq : AdminCmd := adm 9 65535 [(8, 0x7000), (16, 20), (20, 3)]
def cfgEq : AdminCmd := adm 10 2047 [(8, 0x7000), (16, 16), (20, 2047)]
def allot : AdminCmd := adm 0x10 63 [(8, 258048), (12, 4096), (14, 64512), (16, 1024), (18, 2016), (20, 32), (24, 2 ^ 24)]
def idle0 : State := { up with host := { up.host with vfs := 0 } }
def regCmd : AdminCmd := adm 0x11 0xFFFFFF [(8, 0x7000), (16, 2 ^ 48), (24, 65535), (26, 31), (27, 15), (28, 2 ^ 32 - 1)]
def regS (st : RgnState) (inf : Nat) : State := { up with tgt := { up.tgt with regions := [(12, { base := 0x7000, pages := 15, st := st, gen := 255, rights := 31, check := 7, inflight := inf, revoke := if st = .revoking then some (0, 9) else none, recorded := 3 })] } }

/-- Region 12 is being revoked, and a walk of its ASID, held over by flush 4, goes on. -/
def flushS (f : Option Nat) : State := let s := regS .revoking 0
  { s with xlt := { s.xlt with next := 9, walks := [(3, { acc := .payload 7, func := 0, asid := 0, va := 0x7000, write := false, target := false, kr := 0, phase := .asid 0, inv := [4] })] }
           tgt := { s.tgt with regions := s.tgt.regions.map (fun x => (x.1, { x.2 with flush := f })) } }

theorem witness_QueueAndRegionCommandRowsComplete :
    (qst .active).Inv ∧
    (qst .active).adminOk cfgCq false (qst .active).poolReady [(8, 9), (20, 2)] ∧
    (qst .active).cqOf 0 cfgCq.raw.object = some 65535 ∧
    (qst .active).eqOf 0 (cfgCq.raw.at_ 20 2) = some 3 ∧
    (qst .active).dstate = true ∧
    cfgCq.raw.at_ 8 8 % 4096 = 0 ∧
    6 ≤ cfgCq.raw.at_ 16 1 ∧
    cfgCq.raw.at_ 16 1 ≤ 20 ∧
    (∀ x ∈ (qst .active).qmg.wq, x.2.st = .disabled ∨ x.2.cq ≠ 65535) ∧
    (qst .active).meetsTwin TwinParams.cqBase TwinParams.cqCount 65535 1 = false ∧
    (qst .active).adminOk cfgEq false (qst .active).poolReady [(8, 9), (20, 2)] ∧
    (qst .active).eqOf 0 cfgEq.raw.object = some 2047 ∧
    4 ≤ cfgEq.raw.at_ 16 1 ∧
    cfgEq.raw.at_ 16 1 ≤ 16 ∧
    3 ≤ cfgEq.raw.at_ 20 2 ∧ cfgEq.raw.at_ 20 2 ≤ 2047 ∧
    (∀ x ∈ (qst .active).qmg.cq, x.2.configured = false ∨ x.2.eq ≠ 2047) ∧
    (∀ x ∈ (qst .active).qmg.wq, x.2.st = .disabled ∨ x.2.eq ≠ 2047) ∧
    (qst .active).meetsTwin TwinParams.eqBase TwinParams.eqCount 2047 1 = false ∧
    idle0.Inv ∧
    idle0.adminOk allot true idle0.poolReady [(8, 13), (24, 4)] ∧
    allot.raw.object = 63 ∧
    allot.raw.at_ 8 4 = 258048 ∧
    allot.raw.at_ 18 2 = 2016 ∧
    allot.raw.at_ 12 2 = 4096 ∧
    allot.raw.at_ 8 4 + allot.raw.at_ 12 2 ≤ 262144 ∧
    allot.raw.at_ 14 2 + allot.raw.at_ 16 2 ≤ 65536 ∧
    allot.raw.at_ 18 2 + allot.raw.at_ 20 1 ≤ 2048 ∧
    allot.raw.at_ 24 4 ≤ 2 ^ 24 ∧
    idle0.allotClash .QMG_VFWQ_BASE .QMG_VFWQ_COUNT 63 258048 4096 = false ∧
    idle0.allotClash .QMG_VFCQ_BASE .QMG_VFCQ_COUNT 63 64512 1024 = false ∧
    idle0.allotClash .QMG_VFEQ_BASE .QMG_VFEQ_COUNT 63 2016 32 = false ∧
    idle0.host.vfs = 0 ∧
    idle0.qmg.wq = [] ∧
    idle0.twinClosed = false ∧
    up.Inv ∧
    up.adminOk regCmd false up.gddrReady [(8, 24)] ∧
    regCmd.raw.object < 2 ^ 24 ∧
    up.objBusy [0x12] (tableKey up.asel regCmd.raw.object) = false ∧
    (regS .valid 3).objBusy [0x12] 12 = false ∧
    regCmd.raw.at_ 16 8 ≠ 0 ∧
    regCmd.raw.at_ 16 8 % 4096 = 0 ∧
    regCmd.raw.at_ 16 8 ≤ 2 ^ 48 ∧
    regCmd.raw.at_ 26 1 < 32 ∧
    regCmd.raw.at_ 27 1 < 16 ∧
    regCmd.raw.at_ 28 4 ≠ 0 ∧
    (up.region (tableKey up.asel regCmd.raw.object)).lastCheck ≠ some (regCmd.raw.at_ 28 4) ∧
    (up.region (tableKey up.asel regCmd.raw.object)).st = .free ∧
    (regS .valid 3).Inv ∧
    (regS .valid 3).adminOk (adm 0x12 12 [(8, 255)]) false (regS .valid 3).gddrReady [(8, 1)] ∧
    ((regS .valid 3).region 12).st = .valid ∧
    (adm 0x12 12 [(8, 255)]).raw.at_ 8 1 = ((regS .valid 3).region 12).gen ∧
    ((regS .revoking 0).region 12).st = .revoking ∧
    ((regS .revoking 0).region 12).inflight = 0 ∧
    (regS .revoking 0).regionLeases 12 = [] ∧
    ((regS .revoking 0).region 12).flush = none ∧
    ((regS .revoking 0).xltDiscard 0 false 0 0x7000 65536).2.xltWaits (regS .revoking 0).xlt.next = false ∧
    ((regS .revoking 0).region 12).size = 65536 ∧
    (flushS none).Inv ∧
    ((flushS none).region 12).flush = none ∧
    (flushS none).regionLeases 12 = [] ∧
    ((flushS none).xltDiscard 0 false 0 0x7000 65536).2.xltWaits (flushS none).xlt.next = true ∧
    ((flushS (some 4)).region 12).flush = some 4 ∧
    (flushS (some 4)).xltWaits 4 = true ∧
    ((flushS (some 5)).region 12).flush = some 5 ∧
    (flushS (some 5)).xltWaits 5 = false ∧
    (flushS (some 5)).Inv ∧
    (flushS (some 4)).Inv ∧
    ((regS .revoking 1).region 12).inflight ≠ 0 ∧
    (regS .valid 3).adminOk (adm 0x13 12 [(8, 0x60)]) false (regS .valid 3).gddrReady [(8, 8)] ∧
    (adm 0x13 12 [(8, 0x60)]).raw.at_ 8 8 % 32 = 0 := by
  unfold State.Inv State.adminOk
  and_intros <;> decide +kernel

theorem test_QueueAndRegionCommandRowsComplete :
    (after (.configCq cfgCq) (qst .active)).cq 65535 = { configured := true, base := 0x7000, log2 := 20, eq := 3 } ∧
    (after (.configEq cfgEq) (qst .active)).eq 2047 = { configured := true, base := 0x7000, log2 := 16, vector := 2047 } ∧
    (after (.setVfAllot allot) idle0).fld .QMG_VFWQ_COUNT 63 = 4096 ∧
    (after (.setVfAllot allot) idle0).fld .QMG_VFRGN_QUOTA 63 = 2 ^ 24 ∧
    ((after (.registerRegion regCmd) up).region 0xFFFFFF).pages = 2 ^ 36 - 1 ∧
    ((after (.registerRegion regCmd) up).region 0xFFFFFF).pkey = 15 ∧
    ((after (.revokeRegion (adm 0x12 12 [(8, 255)])) (regS .valid 3)).region 12).recorded = 3 ∧
    ((after (.revokeComplete 12) (regS .revoking 0)).region 12).gen = 1 ∧
    ((after (.revokeComplete 12) (regS .revoking 1)).region 12).gen = 255 ∧
    ((after (.revokeComplete 12) (flushS none)).region 12).flush = some 9 ∧
    ((after (.revokeComplete 12) (flushS (some 4))).region 12).st = .revoking ∧
    ((after (.revokeComplete 12) (flushS (some 5))).region 12).st = .free ∧
    (after (.queryRegion (adm 0x13 12 [(8, 0x60)])) (regS .valid 3)).byte 0x61 = 0x70 := by
  decide +kernel

/-- Host memory holds one map entry at 0x100 and one member list at 0x200. -/
def memS : State := (up.write 0x100 (leBytes 8 0xABCD00000100000C ++ leBytes 4 (6 + 2 ^ 20) ++ zeros 4)).write 0x200 (leBytes 4 4 ++ leBytes 4 5 ++ leBytes 4 7)
def mapCmd : AdminCmd := adm 0x18 0xFFFFFF [(8, 0x100), (16, 1)]
def unmapS : State := { up with win := { up.win with map := [(3, wEnt true true), (9, wEnt true true)], unmaps := [{ func := 0, cid := 9, first := 40, count := 2, ids := [5] }], blk := [(0, { items := [{ witem true 0 with entNo := 3 }] })] } }
def wk8 : Walk := { acc := .payload 7, func := 0, asid := 4, va := 0, write := false, target := false, kr := 0, phase := .asid 0, inv := [8] }
def turn8 : Turn := { engine := 7, left := 1, wait := .payload, inv := [8] }
def invQ : State := (xon qs).modWq 7 (fun w => { w with asid := 4, turn := some turn8 })
def invS (q w : Bool) : State := let s := if q then invQ else xon up; { s with xlt := { s.xlt with walks := if w then [(3, wk8)] else [],  wcache := [(1, { func := 0, asid := 4, level := 5, prefix_ := 0, table := 0, top := 0, at_ := 4000000000 })], invals := [{ id := 8, func := 2, cid := 9, all := false, asid := 1, count := 2 }] } }

theorem witness_WindowAndTranslationCommandRowsComplete :
    memS.Inv ∧
    memS.adminOk mapCmd true memS.gddrReady [(8, 12)] ∧
    mapCmd.raw.object + mapCmd.raw.at_ 16 4 ≤ 2 ^ 24 ∧
    mapCmd.raw.at_ 8 8 % 16 = 0 ∧
    memS.mapBusy 0xFFFFFF 1 = false ∧
    memS.mapEntries (mapCmd.raw.at_ 8 8) 1 = some [wEnt false false] ∧
    memS.win.map = [] ∧
    memS.meetsTwin TwinParams.mapBase TwinParams.mapCount 0xFFFFFF 1 = false ∧
    unmapS.Inv ∧
    unmapS.adminOk (adm 0x19 3 [(16, 1)]) true unmapS.gddrReady [(16, 4)] ∧
    unmapS.mapBusy 3 1 = false ∧
    mwf unmapS.win.map ∧
    unmapS.win.unmaps.find? (fun u => u.first == 40) = some { func := 0, cid := 9, first := 40, count := 2, ids := [5] } ∧
    [5].any (fun i => (unmapS.win.blk.flatMap (fun kv => kv.2.items.map WItem.id)).contains i) = true ∧
    [5].any (fun i => ([] : List Nat).contains i) = false ∧
    (invS false false).Inv ∧
    (invS false false).adminOk (adm 0x20 4 []) false (invS false false).poolReady [(8, 16)] ∧
    bits (adm 0x20 4 []).raw.object 16 15 = 0 ∧
    bitAt (adm 0x20 4 []).raw.object 31 = false ∧
    (invS false false).invalBusy 0 false 4 = false ∧
    (invS false false).adminOk (adm 0x20 0 [(8, 0x1000), (16, 2 ^ 57 - 0x1000)]) false (invS false false).poolReady [(8, 16)] ∧
    (0x1000 : Nat) + (2 ^ 57 - 0x1000) ≤ 2 ^ 57 ∧
    (invS false false).adminOk (adm 0x20 (2 ^ 31) []) false (invS false false).poolReady [(8, 16)] ∧
    (invS false false).invalBusy 0 true 0 = false ∧
    ((invS false false).xlt.invals.find? (fun x => x.id == 8)).isSome = true ∧
    (invS false false).xltWaits 8 = false ∧
    (invS true false).xltWaits 8 = true ∧
    (invS false true).xltWaits 8 = true ∧
    (invS true true).adminOk (adm 0x20 4 []) false (invS true true).poolReady [(8, 16)] ∧
    (invS true true).Inv ∧
    (invS true true).invalBusy 0 false 4 = false ∧
    mget (invS true true).xlt.walks 3 = some wk8 ∧
    ((invS true true).wq 7).turn = some turn8 ∧
    ((invS true true).wq 7).asid = 4 := by
  unfold State.Inv State.adminOk
  and_intros <;> decide +kernel

theorem test_WindowAndTranslationCommandRowsComplete :
    mget (after (.mapWindow mapCmd .ok) memS).win.map 0xFFFFFF = some (wEnt false false) ∧
    (after (.unmapWindow (adm 0x19 3 [(16, 1)])) unmapS).win.map.map Prod.fst = [9] ∧
    ((after (.unmapWindow (adm 0x19 3 [(16, 1)])) unmapS).win.unmaps.map Unmap.ids) = [[5], [5]] ∧
    (after (.unmapWindowComplete 40) unmapS).win.unmaps.length = 1 ∧
    (after (.invalidateXlt (adm 0x20 4 [])) (invS false false)).xlt.wcache = [] ∧
    (after (.invalidateXlt (adm 0x20 4 [])) (invS false false)).xlt.cache.length = 1 ∧
    (after (.invalidateXlt (adm 0x20 0 [(8, 0x1000), (16, 0x1000)])) (invS false false)).xlt.cache = [] ∧
    (after (.invalidateXltComplete 8) (invS false false)).xlt.invals = [] ∧
    (after (.invalidateXltComplete 8) (invS true false)).xlt.invals.length = 1 ∧
    (after (.invalidateXltComplete 8) (invS false true)).xlt.invals.length = 1 ∧
    (mget (after (.invalidateXlt (adm 0x20 4 [])) (invS true true)).xlt.walks 3).map Walk.inv = some [1, 8] ∧
    ((after (.invalidateXlt (adm 0x20 4 [])) (invS true true)).wq 7).turn.map Turn.inv = some [1, 8] := by
  decide +kernel

def setCmd : AdminCmd := adm 0x28 4095 [(8, 0x200), (16, 3), (20, 4), (24, 0), (25, 5), (26, 32), (27, 7), (28, 77), (32, 8), (40, 104975), (58, 63)]
def pisteCmd (h : Nat) : AdminCmd := adm 0x30 255 ([(8, 6), (12, 224), (13, h), (14, 63)] ++ (if h = 0 then [] else [(16, 4 * 6)]))
def lockCmd (on : Nat) : AdminCmd := adm 0x38 0xFFFFFE [(8, 2), (12, on)]
def cap (s : State) : State := put { s with rte := { s.rte with rows := [(5, (some 1, 2 ^ 6 - 1 + 2 ^ 6)), (6, (some 1, 2 ^ 18 - 1))] } } [(.RTE_PCAP_CAP, 0, 255)]

theorem witness_CollectivePisteAndLockCommandRowsComplete :
    memS.Inv ∧
    memS.adminOk setCmd true memS.fwReady [(8, 51)] ∧
    memS.objBusy [0x28] 4095 = false ∧
    (memS.ctx 4095).st = .free ∧
    collParamsOk setCmd.raw = true ∧
    memS.memberList (setCmd.raw.at_ 8 8) (setCmd.raw.at_ 16 4) = [4, 5, 7] ∧
    rising [4, 5, 7] = true ∧
    [4, 5, 7].all memS.valid = true ∧
    memS.own = 5 ∧
    setCmd.raw.at_ 20 4 = 4 ∧
    setCmd.raw.at_ 24 1 ≠ 3 ∧
    (waitC 0).Inv ∧
    ({ up with col := [(3, { cctx 0 with st := .setting })] } : State).Inv ∧
    (({ up with col := [(3, { cctx 0 with st := .setting })] } : State).ctx 3).st = .setting ∧
    (colS 0).adminOk (adm 0x29 3 []) true (colS 0).gddrReady [] ∧
    ((colS 0).ctx 3).st = .set ∧
    (colS 0).objBusy [0x28, 0x29] 3 = false ∧
    (({ up with col := [(3, { cctx 0 with st := .teardown })] } : State).ctx 3).st = .teardown ∧
    (({ up with col := [(3, { cctx 0 with st := .teardown })] } : State).ctx 3).flight = [] ∧
    (({ up with col := [(3, { cctx 0 with st := .teardown })] } : State).ctx 3).insts = [] ∧
    (({ up with col := [(3, { cctx 0 with st := .teardown, insts := [{ n := 0 }] })] } : State).ctx 3).insts ≠ [] ∧
    mwf ({ up with col := [(3, { cctx 0 with st := .teardown })] } : State).col ∧
    (({ up with col := [(3, { cctx 3 with st := .teardown, flight := [con 0] })] } : State).ctx 3).flight ≠ [] ∧
    (cap tr).Inv ∧
    (cap tr).adminOk (pisteCmd 1) true (cap tr).fwReady [(8, 7), (16, 8)] ∧
    mget (cap tr).rte.pistes 255 = none ∧
    (cap tr).valid ((pisteCmd 1).raw.at_ 8 4) = true ∧
    (pisteCmd 1).raw.at_ 8 4 ≠ (cap tr).own ∧
    (pisteCmd 1).raw.at_ 12 1 = 224 ∧
    (pisteCmd 1).raw.at_ 13 1 ≤ 8 ∧
    (pisteCmd 1).raw.at_ 14 1 < 64 ∧
    (∀ i, i < 8 → if i < (pisteCmd 1).raw.at_ 13 1 then (pisteCmd 1).raw.at_ (16 + i) 1 < 128 else (pisteCmd 1).raw.at_ (16 + i) 1 = 0) ∧
    givenPath (pisteCmd 1).raw 1 = [(0, 6)] ∧
    pathEnd ((cap tr).rdRaw .GEN_SHAPE) 6 [(0, 6)] (cap tr).own 0 0 = some 6 ∧
    (cap tr).pistePort 0 6 224 = some 12 ∧
    (cap tr).choosePath 6 = some [(0, 6)] ∧
    (pisteCmd 0).raw.at_ 13 1 = 0 ∧
    (pstS 2).Inv ∧
    (pstS 2).adminOk (adm 0x31 254 []) true (pstS 2).gddrReady [] ∧
    (pstS 2).objBusy [0x30, 0x31] 254 = false ∧
    mget (pstS 3).rte.pistes 254 = some { st := 3, hops := 1, dest := 6, outPort := 12, share := 8 } ∧
    mwf (pstS 2).rte.pistes ∧
    up.Inv ∧
    up.adminOk (lockCmd 1) true up.gddrReady [(8, 5)] ∧
    (lockCmd 1).raw.at_ 12 1 = b2n true ∧
    up.lockRangeIs 0xFFFFFE 2 .disabled = true ∧
    (lockCmd 1).raw.object + (lockCmd 1).raw.at_ 8 4 ≤ 2 ^ 24 ∧
    ({ up with lck := { up.lck with words := [(0xFFFFFE, { st := .free }), (0xFFFFFF, { st := .free })] } } : State).lockRangeIs 0xFFFFFE 2 .free = true ∧
    (lockCmd 0).raw.at_ 12 1 = b2n false ∧
    (lockHeld []).Inv ∧
    (lockHeld []).adminOk (adm 0x39 0xFFFFFF []) true (lockHeld []).gddrReady [] ∧
    ((lockHeld []).lock 0xFFFFFF).st = .held ∧
    ((lockHeld []).lock 0xFFFFFF).line = [] ∧
    ((lockHeld [{ coord := 7, func := 1, wq := 2, wqidx := 3 }]).lock 0xFFFFFF).line ≠ [] := by
  unfold State.Inv State.adminOk
  and_intros <;> decide +kernel

theorem test_CollectivePisteAndLockCommandRowsComplete :
    ((after (.collSetup setCmd .ok) memS).ctx 4095).members = [4, 5, 7] ∧
    ((after (.collSetup setCmd .ok) memS).ctx 4095).parent = 4 ∧
    ((after (.collSetupComplete 3) { up with col := [(3, { cctx 0 with st := .setting })] }).ctx 3).st = .set ∧
    ((after (.collTeardown (adm 0x29 3 [])) (colS 0)).ctx 3).st ≠ .set ∧
    (after (.collTeardownComplete 3) { up with col := [(3, { cctx 0 with st := .teardown })] }).ctx 3 = {} ∧
    (after (.pisteTeardown (adm 0x31 254 [])) (pstS 3)).rte.pistes = [] ∧
    ((after (.lockConfig (lockCmd 1)) up).lock 0xFFFFFF).st = .free ∧
    ((after (.lockForceRelease (adm 0x39 0xFFFFFF [])) (lockHeld [])).lock 0xFFFFFF).st = .free := by
  decide +kernel

def twinS : State := put up [(.GEN_READY_MIR, 0, 1)]
def twinCmd : AdminCmd := adm 0x40 6 [(12, 100), (16, 10), (28, 2 ^ 24 - 1), (32, 1)]
def logMsg : FltLog := { msg := msg4 4, timeHi := 0, level := 1, severe := false, escalated := false, safe := false }
def logS : State := { up with flt := { up.flt with log := [(8, logMsg), (9, logMsg)] }, rst := { up.rst with nv := [(512 + 6, zeros 64)], histNum := 7 } }
def getCmd (k n first : Nat) : AdminCmd := adm 0x48 0 [(8, 0x1000), (16, n), (20, k), (24, first)]
def fwCmd (fl n : Nat) : AdminCmd := adm 0x49 0 [(8, 0x1000), (16, n), (20, fl)]
def fwS (fl : Nat) : State := let c := fwCmd fl 4096
  { up with rst := { up.rst with fw := some { func := 0, cid := 9, op := 0x49, obj := 0, raw := c.raw }, fwBytes := zeros 4096, fwVer := none }, sec := { up.sec with minVer := 2 } }

/-- A firmware update is in progress. -/
def fwBusy : State := { up with rst := { up.rst with fw := (fwS 0).rst.fw, fwBytes := zeros 4096 } }

theorem witness_TwinLogAndFirmwareCommandRowsComplete :
    twinS.Inv ∧
    twinS.adminOk twinCmd true twinS.fwReady [(8, 1), (12, 24)] ∧
    twinS.mir.cmdAt = none ∧
    twinS.mir.twin = .unpaired ∧
    twinS.flag .GEN_READY_MIR = true ∧
    twinS.aliased = false ∧
    twinS.twinOk (twinS.twinParams twinCmd.raw) = true ∧
    logS.Inv ∧
    logS.adminOk (getCmd 0 256 9) true logS.logReady [(8, 13), (24, 4)] ∧
    (getCmd 0 256 9).raw.at_ 8 8 % 64 = 0 ∧
    (getCmd 0 256 9).raw.at_ 16 4 = 256 ∧
    (getCmd 0 256 9).raw.at_ 20 1 = 0 ∧
    logS.flt.log.getLast? = some (9, logMsg) ∧
    up.adminOk (getCmd 0 1 0) true up.logReady [(8, 13), (24, 4)] ∧
    up.flt.log = [] ∧
    logS.adminOk (getCmd 1 512 0) true logS.logReady [(8, 13), (24, 4)] ∧
    (getCmd 1 512 0).raw.at_ 20 1 = 1 ∧
    (getCmd 1 512 0).raw.at_ 16 4 ≤ 512 ∧
    logS.rst.histRows.getLast? = some (6, zeros 64) ∧
    up.Inv ∧
    up.adminOk (fwCmd 2 12288) true up.logReady [(8, 13)] ∧
    up.rst.fw = none ∧
    (fwCmd 2 12288).raw.at_ 16 4 % 4096 = 0 ∧
    (fwCmd 2 12288).raw.at_ 16 4 ≤ 12288 ∧
    (fwCmd 2 12288).raw.at_ 20 1 ≤ 2 ∧
    bitAt ((fwCmd 2 12288).raw.at_ 20 1) 1 = true ∧
    bitAt ((fwCmd 1 4096).raw.at_ 20 1) 1 = false ∧
    (fwS 0).Inv ∧
    (fwS 2).rst.fw.isSome = true ∧
    (fwS 0).rst.fwVer = none ∧
    (fwS 0).recordOk 0 0x1FFFF = false ∧
    (fwS 2).rst.epoch ≠ .due ∧
    fwBusy.Inv ∧
    fwBusy.rst.fw.isSome = true ∧
    fwBusy.adminOk (fwCmd 2 12288) true fwBusy.logReady [(8, 13)] ∧
    (fwS 2).rst.fw.map (fun b => bitAt (b.raw.at_ 20 1) 1) = some true ∧
    (fwS 1).rst.fw.map (fun b => bitAt (b.raw.at_ 20 1) 0) = some true ∧
    (fwS 0).rst.fw.map (fun b => b.raw.at_ 20 1) = some 0 := by
  unfold State.Inv State.adminOk
  and_intros <;> decide +kernel

theorem test_TwinLogAndFirmwareCommandRowsComplete :
    ((after (.twinConfig twinCmd) twinS).mir.cfg).map TwinParams.mapBase = some (2 ^ 24 - 1) ∧
    (after (.getLog (getCmd 0 256 9)) logS).hostMem ≠ [] := by
  decide +kernel

/-- Whatever key slot the record names (Config.recordField), the slots are present and not revoked. -/
theorem witness_record_ok :
    (∀ l, (fwS 0).recordOk (recordSlot l) 0x20000 = true) := by
  intro l
  have h : recordSlot l < 4 := Nat.mod_lt _ (by decide)
  have k : ∀ x < 4, (fwS 0).recordOk x 0x20000 = true := by decide +kernel
  exact k _ h

theorem test_fw_update_waits :
    (after (.fwUpdate (fwCmd 2 12288) .ok) fwBusy).rst.fwWait.length = 1 ∧
    (after (.fwUpdate (fwCmd 2 12288) .ok) up).rst.fwBytes.length = 12288 := by
  decide +kernel

/-- A leaf entry of a 4 KiB page at bus address 0x9000, writable, with A and D as given. -/
def pte0 (ad : Nat) : Nat := 7 + 16 * ad + 2 ^ 6 * 12 + 2 ^ 12 * 9
/-- Walk 3 of a write by `putR` at `va`, where host memory holds an ASID entry of TOP 1 at 0x1008, a table at 0x5000 and one at 0x6000. -/
def walk (va : Nat) (ph : WalkPhase) : Walk := { acc := .target putR, func := 0, asid := 1, va := va, write := true, target := true, kr := 0, phase := ph }
def walkS (ad : Nat) (w : Walk) : State :=
  let s : State := put { up with xlt := { up.xlt with walks := [(3, w)], next := 9 }, host := { up.host with atomicOp := true } } [(.XLT_CTL_EN, 0, 1), (.XLT_CTL_ADSET, 0, 1), (.XLT_ASIDLO_BASE, 0, 1)]
  ((s.write 0x1008 (leBytes 8 (1 + 5 * 2 ^ 12 + 2 ^ 52))).write 0x5000 (leBytes 8 (1 + 6 * 2 ^ 12))).write 0x6018 (leBytes 8 (pte0 ad))
def casE : XEnt := leafOf (walk 0x3123 (.asid 0x1008)) 0 0x6018 (pte0 0) 3999990000
def casW (cmp tries : Nat) : Walk := walk 0x3123 (.cas casE cmp (pte0 3) tries)
/-- A write's walk that the safe state met. -/
def lostW : Walk := { walk 0x3123 (.level 0 0x6000) with lost := true }
def oldX (t : Nat) : State := put { up with xlt := { up.xlt with cache := [(3, { casE with at_ := t })], wcache := [(4, { func := 0, asid := 4, level := 5, prefix_ := 0, table := 0, top := 0, at_ := t })] } } [(.XLT_TLIFE_TLIFE, 0, 1000000)]

theorem witness_WalkRowsComplete :
    (walkS 0 (walk 0x3123 (.asid 0x1008))).Inv ∧
    mwf (walkS 0 (walk 0x3123 (.asid 0x1008))).xlt.walks ∧
    mget (walkS 0 (walk 0x3123 (.asid 0x1008))).xlt.walks 3 = some (walk 0x3123 (.asid 0x1008)) ∧
    (walkS 0 (walk 0x3123 (.asid 0x1008))).fld .XLT_ASIDLO_BASE * 2 ^ 12 + (walkS 0 (walk 0x3123 (.asid 0x1008))).fld .XLT_ASIDHI_BASE * 2 ^ 32 + 8 * 1 = 0x1008 ∧
    asidOk (leNat ((walkS 0 (walk 0x3123 (.asid 0x1008))).read 0x1008 8)) 0 = true ∧
    0x3123 / 2 ^ (21 + 9 * bits (leNat ((walkS 0 (walk 0x3123 (.asid 0x1008))).read 0x1008 8)) 52 3) = 0 ∧
    (walkS 0 (walk 0x3123 (.asid 0x1008))).wcLookup 0 1 1 0x3123 = none ∧
    (walkS 0 (walk 0x3123 (.asid 0x1008))).excluded (pteSlot 0x5000 1 0x3123) (pteSlot 0x5000 1 0x3123 + 7) = false ∧
    asidOk 0 0 = false ∧
    mget (walkS 0 (walk 0x4123 (.level 0 0x6000))).xlt.walks 3 = some (walk 0x4123 (.level 0 0x6000)) ∧
    pteP (leNat ((walkS 0 (walk 0x4123 (.level 0 0x6000))).read (pteSlot 0x6000 0 0x4123) 8)) = false ∧
    (walkS 0 (walk 0x3123 (.level 1 0x5000))).Inv ∧
    leNat ((walkS 0 (walk 0x3123 (.level 1 0x5000))).read (pteSlot 0x5000 1 0x3123) 8) = 1 + 6 * 2 ^ 12 ∧
    pteP (1 + 6 * 2 ^ 12) = true ∧
    pteOk 1 (1 + 6 * 2 ^ 12) = true ∧
    pteLeaf (1 + 6 * 2 ^ 12) = false ∧
    (walkS 0 (walk 0x3123 (.level 1 0x5000))).wcLookup 0 1 0 0x3123 = none ∧
    (walkS 0 (walk 0x3123 (.level 1 0x5000))).excluded (pteSlot (pteAddr (1 + 6 * 2 ^ 12)) 0 0x3123) (pteSlot (pteAddr (1 + 6 * 2 ^ 12)) 0 0x3123 + 7) = false ∧
    (walkS 3 (walk 0x3123 (.level 0 0x6000))).Inv ∧
    leNat ((walkS 3 (walk 0x3123 (.level 0 0x6000))).read (pteSlot 0x6000 0 0x3123) 8) = pte0 3 ∧
    pteOk 0 (pte0 3) = true ∧
    pteLeaf (pte0 3) = true ∧
    (walkS 3 (walk 0x3123 (.level 0 0x6000))).excluded 0x9000 0x9FFF = false ∧
    (leafOf (walk 0x3123 (.asid 0x1008)) 0 0x6018 (pte0 3) (walkS 3 (walk 0x3123 (.level 0 0x6000))).tick).w = true ∧
    pteA (pte0 3) = true ∧
    pteD (pte0 3) = true ∧
    (walk 0x3123 (.asid 0x1008)).target = true ∧
    (walk 0x3123 (.asid 0x1008)).noInstall = false ∧
    (walkS 0 (walk 0x3123 (.level 0 0x6000))).Inv ∧
    (walkS 0 (walk 0x3123 (.level 0 0x6000))).flag .XLT_CTL_ADSET = true ∧
    (walk 0x3123 (.asid 0x1008)).write = true ∧
    pteD (pte0 0) = false ∧
    (walkS 0 (walk 0x3123 (.level 0 0x6000))).excluded 0x6018 0x601F = false ∧
    (walkS 0 (walk 0x3123 (.level 0 0x6000))).host.atomicOp = true ∧
    leNat ((walkS 0 (walk 0x3123 (.level 0 0x6000))).read (pteSlot 0x6000 0 0x3123) 8) = pte0 0 ∧
    (walkS 0 (casW (pte0 0) 7)).Inv ∧
    mget (walkS 0 (casW (pte0 0) 7)).xlt.walks 3 = some (casW (pte0 0) 7) ∧
    (walkS 0 (casW (pte0 0) 7)).dmaStop = false ∧
    leNat ((walkS 0 (casW (pte0 0) 7)).read casE.eaddr 8) = pte0 0 ∧
    leNat ((walkS 0 (casW (pte0 1) 7)).read casE.eaddr 8) ≠ pte0 1 ∧
    8 ≤ 7 + 1 ∧
    (oldX 3999000000).Inv ∧
    mget (oldX 3999000000).xlt.cache 3 = some { casE with at_ := 3999000000 } ∧
    mwf (oldX 3999000000).xlt.cache ∧
    (oldX 3999000000).young 3999000000 = false ∧
    (oldX 3999000001).young 3999000001 = true ∧
    mget (oldX 3999000000).xlt.cache 4 = none ∧
    (mget (oldX 3999000000).xlt.wcache 4).isSome = true ∧
    mwf (oldX 3999000000).xlt.wcache ∧
    (walkS 3 lostW).Inv ∧
    mget (walkS 3 lostW).xlt.walks 3 = some lostW ∧
    lostW.lost = true ∧
    (walkS 0 (walk 0x3123 (.level 0 0x6000))).dmaStop = false := by
  unfold State.Inv
  and_intros <;> decide +kernel

theorem test_WalkRowsComplete :
    (after (.walkReadDone 3 .ok) (walkS 0 (walk 0x3123 (.asid 0x1008)))).out = [.hostRead 0 0x5000 8] ∧
    (after (.walkReadDone 3 .ok) (walkS 0 (walk 0x3123 (.level 1 0x5000)))).out = [.hostRead 0 0x6018 8] ∧
    (after (.walkReadDone 3 .ok) (walkS 0 (walk 0x3123 (.level 0 0x6000)))).out = [.hostCas 0 0x6018 (pte0 0) (pte0 3)] ∧
    (after (.walkReadDone 3 .ok) (walkS 3 lostW)).byte 0x9123 = 0 ∧
    (after (.xltEntryAged 3) (oldX 3999000000)).xlt.cache = [] ∧
    (after (.xltEntryAged 4) (oldX 3999000000)).xlt.wcache = [] ∧
    after (.xltEntryAged 4) (oldX 3999000001) = oldX 3999000001 := by
  decide +kernel

theorem witness_StepRunsTheFrontCommand :
    (up.withPending [.pmuStart, .pmuStop]).pending = .pmuStart :: [.pmuStop] ∧
    up.pending = [] ∧
    (standing true).pending = [] ∧
    (standing true).rst.power ≠ .run := by
  decide +kernel

theorem test_step :
    (match step (up.withPending [.watchdogKick 0, .timeStep]) with | .next t => t == up.withPending [.timeStep] | _ => false) = true := by
  decide +kernel

theorem test_ResetStateHoldsResetValues :
    State.reset.rdRaw .GWN_BUDGET = 1000000 ∧
    State.reset.rdRaw .GEN_COORD = 0xFFFFF ∧
    State.reset.rdRaw .GEN_SHAPE = 0x01010101 ∧
    State.reset.rdRaw .RST_IDLETO = 100000 ∧
    State.reset.hif = false ∧
    State.reset.hostMem = [] := by
  decide +kernel

theorem witness_StepKeepsConsistency :
    State.reset.Inv ∧
    up.Inv := by
  unfold State.Inv
  decide +kernel

/-- A packet whose header fields, extension and payload are as large as they may be. -/
def bigPkt : Pkt := { dest := 2 ^ 20 - 1, src := 2 ^ 20 - 1, ptype := 255, tclass := 7, divert := true, hops := 15, redir := true, attempt := 7, tag := 2 ^ 17 - 1, epoch := 255, via := 31, plabel := 1023, sentAgo := 2 ^ 21 - 1, age := 2 ^ 20 - 1, txtime := 2 ^ 32 - 1, status := 255, sub := 255, vc := 7, ext := List.replicate 56 255, payload := List.replicate 512 170 }

theorem witness_PacketRoundTrip :
    bigPkt.ext.length % 8 = 0 ∧
    bigPkt.ext.length < 64 ∧
    bigPkt.payload.length < 1024 ∧
    bigPkt.plabel < 1024 ∧
    bigPkt.sentAgo < 2 ^ 21 := by
  decide +kernel

theorem test_PacketRoundTrip :
    decodePkt (bigPkt.bytes ++ [1, 2, 3]) = bigPkt ∧
    decodePkt ((tpkt 6 3 0).flits 3 |>.flatMap Flit.body) = tpkt 6 3 0 := by
  decide +kernel

theorem witness_ClassZeroMessagesReactWithoutCounting :
    (flts 0).Inv ∧
    minBy (fun x => (flts 0).fullTime x.time * 2 ^ 12 + x.src) (flts 0).flt.msgs = some (msg4 0) ∧
    slotOf (msg4 0).src < 548 ∧
    (msg4 0).code / 4096 = 0 := by
  unfold State.Inv
  decide +kernel

theorem test_ClassZeroMessagesReactWithoutCounting :
    (after .faultMessage (put (flts 0) [(.FLT_SRCCFG_REACT, slotOf 0x410, 3)])).fld .FLT_SRCSTAT_WINCNT (slotOf 0x410) = 0 ∧
    (after .faultMessage (put (flts 0) [(.FLT_SRCCFG_REACT, slotOf 0x410, 3)])).flag .FLT_SRCSTAT_LATCH (slotOf 0x410) = true := by
  decide +kernel

theorem witness_IdleTimeoutResetsTheBlock :
    (nvBusy [] (idling 0x48)).Inv ∧
    mget (nvBusy [] (idling 0x48)).rst.blocks 0x48 = some { since := 3999900000, idleWait := true } ∧
    (nvBusy [] (idling 0x48)).rst.nvRow.isSome = true ∧
    (nvBusy [] (idling 0x48)).rst.nvPending.contains (.block 0x48) = false ∧
    (idling 0x48).rst.nvPending = [] ∧
    (idling 0x48).rst.nvRow = none ∧
    (idling 0x48).Inv ∧
    mget (idling 0x48).rst.blocks 0x48 = some { since := 3999900000, idleWait := true } ∧
    3999900000 + (idling 0x48).fld .RST_IDLETO_TO = (idling 0x48).tick := by
  unfold State.Inv
  decide +kernel

def okAcc : RegAcc := word0 0xE040 1
def okW : Bar2Write := word2 0x70 1
def okPkt : Pkt := tpkt 6 0 0
def okFlit : Flit := flitOf 0
def okFrame : MFrame := { kind := 1 }
def okId : ReqId := ⟨6, 9, 3⟩

theorem test_wf_accepts :
    (Instr.regWrite okAcc).wf = true ∧
    (Instr.tailDoorbell okW [(2 ^ 64 - 1, 0)]).wf = true ∧
    (Instr.putPacket putR).wf = true ∧
    (Instr.dataFlit 71 okFlit 71 0).wf = true ∧
    (Instr.record okFrame).wf = true ∧
    (Instr.configWq cfgWq).wf = true ∧
    (Instr.msixUnmask 0 2047).wf = true ∧
    (Instr.msixUnmask 63 63).wf = true ∧
    (Instr.turn 287).wf = true ∧
    (Instr.stewardBoot (media true)).wf = true ∧
    (Instr.nop 262143 0).wf = true ∧
    (Instr.faultWindowEnd 547).wf = true ∧
    (Instr.paceWindow (List.replicate 36 65535)).wf = true ∧
    (Instr.escwaitExpire 72 7).wf = true ∧
    (Instr.cxlMemWrite 0 64 (zeros 64) (2 ^ 64 - 1)).wf = true ∧
    bigPkt.wf = true ∧
    (Instr.badFlit 71 { lane := 71, fl := okFlit }).wf = true ∧
    (Instr.fenceRead { read0 0x64 with func := 63, size := 8 }).wf = true ∧
    (Instr.ringFlitUe (1, 1, 1) (2, 2, 2) (ringFlit 1 2 [0, 1, 2, 3, 4, 5, 6, 7]).words .none).wf = true := by
  decide +kernel

theorem test_wf_refuses_registers :
    ({ okAcc with func := 64 } : RegAcc).wf = false ∧
    ({ okAcc with off := 2 ^ 22 } : RegAcc).wf = false ∧
    ({ okAcc with size := 0 } : RegAcc).wf = false ∧
    ({ okAcc with size := 65 } : RegAcc).wf = false ∧
    ({ okAcc with be := 16 } : RegAcc).wf = false ∧
    ({ okAcc with value := 2 ^ 32 } : RegAcc).wf = false ∧
    ({ okW with func := 64 } : Bar2Write).wf = false ∧
    ({ okW with off := 2 ^ 23 } : Bar2Write).wf = false ∧
    ({ okW with len := 0 } : Bar2Write).wf = false ∧
    ({ okW with len := 65 } : Bar2Write).wf = false ∧
    ({ okW with be := 256 } : Bar2Write).wf = false ∧
    ({ okW with value := 2 ^ 64 } : Bar2Write).wf = false := by
  decide +kernel

theorem test_wf_refuses_packets :
    ({ okPkt with dest := 2 ^ 20 } : Pkt).wf = false ∧
    ({ okPkt with src := 2 ^ 20 } : Pkt).wf = false ∧
    ({ okPkt with ptype := 256 } : Pkt).wf = false ∧
    ({ okPkt with tclass := 8 } : Pkt).wf = false ∧
    ({ okPkt with hops := 16 } : Pkt).wf = false ∧
    ({ okPkt with attempt := 8 } : Pkt).wf = false ∧
    ({ okPkt with tag := 2 ^ 17 } : Pkt).wf = false ∧
    ({ okPkt with epoch := 256 } : Pkt).wf = false ∧
    ({ okPkt with via := 32 } : Pkt).wf = false ∧
    ({ okPkt with plabel := 1024 } : Pkt).wf = false ∧
    ({ okPkt with sentAgo := 2 ^ 21 } : Pkt).wf = false ∧
    ({ okPkt with age := 2 ^ 20 } : Pkt).wf = false ∧
    ({ okPkt with txtime := 2 ^ 32 } : Pkt).wf = false ∧
    ({ okPkt with status := 256 } : Pkt).wf = false ∧
    ({ okPkt with sub := 256 } : Pkt).wf = false ∧
    ({ okPkt with vc := 8 } : Pkt).wf = false ∧
    ({ okPkt with ext := zeros 4 } : Pkt).wf = false ∧
    ({ okPkt with ext := zeros 64 } : Pkt).wf = false ∧
    ({ okPkt with payload := zeros 513 } : Pkt).wf = false ∧
    ({ putR with port := 72 } : Req).wf = false ∧
    ({ putR with pkt := { putR.pkt with vc := 8 } } : Req).wf = false := by
  decide +kernel

theorem test_wf_refuses_flits_and_frames :
    ({ okFlit with kind := 8 } : Flit).wf = false ∧
    ({ okFlit with vc := 8 } : Flit).wf = false ∧
    ({ okFlit with seq := 4096 } : Flit).wf = false ∧
    ({ okFlit with ackseq := 4096 } : Flit).wf = false ∧
    ({ okFlit with crvc := 8 } : Flit).wf = false ∧
    ({ okFlit with crcum := 2048 } : Flit).wf = false ∧
    ({ okFlit with body := zeros 55 } : Flit).wf = false ∧
    ({ okFlit with crc := 2 ^ 16 } : Flit).wf = false ∧
    ({ okFrame with kind := 256 } : MFrame).wf = false ∧
    ({ okFrame with seq := 2 ^ 16 } : MFrame).wf = false ∧
    ({ okFrame with ackseq := 2 ^ 16 } : MFrame).wf = false ∧
    ({ okFrame with lane := 16 } : MFrame).wf = false ∧
    ({ okId with src := 2 ^ 20 } : ReqId).wf = false ∧
    ({ okId with tag := 2 ^ 17 } : ReqId).wf = false ∧
    ({ okId with epoch := 256 } : ReqId).wf = false := by
  decide +kernel

theorem test_wf_refuses_host_commands :
    (Instr.tailDoorbell okW [(2 ^ 64, 0)]).wf = false ∧
    (Instr.adminTailDoorbell 64 0 [] .ok).wf = false ∧
    (Instr.adminTailDoorbell 0 (2 ^ 32) [] .ok).wf = false ∧
    (Instr.adminHeadDoorbell 64 0).wf = false ∧
    (Instr.adminHeadDoorbell 0 (2 ^ 32)).wf = false ∧
    (Instr.adminQueueEnable 64).wf = false ∧
    (Instr.adminQueueDisable 64).wf = false ∧
    (Instr.fenceRead { read0 0 with func := 64 }).wf = false ∧
    (Instr.fenceRead { read0 0 with size := 9 }).wf = false ∧
    (Instr.windowEnable 4 21).wf = false ∧
    (Instr.windowEnable 0 64).wf = false ∧
    (Instr.xltExclWrite 8 0 0).wf = false ∧
    (Instr.xltExclWrite 0 4 0).wf = false ∧
    (Instr.xltExclWrite 0 0 (2 ^ 32)).wf = false ∧
    (Instr.watchdogKick (2 ^ 32)).wf = false ∧
    (Instr.blockResetCluster 18 true).wf = false ∧
    (Instr.blockResetGddr7Controller 8 true).wf = false ∧
    (Instr.blockResetLaneBlock 9 true).wf = false ∧
    (Instr.blockIdle 256).wf = false ∧
    (Instr.blockIdleTimeout 256).wf = false ∧
    (Instr.pmuLoad 18).wf = false ∧
    (Instr.pmuTagSeed (2 ^ 32)).wf = false ∧
    (Instr.revoke 16).wf = false ∧
    (Instr.faultInject (2 ^ 32)).wf = false ∧
    (Instr.portEnable 72 0 0 0).wf = false ∧
    (Instr.portEnable 0 8 0 0).wf = false ∧
    (Instr.portEnable 0 0 4 0).wf = false ∧
    (Instr.portEnable 0 0 0 32).wf = false ∧
    (Instr.portDisable 72).wf = false := by
  decide +kernel

theorem test_wf_refuses_interface_events :
    (Instr.cxlSetTimestamp (2 ^ 64)).wf = false ∧
    (Instr.hdmDecoderCommit 4 0 0 1).wf = false ∧
    (Instr.hdmDecoderCommit 0 (2 ^ 64) 0 1).wf = false ∧
    (Instr.hdmDecoderCommit 0 0 (2 ^ 64) 1).wf = false ∧
    (Instr.cxlMemRead 0 (2 ^ 64)).wf = false ∧
    (Instr.cxlMemRead 0 32).wf = false ∧
    (Instr.cxlMemWrite 0 (2 ^ 64) (zeros 64) 0).wf = false ∧
    (Instr.cxlMemWrite 0 32 (zeros 64) 0).wf = false ∧
    (Instr.cxlMemWrite 0 64 (zeros 63) 0).wf = false ∧
    (Instr.cxlMemWrite 0 64 (zeros 64) (2 ^ 64)).wf = false ∧
    (Instr.msixUnmask 64 0).wf = false ∧
    (Instr.msixUnmask 0 2048).wf = false ∧
    (Instr.msixUnmask 1 64).wf = false ∧
    (Instr.flrVf 0).wf = false ∧
    (Instr.flrVf 64).wf = false ∧
    (Instr.vfEnable 0).wf = false ∧
    (Instr.vfEnable 64).wf = false ∧
    (Instr.clusterSelftestDone 18 true).wf = false ∧
    (Instr.memTrainDone 8 true).wf = false ∧
    (Instr.lbCalibrationDone 9 true).wf = false ∧
    (Instr.cxlGetEventRecords 4).wf = false ∧
    (Instr.cxlClearEventRecords 4 []).wf = false ∧
    (Instr.cxlUnsupportedCommand 65536).wf = false ∧
    (Instr.paceWindow []).wf = false ∧
    (Instr.paceWindow (List.replicate 36 65536)).wf = false ∧
    (Instr.timeAlarm 4).wf = false ∧
    (Instr.signalDetectWake 72).wf = false ∧
    (Instr.stewardBoot { media true with slotB := { present := true, valid := true, keySlot := 0, version := 0, site := { winCap := 2 ^ 28 + 1 } } }).wf = false ∧
    (Instr.stewardBoot { media true with slotA := { present := true, valid := true, keySlot := 0, version := 0, site := { winCap := 2 ^ 48 + 2 ^ 28 } } }).wf = false ∧
    (Instr.mirBackchannelBlock 256 0 0).wf = false ∧
    (Instr.mirBackchannelBlock 0 256 0).wf = false ∧
    (Instr.mirBackchannelBlock 0 0 256).wf = false := by
  decide +kernel

theorem test_wf_refuses_queue_commands :
    (Instr.turn 288).wf = false ∧
    (Instr.steal 288 .ok).wf = false ∧
    (Instr.targetTurn 288 .ok).wf = false ∧
    (Instr.nop 262144 0).wf = false ∧
    (Instr.descriptorFetchDone 262144 0 .ok).wf = false ∧
    (Instr.descriptorFetchDone 0 (2 ^ 32) .ok).wf = false ∧
    (Instr.payloadReadDone 262144 .ok).wf = false ∧
    (Instr.drainComplete 262144).wf = false ∧
    (Instr.configWq (adm 2 0 [])).wf = false ∧
    (Instr.configWq { adm 1 0 [] with func := 64 }).wf = false ∧
    (Instr.revokeComplete (2 ^ 25)).wf = false ∧
    (Instr.collSetupComplete 4096).wf = false ∧
    (Instr.collTeardownComplete 4096).wf = false ∧
    (Instr.sendDeadline 262144 0).wf = false ∧
    (Instr.sendDeadline 0 (2 ^ 32)).wf = false ∧
    (Instr.retransmit (2 ^ 17)).wf = false ∧
    (Instr.grantAnswer (2 ^ 17) 0).wf = false ∧
    (Instr.grantAnswer 0 256).wf = false := by
  decide +kernel

theorem test_wf_refuses_fabric_events :
    (Instr.respPacket 72 okPkt).wf = false ∧
    (Instr.respPacket 0 { okPkt with vc := 8 }).wf = false ∧
    (Instr.collProbeTimer 4096 0).wf = false ∧
    (Instr.counterBatchSend 4096).wf = false ∧
    (Instr.constituentExpire 4096).wf = false ∧
    (Instr.leaseExpire false (2 ^ 24) 0).wf = false ∧
    (Instr.escwaitExpire 73 0).wf = false ∧
    (Instr.escwaitExpire 0 8).wf = false ∧
    (Instr.pisteSetupTimeout 1024).wf = false ∧
    (Instr.pisteTeardownTimeout 1024).wf = false ∧
    (Instr.livenessTimeout 18).wf = false ∧
    (Instr.trainingFrame 72 0 0).wf = false ∧
    (Instr.trainingFrame 0 (2 ^ 64) 0).wf = false ∧
    (Instr.trainingFrame 0 0 (2 ^ 64)).wf = false ∧
    (Instr.signalDetect 72).wf = false ∧
    (Instr.badFlit 0 { lane := 72, fl := okFlit }).wf = false ∧
    (Instr.badFlit 72 { fl := okFlit }).wf = false ∧
    (Instr.badFlit 0 {}).wf = false ∧
    (Instr.ringFlitUe (1, 1, 1) (2, 2, 2) [] .none).wf = false ∧
    (Instr.ringFlitUe (1, 1, 1) (2, 2, 2) (ringFlit 1 2 [0, 1, 2, 3, 4, 5, 6, 7]).words (.critical (.memCorrected 8))).wf = false ∧
    (Instr.critStateUe (.engParity 288 0)).wf = false ∧
    (Instr.critStateUe (.xbarIn 73 0 0)).wf = false ∧
    (Instr.dataFlit 72 okFlit 0 0).wf = false ∧
    (Instr.laneSignalLoss 72).wf = false ∧
    (Instr.faultWindowEnd 548).wf = false := by
  decide +kernel

theorem test_decode :
    decodeTableWord 32 0 = none ∧
    decodeTableWord 64 (2 ^ 64 - 1) = none := by
  decide +kernel

end Sys2Proof.Tests
end

/-! # Every command keeps the state consistent

`State.Inv` speaks of two components only, the register table and host memory, and the model touches them through a handful of
operations: `wrRaw`, `wrAq` and `resetRegs` on registers, `write` and `hostStores` on memory. Each of these keeps the canonical form.
Every other operation is built of them and of updates of the other components, so it keeps the invariant by a proof of its own shape:
the lemma `State.Inv.f` says that `f` keeps it, and its proof follows the branches of `f`. A chain `s.f.g` in the model is the proof
`h.f.g`, a conditional is `State.Inv.ite`, a fold is `State.Inv.foldl`, and a record update is `State.Inv.update`. The lemmas stand in the
order of the model's files. -/

namespace Sys2Proof.Machine

section
variable {s : State}

/-! ## The shapes that meanings are built of -/

theorem State.Inv.regs (h : s.Inv) : mwf s.regs := h.1

theorem State.Inv.hostMem (h : s.Inv) : Memory.wf s.hostMem = true := h.2

/-- An update of components other than the registers and host memory. -/
theorem State.Inv.update (h : s.Inv) {time host qmg tgt ini msg win xlt col lck rte lnk mir rst flt pmu sec ring out free pending} :
    State.Inv { regs := s.regs, hostMem := s.hostMem, time := time, host := host, qmg := qmg, tgt := tgt, ini := ini, msg := msg,
                win := win, xlt := xlt, col := col, lck := lck, rte := rte, lnk := lnk, mir := mir, rst := rst, flt := flt,
                pmu := pmu, sec := sec, ring := ring, out := out, free := free, pending := pending } := h

theorem State.Inv.ite {a b : State} {c : Prop} {inst : Decidable c} (ha : a.Inv) (hb : b.Inv) : (if c then a else b).Inv := by
  split
  · exact ha
  · exact hb

theorem State.Inv.fst_ite {β : Type} {p q : State × β} {c : Prop} {inst : Decidable c} (hp : p.1.Inv) (hq : q.1.Inv) :
    (if c then p else q).1.Inv := by
  split
  · exact hp
  · exact hq

theorem State.Inv.snd_ite {β : Type} {p q : β × State} {c : Prop} {inst : Decidable c} (hp : p.2.Inv) (hq : q.2.Inv) :
    (if c then p else q).2.Inv := by
  split
  · exact hp
  · exact hq

theorem State.Inv.of_fst_eq {β : Type} {p : State × β} {t : State} {x : β} (h : p.1.Inv) (e : p = (t, x)) : t.Inv := by
  rw [e] at h
  exact h

theorem State.Inv.of_snd_eq {β : Type} {p : β × State} {t : State} {x : β} (h : p.2.Inv) (e : p = (x, t)) : t.Inv := by
  rw [e] at h
  exact h

theorem State.Inv.foldl {β : Type} {l : List β} {f : State → β → State} (h : s.Inv) (hf : ∀ t x, t.Inv → (f t x).Inv) :
    (l.foldl f s).Inv := by
  induction l generalizing s with
  | nil => exact h
  | cons x l ih => exact ih (hf s x h)

/-! ## Registers, memory, outputs, events and completions (Machine/Ops) -/

theorem State.Inv.wrRaw (h : s.Inv) {r i v} : (s.wrRaw r i v).Inv := ⟨mwf_wrRaw h.regs r i v, h.hostMem⟩

theorem State.Inv.setFld (h : s.Inv) {f v i} : (s.setFld f v i).Inv := h.wrRaw

theorem State.Inv.bump (h : s.Inv) {f i n} : (s.bump f i n).Inv := h.setFld

theorem State.Inv.latch (h : s.Inv) {f i} : (s.latch f i).Inv := h.setFld

theorem State.Inv.resetRegs (h : s.Inv) {p} : (s.resetRegs p).Inv := ⟨mwf_resetRegs h.regs p, h.hostMem⟩

theorem State.Inv.wrAq (h : s.Inv) {f r v} : (s.wrAq f r v).Inv := ⟨mwf_wrAq h.regs f r v, h.hostMem⟩

theorem State.Inv.setFldAq (h : s.Inv) {f g v} : (s.setFldAq f g v).Inv := h.wrAq

theorem State.Inv.setBit (h : s.Inv) {f i on j} : (s.setBit f i on j).Inv := h.setFld

theorem State.Inv.snap {upd : State → State} (h : s.Inv) {seq i} (hupd : ∀ t, t.Inv → (upd t).Inv) : (s.snap seq i upd).Inv := by
  unfold State.snap
  extract_lets key s1 s2
  have h2 : s2.Inv := (hupd _ h).setFld
  split
  · exact h.ite h2.update
  · exact h2.update

theorem State.Inv.emit (h : s.Inv) {e} : (s.emit e).Inv := h.update

theorem State.Inv.fresh (h : s.Inv) : s.fresh.2.Inv := h.update

theorem State.Inv.write (h : s.Inv) {a l} : (s.write a l).Inv := ⟨h.regs, State.wf_write h.hostMem a l⟩

theorem State.Inv.poisonRx (h : s.Inv) {rd} : (s.poisonRx rd).Inv := h.latch.ite h

theorem State.Inv.hostStores (h : s.Inv) {l} : (s.hostStores l).Inv := h.foldl fun _ _ h => ⟨h.regs, wf_memPut h.hostMem _ _⟩

theorem State.Inv.modWq (h : s.Inv) {q f} : (s.modWq q f).Inv := h.update

theorem State.Inv.modCq (h : s.Inv) {c f} : (s.modCq c f).Inv := h.update

theorem State.Inv.modEq (h : s.Inv) {e f} : (s.modEq e f).Inv := h.update

theorem State.Inv.modAq (h : s.Inv) {f g} : (s.modAq f g).Inv := h.update

theorem State.Inv.modPort (h : s.Inv) {p f} : (s.modPort p f).Inv := h.update

theorem State.Inv.modCtx (h : s.Inv) {k f} : (s.modCtx k f).Inv := h.update

theorem State.Inv.msixSend (h : s.Inv) {f v} : (s.msixSend f v).Inv := h.emit

theorem State.Inv.msix (h : s.Inv) {f v} : (s.msix f v).Inv := h.update.ite h.msixSend

theorem State.Inv.msixFlush (h : s.Inv) : s.msixFlush.Inv := h.foldl fun _ _ h => h.ite h.msixSend.update

theorem State.Inv.raise (h : s.Inv) {src code addr} : (s.raise src code addr).Inv := h.update.ite h.update

theorem State.Inv.setPmuVal (h : s.Inv) {i v} : (s.setPmuVal i v).Inv := h.wrRaw.wrRaw

theorem State.Inv.pmuPut (h : s.Inv) {i addr time d} : (s.pmuPut i addr time d).Inv := by
  unfold State.pmuPut
  extract_lets
  refine .snap h fun t ht => ?_
  extract_lets t1
  have ht1 : t1.Inv := ht.wrRaw.wrRaw.wrRaw
  split
  · exact ht1.setFld.setFld.setFld.setFld.setFld.wrRaw
  · exact ht1.setFld.setFld

theorem State.Inv.pmuSample (h : s.Inv) {i e} : (s.pmuSample i e).Inv := by
  unfold State.pmuSample
  extract_lets
  split
  · exact h.pmuPut
  · exact h.update
  · exact h.pmuPut

theorem State.Inv.skidTake (h : s.Inv) {q en cnt} : (s.skidTake q en cnt).Inv := h.update.foldl fun _ _ h => h.pmuPut

theorem State.Inv.raiseN (h : s.Inv) {src code addr n} : (s.raiseN src code addr n).Inv := (h.foldl fun _ _ h => h.raise).update

theorem State.Inv.pmuOverflow (h : s.Inv) {i e n} : (s.pmuOverflow i e n).Inv := by
  unfold State.pmuOverflow
  extract_lets g s1 s2 s3
  have h1 : s1.Inv := h.setBit.bump
  have h2 : s2.Inv := h1.raiseN.ite h1
  have h3 : s3.Inv := h2.setFld.ite h2
  exact h3.pmuSample.ite h3

theorem State.Inv.pmuOne (h : s.Inv) {i e} : (s.pmuOne i e).Inv := (h.setPmuVal.ite h.setPmuVal.pmuOverflow).ite h

theorem State.Inv.pmu_ (h : s.Inv) {e} : (s.pmu_ e).Inv := (h.foldl fun _ _ h => h.pmuOne).ite h

theorem State.Inv.pmuQ (h : s.Inv) {code n q engine cnt tclass addr by_} : (s.pmuQ code n q engine cnt tclass addr by_).Inv :=
  h.pmu_

theorem State.Inv.pmuTagWrite (h : s.Inv) {q cnt} : (s.pmuTagWrite q cnt).Inv := by
  unfold State.pmuTagWrite
  split
  · split
    · extract_lets s1
      have h1 : s1.Inv := h.snap fun _ h => h.setFld.setFld.setFld.setFld.wrRaw.setFld.setFld.wrRaw.wrRaw.wrRaw.wrRaw
      exact h1.update
    · exact h
  · exact h

theorem State.Inv.pmuTagDrop (h : s.Inv) {q} : (s.pmuTagDrop q).Inv := by
  unfold State.pmuTagDrop
  split
  · exact h.update.ite h
  · exact h

theorem State.Inv.whenProtected {now : State → State} (h : s.Inv) {a} (hnow : ∀ t, t.Inv → (now t).Inv) :
    (s.whenProtected a now).Inv :=
  h.update.ite (hnow _ h)

theorem State.Inv.mirPumpAux (h : s.Inv) {fuel} : (Machine.mirPumpAux fuel s).Inv := by
  induction fuel generalizing s with
  | zero => exact h
  | succ fuel ih =>
    unfold Machine.mirPumpAux
    split
    · split
      · exact h
      · exact ih h.emit.update.bump
    · exact h

theorem State.Inv.mirPump (h : s.Inv) : s.mirPump.Inv := h.ite h.mirPumpAux

theorem State.Inv.record (h : s.Inv) {rtype body} : (s.record rtype body).Inv := h.update.mirPump.ite h

theorem State.Inv.eqWrite (h : s.Inv) {n e} : (s.eqWrite n e).Inv := h.write.modEq.msix.ite h.write.modEq

theorem State.Inv.recQctx (h : s.Inv) {isEq n} : (s.recQctx isEq n).Inv := h.record.ite h.record

theorem State.Inv.eqReserve (h : s.Inv) {n} : (s.eqReserve n).Inv := h.ite h.modEq.recQctx.update

theorem State.Inv.evLost (h : s.Inv) {n} : (s.evLost n).Inv := h.bump.modEq

theorem State.Inv.eqLoss (h : s.Inv) {n} : (s.eqLoss n).Inv := h.ite h.modEq

theorem State.Inv.eqDrainAux (h : s.Inv) {n fuel} : (Machine.eqDrainAux n fuel s).Inv := by
  induction fuel generalizing s with
  | zero => exact h
  | succ fuel ih =>
    unfold Machine.eqDrainAux
    extract_lets
    split
    · exact h
    · exact h.ite (h.eqReserve.ite (ih h.modEq.eqWrite))

theorem State.Inv.eqDrain (h : s.Inv) {n} : (s.eqDrain n).Inv := h.eqLoss.eqDrainAux

theorem State.Inv.eventAt (h : s.Inv) {n type sub object data time} : (s.eventAt n type sub object data time).Inv :=
  h.bump.ite (h.evLost.ite h.eqLoss.modEq.eqDrain)

theorem State.Inv.event (h : s.Inv) {n type sub object data} : (s.event n type sub object data).Inv := h.eventAt

theorem State.Inv.event0 (h : s.Inv) {type sub object data} : (s.event0 type sub object data).Inv := h.event

theorem State.Inv.wqEvent (h : s.Inv) {q type sub data} : (s.wqEvent q type sub data).Inv := h.event

theorem State.Inv.cqReserve (h : s.Inv) {n} : (s.cqReserve n).Inv := h.ite h.modCq.recQctx.update

theorem State.Inv.headWb (h : s.Inv) {q} : (s.headWb q).Inv := h.ite (h.modWq.ite h.write.modWq)

theorem State.Inv.cqWrite {s0 : State} (h0 : s0.Inv) {n c} : (s0.cqWrite n c).Inv :=
  h0.headWb.write.modCq.pmuQ.pmuTagWrite.event.ite h0.headWb.write.modCq.pmuQ.pmuTagWrite

theorem State.Inv.cqStall (h : s.Inv) {n} : (s.cqStall n).Inv := h.ite h.bump.modCq.event

theorem State.Inv.cqDrainAux (h : s.Inv) {n fuel} : (Machine.cqDrainAux n fuel s).Inv := by
  induction fuel generalizing s with
  | zero => exact h
  | succ fuel ih =>
    unfold Machine.cqDrainAux
    extract_lets
    split
    · exact h
    · exact h.ite (h.cqStall.ite (h.cqReserve.ite (ih h.modCq.cqWrite)))

theorem State.Inv.cqDrain (h : s.Inv) {n} : (s.cqDrain n).Inv := h.cqDrainAux

theorem State.Inv.cqHold (h : s.Inv) {n} : (s.cqHold n).Inv := h.ite (h.cqStall.ite h.cqReserve)

theorem State.Inv.setRun (h : s.Inv) {e l} : (s.setRun e l).Inv := h.update

theorem State.Inv.enqueue (h : s.Inv) {x} : (s.enqueue x).Inv := h.ite h.setRun

theorem State.Inv.joinRun (h : s.Inv) {q} : (s.joinRun q).Inv := h.enqueue.ite h

theorem State.Inv.leaveRun (h : s.Inv) {q} : (s.leaveRun q).Inv := h.setRun

theorem State.Inv.park (h : s.Inv) {r q} : (s.park r q).Inv := h.update

theorem State.Inv.unpark (h : s.Inv) {p} : (s.unpark p).Inv := h.update.foldl fun _ _ h => h.joinRun

theorem State.Inv.cqRelease (h : s.Inv) {n} : (s.cqRelease n).Inv := h.modCq.unpark.ite h

theorem State.Inv.accLog (h : s.Inv) {kind write func bar off} : (s.accLog kind write func bar off).Inv := by
  unfold State.accLog
  exact h.bump.snap fun _ h => h.setFld.setFld.setFld.setFld.setFld.setFld

theorem State.Inv.busError (h : s.Inv) {kind func bar off} : (s.busError kind func bar off).Inv := h.accLog.update

theorem State.Inv.lockViol (h : s.Inv) {func off} : (s.lockViol func off).Inv := h.accLog.raise

theorem State.Inv.regRow {op : State → State} (h : s.Inv) {r i} (hop : ∀ t, t.Inv → (op t).Inv) : (s.regRow r i op).Inv :=
  h.busError.ite (h.accLog.ite (hop _ h))

/-! ## Queues: admin and descriptor completions (Machine/Queues) -/

theorem State.Inv.adminDrainAux (h : s.Inv) {f fuel} : (Machine.adminDrainAux f fuel s).Inv := by
  induction fuel generalizing s with
  | zero => exact h
  | succ fuel ih =>
    unfold Machine.adminDrainAux
    extract_lets
    split
    · exact h
    split
    · exact h
    · exact ih (h.write.modAq.pmu_.msix.ite h.write.modAq.pmu_)

theorem State.Inv.adminDrain (h : s.Inv) {f} : (s.adminDrain f).Inv := h.adminDrainAux

theorem State.Inv.adminCpl (h : s.Inv) {f c} : (s.adminCpl f c).Inv := h.modAq.adminDrain.ite h

theorem State.Inv.adminCplProt (h : s.Inv) {f c} : (s.adminCplProt f c).Inv := h.whenProtected fun _ h => h.adminCpl

theorem State.Inv.adminEnd (h : s.Inv) {c status r0 r1} : (s.adminEnd c status r0 r1).Inv := h.adminCpl

theorem State.Inv.startB (h : s.Inv) {b} : (s.startB b).Inv := h.update

theorem State.Inv.dropB (h : s.Inv) {p} : (s.dropB p).Inv := h.update

theorem State.Inv.endB (h : s.Inv) {p status r0 r1} : (s.endB p status r0 r1).Inv := by
  unfold State.endB
  split
  · exact h.dropB.adminCpl
  · exact h

theorem State.Inv.endBProt (h : s.Inv) {p status r0 r1} : (s.endBProt p status r0 r1).Inv := by
  unfold State.endBProt
  split
  · exact h.dropB.adminCplProt
  · exact h

theorem State.Inv.pmuTagDone (h : s.Inv) {q d status} : (s.pmuTagDone q d status).Inv := by
  unfold State.pmuTagDone
  split
  · exact h.update.ite h
  · exact h

theorem State.Inv.modDesc (h : s.Inv) {q cnt f} : (s.modDesc q cnt f).Inv := h.modWq

theorem State.Inv.postCpl (h : s.Inv) {q cnt op status d0 d1 peer engine} : (s.postCpl q cnt op status d0 d1 peer engine).Inv :=
  h.modCq.cqDrain

theorem State.Inv.unparkQ (h : s.Inv) {r q} : (s.unparkQ r q).Inv := h.update.joinRun.ite h

theorem State.Inv.finish (h : s.Inv) {q d status d0 d1 peer} : (s.finish q d status d0 d1 peer).Inv := by
  unfold State.finish
  extract_lets s1 s2 s3 s4
  have h2 : s2.Inv := h.modWq.pmuQ.ite h.modWq
  have h3 : s3.Inv := h2.pmuTagDone
  have h4 : s4.Inv := h3.postCpl.ite h3.pmuTagWrite
  exact h4.unparkQ

theorem State.Inv.qerr (h : s.Inv) {q kind idx} : (s.qerr q kind idx).Inv := h.snap fun _ h => h.setFld.setFld.setFld.wrRaw

theorem State.Inv.recWq (h : s.Inv) {q} : (s.recWq q).Inv := h.record.ite h

theorem State.Inv.recWqHead (h : s.Inv) {q} : (s.recWqHead q).Inv := h.record.ite h

theorem State.Inv.recWqTail (h : s.Inv) {q} : (s.recWqTail q).Inv := h.record.ite h

/-! ## The sending side of the link layer (Machine/Links) -/

theorem State.Inv.xmit (h : s.Inv) {p f} : (s.xmit p f).Inv := h.modPort.emit

theorem State.Inv.xmitKind (h : s.Inv) {p kind body} : (s.xmitKind p kind body).Inv := h.xmit

theorem State.Inv.freeSlots (h : s.Inv) {key n} : (s.freeSlots key n).Inv := h.modPort.ite h

theorem State.Inv.dropTx (h : s.Inv) {p v t rest} : (s.dropTx p v t rest).Inv := by
  unfold State.dropTx
  extract_lets
  split
  · exact (h.modPort.ite h.modPort.modPort).freeSlots
  · exact h.modPort

theorem State.Inv.leftBy (h : s.Inv) {started tag p} : (s.leftBy started tag p).Inv := by
  unfold State.leftBy
  split
  · exact h.ite h.update
  · exact h

theorem State.Inv.sendHead (h : s.Inv) {p v} : (s.sendHead p v).Inv := by
  unfold State.sendHead
  split
  · exact h
  split
  · exact h
  split
  · exact h.dropTx
  · extract_lets seq _ f1 s1 s2
    have h2 : s2.Inv := h.modPort.xmit.leftBy
    split
    · exact h2.freeSlots
    · exact h2

theorem State.Inv.pumpAux (h : s.Inv) {p fuel} : (Machine.pumpAux p fuel s).Inv := by
  induction fuel generalizing s with
  | zero => exact h
  | succ fuel ih =>
    unfold Machine.pumpAux
    extract_lets
    split
    · exact h
    split
    · exact ih h.modPort.xmit.pmu_
    split
    · exact h
    split
    · exact ih h.modPort.sendHead
    · exact h

theorem State.Inv.pump (h : s.Inv) {p} : (s.pump p).Inv := h.pumpAux

theorem State.Inv.settleAux (h : s.Inv) {p fuel} : (Machine.settleAux p fuel s).Inv := by
  induction fuel generalizing s with
  | zero => exact h
  | succ fuel ih => exact (ih h.xmitKind).ite h

theorem State.Inv.laneZeroAux (h : s.Inv) {p fuel} : (Machine.laneZeroAux p fuel s).Inv := by
  induction fuel generalizing s with
  | zero => exact h
  | succ fuel ih => exact h.ite (ih h.xmitKind)

theorem State.Inv.idleFill (h : s.Inv) : s.idleFill.Inv := h.foldl fun _ _ h => h.xmitKind.ite h

theorem State.Inv.flush (h : s.Inv) : s.flush.Inv := (h.foldl fun _ _ h => h.pump).foldl fun _ _ h => h.settleAux

theorem State.Inv.applyFields (h : s.Inv) {p f} : (s.applyFields p f).Inv := h.modPort

theorem State.Inv.startReplay (h : s.Inv) {p a} : (s.startReplay p a).Inv := h.ite h.modPort

theorem State.Inv.queuePkt (h : s.Inv) {p v i src via} : (s.queuePkt p v i src via).Inv := h.modPort

theorem State.Inv.badPkt (h : s.Inv) {p} : (s.badPkt p).Inv := h.bump

theorem State.Inv.sendCtlTo (h : s.Inv) {p dest src ptype payload} : (s.sendCtlTo p dest src ptype payload).Inv := h.queuePkt.ite h

theorem State.Inv.sendCtl (h : s.Inv) {p ptype payload} : (s.sendCtl p ptype payload).Inv := h.sendCtlTo

/-! ## The transit crossbar and the line map (Machine/Routing) -/

theorem State.Inv.sendRow (h : s.Inv) {k row ports} : (s.sendRow k row ports).Inv := h.update.foldl fun _ _ h => h.sendCtl

theorem State.Inv.forgetSenders (h : s.Inv) : s.forgetSenders.Inv := h.update

theorem State.Inv.watchTwin (h : s.Inv) : s.watchTwin.Inv := by
  unfold State.watchTwin
  split
  · exact h
  · exact h.update

theorem State.Inv.portNotice (h : s.Inv) {p up} : (s.portNotice p up).Inv :=
  (h.sendRow.sendRow.ite h.sendRow).forgetSenders.watchTwin

theorem State.Inv.commit (h : s.Inv) {i key p v k} : (s.commit i key p v k).Inv := h.queuePkt.pmu_.ite h.queuePkt

theorem State.Inv.dropUnroutable (h : s.Inv) : s.dropUnroutable.Inv := h.bump.latch

theorem State.Inv.freeKey (h : s.Inv) {key n} : (s.freeKey key n).Inv := by
  unfold State.freeKey
  split
  · exact h.freeSlots
  · exact h

theorem State.Inv.reinject (h : s.Inv) {i k} : (s.reinject i k).Inv := h.bump.latch.ite h.bump.update

theorem State.Inv.toLocal (h : s.Inv) {i} : (s.toLocal i).Inv := h.ite h.update

theorem State.Inv.setPart (h : s.Inv) {key x} : (s.setPart key x).Inv := h.modPort

theorem State.Inv.trail (h : s.Inv) {i key x} : (s.trail i key x).Inv := by
  unfold State.trail
  split
  · exact h.setPart
  · exact h

theorem State.Inv.routeOne (h : s.Inv) {i key} : (s.routeOne i key).1.Inv := by
  unfold State.routeOne
  split
  · exact h
  split
  · exact .fst_ite h h.freeKey.toLocal
  · split
    · exact h
    · extract_lets s0 s1
      have h0 : s0.Inv := h.fresh.ite h
      have h1 : s1.Inv := h0.bump.pmu_.ite h0
      exact (h1.bump.ite h1).trail.commit
  · exact h
  · split
    · exact h
    · dsimp only
      exact h.freeKey.reinject
  · exact h.trail.freeKey.dropUnroutable
  · exact h.trail.freeKey.bump

theorem State.Inv.setInq (h : s.Inv) {key l} : (s.setInq key l).Inv := h.update

theorem State.Inv.routeKeyAux (h : s.Inv) {key fuel} : (Machine.routeKeyAux key fuel s).Inv := by
  induction fuel generalizing s with
  | zero => exact h
  | succ fuel ih =>
    unfold Machine.routeKeyAux
    split
    · exact h
    split
    next heq => exact ih (h.routeOne.of_fst_eq heq).setInq
    · exact h

theorem State.Inv.routeKey (h : s.Inv) {key} : (s.routeKey key).Inv := h.routeKeyAux

theorem State.Inv.routeReinj (h : s.Inv) : s.routeReinj.Inv := by
  refine h.update.foldl fun t i ht => ?_
  split
  next heq => exact ht.routeOne.of_fst_eq heq
  · exact ht.update

theorem State.Inv.arrive (h : s.Inv) {key i} : (s.arrive key i).Inv := h.setInq.routeKey.routeReinj

theorem State.Inv.pmuOwner (h : s.Inv) {code o tclass} : (s.pmuOwner code o tclass).Inv := h.pmu_

theorem State.Inv.inject (h : s.Inv) {k tag avoid own} : (s.inject k tag avoid own).Inv := h.pmuOwner.arrive

theorem State.Inv.pistePkt (h : s.Inv) {key i} : (s.pistePkt key i).Inv := by
  unfold State.pistePkt
  extract_lets
  split
  · exact h.freeSlots.toLocal
  split
  · exact h.trail.freeSlots.bump
  split
  · exact h.trail.commit.update.ite h.trail.commit
  · exact h.trail.freeSlots

theorem State.Inv.pisteSend (h : s.Inv) {n ps i} : (s.pisteSend n ps i).Inv := h.commit.update

theorem State.Inv.injectPiste (h : s.Inv) {n k tag own} : (s.injectPiste n k tag own).Inv :=
  h.pmuOwner.pisteSend.ite h.pmuOwner.update

theorem State.Inv.pisteRunAux (h : s.Inv) {n fuel} : (Machine.pisteRunAux n fuel s).Inv := by
  induction fuel generalizing s with
  | zero => exact h
  | succ fuel ih =>
    unfold Machine.pisteRunAux
    extract_lets
    split
    · exact (ih h.pisteSend).ite h
    · exact h

theorem State.Inv.pisteRun (h : s.Inv) : s.pisteRun.Inv := h.foldl fun _ _ h => h.ite h.pisteRunAux

theorem State.Inv.unholdPiste (h : s.Inv) {n} : (s.unholdPiste n).Inv := h.ite (h.update.foldl fun _ _ h => h.ite h.arrive)

theorem State.Inv.fabricRun (h : s.Inv) : s.fabricRun.Inv := (h.foldl fun _ _ h => h.routeKey).routeReinj.pisteRun.flush

theorem State.Inv.sendBreak (h : s.Inv) {p origin piste toDest} : (s.sendBreak p origin piste toDest).Inv := h.sendCtl

theorem State.Inv.unqueuePiste (h : s.Inv) {port label} : (s.unqueuePiste port label).Inv :=
  h.modPort.foldl fun _ _ h => h.ite h.arrive

theorem State.Inv.forgetMark (h : s.Inv) {n} : (s.forgetMark n).Inv := h.update

theorem State.Inv.pisteGone (h : s.Inv) {n status} : (s.pisteGone n status).Inv := by
  unfold State.pisteGone
  split
  · exact h.unqueuePiste.unholdPiste.forgetMark.update.endB.ite h
  · exact h

theorem State.Inv.pisteBreak (h : s.Inv) {n port} : (s.pisteBreak n port).Inv := by
  unfold State.pisteBreak
  split
  · exact h
  split
  · exact h.update.endB
  · exact h.update.unqueuePiste.unholdPiste.latch.raise
  · exact h.pisteGone
  · exact h

theorem State.Inv.breakPistes (h : s.Inv) {p} : (s.breakPistes p).Inv := by
  unfold State.breakPistes
  extract_lets hit gone _ s1 s2
  have h2 : s2.Inv := h.update.foldl fun _ _ h => (h.ite h.sendBreak).ite (h.ite h.sendBreak).sendBreak
  exact h2.foldl fun _ _ h => h.pisteBreak

theorem State.Inv.unstream (h : s.Inv) {t x} : (s.unstream t x).Inv := by
  unfold State.unstream
  split
  · exact h
  · exact h.ite h.setPart

theorem State.Inv.rerouteCtl (h : s.Inv) {p t} : (s.rerouteCtl p t).Inv := by
  unfold State.rerouteCtl
  split
  · exact h.queuePkt
  · exact h

theorem State.Inv.routeHead (h : s.Inv) {key} : (s.routeHead key).Inv := by
  unfold State.routeHead
  split
  · exact h
  split
  next heq => exact (h.routeOne.of_fst_eq heq).setInq
  · exact h

theorem State.Inv.requeue (h : s.Inv) {p} : (s.requeue p).Inv := by
  unfold State.requeue
  extract_lets lost all s1 s2 back order l s3
  have h2 : s2.Inv := h.modPort.foldl fun _ _ h => h.unstream.freeKey.ite (h.rerouteCtl.ite h.unstream)
  have h3 : s3.Inv := h2.foldl fun _ _ h => h.setInq
  exact h3.foldl fun _ _ h => h.routeHead

theorem State.Inv.recallReqs (h : s.Inv) : s.recallReqs.Inv := by
  unfold State.recallReqs
  extract_lets
  refine h.foldl fun t x ht => ?_
  extract_lets
  refine ht.modPort.foldl fun t x ht => ?_
  split
  · exact ht.update
  · exact ht.setInq

theorem State.Inv.voidArriving (h : s.Inv) {p} : (s.voidArriving p).Inv := h.update.update.modPort

/-! ## Requests of the initiator (Machine/Send) -/

theorem State.Inv.setCc (h : s.Inv) {cell c} : (s.setCc cell c).Inv := h.update

theorem State.Inv.ccWake (h : s.Inv) {cell} : (s.ccWake cell).Inv := h.unpark.ite h

theorem State.Inv.ccLeave (h : s.Inv) {e} : (s.ccLeave e).Inv := h.ite h.setCc.ccWake

theorem State.Inv.targetWait (h : s.Inv) {r} : (s.targetWait r).Inv := h.update.enqueue

theorem State.Inv.modTag (h : s.Inv) {t f} : (s.modTag t f).Inv := h.update

theorem State.Inv.noteFirst (h : s.Inv) {o} : (s.noteFirst o).Inv := by
  unfold State.noteFirst
  extract_lets _ mark
  have hmark : ∀ id, (mark id).Inv := fun _ => h.update
  split
  · exact hmark _
  · exact hmark _
  · exact h

theorem State.Inv.transmit (h : s.Inv) {w t} : (s.transmit w t).Inv := by
  unfold State.transmit
  extract_lets loc cell origin p k n e _ s1 c s2
  have h1 : s1.Inv := h.update.noteFirst
  have h2 : s2.Inv := h1.ite h1.setCc
  split
  · exact h2.targetWait
  split
  · exact h2.injectPiste
  · exact h2.inject

theorem State.Inv.mergedFill (h : s.Inv) {k w x} (hx : s.mergedFill k w = some x) : x.1.Inv := by
  unfold State.mergedFill at hx
  extract_lets c inTime at hx
  split at hx
  · cases hx
  · cases hx
    exact h.modCtx.unpark.bump

theorem State.Inv.sendNow (h : s.Inv) {w t} : (s.sendNow w t).Inv := by
  unfold State.sendNow
  split
  · split
    next heq => exact (h.mergedFill heq).fresh.transmit
    · exact h
  · exact h.fresh.transmit

theorem State.Inv.sendW (h : s.Inv) {w} : (s.sendW w).Inv := by
  unfold State.sendW
  split
  · exact h.update
  split
  · exact h.sendNow
  · exact h.update

theorem State.Inv.sendReq (h : s.Inv) {o k nonIdem piste origin noInstall} : (s.sendReq o k nonIdem piste origin noInstall).Inv :=
  h.sendW

theorem State.Inv.wakeAux (h : s.Inv) {fuel} : (Machine.wakeAux fuel s).Inv := by
  induction fuel generalizing s with
  | zero => exact h
  | succ fuel ih =>
    unfold Machine.wakeAux
    split
    · exact h
    split
    · refine ih ?_
      split
      · exact h.update.modDesc
      · exact h.update
    split
    · split
      · exact ih h.update.sendNow
      · exact h
    · exact h

theorem State.Inv.wakeTags (h : s.Inv) : s.wakeTags.Inv :=
  (h.wakeAux.unpark.ite h.wakeAux).unpark.ite (h.wakeAux.unpark.ite h.wakeAux)

theorem State.Inv.releaseTag (h : s.Inv) {t} : (s.releaseTag t).Inv := by
  unfold State.releaseTag
  split
  · exact h
  · exact h.update.ccLeave.wakeTags.unpark

theorem State.Inv.maybeRelease (h : s.Inv) {t} : (s.maybeRelease t).Inv := by
  unfold State.maybeRelease
  split
  · split
    · exact h.releaseTag.ite h
    · exact h
  · exact h

theorem State.Inv.closeTags (h : s.Inv) {l} : (s.closeTags l).Inv := h.foldl fun _ _ h => h.modTag.maybeRelease

theorem State.Inv.cancelReqs (h : s.Inv) {mine} : (s.cancelReqs mine).Inv := h.update.closeTags

theorem State.Inv.answered (h : s.Inv) {t txtime residence} : (s.answered t txtime residence).Inv := by
  unfold State.answered
  split
  · exact h
  · exact h.modTag.ite h.modTag.setCc.ccWake

theorem State.Inv.resendTag (h : s.Inv) {t} : (s.resendTag t).Inv := by
  unfold State.resendTag
  split
  · exact h
  · exact h.modTag.pmuOwner.inject

theorem State.Inv.resendPort (h : s.Inv) {p} : (s.resendPort p).Inv := h.foldl fun _ _ h => h.resendTag

theorem State.Inv.sendCell (h : s.Inv) {dest src ptype payload} : (s.sendCell dest src ptype payload).Inv := by
  unfold State.sendCell
  extract_lets
  split
  · exact h.sendCtlTo
  · split
    · exact h.sendCtlTo
    · exact h
  · exact h

theorem State.Inv.probePeer (h : s.Inv) {x} : (s.probePeer x).Inv := h.update.sendCell

theorem State.Inv.portLost (h : s.Inv) {p} : (s.portLost p).Inv := by
  unfold State.portLost
  extract_lets s1 s2 x s3 s4
  have h1 : s1.Inv := h.latch.raise.voidArriving
  have h2 : s2.Inv := h1.requeue.modPort
  have h3 : s3.Inv := h2.portNotice.breakPistes
  have h4 : s4.Inv := h3.probePeer.ite h3
  exact h4.resendPort.fabricRun

/-! ## Address translation (Machine/Xlate) -/

theorem State.Inv.xltFault (h : s.Inv) {w kind level addr} : (s.xltFault w kind level addr).Inv := by
  unfold State.xltFault
  extract_lets s1 s2
  have h2 : s2.Inv := h.bump.snap fun _ h => h.setFld.setFld.setFld.setFld.setFld.setFld.wrRaw.wrRaw
  exact h2.latch.raise.ite (h2.latch.raise.ite (h2.latch.ite (h2.latch.ite h2)))

theorem State.Inv.xltInstall (h : s.Inv) {e} : (s.xltInstall e).Inv := h.update

theorem State.Inv.wcInstall (h : s.Inv) {e} : (s.wcInstall e).Inv := h.update

theorem State.Inv.walkRead (h : s.Inv) {w func addr level} : (s.walkRead w func addr level).1.Inv := by
  unfold State.walkRead
  split
  · exact h
  · exact h.bump.emit

theorem State.Inv.descend (h : s.Inv) {w l table} : (Machine.descend w l table s).1.Inv := by
  induction l generalizing w table with
  | zero => exact h.walkRead
  | succ l ih =>
    unfold Machine.descend
    split
    · exact ih
    · exact h.walkRead

theorem State.Inv.fromRoot (h : s.Inv) {w root top} : (s.fromRoot w root top).1.Inv := by
  unfold State.fromRoot
  split
  · exact h
  · exact h.descend

theorem State.Inv.leafChecks (h : s.Inv) {w e tries} : (s.leafChecks w e tries).1.Inv := by
  unfold State.leafChecks
  extract_lets
  split
  · exact h
  split
  · exact h
  split
  · exact h
  split
  · split
    · exact h
    split
    · exact h
    split
    · exact h
    · exact h.bump.emit
  · exact h

theorem State.Inv.onEntry (h : s.Inv) {w l table v tries} : (s.onEntry w l table v tries).1.Inv := by
  unfold State.onEntry
  split
  · exact h
  split
  · exact h
  split
  · exact h.leafChecks
  · exact h.descend

theorem State.Inv.walkBegin (h : s.Inv) {w} : (s.walkBegin w).1.Inv := by
  unfold State.walkBegin
  split
  · exact h.fromRoot
  · exact h.walkRead

theorem State.Inv.walkRet (h : s.Inv) {w rd} : (s.walkRet w rd).1.Inv := by
  unfold State.walkRet
  split
  · split
    · exact h
    · extract_lets
      split
      · exact h
      · exact h.fromRoot
  · split
    · exact h
    · exact h.onEntry
  · exact h

theorem State.Inv.casRet (h : s.Inv) {w rd} : (s.casRet w rd).1.Inv := by
  unfold State.casRet
  split
  · split
    · exact h
    · extract_lets
      split
      · exact h.write
      split
      · exact h
      split
      · exact h
      split
      · exact h
      split
      · exact h.leafChecks
      · exact h.descend
  · exact h

theorem State.Inv.xlateAux (h : s.Inv) {q fuel va n got segs} : (Machine.xlateAux q fuel va n got segs s).1.Inv := by
  induction fuel generalizing s va n got segs with
  | zero => exact h
  | succ fuel ih =>
    unfold Machine.xlateAux
    split
    · exact h
    extract_lets take w r
    split
    · exact ih h
    have hr : r.1.Inv := by
      unfold r
      refine .fst_ite h (.fst_ite h ?_)
      split
      · exact h.bump.leafChecks
      · exact h.bump.pmu_.fresh.walkBegin
    clear_value r
    split
    · exact ih hr
    · exact State.Inv.xltFault hr
    · exact State.Inv.update hr

theorem State.Inv.xlate (h : s.Inv) {acc func asid va n write target kr got} : (s.xlate acc func asid va n write target kr got).1.Inv :=
  h.xlateAux

theorem State.Inv.writeSegs (h : s.Inv) {l b} : (Machine.writeSegs l b s).Inv := by
  induction l generalizing s b with
  | nil => exact h
  | cons x l ih => exact ih h.write

theorem State.Inv.xltDiscard (h : s.Inv) {f all asid va len} : (s.xltDiscard f all asid va len).2.Inv := h.update

theorem State.Inv.xltClear (h : s.Inv) : s.xltClear.Inv := h.update

/-! ## Answers of the target and the lease table (Machine/Lease) -/

theorem State.Inv.resExt (h : s.Inv) {k ext} : (s.resExt k ext).2.Inv := by
  unfold State.resExt
  split
  · exact h
  split
  · exact h
  split
  · exact h.fresh.fresh
  · exact h

theorem State.Inv.respond {s0 : State} (h0 : s0.Inv) {r status res age ext payload} : (s0.respond r status res age ext payload).Inv :=
  h0.resExt.toLocal.ite h0.resExt.inject

theorem State.Inv.answer (h : s.Inv) {r status ext payload} : (s.answer r status ext payload).Inv := h.respond

theorem State.Inv.setLease (h : s.Inv) {k l} : (s.setLease k l).Inv := h.update

theorem State.Inv.dupDone (h : s.Inv) {r} : (s.dupDone r).Inv := h.ite h.update

theorem State.Inv.visible (hs : s.Inv) {h} : (s.visible h).Inv := hs.dupDone.answer

theorem State.Inv.linvClose (h : s.Inv) {k} : (s.linvClose k).Inv := h.cancelReqs

theorem State.Inv.leaseDone {s0 : State} (hs0 : s0.Inv) {k} : (s0.leaseDone k).Inv :=
  hs0.linvClose.update.foldl fun _ _ h => h.visible

theorem State.Inv.sendLinv (h : s.Inv) {k holder} : (s.sendLinv k holder).Inv := h.bump.sendReq

theorem State.Inv.homeWrite (hs : s.Inv) {al rkey blk window h} : (s.homeWrite al rkey blk window h).Inv := by
  unfold State.homeWrite
  extract_lets
  split
  · exact hs.update
  split
  · exact hs.visible
  split
  · extract_lets s1 s2
    have hs2 : s2.Inv := hs.setLease.foldl fun _ _ h => h.sendLinv
    exact hs2.leaseDone.ite hs2
  · exact hs.setLease.leaseDone

theorem State.Inv.holdAccess (h : s.Inv) {k r} : (s.holdAccess k r).Inv := h.update.ite h.setLease

theorem State.Inv.grant (h : s.Inv) {al rkey blk who st} : (s.grant al rkey blk who st).2.Inv := by
  unfold State.grant
  extract_lets
  split
  · exact h.bump
  split
  · exact h.bump
  split
  · split
    · exact h.bump.latch
    · exact h.setLease
  · split <;> exact h.setLease

theorem State.Inv.linvAcked (h : s.Inv) {k holder} : (s.linvAcked k holder).Inv := by
  unfold State.linvAcked
  split
  · exact h
  · exact h.ite (h.setLease.leaseDone.ite h.setLease)

theorem State.Inv.recallRegion (h : s.Inv) {rkey} : (s.recallRegion rkey).Inv :=
  h.foldl fun _ _ h => h.foldl fun _ _ h => h.sendLinv

/-! ## The checks of requests at the target (Machine/Checks) -/

theorem State.Inv.dupPut (h : s.Inv) {i e} : (s.dupPut i e).Inv := h.update

theorem State.Inv.dupMod (h : s.Inv) {i f} : (s.dupMod i f).Inv := h.update

theorem State.Inv.remember (h : s.Inv) {r pending status d0 d1} : (s.remember r pending status d0 d1).Inv := h.ite h.dupPut

theorem State.Inv.answerDup (h : s.Inv) {r e} : (s.answerDup r e).Inv := h.ite h.answer

theorem State.Inv.modRegion (h : s.Inv) {k f} : (s.modRegion k f).Inv := h.update

theorem State.Inv.checkKey (h : s.Inv) {r key} : (s.checkKey r key).1.Inv := by
  unfold State.checkKey
  extract_lets
  split
  · exact h
  split
  · exact h
  split
  · exact h.ite h.raise
  · split <;> exact h

theorem State.Inv.admitReq {go : State → State} (h : s.Inv) {r nonIdem} (hgo : ∀ t, t.Inv → (go t).Inv) :
    (s.admitReq r nonIdem go).Inv := by
  unfold State.admitReq
  split
  · exact h
  split
  · exact h.answer
  split
  · exact h
  split
  · exact h.pmu_.answerDup
  · exact hgo _ h

theorem State.Inv.inflight (h : s.Inv) {k up} : (s.inflight k up).Inv := h.modRegion

theorem State.Inv.markBusy (h : s.Inv) {r t} : (s.markBusy r t).Inv := h.update

theorem State.Inv.unmarkBusy (h : s.Inv) {t} : (s.unmarkBusy t).Inv := h.update

theorem State.Inv.notReady (h : s.Inv) {r} : (s.notReady r).Inv := h.ite h.answer

/-! ## Collectives (Machine/Coll) -/

theorem State.Inv.sendColl (h : s.Inv) {k peer ctype n orphan x} : (s.sendColl k peer ctype n orphan x).Inv := h.sendReq

theorem State.Inv.modInst (h : s.Inv) {k n f} : (s.modInst k n f).Inv := h.modCtx

theorem State.Inv.lossRecord (h : s.Inv) {k n x} : (s.lossRecord k n x).Inv := h.ite h.write

theorem State.Inv.instDone (h : s.Inv) {k} : (s.instDone k).Inv := h.modCtx.bump.unpark

theorem State.Inv.instFinish (h : s.Inv) {k i x got failed} :
    (∀ t, (s.instFinish k i x got failed).1 = some t → t.Inv) ∧ (s.instFinish k i x got failed).2.Inv := by
  unfold State.instFinish
  split
  · exact ⟨fun t ht => Option.some.inj ht ▸ h.instDone, h⟩
  · extract_lets c b r s1 s2
    have hr : r.1.Inv := .fst_ite h (.fst_ite h (.fst_ite h h.xlate))
    have h1 : s1.Inv := hr.ite hr.writeSegs
    have h2 : s2.Inv := h1.lossRecord.ite h1
    split
    · exact ⟨fun t ht => (Option.some_ne_none t ht.symm).elim, hr⟩
    · exact ⟨fun t ht => Option.some.inj ht ▸ h2.finish.instDone, h2⟩

theorem State.Inv.instRunAux (h : s.Inv) {k fuel got} : (Machine.instRunAux k fuel got s).Inv := by
  induction fuel generalizing s got with
  | zero => exact h
  | succ fuel ih =>
    unfold Machine.instRunAux
    split
    · exact h
    split
    · split
      · exact h
      split
      next heq => exact ih (h.instFinish.1 _ (congrArg Prod.fst heq))
      next heq => exact h.instFinish.2.of_snd_eq heq
    · exact h

theorem State.Inv.instRun (h : s.Inv) {k got} : (s.instRun k got).Inv := h.instRunAux

theorem State.Inv.instFailed (h : s.Inv) {k n kind} : (s.instFailed k n kind).Inv := by
  unfold State.instFailed
  split
  · split
    · split
      · split
        next heq => exact State.Inv.instRun (h.instFinish.1 _ (congrArg Prod.fst heq))
        next heq => exact h.instFinish.2.of_snd_eq heq
      · exact h
    · exact h
  · exact h

theorem State.Inv.instResult (h : s.Inv) {k n x} : (s.instResult k n x).Inv := (h.modInst.foldl fun _ _ h => h.sendColl).instRun

theorem State.Inv.rootResolve (h : s.Inv) {k i} : (s.rootResolve k i).Inv :=
  (h.modCtx.modInst.foldl fun _ _ h => h.sendColl).instRun

theorem State.Inv.collSendAux (h : s.Inv) {k fuel} : (Machine.collSendAux k fuel s).Inv := by
  induction fuel generalizing s with
  | zero => exact h
  | succ fuel ih =>
    unfold Machine.collSendAux
    extract_lets
    split
    · exact h
    · exact ((ih h.rootResolve).ite (ih h.modInst.sendColl)).ite h

theorem State.Inv.collRun (h : s.Inv) {k} : (s.collRun k).Inv := h.collSendAux

theorem State.Inv.collIssue (h : s.Inv) {k q cnt x} : (s.collIssue k q cnt x).Inv := by
  unfold State.collIssue
  extract_lets c n s1 s2
  have h2 : s2.Inv := h.modInst.modCtx
  exact h2.modInst.fresh.instRun.ite (h2.modInst.fresh.instResult.ite h2.sendColl)

theorem State.Inv.constitAnswer (h : s.Inv) {x status v age} : (s.constitAnswer x status v age).Inv := (h.ite h.dupMod).respond

theorem State.Inv.batchFail (h : s.Inv) {k} : (s.batchFail k).Inv := (h.modCtx.foldl fun _ _ h => h.constitAnswer).unpark

theorem State.Inv.pendingLost (h : s.Inv) {k lost forward} : (s.pendingLost k lost forward).Inv := by
  unfold State.pendingLost
  extract_lets c mine s1 s2
  have h2 : s2.Inv := h.modCtx.foldl fun _ _ h => (h.modInst.fresh.foldl fun _ _ h => h.sendColl).ite h.modInst.fresh
  exact h2.instRun

theorem State.Inv.resendOrphans (h : s.Inv) {k} : (s.resendOrphans k).Inv := h.foldl fun _ _ h => h.sendColl

theorem State.Inv.declareLost (h : s.Inv) {k peer} : (s.declareLost k peer).Inv := by
  unfold State.declareLost
  extract_lets c isRoot isParent sub s1 s2
  have h1 : s1.Inv := h.latch.bump.event0
  have h2 : s2.Inv := h1.modCtx.latch
  split
  · exact h.ite h2.pendingLost.batchFail
  · exact h.ite (h1.modCtx.resendOrphans.collRun.ite h1.modCtx.collRun)

theorem State.Inv.excludedAt (h : s.Inv) {k n} : (s.excludedAt k n).Inv := by
  unfold State.excludedAt
  extract_lets s1
  have h1 : s1.Inv := h.modCtx.event0
  split
  · exact h1.ite h1.modInst.fresh.instRun
  · exact h1

theorem State.Inv.collAdmit {go : State → State} (h : s.Inv) {r} (hgo : ∀ t, t.Inv → (go t).Inv) : (s.collAdmit r go).Inv :=
  h.ite (h.answer.ite (h.answer.ite (h.latch.event0.answer.ite (hgo _ h))))

theorem State.Inv.collContrib (h : s.Inv) {r} : (s.collContrib r).Inv := by
  unfold State.collContrib
  refine .collAdmit h fun t ht => ?_
  extract_lets k n _ c x put
  have hput : ∀ u, u.Inv → (put u).Inv := fun _ h => h.modInst.answer.collRun
  split
  · exact ht.answer.ite ht.modInst.answer.collRun.instRun
  split
  · split
    · exact ht.answer.sendColl
    split
    · exact ht.answer
    split
    · exact hput _ (ht.ite ht.modCtx).modInst
    · exact ht.answer
  · exact ht.answer.ite (ht.answer.ite (ht.answer.ite (hput _ ht)))

theorem State.Inv.collResultIn (h : s.Inv) {r} : (s.collResultIn r).Inv := h.collAdmit fun _ h => h.answer.ite h.answer.instResult

theorem State.Inv.collProbeIn (h : s.Inv) {r} : (s.collProbeIn r).Inv := h.collAdmit fun _ h => h.answer

theorem State.Inv.constitJoin (h : s.Inv) {k x} : (s.constitJoin k x).Inv := h.modCtx.bump

theorem State.Inv.mergedJoin (h : s.Inv) {r} : (s.mergedJoin r).Inv := by
  unfold State.mergedJoin
  refine .collAdmit h fun t ht => ?_
  extract_lets
  split
  · exact ht
  split
  · exact ht.pmu_.answerDup
  · exact ht.constitAnswer.ite (ht.latch.answer.ite (ht.answer.ite ht.remember.pmu_.constitJoin))

theorem State.Inv.constitExpire (h : s.Inv) {k} : (s.constitExpire k).Inv := (h.modCtx.foldl fun _ _ h => h.constitAnswer).unpark

theorem State.Inv.batchSend (h : s.Inv) {k} : (s.batchSend k).Inv := h.constitExpire.ite h.constitExpire.sendW

theorem State.Inv.mergedDone (h : s.Inv) {k status v age} : (s.mergedDone k status v age).Inv :=
  h.modCtx.foldl fun _ _ h => h.constitAnswer

/-! ## The lock service (Machine/Lock) -/

theorem State.Inv.recLock (h : s.Inv) {k l} : (s.recLock k l).Inv := h.record.ite h

theorem State.Inv.recLine (h : s.Inv) {k op w} : (s.recLine k op w).Inv := h.record.ite h

theorem State.Inv.setLock (h : s.Inv) {k l} : (s.setLock k l).Inv := h.update.recLock

theorem State.Inv.sendGrant (h : s.Inv) {k flags} : (s.sendGrant k flags).Inv := h.sendReq

theorem State.Inv.lockPass {s0 : State} (h0 : s0.Inv) {k l} : (s0.lockPass k l).Inv := by
  unfold State.lockPass
  extract_lets s
  have h : s.Inv := h0.cancelReqs
  split
  · exact h.setLock
  · exact h.recLine.setLock.bump.whenProtected fun _ h => h.sendGrant

theorem State.Inv.lockAnswer (h : s.Inv) {r nonIdem status d0 res} : (s.lockAnswer r nonIdem status d0 res).Inv :=
  (h.remember.ite h).whenProtected fun _ h => (h.dupDone.ite h).answer

theorem State.Inv.lockTake (h : s.Inv) {r k l try_} : (s.lockTake r k l try_).Inv := by
  unfold State.lockTake
  extract_lets
  split
  · exact h.setLock.bump.lockAnswer
  split
  · exact h.lockAnswer
  · exact h.lockAnswer.ite (h.latch.answer.ite h.recLine.setLock.bump.pmu_.lockAnswer)

theorem State.Inv.lockGive (h : s.Inv) {r k l} : (s.lockGive r k l).Inv := h.lockPass.lockAnswer.ite h.bump.lockAnswer

theorem State.Inv.lockCancel (h : s.Inv) {r k l} : (s.lockCancel r k l).Inv := (h.recLine.setLock.ite h).lockAnswer

theorem State.Inv.lockProbe (h : s.Inv) {r l} : (s.lockProbe r l).Inv := h.lockAnswer

theorem State.Inv.lockExec {op : State → Nat → Lock → State} (h : s.Inv) {r} (hop : ∀ t x y, t.Inv → (op t x y).Inv) :
    (s.lockExec r op).Inv :=
  h.admitReq fun _ h => h.lockAnswer.ite (h.answer.ite (hop _ _ _ h))

theorem State.Inv.grantSettle (h : s.Inv) {k gseq accepted} : (s.grantSettle k gseq accepted).Inv :=
  (h.setLock.ite h.bump.lockPass).ite h

theorem State.Inv.grantUnknown (h : s.Inv) {k gseq} : (s.grantUnknown k gseq).Inv := h.setLock.latch.event0.ite h

theorem State.Inv.modRec (h : s.Inv) {n f} : (s.modRec n f).Inv := h.update

theorem State.Inv.freeRec (h : s.Inv) {n} : (s.freeRec n).Inv := h.update.unpark

theorem State.Inv.acquired (h : s.Inv) {n x d0} : (s.acquired n x d0).Inv := by
  unfold State.acquired
  extract_lets
  split
  · exact h.modRec.finish
  · exact h.modRec

theorem State.Inv.acquireFail (h : s.Inv) {n x status d1} : (s.acquireFail n x status d1).Inv := by
  unfold State.acquireFail
  extract_lets
  split
  · exact h.freeRec.finish
  · exact h.freeRec

theorem State.Inv.sendLockop (h : s.Inv) {o x sub} : (s.sendLockop o x sub).Inv := h.sendReq

theorem State.Inv.cancelWaits (h : s.Inv) {q} : (s.cancelWaits q).Inv := h.foldl fun _ _ h => h.modRec.sendLockop

theorem State.Inv.dropWaits (h : s.Inv) {q cancel} : (s.dropWaits q cancel).Inv :=
  h.foldl fun _ _ h => h.freeRec.sendLockop.ite h.freeRec

theorem State.Inv.grantExec (h : s.Inv) {r} : (s.grantExec r).Inv := by
  unfold State.grantExec
  extract_lets
  refine .admitReq h fun t ht => ?_
  split
  · exact ht.answer
  · extract_lets done hit
    clear_value hit
    split
    · exact ht.remember.answer
    split
    · exact ht.remember.acquired.answer.ite ht.remember.answer
    · exact ht.remember.answer

theorem State.Inv.purgeLine (h : s.Inv) {k c f} : (s.purgeLine k c f).Inv := h.ite (h.foldl fun _ _ h => h.recLine).setLock

theorem State.Inv.ownerDead (h : s.Inv) {c f sub} : (s.ownerDead c f sub).Inv :=
  h.ite ((h.foldl fun _ _ h => h.purgeLine).foldl fun _ _ h => h.bump.lockPass).latch.event0

theorem State.Inv.peerDead (h : s.Inv) {c f sub} : (s.peerDead c f sub).Inv :=
  ((h.ite h.update).ite (h.ite h.update).raise).ownerDead

theorem State.Inv.sendOreset (h : s.Inv) {n} : (s.sendOreset n).Inv := h.foldl fun _ _ h => h.sendCell

theorem State.Inv.endNotices (h : s.Inv) : s.endNotices.Inv := h.update.wakeTags.unpark.ite h

theorem State.Inv.ownReset (h : s.Inv) {all func} : (s.ownReset all func).Inv := h.update.peerDead.sendOreset.endNotices

theorem State.Inv.portCame (h : s.Inv) {p} : (s.portCame p).Inv := h.update.sendOreset.ite h

/-! ## Tagged messages (Machine/Msg) -/

theorem State.Inv.modMsg (h : s.Inv) {n f} : (s.modMsg n f).Inv := h.update

theorem State.Inv.dropMsg (h : s.Inv) {n} : (s.dropMsg n).Inv := h.update

theorem State.Inv.msgDup (h : s.Inv) {c f} : (s.msgDup c f).Inv := h.dupMod

theorem State.Inv.recvEnd (h : s.Inv) {c x status} : (s.recvEnd c x status).Inv := by
  unfold State.recvEnd
  extract_lets s1
  have h1 : s1.Inv := by
    unfold s1
    split
    · exact h.finish
    · exact h
  exact h1.unpark

theorem State.Inv.msgSettle (h : s.Inv) {n} : (s.msgSettle n).Inv := by
  unfold State.msgSettle
  split
  · exact h
  split
  · exact h
  · extract_lets
    split
    · exact h.msgDup
    · exact h.msgDup.ite h.msgDup.dropMsg.recvEnd

theorem State.Inv.placeMsg (h : s.Inv) {acc x i l got} : (s.placeMsg acc x i l got).1.Inv := by
  unfold State.placeMsg
  extract_lets
  split
  · exact h
  split
  · exact h
  split
  · exact h.xlate
  · exact h.xlate.writeSegs

theorem State.Inv.msgCopy (h : s.Inv) {n idx got} : (s.msgCopy n idx got).Inv := by
  unfold State.msgCopy
  split
  · exact h
  split
  · extract_lets r
    have hr : r.1.Inv := .fst_ite h h.placeMsg
    exact hr.ite hr.modMsg.msgSettle
  · exact h

theorem State.Inv.recvPlace (h : s.Inv) {x} : (s.recvPlace x).Inv := by
  unfold State.recvPlace
  split
  · exact (h.modMsg.foldl fun _ _ h => h.msgCopy).msgSettle
  · exact h.update

theorem State.Inv.msgPlace (h : s.Inv) {r got} : (s.msgPlace r got).Inv := by
  unfold State.msgPlace
  extract_lets
  split
  · exact h
  · extract_lets
    split
    · exact h.update.answer
    split
    · exact h.answer
    split
    · split
      · exact h.modMsg.answer.msgSettle
      · extract_lets
        split
        · exact h.placeMsg.markBusy
        · exact h.placeMsg.modMsg.answer.msgSettle.ite h.placeMsg.modMsg.answer.msgSettle
    · exact h.answer.ite h.modMsg.answer.msgSettle

theorem State.Inv.msgPlaceFailed (h : s.Inv) {r} : (s.msgPlaceFailed r).Inv := by
  unfold State.msgPlaceFailed
  extract_lets
  split
  · exact h
  · exact h.modMsg.answer.msgSettle

theorem State.Inv.msgCopyFailed (h : s.Inv) {n idx} : (s.msgCopyFailed n idx).Inv := h.modMsg.msgSettle

theorem State.Inv.msgNew (h : s.Inv) {r} : (s.msgNew r).Inv := by
  unfold State.msgNew
  extract_lets k q hit c posted _ s1 s2 s3
  have h2 : s2.Inv := h.update.ite h.update.dupPut
  have h3 : s3.Inv := h2.pmuQ.ite h2
  exact h.answer.ite (h.answer.ite h3.msgPlace)

theorem State.Inv.msgExec (h : s.Inv) {r} : (s.msgExec r).Inv := by
  unfold State.msgExec
  extract_lets
  split
  · exact h
  split
  · exact h.answer
  split
  · exact h
  split
  · exact h.answer
  · exact h.msgPlace.ite (h.answer.ite h.msgNew)

theorem State.Inv.msgTimeout (h : s.Inv) {c} : (s.msgTimeout c).Inv := by
  unfold State.msgTimeout
  extract_lets s1 _ s2
  have h2 : s2.Inv := h.dropMsg.update
  split
  · exact h2.recvEnd
  · exact h2.pmuQ

theorem State.Inv.msgDiscard (h : s.Inv) {c} : (s.msgDiscard c).Inv := h.dropMsg.msgDup

theorem State.Inv.unpost (h : s.Inv) {q} : (s.unpost q).Inv := h.update

theorem State.Inv.recvCancel (h : s.Inv) {q silent} : (s.recvCancel q silent).Inv := by
  unfold State.recvCancel
  extract_lets mine s1 s2 s3
  have h2 : s2.Inv := h.unpost.foldl fun _ _ h => h.msgDiscard
  have h3 : s3.Inv := by
    unfold s3
    split
    · exact h2
    · refine h2.foldl fun t x ht => ?_
      split
      · exact ht.finish
      · exact ht
  exact h3.unpark

theorem State.Inv.recvOrphan (h : s.Inv) {q} : (s.recvOrphan q).Inv := h.update

theorem State.Inv.recvAbandon (h : s.Inv) {q} : (s.recvAbandon q).Inv := h.foldl fun _ _ h => h.msgDiscard

/-! ## Requests at the target (Machine/Target) -/

theorem State.Inv.getAnswers (h : s.Inv) {r off data} : (s.getAnswers r off data).Inv := h.foldl fun _ _ h => h.answer

theorem State.Inv.accessFail (h : s.Inv) {r rk nonIdem} : (s.accessFail r rk nonIdem).Inv :=
  (h.inflight.remember.ite h.inflight).answer

theorem State.Inv.accessDo (h : s.Inv) {r a segs} : (s.accessDo r a segs).Inv := by
  unfold State.accessDo
  extract_lets
  split
  · exact h.writeSegs.inflight.homeWrite
  · exact h.inflight.getAnswers
  · exact State.Inv.answer (.snd_ite h.inflight.grant h.inflight)
  · exact h.writeSegs.inflight.remember.homeWrite
  · exact (h.ite h.writeSegs).inflight.remember.homeWrite

theorem State.Inv.perform (h : s.Inv) {r got} : (s.perform r got).Inv := by
  unfold State.perform
  extract_lets
  split
  · exact h.holdAccess
  split
  · exact h.xlate.markBusy
  · exact h.xlate.accessFail.ite (h.xlate.poisonRx.accessFail.ite h.xlate.accessDo)

theorem State.Inv.release (h : s.Inv) {r} : (s.release r).Inv := by
  unfold State.release
  extract_lets
  split
  · exact h.inflight
  split
  · exact h.inflight.answerDup
  · exact h.perform

theorem State.Inv.accessChecks (h : s.Inv) {r nonIdem permits opLen} : (s.accessChecks r nonIdem permits opLen).Inv := by
  unfold State.accessChecks
  extract_lets
  split
  · exact h.checkKey.answer
  · exact h.answer.ite (h.answer.ite (h.answer.ite (h.pmu_.answer.ite h.pmu_.inflight.perform)))

theorem State.Inv.regionExec (h : s.Inv) {r} : (s.regionExec r).Inv := h.admitReq fun _ h => h.accessChecks

theorem State.Inv.mergedExec (h : s.Inv) {r} : (s.mergedExec r).Inv :=
  (h.collAdmit fun _ h => h.admitReq fun _ h => h.accessChecks).ite h.mergedJoin

theorem State.Inv.markReads (h : s.Inv) {p f} : (s.markReads p f).Inv := h.update

theorem State.Inv.linvExec (h : s.Inv) {r} : (s.linvExec r).Inv := h.admitReq fun _ h => h.update.markReads.bump.answer

theorem State.Inv.targetExec (h : s.Inv) {r} : (s.targetExec r).Inv := by
  unfold State.targetExec
  extract_lets
  split
  · exact h.admitReq fun _ h => h.answer
  split
  · exact h.regionExec.ite h
  · exact h.msgExec
  · exact h.linvExec
  · split
    · exact h.lockExec fun _ _ _ h => h.lockTake
    · exact h.lockExec fun _ _ _ h => h.lockTake
    · exact h.lockExec fun _ _ _ h => h.lockGive
    · exact h.lockExec fun _ _ _ h => h.lockCancel
    · exact h.lockExec fun _ _ _ h => h.lockProbe
    · exact h
  · exact h.grantExec
  · split
    · exact h.collContrib
    · exact h.collResultIn
    · exact h.collProbeIn
    · exact h.mergedExec
  · exact h.regionExec

theorem State.Inv.takeReq (h : s.Inv) {t r rest} : (s.takeReq t r rest).Inv :=
  (h.update.update.msgPlace.ite h.update.update.perform).ite h.update.targetExec

theorem State.Inv.turnHeld (h : s.Inv) {t n} : (s.turnHeld t n).Inv := h.update.ite h

theorem State.Inv.serveTctx (h : s.Inv) {e t rd fuel} : (Machine.serveTctx e t rd fuel s).Inv := by
  induction fuel generalizing s with
  | zero => exact h
  | succ fuel ih =>
    unfold Machine.serveTctx
    split
    · exact h
    split
    · exact h
    · exact h.ite (ih h.takeReq.turnHeld)

theorem State.Inv.continueTctx (h : s.Inv) {e t rd n} : (s.continueTctx e t rd n).Inv := h.serveTctx.ite h.serveTctx.enqueue

theorem State.Inv.turnTctx (h : s.Inv) {e t rd} : (s.turnTctx e t rd).Inv := h.pmu_.continueTctx

theorem State.Inv.turnGoOn {go : State → State} (h : s.Inv) {r} (hgo : ∀ t, t.Inv → (go t).Inv) : (s.turnGoOn r go).Inv :=
  (hgo _ h.unmarkBusy).turnHeld.ite (hgo _ h.unmarkBusy).turnHeld.continueTctx

/-! ## The Global Window at the requester (Machine/Window) -/

theorem State.Inv.winEvent (h : s.Inv) {type sub object data} : (s.winEvent type sub object data).Inv := by
  unfold State.winEvent
  split
  · exact h.ite h.update.event0
  · exact h.update.event0

theorem State.Inv.winFail (h : s.Inv) {kind d a write status} : (s.winFail kind d a write status).Inv := by
  unfold State.winFail
  extract_lets s1 s2
  have h1 : s1.Inv := h.bump.bump.ite h.bump
  have h2 : s2.Inv := h1.snap fun _ h => h.setFld.setFld.setFld.setFld.wrRaw.setFld
  split
  · exact h2.latch.winEvent
  · exact h2.latch.winEvent
  · exact h2.latch.winEvent
  · exact h2.winEvent
  · exact h2

theorem State.Inv.poison (h : s.Inv) {mid} : (s.poison mid).Inv := h.emit

theorem State.Inv.setFrame (h : s.Inv) {g f} : (s.setFrame g f).Inv := h.update

theorem State.Inv.makeRoom (h : s.Inv) {g} : (s.makeRoom g).Inv := by
  unfold State.makeRoom
  extract_lets
  split
  · exact h
  split
  · exact h.fresh.update
  · exact h

theorem State.Inv.install (h : s.Inv) {e src g expiry line} : (s.install e src g expiry line).Inv := by
  unfold State.install
  extract_lets f usable
  clear_value usable f
  split
  · exact h
  split
  · exact h.setFrame
  · exact h.setFrame
  · exact h.update.makeRoom.setFrame
  · exact h

theorem State.Inv.renew (h : s.Inv) {e off g f} : (s.renew e off g f).Inv := h.setFrame.bump.sendReq.ite h

theorem State.Inv.setBlk (h : s.Inv) {b w} : (s.setBlk b w).Inv := h.update

theorem State.Inv.modItem (h : s.Inv) {b id f} : (s.modItem b id f).Inv := h.setBlk

theorem State.Inv.issueItem (h : s.Inv) {b i} : (s.issueItem b i).Inv :=
  (h.modItem.bump.pmu_.foldl fun _ _ h => h.sendReq).ite h.modItem.bump.sendReq

theorem State.Inv.serveWinq (h : s.Inv) {l n kept} : (Machine.serveWinq l n kept s).2.Inv := by
  induction l generalizing s n kept with
  | nil => exact h
  | cons id l ih =>
    unfold Machine.serveWinq
    split
    · exact h
    split
    · exact ih h
    split
    · exact ih h.issueItem
    · exact ih h

theorem State.Inv.turnWinq (h : s.Inv) {e w} : (s.turnWinq e w).Inv := h.pmu_.serveWinq.update.enqueue.ite h.pmu_.serveWinq.update

theorem State.Inv.wakeBlk (h : s.Inv) {b} : (s.wakeBlk b).Inv := h.enqueue.ite h

theorem State.Inv.addItem (h : s.Inv) {b i} : (s.addItem b i).Inv := h.setBlk.update.wakeBlk

theorem State.Inv.fenceRun (h : s.Inv) : s.fenceRun.Inv := h.update.foldl fun _ _ h => h.emit

theorem State.Inv.fenceDrop (h : s.Inv) {id} : (s.fenceDrop id).Inv := h.update.fenceRun

theorem State.Inv.winLoad (h : s.Inv) {mid d a} : (s.winLoad mid d a).Inv := by
  unfold State.winLoad
  split
  · exact h.winFail.poison
  split
  · exact h.winFail.poison
  extract_lets off g n cacheable f exp s1 s2 miss
  have h1 : s1.Inv := h.bump.pmu_.ite h
  have hmiss : ∀ x, (miss x).Inv := fun _ => (h1.bump.ite h1).addItem
  clear_value miss exp f
  split
  · split
    · split
      · exact h.setFrame.bump.pmu_.renew.emit
      · exact hmiss ()
    · exact hmiss ()
  · exact hmiss ()

theorem State.Inv.storeMark (h : s.Inv) {e off} : (s.storeMark e off).Inv := h.markReads.update

theorem State.Inv.winStore (h : s.Inv) {mid d a data mask} : (s.winStore mid d a data mask).Inv := by
  unfold State.winStore
  split
  · exact h.winFail.emit
  split
  · exact h.winFail.emit
  · extract_lets off g n s1 s2 s3
    have h1 : s1.Inv := by
      unfold s1
      split
      · exact h.ite h.setFrame
      · exact h
    have h3 : s3.Inv := h1.storeMark.emit.ite h1.storeMark
    split
    · exact h3
    split
    · exact h3.modItem.ite h3.addItem
    · exact h3.addItem

theorem State.Inv.dropItem (h : s.Inv) {b id} : (s.dropItem b id).Inv := h.setBlk.fenceDrop.wakeBlk

theorem State.Inv.winReadDone (h : s.Inv) {e src id status expiry data} : (s.winReadDone e src id status expiry data).Inv := by
  unfold State.winReadDone
  split
  · exact h
  · exact h.winFail.poison.dropItem.ite h.install.emit.dropItem

theorem State.Inv.winLineDone (h : s.Inv) {b id line} : (s.winLineDone b id line).Inv := by
  unfold State.winLineDone
  split
  · exact h
  · exact (h.foldl fun _ _ h => h.emit).modItem.dropItem.ite (h.foldl fun _ _ h => h.emit).modItem

theorem State.Inv.winWriteDone (h : s.Inv) {id line status} : (s.winWriteDone id line status).Inv := by
  unfold State.winWriteDone
  split
  · exact h
  · exact (h.winFail.ite h).winLineDone

theorem State.Inv.cutItem (h : s.Inv) {id} : (s.cutItem id).Inv := h.cancelReqs

theorem State.Inv.winLost (h : s.Inv) {b i} : (s.winLost b i).Inv :=
  ((h.cutItem.foldl fun _ _ h => h.winFail).foldl fun _ _ h => h.emit).modItem.setBlk.fenceDrop

theorem State.Inv.winExpire (h : s.Inv) {id} : (s.winExpire id).Inv := by
  unfold State.winExpire
  split
  · exact h
  · exact h.ite (h.winLost.ite h.cutItem.winFail.poison.dropItem)

theorem State.Inv.winSettle (h : s.Inv) {b} : (s.winSettle b).Inv := by
  unfold State.winSettle
  extract_lets
  split
  · exact h.setBlk.wakeBlk.ite h
  · exact h

theorem State.Inv.nccReady (h : s.Inv) : s.nccReady.Inv := h.setFld

theorem State.Inv.timeLost (h : s.Inv) : s.timeLost.Inv := h.ite h.setFld.nccReady.latch.update.winEvent

theorem State.Inv.timeGained (h : s.Inv) : s.timeGained.Inv :=
  h.ite (h.setFld.nccReady.update.winEvent.ite h.setFld.nccReady.update)

/-! ## Answers at the initiator (Machine/Resp) -/

theorem State.Inv.descPart (h : s.Inv) {q cnt n status bytes} : (s.descPart q cnt n status bytes).Inv := by
  unfold State.descPart
  split
  · exact h
  · exact h.finish.ite h.modDesc

theorem State.Inv.getPlaced (h : s.Inv) {q cnt pos n} : (s.getPlaced q cnt pos n).Inv := by
  unfold State.getPlaced
  split
  · exact h
  · exact h.modDesc.descPart

theorem State.Inv.placeGet (h : s.Inv) {q cnt pkt got} : (s.placeGet q cnt pkt got).Inv := by
  unfold State.placeGet
  split
  · exact h
  · extract_lets
    split
    · exact h.descPart
    split
    · exact h.descPart
    split
    · exact h.xlate
    split
    · exact h.xlate.descPart
    · exact h.xlate.writeSegs.getPlaced

theorem State.Inv.getTake (h : s.Inv) {t e pkt} : (s.getTake t e pkt).Inv := h.answered.ite (h.modTag.answered.ite h.modTag)

theorem State.Inv.getAnswer (h : s.Inv) {t e q cnt pkt} : (s.getAnswer t e q cnt pkt).Inv :=
  h.ite (h.getTake.descPart.ite h.getTake.placeGet)

theorem State.Inv.lockDone (h : s.Inv) {q cnt op status d0} : (s.lockDone q cnt op status d0).Inv := by
  unfold State.lockDone
  split
  · split
    · exact h
    · exact h.ite (h.acquired.ite (h.modRec.ite h.acquireFail))
  split
  · exact h
  · exact h.finish.ite h.finish

theorem State.Inv.descAnswer (h : s.Inv) {e q cnt pkt} : (s.descAnswer e q cnt pkt).Inv := by
  unfold State.descAnswer
  split
  · exact h
  · exact h.lockDone.ite (h.modDesc.ite h).descPart

theorem State.Inv.tagAnswer (h : s.Inv) {t q cnt} : (s.tagAnswer t q cnt).Inv := by
  unfold State.tagAnswer
  split
  · exact h.fresh.update.ite h
  · exact h

theorem State.Inv.ownerAnswer (h : s.Inv) {t e pkt} : (s.ownerAnswer t e pkt).Inv := by
  unfold State.ownerAnswer
  extract_lets
  split
  · exact h.tagAnswer.getAnswer.ite h.answered.tagAnswer.descAnswer
  · exact h.answered.winReadDone
  · exact h.answered.winWriteDone
  · exact h.answered.install.ite h.answered
  · exact h.answered.linvAcked.ite h.answered
  · exact h.answered.grantSettle
  · split
    · exact h.answered.acquireFail.ite h.answered
    · exact h.answered
  · split
    · exact h.answered.acquireFail.ite h.answered
    · exact h.answered
  · exact h.answered.ite (h.answered.declareLost.ite (h.answered.excludedAt.ite h.answered))
  · exact h.answered.mergedDone
  · exact h.answered.pisteGone

theorem State.Inv.lateAnswer (h : s.Inv) {t e pkt} : (s.lateAnswer t e pkt).Inv := (h.ite h.getTake).ite h.answered

theorem State.Inv.badCode (h : s.Inv) {port} : (s.badCode port).Inv := h.badPkt.ite h

theorem State.Inv.respIn (h : s.Inv) {port pkt} : (s.respIn port pkt).Inv := by
  unfold State.respIn
  split
  · exact h.update
  split
  · exact h
  split
  · exact h.badCode.ite h
  · exact h.badCode.ite (h.ite (h.pmuOwner.ite (h.lateAnswer.ite h.ownerAnswer).maybeRelease))

theorem State.Inv.retransmit (h : s.Inv) {t} : (s.retransmit t).Inv := by
  unfold State.retransmit
  split
  · exact h
  · exact (h.modTag.ite h.modTag.setCc).resendTag.ite h

theorem State.Inv.closeDesc (h : s.Inv) {q cnt} : (s.closeDesc q cnt).Inv := h.cancelReqs

theorem State.Inv.ownerUnknown (h : s.Inv) {e} : (s.ownerUnknown e).Inv := by
  unfold State.ownerUnknown
  split
  · split
    · split
      · split
        · exact h.acquireFail
        · exact h
      · exact h.closeDesc.finish
    · exact h
  · split
    · exact h.acquireFail.ite h
    · exact h
  · split
    · exact h.acquireFail.ite h
    · exact h
  · exact h.grantUnknown
  · exact h.declareLost.ite h
  · exact h.mergedDone
  · exact h

theorem State.Inv.unknownTag (h : s.Inv) {t} : (s.unknownTag t).Inv := by
  unfold State.unknownTag
  split
  · exact h
  · exact h.ite h.modTag.ownerUnknown.maybeRelease

theorem State.Inv.sendDeadline (h : s.Inv) {q cnt} : (s.sendDeadline q cnt).Inv := by
  unfold State.sendDeadline
  split
  · exact h
  · exact h.ite (h.update.closeTags.finish.ite h.update.closeTags.modDesc)

/-! ## Control packets, and the packets that move inside the device (Machine/Fabric) -/

theorem State.Inv.lnoticeIn (h : s.Inv) {k} : (s.lnoticeIn k).Inv := h.update.watchTwin.ite h

theorem State.Inv.lnoticeAll (h : s.Inv) : s.lnoticeAll.Inv := (h.foldl fun _ _ h => h.sendRow).update

theorem State.Inv.psetupIn (hs : s.Inv) {p k} : (s.psetupIn p k).Inv := by
  unfold State.psetupIn
  extract_lets
  split
  · exact hs.sendCtl
  split
  · exact hs.fresh.update.sendCtl
  · exact hs.sendCtl

theorem State.Inv.freeEntry (h : s.Inv) {key} : (s.freeEntry key).Inv := h.update

theorem State.Inv.pconfirmIn (h : s.Inv) {p k} : (s.pconfirmIn p k).Inv := by
  unfold State.pconfirmIn
  extract_lets
  split
  · split
    · exact h.update.endB.ite h
    · exact h
  split
  · exact h.update.sendCtl
  · exact h

theorem State.Inv.prejectIn (h : s.Inv) {p k} : (s.prejectIn p k).Inv := by
  unfold State.prejectIn
  extract_lets
  split
  · split
    · exact h.update.endB.ite h
    · exact h
  split
  · exact h.freeEntry.sendCtl
  · exact h

theorem State.Inv.pbreakIn (h : s.Inv) {p k} : (s.pbreakIn p k).Inv := by
  unfold State.pbreakIn
  extract_lets
  split
  · split
    · exact h.freeEntry.sendBreak
    · exact h
  split
  · split
    · exact h.pisteBreak.ite h
    · exact h
  split
  · exact h.freeEntry.sendBreak
  · exact h

theorem State.Inv.relayCell (h : s.Inv) {k} : (s.relayCell k).Inv := h.sendCell

theorem State.Inv.lprobeIn (h : s.Inv) {k} : (s.lprobeIn k).Inv := h.sendCell.ite h.relayCell

theorem State.Inv.lanswerIn (h : s.Inv) {k} : (s.lanswerIn k).Inv := by
  unfold State.lanswerIn
  extract_lets
  split
  · exact h.relayCell
  split
  · exact h.update.endNotices
  split
  · exact h.update.ite h
  · exact h

theorem State.Inv.oresetIn (h : s.Inv) {k} : (s.oresetIn k).Inv := h.relayCell.ite (h.ite h.update.peerDead).sendCell

theorem State.Inv.sendAlias (h : s.Inv) {dg set_} : (s.sendAlias dg set_).Inv := h.update.foldl fun _ _ h => h.sendCtl

theorem State.Inv.aliasIn (h : s.Inv) {k} : (s.aliasIn k).Inv := by
  unfold State.aliasIn
  extract_lets holder d set_ _ s1 s1'
  have hs1' : s1'.Inv := h.setFld.setFld
  split
  · exact (h.update.ite h.update.event0.recallReqs).ite h.update.wakeTags
  · exact h.ite ((hs1'.ite hs1'.update.peerDead).ite h.update.setFld)

theorem State.Inv.ctlIn (h : s.Inv) {p k} : (s.ctlIn p k).Inv := by
  unfold State.ctlIn
  split
  · exact h.lnoticeIn
  · exact h.psetupIn
  · exact h.pconfirmIn
  · exact h.prejectIn
  · exact h.pbreakIn
  · exact h.lprobeIn
  · exact h.lanswerIn
  · exact h.oresetIn
  · exact h.aliasIn
  · exact h

theorem State.Inv.markIn (h : s.Inv) {r} : (s.markIn r).Inv := h.update.ite h.answer

theorem State.Inv.deliver (h : s.Inv) {i} : (s.deliver i).Inv :=
  h.ctlIn.ite (h.pmu_.respIn.ite (h.pmu_.markIn.ite h.pmu_.targetWait))

theorem State.Inv.refuse (h : s.Inv) {t l} : (s.refuse t l).Inv := by
  unfold State.refuse
  extract_lets
  split
  · exact h.update.notReady
  · exact h.update

theorem State.Inv.answerMarks (h : s.Inv) : s.answerMarks.Inv := h.ite (h.update.foldl fun _ _ h => h.answer)

theorem State.Inv.settleFuel (h : s.Inv) {fuel} : (Machine.settleFuel fuel s).Inv := by
  induction fuel generalizing s with
  | zero => exact h
  | succ fuel ih =>
    unfold Machine.settleFuel
    split
    · exact ih h.update.deliver
    split
    · exact ih h.update.release
    split
    · exact ih h.refuse
    · exact h.answerMarks

theorem State.Inv.settle (h : s.Inv) : s.settle.Inv := h.settleFuel.fabricRun.settleFuel.fabricRun

/-! ## The states of work queues (Machine/WqCmds) -/

theorem State.Inv.dropFetched (h : s.Inv) {q} : (s.dropFetched q).Inv :=
  h.modWq.update.leaveRun.cqRelease.ite h.modWq.update.leaveRun

theorem State.Inv.flushTags (h : s.Inv) {q} : (s.flushTags q).Inv := h.update

theorem State.Inv.endAll {s0 : State} (h : s.Inv) {q} : (s.endAll s0 q).Inv := h.foldl fun _ _ h => h.finish

theorem State.Inv.flushAll (h : s.Inv) {q} : (s.flushAll q).Inv := h.flushTags.recvAbandon.recvCancel.dropWaits.endAll

theorem State.Inv.dropWalks (h : s.Inv) {q} : (s.dropWalks q).Inv := h.update

theorem State.Inv.wqError (h : s.Inv) {q kind idx} : (s.wqError q kind idx).Inv :=
  h.dropWalks.modWq.dropFetched.qerr.bump.flushAll.headWb.recWqHead.recWq.wqEvent

theorem State.Inv.drainDone (h : s.Inv) {q} : (s.drainDone q).Inv := h.modWq.recWq.recWqTail.wqEvent.endBProt

theorem State.Inv.disableNow (h : s.Inv) {q} : (s.disableNow q).Inv := by
  unfold State.disableNow
  extract_lets s1 s2
  have h1 : s1.Inv := h.modWq.dropFetched
  have h2 : s2.Inv := h1.recvCancel.cancelWaits.recWq
  exact h2.drainDone.ite h2

theorem State.Inv.suspendNow (h : s.Inv) {q} : (s.suspendNow q).Inv := h.modWq.dropFetched.recWq.wqEvent

theorem State.Inv.wqEnd (h : s.Inv) {c q status r0 r1} : (s.wqEnd c q status r0 r1).Inv := h.adminCplProt.ite h.adminEnd

theorem State.Inv.cmdConfigWq (h : s.Inv) {c q} : (s.cmdConfigWq c q).Inv := by
  unfold State.cmdConfigWq
  extract_lets
  split
  · split
    · exact h.wqEnd
    · exact h.modWq.recWq.recWqTail.recWqHead.wqEnd
  · exact h.wqEnd

theorem State.Inv.cmdEnableWq (h : s.Inv) {c q} : (s.cmdEnableWq c q).Inv := h.modWq.recWq.joinRun.wqEnd.ite h.wqEnd

theorem State.Inv.cmdDisableWq (h : s.Inv) {c q} : (s.cmdDisableWq c q).Inv := h.startB.disableNow.ite h.wqEnd

theorem State.Inv.cmdResetWq (h : s.Inv) {c q} : (s.cmdResetWq c q).Inv := h.modWq.recWq.recWqTail.wqEnd.ite h.wqEnd

theorem State.Inv.cmdSuspendWq (h : s.Inv) {c q} : (s.cmdSuspendWq c q).Inv := h.suspendNow.wqEnd.ite h.wqEnd

theorem State.Inv.cmdResumeWq (h : s.Inv) {c q} : (s.cmdResumeWq c q).Inv := h.modWq.recWq.joinRun.wqEnd.ite h.wqEnd

theorem State.Inv.cmdSetShaper (h : s.Inv) {c q} : (s.cmdSetShaper c q).Inv := h.wqEnd.ite (h.modWq.recWq.wqEnd.ite h.wqEnd)

theorem State.Inv.cmdQueryWq (h : s.Inv) {c q} : (s.cmdQueryWq c q).Inv := h.adminEnd

theorem State.Inv.wqAct (h : s.Inv) {op c q} : (s.wqAct op c q).Inv := by
  unfold State.wqAct
  split
  · exact h.cmdConfigWq
  · exact h.cmdEnableWq
  · exact h.cmdDisableWq
  · exact h.cmdResetWq
  · exact h.cmdSuspendWq
  · exact h.cmdResumeWq
  · exact h.cmdQueryWq
  · exact h.cmdSetShaper

theorem State.Inv.runWaitCmds (h : s.Inv) {q} : (s.runWaitCmds q).Inv := h.modWq.foldl fun _ _ h => h.dropB.wqAct.ite h.modAq.wqAct

theorem State.Inv.endTurn (h : s.Inv) {q} : (s.endTurn q).Inv := by
  unfold State.endTurn
  split
  · exact h.wqError.runWaitCmds
  · extract_lets s1 s2 s3
    have h1 : s1.Inv := h.dropWalks.modWq
    have h2 : s2.Inv := h1.headWb.recWqHead.runWaitCmds
    have h3 : s3.Inv := h2.suspendNow.ite h2
    exact h3.joinRun

theorem State.Inv.wqCommand (h : s.Inv) {op c} : (s.wqCommand op c).Inv := by
  unfold State.wqCommand
  split
  · exact h.adminEnd
  split
  · exact h.adminEnd
  split
  · exact h.wqEnd
  split
  · exact h.wqEnd
  split
  · exact (h.modWq.startB.ite h.modWq.modAq).endTurn.ite (h.modWq.startB.ite h.modWq.modAq)
  · exact h.wqAct

/-! ## Fetching and issue (Machine/Issue) -/

theorem State.Inv.fetchMore (h : s.Inv) {q} : (s.fetchMore q).Inv := (h.foldl fun _ _ h => h.emit).modWq

theorem State.Inv.dropCopy (h : s.Inv) {q c} : (s.dropCopy q c).Inv := h.modWq

theorem State.Inv.tagIssue (h : s.Inv) {q cnt engine fetch} : (s.tagIssue q cnt engine fetch).Inv := h.ite h.update

theorem State.Inv.markIssued (h : s.Inv) {q raw kr fetch left status} : (s.markIssued q raw kr fetch left status).Inv :=
  h.modWq.pmuQ.pmuQ.pmuQ.skidTake.tagIssue

theorem State.Inv.waitFor (h : s.Inv) {q p} : (s.waitFor q p).Inv := by
  unfold State.waitFor
  extract_lets s1
  have h1 : s1.Inv := by
    unfold s1
    split
    · exact h.pmuQ
    · exact h.latch
    · exact h.latch
    · exact h.cqHold
    · exact h
  exact h1.park.endTurn

theorem State.Inv.issueDone (h : s.Inv) {q raw fetch status} : (s.issueDone q raw fetch status).Inv := by
  unfold State.issueDone
  extract_lets
  split
  · exact h.waitFor
  split
  · exact h.markIssued.finish
  · exact h.markIssued

theorem State.Inv.countOff (h : s.Inv) {raw} : (s.countOff raw).Inv := h.bump.ite h

theorem State.Inv.sendAll (h : s.Inv) {q cnt pst nonIdem msg x} : (s.sendAll q cnt pst nonIdem msg x).Inv := by
  unfold State.sendAll
  split
  · exact h
  · exact h.sendReq.foldl fun _ _ h => h.sendReq

theorem State.Inv.issueData (h : s.Inv) {q raw kr fetch data fail} : (s.issueData q raw kr fetch data fail).Inv := by
  unfold State.issueData
  extract_lets cnt pst st l s1
  have h1 : s1.Inv := h.countOff.markIssued
  split
  · exact h.issueDone.ite h.countOff.markIssued.sendAll
  · exact h.issueDone.ite h1.sendAll
  · split
    · exact h.countOff.markIssued.collIssue
    · exact h.issueDone
  · exact h.issueDone.ite h.countOff.markIssued.sendAll

theorem State.Inv.modTurn (h : s.Inv) {q f} : (s.modTurn q f).Inv := h.modWq

theorem State.Inv.payloadGo (h : s.Inv) {q raw kr fetch got r} : (s.payloadGo q raw kr fetch got r).Inv := by
  unfold State.payloadGo
  split
  · exact h.modTurn
  split
  · extract_lets
    split
    · exact h.modTurn.waitFor
    · exact h.modTurn.issueData
  · exact (h.foldl fun _ _ h => h.emit).modTurn

theorem State.Inv.payloadStart (h : s.Inv) {q raw kr fetch got} : (s.payloadStart q raw kr fetch got).Inv := h.xlate.payloadGo

theorem State.Inv.issueRecv (h : s.Inv) {q raw kr fetch} : (s.issueRecv q raw kr fetch).Inv := h.markIssued.recvPlace

theorem State.Inv.issueLock (h : s.Inv) {q raw kr fetch} : (s.issueLock q raw kr fetch).Inv :=
  (h.countOff.markIssued.update.ite h.countOff.markIssued).sendAll

theorem State.Inv.issueCfadd (h : s.Inv) {q raw kr fetch} : (s.issueCfadd q raw kr fetch).Inv := by
  unfold State.issueCfadd
  extract_lets
  split <;> exact h.countOff.markIssued.sendAll

theorem State.Inv.issueColl (h : s.Inv) {q raw kr fetch} : (s.issueColl q raw kr fetch).Inv := by
  unfold State.issueColl
  extract_lets
  split
  · exact h.countOff.markIssued.collIssue
  · exact h.issueDone

theorem State.Inv.issueAt (h : s.Inv) {q raw fetch} : (s.issueAt q raw fetch).Inv := by
  unfold State.issueAt
  extract_lets kr o
  clear_value o
  split
  · exact h.wqError.runWaitCmds
  split
  · exact h.waitFor
  split
  · exact h.issueDone
  split
  · exact h.issueDone
  split
  · exact h.payloadStart
  split
  · exact h.issueDone
  · exact h.issueData
  · exact h.countOff.markIssued.sendAll
  · exact h.issueData
  · exact h.issueRecv
  · exact h.issueCfadd
  · exact h.issueColl
  · exact h.issueColl
  · exact h.issueLock
  · exact h.issueLock
  · exact h.issueLock
  · exact h.issueData

theorem State.Inv.turnAux (h : s.Inv) {q fuel} : (Machine.turnAux q fuel s).Inv := by
  induction fuel generalizing s with
  | zero => exact h
  | succ fuel ih =>
    unfold Machine.turnAux
    extract_lets
    split
    · exact h
    split
    · exact h
    split
    · exact h.wqError.runWaitCmds
    split
    · exact h.endTurn
    split
    · exact h.wqError.runWaitCmds
    split
    · exact h.fetchMore.endTurn
    · exact h.dropCopy.fetchMore.endTurn.ite (ih h.issueAt)

theorem State.Inv.turnRun (h : s.Inv) {q} : (s.turnRun q).Inv := h.turnAux

theorem State.Inv.turnGo (h : s.Inv) {q} : (s.turnGo q).Inv := by
  unfold State.turnGo
  extract_lets
  split
  · exact h.modTurn.turnRun.ite h.modTurn.dropCopy.fetchMore.modTurn
  · exact h.modTurn.turnRun.ite h.modTurn.fetchMore.modTurn

theorem State.Inv.takeTurn (h : s.Inv) {e q left} : (s.takeTurn e q left).Inv := by
  unfold State.takeTurn
  extract_lets w s1 s2
  have h2 : s2.Inv := h.modWq.pmuQ.modWq.recWqHead
  split
  · exact h
  split
  · exact h.park
  split
  · exact h.park
  · exact h.park.ite (h.park.ite ((h2.whenProtected fun _ h => h.turnGo).ite h.modWq.pmuQ.turnGo))

theorem State.Inv.serverOf (h : s.Inv) {e x} (hx : s.serverOf e = some x) : x.2.Inv := by
  unfold State.serverOf at hx
  split at hx
  · cases hx
    exact h
  split at hx
  · cases hx
  · obtain ⟨e', -, rfl⟩ := Option.map_eq_some_iff.1 hx
    exact h.fresh.bump.bump

theorem State.Inv.turnServer (h : s.Inv) {e x} (hx : s.turnServer e = some x) : x.2.Inv := by
  obtain ⟨y, hy, rfl⟩ := Option.map_eq_some_iff.1 hx
  have hs : y.2.Inv := h.serverOf hy
  exact (hs.ite hs.pmu_).pmu_

theorem State.Inv.issueOne (h : s.Inv) {q d op} : (s.issueOne q d op).Inv := by
  unfold State.issueOne
  split
  · split
    · exact h
    next s0 heq =>
      have h0 : s0.Inv := h.serverOf heq
      extract_lets s1
      have h1 : s1.Inv := (h0.ite h0.pmuQ).leaveRun
      exact (h1.ite h1.modWq).takeTurn
  · exact h

/-! ## The ends of walks (Machine/Walks) -/

theorem State.Inv.payloadWalked (h : s.Inv) {q got fail} : (s.payloadWalked q got fail).Inv := by
  unfold State.payloadWalked
  extract_lets
  split
  · split
    · exact h
    · extract_lets s1
      have h1 : s1.Inv := by
        unfold s1
        split
        · exact h.payloadGo.ite h.payloadStart
        split
        · exact h.payloadStart
        · exact h.payloadGo
      exact h1.turnRun
  · exact h

theorem State.Inv.walkGot (h : s.Inv) {a got} : (s.walkGot a got).Inv := by
  unfold State.walkGot
  split
  · exact h.payloadWalked
  · exact h.turnGoOn fun _ h => h.perform
  · exact h.placeGet
  · exact h.turnGoOn fun _ h => h.msgPlace
  · exact h.msgCopy
  · exact h.instRun.ite h

theorem State.Inv.walkFailed (h : s.Inv) {a got kind} : (s.walkFailed a got kind).Inv := by
  unfold State.walkFailed
  split
  · exact h.payloadWalked
  · exact h.turnGoOn fun _ h => h.accessFail
  · exact h.descPart
  · exact h.turnGoOn fun _ h => h.msgPlaceFailed
  · exact h.msgCopyFailed
  · exact h.instFailed

theorem State.Inv.walkOut (h : s.Inv) {n out old} : (s.walkOut n out old).Inv := by
  unfold State.walkOut
  extract_lets
  split
  · exact h.update
  · extract_lets s1
    have h1 : s1.Inv := h.update.ite (h.update.foldl fun _ _ h => h.wcInstall).xltInstall
    exact h1.walkFailed.ite h1.walkGot
  · exact h.update.xltFault.walkFailed

theorem State.Inv.walkRead1 (h : s.Inv) {n rd} : (s.walkRead1 n rd).Inv := by
  unfold State.walkRead1
  split
  · exact h
  split
  · exact h
  · exact h
  · exact h.poisonRx.walkRet.walkOut.settle

theorem State.Inv.walkCas1 (h : s.Inv) {n rd} : (s.walkCas1 n rd).Inv := by
  unfold State.walkCas1
  split
  · exact h
  split
  · exact h.poisonRx.casRet.walkOut.settle
  · exact h

theorem State.Inv.walksTaken (h : s.Inv) : s.walksTaken.Inv := by
  unfold State.walksTaken
  refine h.foldl fun t x ht => ?_
  split
  · exact ht.update.walkFailed.ite ht.update.walkGot
  · exact ht

theorem State.Inv.xltAged (h : s.Inv) {k} : (s.xltAged k).Inv := by
  unfold State.xltAged
  extract_lets
  split
  · exact h.ite h.bump.update
  split
  · exact h.ite h.bump.update
  · exact h

/-! ## Turns of the engines (Machine/Engines) -/

theorem State.Inv.turnHead (h : s.Inv) {e} : (s.turnHead e).Inv := by
  unfold State.turnHead
  split
  · exact h.setRun.takeTurn.settle.ite h
  · exact h

theorem State.Inv.serve (h : s.Inv) {e x rd} : (s.serve e x rd).Inv := by
  unfold State.serve
  split
  · exact h.takeTurn
  · exact h.turnTctx
  · exact h.turnWinq

theorem State.Inv.targetHead (h : s.Inv) {e rd} : (s.targetHead e rd).Inv := by
  unfold State.targetHead
  split
  · exact h.setRun.serve.settle.ite h
  · exact h.setRun.serve.settle.ite h
  · exact h

theorem State.Inv.steal (h : s.Inv) {e rd} : (s.steal e rd).Inv := by
  unfold State.steal
  split
  · split
    · split
      · extract_lets s1 s2
        have h1 : s1.Inv := h.setRun.bump.bump
        have h2 : s2.Inv := by
          unfold s2
          split
          · exact h1.pmuQ
          · exact h1.pmu_
        exact h2.serve.settle
      · exact h
    · exact h
  · exact h

theorem State.Inv.fetchDone (h : s.Inv) {q cnt rd} : (s.fetchDone q cnt rd).Inv := by
  unfold State.fetchDone
  extract_lets w raw s1
  have h1 : s1.Inv := h.poisonRx.modWq
  split
  · exact h
  split
  · exact h1.modTurn.turnRun.settle.ite h1
  · exact h1.wqError.settle.ite h1

theorem State.Inv.payloadDone (h : s.Inv) {q rd} : (s.payloadDone q rd).Inv := by
  unfold State.payloadDone
  extract_lets w s1
  have h1 : s1.Inv := h.poisonRx.modTurn
  split
  · split
    · exact h
    · extract_lets s2
      have h2 : s2.Inv := by
        unfold s2
        split
        · exact h1.waitFor
        · exact h1.issueDone.ite (h1.payloadStart.ite h1.issueData)
      exact h2.turnRun.settle
  · exact h

theorem State.Inv.sampleQueue (h : s.Inv) : s.sampleQueue.Inv := h.ite (h.snap fun _ h => h.setFld.wrRaw.wrRaw.wrRaw)

theorem State.Inv.refill (h : s.Inv) : s.refill.Inv := h.sampleQueue.update.foldl fun _ _ h => h.unparkQ.ite h

/-! ## The nonvolatile store (Machine/Nv) -/

theorem State.Inv.nvStart (h : s.Inv) : s.nvStart.Inv := by
  unfold State.nvStart
  split
  · exact h
  split
  · exact h.update
  split
  · exact h
  · exact h.update

theorem State.Inv.nvCommit (h : s.Inv) {row} : (s.nvCommit row).Inv := h.update.setFld.ite (h.update.ite h.update)

theorem State.Inv.nvCut (h : s.Inv) : s.nvCut.Inv := by
  unfold State.nvCut
  split
  · exact h
  · exact h.fresh.update.ite (h.fresh.ite h.fresh.nvCommit)

/-! ## Admin commands on queues, regions, windows, contexts, pistes and locks (Machine/AdminObjs) -/

theorem State.Inv.cmdConfigCq (h : s.Inv) {c} : (s.cmdConfigCq c).Inv := by
  unfold State.cmdConfigCq
  extract_lets
  split
  · exact h.adminEnd
  split
  · exact h.adminEnd
  split
  · exact h.adminEnd
  split
  · exact h.adminEnd
  · extract_lets s1 s2
    have h2 : s2.Inv := (h.modCq.recQctx.ite h.modCq).cqDrain
    exact h2.adminCplProt.ite h2.adminEnd

theorem State.Inv.cmdConfigEq (h : s.Inv) {c} : (s.cmdConfigEq c).Inv := by
  unfold State.cmdConfigEq
  extract_lets
  split
  · exact h.adminEnd
  split
  · exact h.adminEnd
  split
  · exact h.adminEnd
  · exact (h.modEq.recQctx.ite h.modEq).adminCplProt.ite (h.modEq.recQctx.ite h.modEq).adminEnd

theorem State.Inv.cmdSetVfAllot (h : s.Inv) {c} : (s.cmdSetVfAllot c).Inv := by
  unfold State.cmdSetVfAllot
  extract_lets r v wb wn cb cn eb en quota wb0 wn0 cb0 cn0 eb0 en0 inW inC inE live moved g s1 s2 s3
  have h2 : s2.Inv := h.update.setFld.setFld.setFld
  have h3 : s3.Inv := h2.setFld.setFld.setFld
  split
  · exact h.adminEnd
  split
  · exact h.adminEnd
  · exact h3.setFld.adminEnd

theorem State.Inv.recRegion (h : s.Inv) {i} : (s.recRegion i).Inv := h.record

theorem State.Inv.regionEnd (h : s.Inv) {c r0} : (s.regionEnd c r0).Inv := h.adminCplProt

theorem State.Inv.cmdRegisterRegion (h : s.Inv) {c} : (s.cmdRegisterRegion c).Inv := by
  unfold State.cmdRegisterRegion
  extract_lets
  split
  · exact h.adminEnd
  split
  · exact h.adminEnd
  · exact h.modRegion.recRegion.regionEnd

theorem State.Inv.revokeStart (h : s.Inv) {i who} : (s.revokeStart i who).Inv :=
  h.modRegion.recRegion.recallRegion.ite h.modRegion.recRegion

theorem State.Inv.cmdRevokeRegion (h : s.Inv) {c} : (s.cmdRevokeRegion c).Inv := by
  unfold State.cmdRevokeRegion
  extract_lets
  split
  · exact h.adminEnd
  split
  · exact h.adminEnd
  · exact h.startB.revokeStart

theorem State.Inv.revokeFlush (h : s.Inv) {i} : (s.revokeFlush i).Inv := h.xltDiscard.modRegion.ite h

theorem State.Inv.revokeDone {s0 : State} (h0 : s0.Inv) {i} : (s0.revokeDone i).Inv := by
  unfold State.revokeDone
  extract_lets s g gen s2
  have h : s.Inv := h0.revokeFlush
  have h2 : s2.Inv := h.modRegion.recRegion
  exact (h2.endBProt.ite h2).ite h

theorem State.Inv.cmdQueryRegion (h : s.Inv) {c} : (s.cmdQueryRegion c).Inv := by
  unfold State.cmdQueryRegion
  extract_lets r i g dump s1
  have h1 : s1.Inv := h.ite h.write
  split
  · exact h.adminEnd
  split
  · exact h.adminEnd
  · exact h1.adminEnd

theorem State.Inv.recMap (h : s.Inv) {n} : (s.recMap n).Inv := h.record.ite h

theorem State.Inv.mapPut (h : s.Inv) {n l} : (s.mapPut n l).Inv := by
  induction l generalizing s n with
  | nil => exact h
  | cons e l ih => exact ih h.update.recMap

theorem State.Inv.cmdMapWindow (h : s.Inv) {c rd} : (s.cmdMapWindow c rd).Inv := by
  unfold State.cmdMapWindow
  extract_lets
  split
  · exact (h.poisonRx.ite h).adminEnd
  split
  · exact h.adminEnd
  · exact h.adminEnd.ite h.mapPut.adminCplProt

theorem State.Inv.mapDrop (h : s.Inv) {l} : (s.mapDrop l).Inv := h.foldl fun _ _ h => h.update.recMap

theorem State.Inv.cmdUnmapWindow (h : s.Inv) {c} : (s.cmdUnmapWindow c).Inv := by
  unfold State.cmdUnmapWindow
  extract_lets
  split
  · exact h.adminEnd
  · exact h.mapDrop.update

theorem State.Inv.unmapDone (h : s.Inv) {first} : (s.unmapDone first).Inv := by
  unfold State.unmapDone
  split
  · exact h
  · exact h.ite h.update.adminCplProt

theorem State.Inv.cmdInvalidateXlt (h : s.Inv) {c} : (s.cmdInvalidateXlt c).Inv := by
  unfold State.cmdInvalidateXlt
  extract_lets
  split
  · exact h.adminEnd
  split
  · exact h.adminEnd
  · exact h.xltDiscard.update

theorem State.Inv.invalDone (h : s.Inv) {id} : (s.invalDone id).Inv := by
  unfold State.invalDone
  split
  · exact h
  · exact h.ite h.update.adminCpl

theorem State.Inv.cmdCollSetup (h : s.Inv) {c rd} : (s.cmdCollSetup c rd).Inv := by
  unfold State.cmdCollSetup
  extract_lets
  split
  · exact (h.poisonRx.ite h).adminEnd
  · exact h.modCtx.startB

theorem State.Inv.collSetupDone (h : s.Inv) {k} : (s.collSetupDone k).Inv := h.modCtx.endB.ite h

theorem State.Inv.cmdCollTeardown (h : s.Inv) {c} : (s.cmdCollTeardown c).Inv := by
  unfold State.cmdCollTeardown
  extract_lets k s1
  have h1 : s1.Inv := h.pendingLost.batchFail.unpark
  split
  · exact h.adminEnd
  · exact h1.modCtx.startB

theorem State.Inv.collTeardownDone (h : s.Inv) {k} : (s.collTeardownDone k).Inv := h.update.endB.ite h

theorem State.Inv.cmdPisteSetup (h : s.Inv) {c} : (s.cmdPisteSetup c).Inv := by
  unfold State.cmdPisteSetup
  extract_lets r n dest share hops bytesOk path l
  clear_value l
  split
  · exact h.adminEnd
  split
  · exact h.adminEnd
  split
  · exact h.adminEnd
  · exact h.update.startB.sendCtl

theorem State.Inv.cmdPisteTeardown (h : s.Inv) {c} : (s.cmdPisteTeardown c).Inv := by
  unfold State.cmdPisteTeardown
  extract_lets
  split
  · exact h.adminEnd
  split
  · exact h.adminEnd
  · exact h.update.adminEnd.ite (h.adminEnd.ite h.update.startB.sendReq)

theorem State.Inv.pisteSetupLate (h : s.Inv) {n} : (s.pisteSetupLate n).Inv := by
  unfold State.pisteSetupLate
  split
  · exact h.update.endB.ite h
  · exact h

theorem State.Inv.pisteTeardownLate (h : s.Inv) {n} : (s.pisteTeardownLate n).Inv := by
  unfold State.pisteTeardownLate
  split
  · exact h.pisteGone.ite h
  · exact h

theorem State.Inv.lockRange (h : s.Inv) {on k n} : (s.lockRange on k n).Inv := by
  induction n generalizing s k with
  | zero => exact h
  | succ n ih => exact ih h.setLock

theorem State.Inv.cmdLockConfig (h : s.Inv) {c} : (s.cmdLockConfig c).Inv := by
  unfold State.cmdLockConfig
  extract_lets
  split
  · exact h.adminEnd
  · exact h.lockRange.adminEnd

theorem State.Inv.cmdLockForceRelease (h : s.Inv) {c} : (s.cmdLockForceRelease c).Inv := by
  unfold State.cmdLockForceRelease
  extract_lets
  split
  · exact h.adminEnd
  · exact h.bump.lockPass.adminEnd

/-! ## Packets in transit and their timers (Machine/Transit) -/

theorem State.Inv.transit (h : s.Inv) {p k} : (s.transit p k).Inv := h.ite (h.badPkt.ite (h.pistePkt.ite h.arrive).settle)

theorem State.Inv.escwait (h : s.Inv) {p vc} : (s.escwait p vc).Inv := by
  unfold State.escwait
  split
  · exact h.routeKey.settle.ite h
  · exact h

theorem State.Inv.control (h : s.Inv) {t p k} : (s.control t p k).Inv := h.ite (h.badPkt.ite (h.ite h.ctlIn.settle))

theorem State.Inv.oresetRepeat (h : s.Inv) : s.oresetRepeat.Inv := (h.update.foldl fun _ _ h => h.sendOreset).endNotices.settle

theorem State.Inv.livenessLate (h : s.Inv) {dg} : (s.livenessLate dg).Inv := by
  unfold State.livenessLate
  split
  · exact h.update.peerDead.settle.ite h
  · exact h

theorem State.Inv.aliasDue (h : s.Inv) : s.aliasDue.Inv := by
  unfold State.aliasDue
  split
  · exact h.update.ite (h.update.sendAlias.settle.ite h)
  · exact h

theorem State.Inv.aliasedEnd (h : s.Inv) : s.aliasedEnd.Inv := by
  unfold State.aliasedEnd
  split
  · exact h.update.wakeTags.settle.ite h
  · exact h

/-! ## Port training (Machine/Training) -/

theorem State.Inv.modLane (h : s.Inv) {l f} : (s.modLane l f).Inv := h.update

theorem State.Inv.markLanes (h : s.Inv) {p i l} : (s.markLanes p i l).Inv := by
  induction l generalizing s i with
  | nil => exact h
  | cons x l ih => exact ih h.setFld.setFld.setFld

theorem State.Inv.clearLanes (h : s.Inv) {l} : (s.clearLanes l).Inv := h.foldl fun _ _ h => h.setFld.setFld.setFld.setFld

theorem State.Inv.clearBad (h : s.Inv) {l} : (s.clearBad l).Inv := h.foldl fun _ _ h => h.setFld

theorem State.Inv.trainLane (h : s.Inv) {phase l ident} : (s.trainLane phase l ident).Inv := h.emit

theorem State.Inv.trainFrom (h : s.Inv) {p phase i l} : (s.trainFrom p phase i l).Inv := by
  induction l generalizing s i with
  | nil => exact h
  | cons x l ih => exact ih h.trainLane

theorem State.Inv.trainPort (h : s.Inv) {p phase} : (s.trainPort p phase).Inv := h.trainFrom

theorem State.Inv.silence (h : s.Inv) {p} : (s.silence p).Inv := h.foldl fun _ _ h => h.emit

theorem State.Inv.tapRequest (h : s.Inv) {l ctl} : (s.tapRequest l ctl).Inv := h.ite h.setFld.modLane.trainLane

theorem State.Inv.adapt (h : s.Inv) {l ctl} : (s.adapt l ctl).Inv := h.ite h.fresh.modLane.trainLane

theorem State.Inv.startTaps (h : s.Inv) {l} : (s.startTaps l).Inv := h.foldl fun _ _ h => h.setFld.modLane

theorem State.Inv.portTo (h : s.Inv) {p st} : (s.portTo p st).Inv := h.modPort

theorem State.Inv.portDetect (h : s.Inv) {p} : (s.portDetect p).Inv := h.modPort.clearBad.markLanes.startTaps.portTo.trainPort

theorem State.Inv.portStart (h : s.Inv) {p} : (s.portStart p).Inv := h.portDetect.ite h

theorem State.Inv.spareSync (h : s.Inv) {l} : (s.spareSync l).Inv :=
  h.foldl fun _ _ h => (h.ite h.startTaps.modLane.trainLane).ite (h.modLane.ite h)

theorem State.Inv.blockStart (h : s.Inv) {b} : (s.blockStart b).Inv := (h.foldl fun _ _ h => h.portStart).spareSync.ite h

theorem State.Inv.portLanesEnd (h : s.Inv) {p} : (s.portLanesEnd p).Inv :=
  h.clearLanes.clearBad.modPort.foldl fun _ _ h => h.modLane.trainLane.ite h

theorem State.Inv.goDown (h : s.Inv) {p} : (s.goDown p).Inv := h.portLanesEnd.portTo.bump.portLost.ite h.portLanesEnd.portTo.bump

theorem State.Inv.goOff (h : s.Inv) {p} : (s.goOff p).Inv :=
  h.silence.portLanesEnd.clearBad.portTo.portLost.ite h.silence.portLanesEnd.clearBad.portTo

theorem State.Inv.trainFail (h : s.Inv) {p} : (s.trainFail p).Inv := h.latch.raise.goDown

theorem State.Inv.codewords (h : s.Inv) {p} : (s.codewords p).Inv := h.portTo.modPort.foldl fun _ _ h => h.xmitKind

theorem State.Inv.identIn (h : s.Inv) {p l w} : (s.identIn p l w).Inv := by
  unfold State.identIn
  extract_lets ps others s1 ok s2 s2'
  have h2 : s2.Inv := h.modPort.modPort
  have hs2' : s2'.Inv := h.modPort.silence.portLanesEnd.portTo
  exact (h2.codewords.ite h2).ite hs2'.latch.raise

theorem State.Inv.portEnable (h : s.Inv) {p w dim dg} : (s.portEnable p w dim dg).Inv :=
  h.ite (h.lockViol.ite (h.accLog.ite (h.wrRaw.portTo.ite h.wrRaw).portStart.spareSync))

theorem State.Inv.portDisable (h : s.Inv) {p} : (s.portDisable p).Inv :=
  h.ite (h.lockViol.ite (h.setFld.ite h.setFld.goOff).spareSync)

theorem State.Inv.signalDetect (h : s.Inv) {p} : (s.signalDetect p).Inv :=
  (h.foldl fun _ _ h => h.setFld).startTaps.portTo.trainPort.ite h

theorem State.Inv.eqComplete (h : s.Inv) {p} : (s.eqComplete p).Inv :=
  (h.foldl fun _ _ h => h.modLane).modPort.portTo.trainPort.ite h

theorem State.Inv.trainingFrame (h : s.Inv) {l ctl ident} : (s.trainingFrame l ctl ident).Inv := by
  unfold State.trainingFrame
  split
  · split
    · exact h.tapRequest.adapt
    · exact h.identIn.settle.ite h
    · exact h.modPort
    · exact h
  · exact (h.setFld.tapRequest.adapt.modLane.trainLane.ite h.setFld.tapRequest.adapt).ite h

theorem State.Inv.deskewLock (h : s.Inv) {p} : (s.deskewLock p).Inv := (h.foldl fun _ _ h => h.setFld).modPort.portTo.xmitKind.ite h

theorem State.Inv.eqTimeout (h : s.Inv) {p} : (s.eqTimeout p).Inv := h.trainFail.ite h

theorem State.Inv.trainTimeout (h : s.Inv) {p} : (s.trainTimeout p).Inv := h.trainFail.ite h

theorem State.Inv.holdoffExpire (h : s.Inv) {p} : (s.holdoffExpire p).Inv := h.portDetect.ite h

theorem State.Inv.sendRetrain (h : s.Inv) {p kind i} : (s.sendRetrain p kind i).Inv := h.xmitKind.modPort

theorem State.Inv.retrainOn (h : s.Inv) {p kind i l mine} : (s.retrainOn p kind i l mine).Inv :=
  (h.modPort.foldl fun _ _ h => h.setFld.setFld.setFld).markLanes.portTo.trainPort.watchTwin

theorem State.Inv.remedyFor (hs : s.Inv) {p i} : (s.remedyFor p i).Inv := by
  unfold State.remedyFor
  split
  · exact hs
  split
  · exact hs.sendRetrain.retrainOn
  · exact hs.sendRetrain.retrainOn
  · exact hs.goDown

theorem State.Inv.markBad (h : s.Inv) {l report} : (s.markBad l report).Inv := h.setFld.latch.raise.ite h.setFld.latch

theorem State.Inv.laneBad (h : s.Inv) {l report} : (s.laneBad l report).Inv := by
  unfold State.laneBad
  split
  · exact h.markBad.remedyFor.ite h
  · exact h

theorem State.Inv.sendNak (h : s.Inv) {p} : (s.sendNak p).Inv := h.ite h.xmitKind.modPort

theorem State.Inv.laneErrors (h : s.Inv) {l n} : (s.laneErrors l n).Inv := h.bump.bump.laneBad.ite h.bump.bump

theorem State.Inv.corrected (h : s.Inv) {l n} : (s.corrected l n).Inv :=
  h.ite (h.bump.modLane.modLane.latch.latch.raise.ite h.bump.modLane)

theorem State.Inv.badFlit (h : s.Inv) {p b} : (s.badFlit p b).Inv :=
  h.ite (h.corrected.bump.sendNak.laneErrors.settle.ite (h.corrected.laneErrors.ite h))

theorem State.Inv.badRx (h : s.Inv) {p f} : (s.badRx p f).Inv := h.badFlit

theorem State.Inv.passRx (h : s.Inv) {p f} : (s.passRx p f).Inv := h.corrected.applyFields

theorem State.Inv.initFlit (h : s.Inv) {p f} : (s.initFlit p f).Inv :=
  h.badRx.ite ((h.passRx.modPort.portTo.portNotice.portCame.settle.ite h.passRx.settle).ite h)

theorem State.Inv.retrainFlit (hs : s.Inv) {p f} : (s.retrainFlit p f).Inv := by
  unfold State.retrainFlit
  extract_lets
  split
  · exact hs.badRx
  split
  · split
    · split
      · exact hs.passRx.goDown
      split
      · exact hs.passRx.retrainOn
      · exact hs.passRx.sendRetrain.retrainOn
      · exact hs.passRx.retrainOn
      · exact hs.passRx.goDown
    split
    · split
      · exact hs.passRx.retrainOn
      · exact hs.passRx.goDown
    · exact hs.passRx
  · exact hs

theorem State.Inv.retrainRepeat (h : s.Inv) {p} : (s.retrainRepeat p).Inv := by
  unfold State.retrainRepeat
  extract_lets
  split
  · exact h.sendRetrain.ite h
  · exact h

theorem State.Inv.retrainComplete (h : s.Inv) {p w} : (s.retrainComplete p w).Inv :=
  (h.foldl fun _ _ h => h.setFld).portTo.modPort.watchTwin.bump.settle.ite h

theorem State.Inv.retrainTimeout (h : s.Inv) {p} : (s.retrainTimeout p).Inv := h.goDown.settle.ite h

theorem State.Inv.laneSignalLoss (h : s.Inv) {l} : (s.laneSignalLoss l).Inv := by
  unfold State.laneSignalLoss
  extract_lets s1 s2
  have h1 : s1.Inv := h.setFld.setFld
  have h2 : s2.Inv := h1.modLane.spareSync.ite h1
  refine .settle ?_
  split
  · exact (h2.ite h2.markBad).goDown
  · exact h2.laneBad

/-! ## Received flits (Machine/Flits) -/

theorem State.Inv.pktArrived (h : s.Inv) {p v l n since} : (s.pktArrived p v l n since).Inv :=
  h.freeSlots.ite (h.badPkt.freeSlots.ite (h.pistePkt.ite h.arrive))

theorem State.Inv.pktBegins (h : s.Inv) {p v f} : (s.pktBegins p v f).Inv := by
  unfold State.pktBegins
  extract_lets
  split
  · exact h.setPart.freeSlots
  · exact h.badPkt.setPart.freeSlots.ite ((h.setPart.ite h.pistePkt).ite h.setPart.arrive)

theorem State.Inv.queuedFlit (h : s.Inv) {p v f} : (s.queuedFlit p v f).Inv := by
  unfold State.queuedFlit
  extract_lets key s1
  have h1 : s1.Inv := h.setPart.ite h
  split
  · exact h1.freeSlots
  · extract_lets
    split
    · exact h1.setInq
    split
    · exact h1.setInq.freeSlots
    · exact h1.setInq.freeSlots.ite (h1.badPkt.setInq.freeSlots.ite h1.setInq.routeKey.routeReinj)

theorem State.Inv.streamFlit (h : s.Inv) {p v q u f} : (s.streamFlit p v q u f).Inv := by
  unfold State.streamFlit
  extract_lets key s1
  have h1 : s1.Inv := h.setPart.ite h
  split
  · exact h1.freeSlots
  · exact h1.modPort.freeSlots.ite h1.modPort

theorem State.Inv.takeFlit (h : s.Inv) {p f} : (s.takeFlit p f).Inv := by
  unfold State.takeFlit
  extract_lets
  split
  · exact h.freeSlots.ite (h.pktArrived.ite h.pktBegins)
  · exact h.setPart.freeSlots.ite (h.setPart.pktArrived.ite h.setPart)
  · exact h.queuedFlit
  · exact h.streamFlit
  · exact (h.setPart.ite h).freeSlots

theorem State.Inv.dataFlit (h : s.Inv) {p f lane corr} : (s.dataFlit p f lane corr).Inv := by
  unfold State.dataFlit
  split
  · exact h.badFlit
  split
  · extract_lets s1
    have h1 : s1.Inv := h.corrected.applyFields
    exact (h1.modPort.takeFlit.ite (h1.bump.ite h1.sendNak)).settle
  · exact h

theorem State.Inv.idleFlit (h : s.Inv) {p f} : (s.idleFlit p f).Inv := h.badRx.ite (h.passRx.settle.ite h)

theorem State.Inv.nakFlit (h : s.Inv) {p f} : (s.nakFlit p f).Inv :=
  h.badRx.ite ((h.passRx.settle.ite h.passRx.startReplay.bump.settle).ite h)

theorem State.Inv.replayTimeout (h : s.Inv) {p} : (s.replayTimeout p).Inv := (h.goDown.settle.ite h.modPort.bump.settle).ite h

theorem State.Inv.nakHoldExpire (h : s.Inv) {p} : (s.nakHoldExpire p).Inv := by
  unfold State.nakHoldExpire
  split
  · exact h.modPort.ite h
  · exact h

theorem State.Inv.errorWindow (h : s.Inv) : s.errorWindow.Inv := (h.foldl fun _ _ h => h.ite h.setFld).update.ite h

/-! ## Fabric time (Machine/Timekeep) -/

theorem State.Inv.timeUnlock (h : s.Inv) {sub} : (s.timeUnlock sub).Inv := h.ite h.timeLost.latch.bump.event0.raise.update

theorem State.Inv.timeLock (h : s.Inv) : s.timeLock.Inv := h.ite h.timeGained.event0

theorem State.Inv.timePeriod (h : s.Inv) {ok} : (s.timePeriod ok).Inv := h.update.timeLock.ite h.update

theorem State.Inv.setGm (h : s.Inv) {coord pps era gm parent steps eps} : (s.setGm coord pps era gm parent steps eps).Inv :=
  h.setFld.setFld.setFld.setFld.setFld.setFld.setFld

theorem State.Inv.chooseGm (h : s.Inv) : s.chooseGm.Inv := by
  unfold State.chooseGm
  extract_lets
  split
  · exact h.setGm
  · exact h.setGm.ite h.setGm
  · exact h.setGm
  · exact h.setGm

theorem State.Inv.setTime (h : s.Inv) {now frac} : (s.setTime now frac).Inv := h.update

theorem State.Inv.stepTime (h : s.Inv) {v} : (s.stepTime v).Inv := h.timeUnlock.setTime.update.setFld.bump

theorem State.Inv.timeSelect (h : s.Inv) : s.timeSelect.Inv := by
  unfold State.timeSelect
  extract_lets s1 changed moved oldGone locked s2 _ s3 s4
  have h2 : s2.Inv := h.chooseGm.bump.ite h.chooseGm
  have h3 : s3.Inv := h2.update.ite h2
  have h4 : s4.Inv := h3.timeUnlock.ite (h3.timeUnlock.ite (h3.timeUnlock.ite (h3.timeUnlock.ite h3)))
  exact h4.stepTime.ite h4

theorem State.Inv.gmPeriod (h : s.Inv) : s.gmPeriod.Inv := (h.timeSelect.timePeriod.ite h.timeSelect).ite h

theorem State.Inv.tsxSend (h : s.Inv) {p} : (s.tsxSend p).Inv :=
  (h.gmPeriod.update.ite h.gmPeriod).laneZeroAux.xmitKind.modPort.ite h

theorem State.Inv.tsxDelay (h : s.Inv) {p rx body} : (s.tsxDelay p rx body).Inv := h.ite h.modPort.setFld

theorem State.Inv.tsxFields (h : s.Inv) {p b} : (s.tsxFields p b).Inv := h.update

theorem State.Inv.tsxOffset (h : s.Inv) {p rx body same} : (s.tsxOffset p rx body same).Inv :=
  (h.setFld.ite h.setFld.timeUnlock).ite (h.setFld.setTime.timePeriod.ite h.setFld.timePeriod)

theorem State.Inv.tsxFlit (h : s.Inv) {p f rxFrac} : (s.tsxFlit p f rxFrac).Inv := by
  unfold State.tsxFlit
  split
  · exact h.badRx
  split
  · extract_lets rx s1 s2 s3
    have h1 : s1.Inv := h.passRx.modPort
    have h2 : s2.Inv := h1.tsxDelay.tsxFields
    have h3 : s3.Inv := h2.timeSelect
    exact (h3.tsxOffset.ite h3).settle
  · exact h

theorem State.Inv.nbStale (h : s.Inv) {p} : (s.nbStale p).Inv := by
  unfold State.nbStale
  split
  · exact h.timeSelect.ite h
  · exact h

theorem State.Inv.plls (h : s.Inv) {on p} : (s.plls on p).Inv := h.foldl fun _ _ h => h.setFld.ite h

theorem State.Inv.refLost (h : s.Inv) : s.refLost.Inv := h.plls.setFld.latch.timeUnlock.update.ite h

theorem State.Inv.refPresent (h : s.Inv) : s.refPresent.Inv := h.plls.setFld.timeSelect

theorem State.Inv.ppsEdge (h : s.Inv) : s.ppsEdge.Inv := by
  unfold State.ppsEdge
  split
  · extract_lets ok good _ s1 s2 s3
    have h2 : s2.Inv := h.update.setFld.event0.ite h.update
    have h3 : s3.Inv := h2.timeSelect
    exact h3.setFld.ite h3
  · exact h

theorem State.Inv.ppsLost (h : s.Inv) : s.ppsLost.Inv := by
  unfold State.ppsLost
  split
  · exact (h.setFld.update.event0.latch.ite h.setFld.update.event0).timeSelect.ite h
  · exact h

theorem State.Inv.ppsGate (h : s.Inv) : s.ppsGate.Inv := h.ite h.update

theorem State.Inv.ppsPulse (h : s.Inv) : s.ppsPulse.Inv := h.ppsGate.ite (h.update.ite (h.update.ite h))

theorem State.Inv.timeStep (h : s.Inv) : s.timeStep.Inv := h.timeSelect.stepTime.ite h.timeSelect.accLog

theorem State.Inv.timeCheck (h : s.Inv) : s.timeCheck.Inv := h.timeSelect.ite h

theorem State.Inv.flitCheck (h : s.Inv) {f} : (s.flitCheck f).Inv := h.ite h.timeCheck

theorem State.Inv.passTick (h : s.Inv) : s.passTick.Inv := h.update

/-! ## The safe state, the fence and protected acts (Machine/Safe) -/

theorem State.Inv.cqGo (h : s.Inv) {n} : (s.cqGo n).Inv := h.cqDrain.cqRelease

theorem State.Inv.runAct (h : s.Inv) {a} : (s.runAct a).Inv := by
  unfold State.runAct
  split
  · exact h.adminCpl
  · exact h.dupDone.answer
  · exact h.sendGrant.ite h
  · split
    · exact h.turnGo.ite h
    · exact h
  · exact h.modCq.cqGo
  · exact h.modEq.eqDrain

theorem State.Inv.stopMirror (h : s.Inv) {to_} : (s.stopMirror to_).Inv := h.update.foldl fun _ _ h => h.runAct

theorem State.Inv.sendHandover (h : s.Inv) : s.sendHandover.Inv := (h.emit.ite h).update

theorem State.Inv.fenceTwin (h : s.Inv) : s.fenceTwin.Inv := h.stopMirror.latch.sendHandover.ite h

theorem State.Inv.suspendSoon (h : s.Inv) {q} : (s.suspendSoon q).Inv := h.ite (h.suspendNow.ite (h.modWq.endTurn.ite h.modWq))

theorem State.Inv.loseWrites (h : s.Inv) : s.loseWrites.Inv := h.update.foldl fun _ _ h => h.accessFail

theorem State.Inv.enterSafe (h : s.Inv) {cause src} : (s.enterSafe cause src).Inv := by
  unfold State.enterSafe
  split
  · exact h.fenceTwin
  · extract_lets _ s1 s2 s3 s4
    have h1 : s1.Inv := h.update.lnoticeAll
    have h2 : s2.Inv := h1.msix.setFld
    have h3 : s3.Inv := h2.latch.setFld.setFld.bump
    have h4 : s4.Inv := h3.loseWrites
    exact (h4.foldl fun _ _ h => h.suspendSoon).fenceTwin

theorem State.Inv.fence (h : s.Inv) : s.fence.Inv := h.enterSafe

theorem State.Inv.dmaResume (h : s.Inv) : s.dmaResume.Inv := by
  unfold State.dmaResume
  extract_lets tags s1 s2 s3 s4 s5
  have h1 : s1.Inv := h.setFld.msixFlush
  have h2 : s2.Inv := h1.foldl fun _ _ h => h.headWb
  have h3 : s3.Inv := h2.foldl fun _ _ h => h.cqGo
  have h4 : s4.Inv := h3.foldl fun _ _ h => h.eqDrain
  have h5 : s5.Inv := h4.foldl fun _ _ h => h.adminDrain
  exact h5.foldl fun _ _ h => h.maybeRelease

theorem State.Inv.leaveSafe (h : s.Inv) : s.leaveSafe.Inv := h.update.lnoticeAll.dmaResume

/-! ## The mirror link (Machine/Mirror) -/

theorem State.Inv.modMlane (h : s.Inv) {l f} : (s.modMlane l f).Inv := h.update

theorem State.Inv.setMlanes (h : s.Inv) {f l v} : (s.setMlanes f l v).Inv := h.foldl fun _ _ h => h.setFld

theorem State.Inv.mirTo (h : s.Inv) {st} : (s.mirTo st).Inv := h.update

theorem State.Inv.mirSend (h : s.Inv) : s.mirSend.Inv := h.setMlanes.mirTo.update

theorem State.Inv.unpaired (h : s.Inv) : s.unpaired.Inv := h.stopMirror.update

theorem State.Inv.pairFail (h : s.Inv) {status r0} : (s.pairFail status r0).Inv := h.unpaired.endB

theorem State.Inv.mirLost (h : s.Inv) : s.mirLost.Inv :=
  h.setFld.setMlanes.setMlanes.setMlanes.pairFail.ite h.setFld.setMlanes.setMlanes.setMlanes

theorem State.Inv.mirDown (h : s.Inv) : s.mirDown.Inv := h.latch.raise.mirTo.mirLost

theorem State.Inv.mirOff (h : s.Inv) : s.mirOff.Inv := h.ite h.mirTo.setMlanes.mirLost

theorem State.Inv.mirEnable (h : s.Inv) : s.mirEnable.Inv := h.setFld.mirSend.ite h.setFld

theorem State.Inv.mirLaneFail (h : s.Inv) {l} : (s.mirLaneFail l).Inv :=
  h.modMlane.ite (h.modMlane.setMlanes.setMlanes.update.mirTo.ite (h.modMlane.mirDown.ite h.modMlane))

theorem State.Inv.mirNakOnce (h : s.Inv) : s.mirNakOnce.Inv := h.ite h.emit.update

theorem State.Inv.runProtected (h : s.Inv) : s.runProtected.Inv := h.update.foldl fun _ _ h => h.runAct

theorem State.Inv.mirAck (h : s.Inv) {f} : (s.mirAck f).Inv := h.update.mirPump.runProtected.ite h

theorem State.Inv.mirReplay (h : s.Inv) : s.mirReplay.Inv := (h.foldl fun _ _ h => h.emit).update

theorem State.Inv.mirFrame {body : State → State} (h : s.Inv) {kind f} (hbody : ∀ t, t.Inv → (body t).Inv) :
    (s.mirFrame kind f body).Inv :=
  h.ite (h.mirLaneFail.mirNakOnce.ite (h.ite (hbody _ h.mirAck)))

theorem State.Inv.modShadow (h : s.Inv) {f} : (s.modShadow f).Inv := h.update

theorem State.Inv.mapRec (hs : s.Inv) {l} : (s.mapRec l).Inv := hs.modShadow.update

theorem State.Inv.applyRec (hs : s.Inv) {r} : (s.applyRec r).Inv := by
  unfold State.applyRec
  extract_lets
  split
  · exact hs.modShadow
  · exact hs.modShadow
  · exact hs.modShadow
  · exact hs.mapRec
  · exact hs.modShadow
  · exact hs.modShadow
  · exact hs.modShadow
  · exact hs.modShadow.ite hs.modShadow
  · exact hs.update
  · exact hs

theorem State.Inv.recordIn (h : s.Inv) {f} : (s.recordIn f).Inv :=
  h.ite (h.mirNakOnce.ite (h.foldl fun _ _ h => h.applyRec).bump.update.emit)

theorem State.Inv.mtapRequest (h : s.Inv) {l b1} : (s.mtapRequest l b1).Inv := h.ite h.setFld.modMlane

theorem State.Inv.madapt (h : s.Inv) {l b1} : (s.madapt l b1).Inv := h.ite h.fresh.modMlane

theorem State.Inv.backBlock (h : s.Inv) {l} : (s.backBlock l).Inv := h.emit

theorem State.Inv.backChannel (h : s.Inv) {b1 b3} : (s.backChannel b1 b3).Inv :=
  h.ite (h.mtapRequest.madapt.modMlane.ite h.mtapRequest.madapt.modMlane.backBlock)

theorem State.Inv.backTick (h : s.Inv) : s.backTick.Inv := h.backBlock.ite h

theorem State.Inv.mirActive (h : s.Inv) : s.mirActive.Inv :=
  (h.setMlanes.mirTo.update.mirPump.setFld.ite h.setMlanes.mirTo.update.mirPump).ite h

theorem State.Inv.mirLate (h : s.Inv) : s.mirLate.Inv := (h.bump.mirReplay.update.mirDown.settle.ite h.bump.mirReplay.update).ite h

/-! ## Twin pairs (Machine/Twin) -/

theorem State.Inv.cmdTwinConfig (h : s.Inv) {c} : (s.cmdTwinConfig c).Inv := by
  unfold State.cmdTwinConfig
  extract_lets
  split
  · exact h.adminEnd
  · exact h.adminEnd.ite h.update.startB

theorem State.Inv.copyLock (h : s.Inv) {k l} : (s.copyLock k l).Inv :=
  (h.recLine.recLine.ite h).recLock.foldl fun _ _ h => h.recLine

theorem State.Inv.copyWq (h : s.Inv) {q} : (s.copyWq q).Inv := h.modWq.recWq.recWqTail.recWqHead

theorem State.Inv.bulkCopy (h : s.Inv) : s.bulkCopy.Inv := by
  unfold State.bulkCopy
  extract_lets s1 s2 s3 s4 s5 s6
  have h1 : s1.Inv := h.foldl fun _ _ h => h.recRegion
  have h2 : s2.Inv := h1.foldl fun _ _ h => h.copyLock
  have h3 : s3.Inv := h2.foldl fun _ _ h => h.recMap
  have h4 : s4.Inv := h3.foldl fun _ _ h => h.copyWq
  have h5 : s5.Inv := h4.foldl fun _ _ h => h.modCq.recQctx
  have h6 : s6.Inv := h5.foldl fun _ _ h => h.modEq.recQctx
  exact h6.record.update

theorem State.Inv.twinMatch (h : s.Inv) {p} : (s.twinMatch p).Inv := by
  unfold State.twinMatch
  split
  · exact h
  split
  · exact h
  split
  · exact h.pairFail
  · exact h.update.bulkCopy

theorem State.Inv.heartbeatSend (h : s.Inv) : s.heartbeatSend.Inv := h.ite ((h.bump.ite h).emit.ite (h.bump.ite h)).update

theorem State.Inv.heartbeatIn (h : s.Inv) {f} : (s.heartbeatIn f).Inv := by
  unfold State.heartbeatIn
  extract_lets c _ s1
  have h1 : s1.Inv := h.update.setFld
  split
  · exact h
  split
  · exact h1.twinMatch.ite h1
  · exact h1

theorem State.Inv.mirStale (h : s.Inv) : s.mirStale.Inv := by
  unfold State.mirStale
  split
  · exact h.setFld.ite h
  · exact h

theorem State.Inv.pairingDone (h : s.Inv) : s.pairingDone.Inv := by
  unfold State.pairingDone
  split
  · exact h.update.watchTwin.event0.endB.ite h
  · exact h

theorem State.Inv.twinLate (h : s.Inv) : s.twinLate.Inv := by
  unfold State.twinLate
  split
  · exact h.pairFail.ite h
  · exact h

theorem State.Inv.mirBad (h : s.Inv) : s.mirBad.Inv := h.accLog

theorem State.Inv.unpairCmd (h : s.Inv) : s.unpairCmd.Inv := by
  unfold State.unpairCmd
  split
  · exact h.pairFail
  · exact (h.emit.ite h).unpaired
  · exact (h.emit.ite h).unpaired
  · exact h.mirBad

theorem State.Inv.isolate (h : s.Inv) : s.isolate.Inv := h.stopMirror.latch.event0.raise.ite h

theorem State.Inv.voidCq (h : s.Inv) {n} : (s.voidCq n).Inv := h.foldl fun _ _ h => h.ite h.write

theorem State.Inv.voidEq (h : s.Inv) {n} : (s.voidEq n).Inv := h.foldl fun _ _ h => h.ite h.write

theorem State.Inv.installWq (h : s.Inv) {q w} : (s.installWq q w).Inv := by
  unfold State.installWq
  extract_lets
  split
  · exact h.modWq.wqEvent
  · exact h.modWq.wqEvent
  · exact h.modWq
  · exact h.modWq.wqEvent
  · exact h.modWq.wqEvent

theorem State.Inv.installQueues (hs : s.Inv) {h} : (s.installQueues h).Inv := by
  unfold State.installQueues
  extract_lets s1 s2
  have hs1 : s1.Inv := hs.foldl fun _ _ h => h.modCq.voidCq
  have hs2 : s2.Inv := hs1.foldl fun _ _ h => h.modEq.voidEq
  exact hs2.foldl fun _ _ h => h.installWq

theorem State.Inv.resendGrant (h : s.Inv) {k old} : (s.resendGrant k old).Inv := h.sendGrant.ite h

theorem State.Inv.takeAlias (hs : s.Inv) {c} : (s.takeAlias c).Inv := hs.setFld.update.setFld.setFld.sendAlias

theorem State.Inv.takeover (hs : s.Inv) {sub} : (s.takeover sub).Inv := by
  unfold State.takeover
  extract_lets c h shared s1 _ s2 s3 s4
  have hs1 : s1.Inv := hs.stopMirror.latch.raise
  have hs2 : s2.Inv := hs1.update.takeAlias
  have hs3 : s3.Inv := hs2.raise.ownerDead
  have hs4 : s4.Inv := hs3.foldl fun _ _ h => h.resendGrant
  exact hs4.installQueues.ite hs4

theorem State.Inv.takeoverEnd (h : s.Inv) : s.takeoverEnd.Inv := h.update.eventAt.ite h

theorem State.Inv.releaseCmd (h : s.Inv) : s.releaseCmd.Inv := h.setFld.update.setFld.sendAlias.unpaired.event0.ite h.mirBad

theorem State.Inv.failDeclare (h : s.Inv) : s.failDeclare.Inv := by
  unfold State.failDeclare
  split
  · exact h.takeover.settle.ite h
  · exact h

theorem State.Inv.fenceWindow (h : s.Inv) : s.fenceWindow.Inv := by
  unfold State.fenceWindow
  split
  · exact h.fence.settle.ite h
  · exact h

/-! ## Register writes with a command of their own (Machine/RegEffects) -/

theorem State.Inv.windowEnable (h : s.Inv) {d g} : (s.windowEnable d g).Inv := h.lockViol.ite (h.accLog.ite h.setFld.setFld)

theorem State.Inv.nccEmpty (h : s.Inv) : s.nccEmpty.Inv := h.update.nccReady

theorem State.Inv.nccOn (h : s.Inv) : s.nccOn.Inv := h.ite h.setFld.nccEmpty

theorem State.Inv.nccOff (h : s.Inv) : s.nccOff.Inv := h.setFld.nccEmpty.ite h

theorem State.Inv.nccInitDone (h : s.Inv) : s.nccInitDone.Inv := h.update.nccReady.ite h

theorem State.Inv.xltOff (h : s.Inv) : s.xltOff.Inv := h.setFld.xltClear.ite h

theorem State.Inv.putRw (h : s.Inv) {r i v} : (s.putRw r i v).Inv := h.wrRaw

theorem State.Inv.exclWrite (h : s.Inv) {n i v} : (s.exclWrite n i v).Inv := h.putRw.xltClear

theorem State.Inv.avsReads (h : s.Inv) : s.avsReads.Inv := h.emit.emit

theorem State.Inv.avsOn (h : s.Inv) : s.avsOn.Inv := h.ite h.setFld.update.avsReads

theorem State.Inv.watchdogKick (h : s.Inv) {v} : (s.watchdogKick v).Inv := h.update.ite h

theorem State.Inv.pmuSync (h : s.Inv) {on} : (s.pmuSync on).Inv := h.foldl fun _ _ h => h.setFld.ite h

theorem State.Inv.pmuLoad (h : s.Inv) {g} : (s.pmuLoad g).Inv := (h.foldl fun _ _ h => h.setPmuVal).wrRaw.wrRaw.setFld.ite h

theorem State.Inv.tagSeed (h : s.Inv) {v} : (s.tagSeed v).Inv := h.accLog.ite h.wrRaw.update

theorem State.Inv.pmapCheck (h : s.Inv) : s.pmapCheck.Inv := h.latch.ite h

theorem State.Inv.bootReg (h : s.Inv) {off v} : (s.bootReg off v).Inv := by
  unfold State.bootReg
  split
  · exact h.putRw.nccEmpty.ite h.putRw
  · exact h.mirEnable.ite h
  · exact h.avsOn.ite h.setFld
  · exact h.putRw.ppsGate.timeSelect
  · exact h.putRw.ite h
  · exact h

/-! ## Resets (Machine/Resets) -/

theorem State.Inv.loadEpoch (h : s.Inv) : s.loadEpoch.Inv := h.update.setFld

theorem State.Inv.dropOwnReqs (h : s.Inv) : s.dropOwnReqs.Inv := h.update

theorem State.Inv.clearTables (h : s.Inv) : s.clearTables.Inv :=
  (h.dropOwnReqs.update.update.ite h.dropOwnReqs.update.update.setFld.setFld).setFld

theorem State.Inv.setCause (h : s.Inv) {c} : (s.setCause c).Inv := h.wrRaw

theorem State.Inv.bootRegs (h : s.Inv) : s.bootRegs.Inv := by
  unfold State.bootRegs
  split
  · exact h.foldl fun _ _ h => h.bootReg
  · exact h.foldl fun _ _ h => h.bootReg
  · exact h

theorem State.Inv.hostBoot (h : s.Inv) : s.hostBoot.Inv := h.bootRegs.update

theorem State.Inv.hostReset (hs : s.Inv) {cause flr} : (s.hostReset cause flr).Inv := by
  unfold State.hostReset
  extract_lets link keyed s1 s2 s3 s4 h
  have hs1 : s1.Inv := hs.clearTables.resetRegs
  have hs2 : s2.Inv := hs1.wrRaw.foldl fun _ _ h => h.setFld
  have hs3 : s3.Inv := hs2.setFld.setFld.setFld.setFld
  have hs4 : s4.Inv := hs3.setFld.setFld.setCause
  exact hs4.update.hostBoot.ite hs4.update

theorem State.Inv.fullReset (h : s.Inv) {cause} : (s.fullReset cause).Inv :=
  State.Inv.setCause (s := { State.reset with regs := s.regs.filter fun kv => alwaysOn kv.1, hostMem := s.hostMem, .. })
    ⟨mwf_filter h.regs _, h.hostMem⟩

theorem State.Inv.setWake (h : s.Inv) {w} : (s.setWake w).Inv := h.wrRaw

theorem State.Inv.wakeNow (h : s.Inv) {w} : (s.wakeNow w).Inv := h.fullReset.setWake.update

theorem State.Inv.powerOn (h : s.Inv) : s.powerOn.Inv := ⟨List.Pairwise.nil, h.hostMem⟩

theorem State.Inv.flrWq (h : s.Inv) {f q} : (s.flrWq f q).Inv :=
  h.flushTags.recvOrphan.recvCancel.dropWaits.dropFetched.modWq.runWaitCmds.pmuTagDrop.update.recWq

theorem State.Inv.flrCq (h : s.Inv) {n} : (s.flrCq n).Inv := h.update.recQctx.ite h.update

theorem State.Inv.flrEq (h : s.Inv) {n} : (s.flrEq n).Inv := h.update.recQctx.ite h.update

theorem State.Inv.flrAdmin (h : s.Inv) {f} : (s.flrAdmin f).Inv := h.resetRegs.update

theorem State.Inv.flrRegions (h : s.Inv) {f} : (s.flrRegions f).Inv := by
  unfold State.flrRegions
  refine h.foldl fun t x ht => ?_
  split
  · exact ht.revokeStart
  · exact ht

theorem State.Inv.flrVf (h : s.Inv) {f} : (s.flrVf f).Inv := by
  unfold State.flrVf
  extract_lets s1 s2 s3
  have h1 : s1.Inv := h.foldl fun _ _ h => h.flrWq
  have h2 : s2.Inv := h1.foldl fun _ _ h => h.flrCq
  have h3 : s3.Inv := h2.foldl fun _ _ h => h.flrEq
  exact h3.flrAdmin.flrRegions.ownReset

theorem State.Inv.flrAll (h : s.Inv) : s.flrAll.Inv := (h.foldl fun _ _ h => h.flrVf).update.setFld

theorem State.Inv.blockSrc (h : s.Inv) {c} : (s.blockSrc c).2.Inv := by
  unfold State.blockSrc
  split
  · exact h
  split
  · exact h
  split
  · exact h.fresh
  · split <;> exact h

theorem State.Inv.blockRegs (h : s.Inv) {c} : (s.blockRegs c).Inv := by
  unfold State.blockRegs
  extract_lets keys s1
  have h1 : s1.Inv := by
    unfold s1
    refine h.foldl fun t x ht => ?_
    split
    · exact ht.wrRaw
    · exact ht
  exact h1.update.setFld.ite (h1.update.setFld.setFld.ite h1.update)

theorem State.Inv.blockEnd (h : s.Inv) {c} : (s.blockEnd c).Inv := h.update

theorem State.Inv.endTarget (h : s.Inv) {t} : (s.endTarget t).Inv := by
  unfold State.endTarget
  extract_lets mine gone _ s1 back s2
  have hback : ∀ u r, u.Inv → (back u r).Inv := fun _ _ h => h.update
  have h2 : s2.Inv := by
    unfold s2
    refine h.update.foldl fun t x ht => ?_
    split
    · exact hback _ _ ht
    · exact hback _ _ ht
    · exact ht
  exact h2.unmarkBusy.enqueue

theorem State.Inv.resetCluster (h : s.Inv) {c} : (s.resetCluster c).Inv := by
  unfold State.resetCluster
  extract_lets held s1 s2
  have h1 : s1.Inv := by
    unfold s1
    refine h.foldl fun t x ht => ?_
    extract_lets
    split
    · exact ht.modWq.endTurn.ite ht.modWq
    · exact ht.modWq
  have h2 : s2.Inv := h1.foldl fun _ _ h => h.endTarget
  exact h2.setBit.blockRegs

theorem State.Inv.qmFlush (h : s.Inv) {q} : (s.qmFlush q).Inv := by
  unfold State.qmFlush
  extract_lets s1 s2
  have h1 : s1.Inv := h.recvAbandon.unpost.dropWaits.unpark
  have h2 : s2.Inv := h1.foldl fun _ _ h => h.finish
  exact h2.endTurn.ite h2

theorem State.Inv.resetQm (h : s.Inv) : s.resetQm.Inv := by
  unfold State.resetQm
  extract_lets tags src _ s1 s2 s3
  have hsrc : src.Inv := h.dropOwnReqs
  have h2 : s2.Inv := by
    unfold s2
    refine hsrc.update.foldl fun t x ht => ?_
    split
    · exact ht
    · exact ht
    · exact ht
    · exact ht.ite ht.sendReq
    · exact ht.ite ht.sendReq
    · exact ht.modCtx
    · exact ht.ite ht.ownerUnknown
  have h3 : s3.Inv := h2.foldl fun _ _ h => h.qmFlush
  exact h3.blockRegs.update.unpark

theorem State.Inv.resetXlt (h : s.Inv) : s.resetXlt.Inv :=
  (h.xltClear.foldl fun _ _ h => h.walkOut.ite h).xltClear.blockRegs.blockEnd.walksTaken

theorem State.Inv.resetMir (h : s.Inv) : s.resetMir.Inv := by
  unfold State.resetMir
  extract_lets on s1 s2
  have h2 : s2.Inv := h.mirOff.pairFail.ite h.mirOff.unpaired
  exact h2.blockRegs.mirEnable.ite h2.blockRegs

theorem State.Inv.resetSteward (h : s.Inv) : s.resetSteward.Inv := (h.update.foldl fun _ _ h => h.endB).blockRegs

theorem State.Inv.resetMem (h : s.Inv) {k} : (s.resetMem k).Inv := h.setBit.setFld.nccReady.blockRegs

theorem State.Inv.resetLanes (h : s.Inv) {b} : (s.resetLanes b).Inv :=
  ((h.foldl fun _ _ h => h.goDown).blockRegs.setBit.foldl fun _ _ h => h.portDetect).settle.timeCheck

theorem State.Inv.blockReset {s0 : State} (h0 : s0.Inv) {c} : (s0.blockReset c).Inv := by
  unfold State.blockReset
  extract_lets
  split
  · exact h0.update.resetCluster
  split
  · exact h0.update.resetMem
  split
  · exact h0.update.resetLanes.blockEnd
  split
  · exact h0.update.resetQm.blockEnd
  · exact h0.update.resetXlt
  · exact h0.update.blockRegs.blockEnd
  · exact h0.update.blockRegs.blockEnd
  · exact h0.update.resetMir.blockEnd
  · exact h0.update.nccEmpty.blockRegs.blockEnd
  · exact h0.update.resetSteward

theorem State.Inv.doReset (h : s.Inv) {p} : (s.doReset p).Inv := by
  unfold State.doReset
  split
  · exact h.fullReset.ite h
  · exact h.fullReset
  · exact h.hostReset
  · exact h.hostReset.setFld
  · exact h.hostReset
  · exact h.flrVf
  · exact h.flrAll
  · exact h.wakeNow
  · exact h.blockReset.ite h

theorem State.Inv.resetReq (h : s.Inv) {p} : (s.resetReq p).Inv := h.update.ite h.doReset.nvStart

theorem State.Inv.nvEnd (h : s.Inv) {row} : (s.nvEnd row).Inv := h.nvCommit.update.foldl fun _ _ h => h.doReset

theorem State.Inv.blockUnready (h : s.Inv) {c} : (s.blockUnready c).Inv :=
  h.setBit.ite (h.setBit.setFld.nccReady.ite (h.setBit.ite h.nccReady))

theorem State.Inv.blkBegin (h : s.Inv) {c force slots} : (s.blkBegin c force slots).Inv := by
  unfold State.blkBegin
  split
  · exact h.update
  · exact h.update.blockUnready.setFld.resetReq.ite h.update.blockUnready.setFld

theorem State.Inv.blkCmd (h : s.Inv) {c force} : (s.blkCmd c force).Inv := h.accLog.ite h.blkBegin.settle

theorem State.Inv.blockIdle (h : s.Inv) {c} : (s.blockIdle c).Inv := by
  unfold State.blockIdle
  split
  · exact h.resetReq.settle.ite h
  · exact h

theorem State.Inv.blockLate (h : s.Inv) {c} : (s.blockLate c).Inv := by
  unfold State.blockLate
  split
  · exact h.latch.blockSrc.raise.resetReq.settle.ite h
  · exact h

theorem State.Inv.blkRow (h : s.Inv) {c force} : (s.blkRow c force).Inv := h.regRow fun _ h => h.blkCmd

/-! ## The service rings (Machine/Ring) -/

theorem State.Inv.ringSend (h : s.Inv) {f} : (s.ringSend f).Inv := h.update.ite h.update

theorem State.Inv.ringArrive (h : s.Inv) {key x} (hx : s.ringArrive key = some x) : x.2.Inv := by
  unfold State.ringArrive at hx
  split at hx
  · cases hx
    exact h.update
  · cases hx

theorem State.Inv.routeStop (h : s.Inv) {key} : (s.routeStop key).Inv := h.update

theorem State.Inv.routeWrite (h : s.Inv) {key e} : (s.routeWrite key e).Inv := h.ite h.update

theorem State.Inv.routeLost (h : s.Inv) {src dst} : (s.routeLost src dst).Inv := by
  unfold State.routeLost
  split
  · exact h.update
  · exact h

theorem State.Inv.routeRepair (h : s.Inv) : s.routeRepair.Inv := h.foldl fun _ _ h => h.routeStop.routeWrite

theorem State.Inv.segmentFailed (h : s.Inv) {ring i} : (s.segmentFailed ring i).Inv := by
  unfold State.segmentFailed
  refine h.foldl fun t x ht => ?_
  split
  · exact ht.routeStop.routeWrite.ite ht
  · exact ht

theorem State.Inv.routeFill (h : s.Inv) : s.routeFill.Inv := h.update

/-! ## Faults, logs, counters and security (Machine/Faults) -/

theorem State.Inv.histWrite (h : s.Inv) : s.histWrite.Inv := by
  unfold State.histWrite
  split
  · exact h
  · exact h.ite h.update

theorem State.Inv.logWrite (h : s.Inv) : s.logWrite.Inv := by
  unfold State.logWrite
  split
  · exact h
  · extract_lets n _ _ s1
    have h1 : s1.Inv := by
      unfold s1
      split
      · exact h
      · exact h.update.update.raise.ite h.update
    exact h1.histWrite

theorem State.Inv.recover (h : s.Inv) {src} : (s.recover src).Inv := by
  unfold State.recover
  split
  · exact h.laneBad
  · exact h.goDown.ite h
  · exact h.blkBegin
  · exact h

theorem State.Inv.fltWindow (h : s.Inv) {slot w} : (s.fltWindow slot w).Inv := h.ite (h.update.setFld.ite h.update.setFld.setFld)

theorem State.Inv.fltCount (h : s.Inv) {m} : (s.fltCount m).Inv := h.bump.ite (h.bump.bump.setFld.ite h.bump.bump)

theorem State.Inv.fltLatch (h : s.Inv) {slot level} : (s.fltLatch slot level).Inv := h.ite h.setFld.latch

theorem State.Inv.fltNotify (h : s.Inv) {level enters} : (s.fltNotify level enters).Inv := h.ite (h.latch.msix.ite h.latch)

theorem State.Inv.fltLast (h : s.Inv) {m level severe esc} : (s.fltLast m level severe esc).Inv :=
  h.snap fun _ h => h.setFld.setFld.setFld.wrRaw.wrRaw.wrRaw.wrRaw

theorem State.Inv.fltLog (h : s.Inv) {l} : (s.fltLog l).Inv := h.update.ite h.update

theorem State.Inv.fltTake (h : s.Inv) {m} : (s.fltTake m).1.Inv := by
  unfold State.fltTake
  extract_lets slot full s1 lv severe s2 over_ enters s3 s4
  have h1 : s1.Inv := h.fltWindow.fltCount
  have h3 : s3.Inv := h1.fltLatch.setFld.setFld
  have h4 : s4.Inv := h3.fltNotify.fltLast.bump.bump
  exact (h4.bump.ite h4).fltLog

theorem State.Inv.fltAct (h : s.Inv) {src level over_} : (s.fltAct src level over_).Inv :=
  (h.enterSafe.ite (h.enterSafe.ite h)).recover.ite (h.enterSafe.ite (h.enterSafe.ite h))

theorem State.Inv.fltHandle (h : s.Inv) {m} : (s.fltHandle m).Inv := h.fltTake.fltAct

theorem State.Inv.faultMessage (h : s.Inv) : s.faultMessage.Inv := by
  unfold State.faultMessage
  split
  · exact h
  · exact h.update.fltHandle.settle.timeCheck

theorem State.Inv.windowEnd (h : s.Inv) {slot} : (s.windowEnd slot).Inv := h.fltWindow.ite h

theorem State.Inv.inject_ (h : s.Inv) {v} : (s.inject_ v).Inv := h.ite (h.raise.ite h.accLog)

theorem State.Inv.winUe (h : s.Inv) {id} : (s.winUe id).Inv := by
  unfold State.winUe
  split
  · exact h.ite (h.winLost.ite h.cutItem.bump.poison.dropItem)
  · exact h

theorem State.Inv.tagUe (h : s.Inv) {t} : (s.tagUe t).Inv := by
  unfold State.tagUe
  split
  · exact h
  · refine h.ite ?_
    extract_lets
    refine .maybeRelease ?_
    split
    · split
      · dsimp only
        split
        · exact h.modTag.fresh.closeDesc.acquireFail
        · exact h.modTag.fresh.closeDesc.finish
      · exact h.modTag
    · exact h.modTag.ownerUnknown

theorem State.Inv.breakEntry (h : s.Inv) {key} : (s.breakEntry key).Inv := by
  unfold State.breakEntry
  split
  · exact h.update.sendBreak.sendBreak
  · exact h

theorem State.Inv.regLost (h : s.Inv) {r i} : (s.regLost r i).Inv := h.wrRaw

theorem State.Inv.lockUe (h : s.Inv) {k} : (s.lockUe k).Inv := h.ite h.setLock

theorem State.Inv.memUeAt (h : s.Inv) {k a} : (s.memUeAt k a).Inv := h.latch.raise

theorem State.Inv.memUe (h : s.Inv) : s.memUe.Inv := h.fresh.fresh.memUeAt

theorem State.Inv.engParity (h : s.Inv) {e w} : (s.engParity e w).Inv := by
  unfold State.engParity
  extract_lets
  split
  · exact h.raise.dropWalks.modTurn.payloadDone
  · exact h.raise

theorem State.Inv.xbarIn (h : s.Inv) {p v i} : (s.xbarIn p v i).Inv := by
  unfold State.xbarIn
  extract_lets
  split
  · exact h.trail.setInq.freeSlots.raise
  · exact h

theorem State.Inv.xbarOut (h : s.Inv) {p v i} : (s.xbarOut p v i).Inv := by
  unfold State.xbarOut
  extract_lets
  split
  · exact h.dropTx.raise
  · exact h

theorem State.Inv.critUe (h : s.Inv) {c} : (s.critUe c).Inv := by
  unfold State.critUe
  extract_lets
  split
  · exact h.bump
  · exact h.memUeAt
  · exact h.engParity
  · exact h.xbarIn
  · exact h.xbarOut
  · exact (h.latch.bump.raise.ite h.latch.bump.raise.memUe).blkBegin.ite h.latch.bump.raise
  · exact h.latch.bump.raise.update
  · exact h.latch.bump.raise.update
  · exact h.latch.bump.raise.routeLost.routeRepair.ite h.latch.bump.raise.routeLost
  · exact (h.latch.bump.raise.ite h.latch.bump.raise.goOff).regLost.pmapCheck
  · exact h.latch.bump.raise.regLost.pmapCheck
  · exact h.latch.bump.raise.breakEntry
  · exact h.latch.bump.raise.memUe.lockUe

theorem State.Inv.accessUe (h : s.Inv) {t} : (s.accessUe t).Inv := by
  unfold State.accessUe
  extract_lets
  split
  · exact h.update.walkFailed.settle
  · exact h

theorem State.Inv.ringVictim (h : s.Inv) {v} : (s.ringVictim v).Inv := by
  unfold State.ringVictim
  split
  · exact h.winUe
  · exact h.tagUe
  · exact h.fetchDone
  · exact h.payloadDone
  · exact h.walkRead1.walkCas1
  · exact h.accessUe
  · exact h.critUe
  · exact h

theorem State.Inv.ringSevere (h : s.Inv) {ring src dst} : (s.ringSevere ring src dst).Inv := by
  unfold State.ringSevere
  split
  · split
    · exact h.foldl fun _ _ h => h.segmentFailed
    · exact h
  · exact h

theorem State.Inv.ringIn (h : s.Inv) {f ring v} : (s.ringIn f ring v).Inv := h.raise.ringSevere.ringVictim.ite (h.ite h.update)

theorem State.Inv.ringUe (h : s.Inv) {f v} : (s.ringUe f v).Inv := by
  unfold State.ringUe
  split
  · exact h
  · extract_lets s1
    have h1 : s1.Inv := h.ringSend
    split
    next heq => exact State.Inv.ringIn (h1.ringArrive heq)
    · exact h1

theorem State.Inv.bwPort (h : s.Inv) {window kv} : (s.bwPort window kv).Inv := h.wrRaw.wrRaw.wrRaw.modPort

theorem State.Inv.bwEnd (h : s.Inv) : s.bwEnd.Inv := (h.foldl fun _ _ h => h.bwPort).update.ite h

theorem State.Inv.putBytes (h : s.Inv) {r n l} : (s.putBytes r n l).Inv := h.foldl fun _ _ h => h.wrRaw

theorem State.Inv.secBad (h : s.Inv) : s.secBad.Inv := h.accLog

theorem State.Inv.newChal (h : s.Inv) : s.newChal.Inv := h.secBad.ite h.fresh.putBytes.setFld

theorem State.Inv.unlock (h : s.Inv) : s.unlock.Inv := by
  unfold State.unlock
  extract_lets ok s1 s2 s3 s2'
  have h2 : s2.Inv := h.setFld.enterSafe.setFld.nccReady
  have h3 : s3.Inv := h2.foldl fun _ _ h => h.setFld
  have hs2' : s2'.Inv := h.setFld.bump.latch
  exact h3.setFld.setFld.latch.raise.ite (hs2'.update.setFld.ite hs2'.update).raise

theorem State.Inv.fuseWrite (h : s.Inv) {floor mask} : (s.fuseWrite floor mask).Inv :=
  h.ite (h.secBad.ite ((h.secBad.ite h).ite (h.secBad.ite h).update))

theorem State.Inv.fuseDone (h : s.Inv) : s.fuseDone.Inv := by
  unfold State.fuseDone
  split
  · exact h.update
  · exact h

/-! ## Bring-up (Machine/Boot) -/

theorem State.Inv.hostLinkUp (h : s.Inv) {rate width flit cxlmem} : (s.hostLinkUp rate width flit cxlmem).Inv := by
  unfold State.hostLinkUp
  split
  · exact h
  · extract_lets r low v _ s1 s2
    have h1 : s1.Inv := h.update.wrRaw
    have h2 : s2.Inv := h1.latch.ite h1
    exact h2.update.setFld.ite h2

theorem State.Inv.hostResetDone (h : s.Inv) : s.hostResetDone.Inv := h.update.setFld.ite h

theorem State.Inv.l0p (h : s.Inv) {width} : (s.l0p width).Inv := h.setFld.ite h

theorem State.Inv.dlDown (h : s.Inv) : s.dlDown.Inv := h.update.wrRaw.setFld.setFld.resetReq.ite h

theorem State.Inv.flrPf (h : s.Inv) : s.flrPf.Inv := (h.foldl fun _ _ h => h.foldl fun _ _ h => h.emit.ite h.poison).resetReq.ite h

theorem State.Inv.slotFail (h : s.Inv) {i} : (s.slotFail i).Inv := h.latch.raise.ite h

theorem State.Inv.setCheck (h : s.Inv) {k sig} : (s.setCheck k sig).Inv := by
  unfold State.setCheck
  split
  · exact h
  · exact h.ite h.update.latch.raise

theorem State.Inv.flashRead (h : s.Inv) {addr} : (s.flashRead addr).Inv := h.emit

theorem State.Inv.flashWrite (h : s.Inv) {k b} : (s.flashWrite k b).Inv := h.update.flashRead

theorem State.Inv.defaultPorts (h : s.Inv) : s.defaultPorts.Inv := h.foldl fun _ _ h => h.wrRaw.wrRaw

theorem State.Inv.bootPort (h : s.Inv) {p v} : (s.bootPort p v).Inv := h.wrRaw.ite h

theorem State.Inv.bootPorts (h : s.Inv) {r site} : (s.bootPorts r site).Inv := by
  unfold State.bootPorts
  extract_lets x t s1
  have ht : t.Inv := h.foldl fun _ _ h => h.bootPort
  have h1 : s1.Inv := (h.defaultPorts.ite h).ite (ht.foldl fun _ _ h => h.wrRaw.ite h)
  exact h1.pmapCheck

theorem State.Inv.fullBoot (h : s.Inv) {r site} : (s.fullBoot r site).Inv := by
  unfold State.fullBoot
  extract_lets entry _ s1 s2 s3 s4
  have h2 : s2.Inv := h.update.routeFill
  have h3 : s3.Inv := h2.setFld.wrRaw
  have h4 : s4.Inv := h3.bootPorts.bootRegs
  exact h4.update.raise.ite h4.update

theorem State.Inv.epochGo (h : s.Inv) : s.epochGo.Inv := by
  unfold State.epochGo
  extract_lets t u s1
  have hu : u.Inv := by
    unfold u
    split
    · exact h.loadEpoch.fullBoot
    · exact h.loadEpoch
  have h1 : s1.Inv := hu.ownReset.wakeTags.ite h
  exact h1.nvStart

theorem State.Inv.runImage (h : s.Inv) {i slotB fallback} : (s.runImage i slotB fallback).Inv := by
  unfold State.runImage
  extract_lets s1
  have h1 : s1.Inv := h.wrRaw.setFld.wrRaw
  exact (h1.update.ite (h1.update.routeRepair.hostBoot.ite h1.update.routeRepair)).epochGo

theorem State.Inv.stewardBoot (h : s.Inv) {b} : (s.stewardBoot b).Inv := by
  unfold State.stewardBoot
  split
  · exact h
  · extract_lets _ s0 s1 s2
    have h1 : s1.Inv := h.update.flashRead.flashRead.slotFail
    have h2 : s2.Inv := h1.slotFail.setCheck.setCheck.blockEnd
    exact h2.runImage.ite (h2.runImage.ite h2.wrRaw.wrRaw)

theorem State.Inv.poolUp (h : s.Inv) : s.poolUp.Inv := h.setFld.ite h

theorem State.Inv.selftest (h : s.Inv) {c pass} : (s.selftest c pass).Inv := h.ite (h.blockEnd.setBit.ite h.blockEnd.latch.raise)

theorem State.Inv.memTrain (h : s.Inv) {k pass} : (s.memTrain k pass).Inv :=
  h.ite (h.blockEnd.setBit.setFld.ite h.blockEnd.latch.raise)

theorem State.Inv.dstateUp (h : s.Inv) : s.dstateUp.Inv := h.ite (h.setFld.update.ite h.setFld).nccReady.unpark

theorem State.Inv.lbCal (h : s.Inv) {b pass} : (s.lbCal b pass).Inv := h.ite (h.setBit.setFld.setFld.blockStart.settle.ite h.latch)

theorem State.Inv.hdmCommit (hs : s.Inv) {d base size ways} : (s.hdmCommit d base size ways).Inv :=
  hs.fresh.busError.ite (hs.ite hs.update)

theorem State.Inv.vecMask (h : s.Inv) {f v masked} : (s.vecMask f v masked).Inv := h.update.msixFlush

theorem State.Inv.cfgWrite (h : s.Inv) {c} : (s.cfgWrite c).Inv := by
  unfold State.cfgWrite
  split
  · exact h.update.setFld
  · exact h.update
  · exact h.update
  · exact h.vecMask.ite h.busError
  · exact h.update.msixFlush
  · exact h.update.ite h.fresh.busError
  · exact h.resetReq.settle

theorem State.Inv.vfEnable (h : s.Inv) {n} : (s.vfEnable n).Inv := h.update.setFld.setFld.ite h

/-! ## Power, alarms and voltage (Machine/PowerCmds) -/

theorem State.Inv.wakeReq (h : s.Inv) {w} : (s.wakeReq w).Inv := by
  unfold State.wakeReq
  split
  · exact h
  · exact h.resetReq.ite (h.ite h.update)
  · exact h.ite h.update

theorem State.Inv.timeAlarm (h : s.Inv) {n} : (s.timeAlarm n).Inv := by
  unfold State.timeAlarm
  extract_lets t _ s1 s2
  have h1 : s1.Inv := h.update.setBit
  have h2 : s2.Inv := h1.ite h1.event0
  exact (h2.wakeReq.ite h2).ite h

theorem State.Inv.sigWake (h : s.Inv) {l} : (s.sigWake l).Inv := h.wakeReq.ite h

theorem State.Inv.perstOn (h : s.Inv) : s.perstOn.Inv := h.ite (h.update.resetReq.ite h.update)

theorem State.Inv.perstOff (h : s.Inv) : s.perstOff.Inv := (h.update.wakeReq.ite h.update).ite h

theorem State.Inv.standby (h : s.Inv) : s.standby.Inv := h.accLog.ite (h.ite h.enterSafe.update)

theorem State.Inv.powerDown (h : s.Inv) : s.powerDown.Inv := by
  unfold State.powerDown
  split
  · extract_lets s0
    have h0 : s0.Inv := by
      unfold s0
      split
      · exact h.nvEnd
      · exact h
    exact h0.fullReset.update.ite h0
  · exact h

theorem State.Inv.setRails (h : s.Inv) {l v} : (s.setRails l v).Inv := h.update

theorem State.Inv.railStep (h : s.Inv) : s.railStep.Inv := by
  unfold State.railStep
  extract_lets
  split
  · exact (h.setRails.ite h).ite ((h.setRails.ite h).ite ((h.setRails.ite h).ite h))
  split
  · exact h.setRails.ite h
  split
  · exact h.setRails.ite h
  split
  · exact h.resetReq.ite h
  · exact h

theorem State.Inv.avsRequest (h : s.Inv) {mv} : (s.avsRequest mv).Inv := h.avsReads.ite (h.ite h.setFld.emit.avsReads)

theorem State.Inv.avsAct (h : s.Inv) {pace} : (s.avsAct pace).Inv :=
  h.ite (h.update.avsRequest.ite ((h.update.ite h.update.avsRequest).ite h.update))

theorem State.Inv.paceSample (h : s.Inv) {l r} : (s.paceSample l r).Inv := h.wrRaw

theorem State.Inv.paceWindow (h : s.Inv) {l} : (s.paceWindow l).Inv := by
  unfold State.paceWindow
  split
  · exact h
  · extract_lets pace region s1 low n _ s2 s3
    have h1 : s1.Inv := (h.foldl fun _ _ h => h.paceSample).wrRaw
    have h3 : s3.Inv := h1.update.latch.raise.ite h1.update
    exact h3.avsAct

theorem State.Inv.avsDone (h : s.Inv) {ok mv} : (s.avsDone ok mv).Inv :=
  h.ite (h.setFld.update.ite (h.update.ite h.update.latch.raise))

theorem State.Inv.hot (h : s.Inv) {tj} : (s.hot tj).Inv := h.setFld.latch.raise.ite h

theorem State.Inv.cool (h : s.Inv) {tj} : (s.cool tj).Inv := h.setFld.ite h

theorem State.Inv.hostUncorr (h : s.Inv) {status} : (s.hostUncorr status).Inv := h.update.latch.raise.ite h

/-! ## The admin engine (Machine/Admin) -/

theorem State.Inv.adminTake {go : State → State} (h : s.Inv) {c} (hgo : ∀ t, t.Inv → (go t).Inv) : (s.adminTake c go).Inv :=
  h.ite (hgo _ h)

theorem State.Inv.logGive {α : Type} (h : s.Inv) {c} {l : List (Nat × α)} {bytes} : (s.logGive c l bytes).Inv := by
  unfold State.logGive
  extract_lets x s1
  have h1 : s1.Inv := h.write
  split
  · exact h1.adminEnd
  · exact h1.fresh.adminEnd

theorem State.Inv.cmdGetLog (h : s.Inv) {c} : (s.cmdGetLog c).Inv := by
  unfold State.cmdGetLog
  extract_lets
  split
  · exact h.adminEnd
  · exact h.adminEnd.ite (h.logGive.ite h.logGive)

theorem State.Inv.cmdFwUpdate (h : s.Inv) {c rd} : (s.cmdFwUpdate c rd).Inv := by
  unfold State.cmdFwUpdate
  extract_lets
  split
  · exact h.adminEnd
  split
  · exact (h.poisonRx.ite h).adminEnd
  · exact h.update.startB

theorem State.Inv.fwEnd (h : s.Inv) {b status r0} : (s.fwEnd b status r0).Inv := h.update.endB

theorem State.Inv.restartDue (h : s.Inv) : s.restartDue.Inv := by
  unfold State.restartDue
  split
  · exact h.update.blkBegin.ite h
  · exact h

theorem State.Inv.fwDone (h : s.Inv) {sigOk writeOk version} : (s.fwDone sigOk writeOk version).Inv := by
  unfold State.fwDone
  split
  · extract_lets bytes x _ s1 s2
    have h2 : s2.Inv := h.flashWrite.fwEnd
    split
    · exact h.latch.raise.fwEnd
    split
    · exact h.update.nvStart.ite h.update.fwEnd
    · exact h.flashWrite.fwEnd.ite (h2.update.restartDue.ite h2)
  · exact h

theorem State.Inv.nvDone (h : s.Inv) : s.nvDone.Inv := by
  unfold State.nvDone
  split
  · exact h
  · extract_lets s1 _ s2
    have h2 : s2.Inv := by
      unfold s2
      split
      · exact h.nvEnd.update.fwEnd.ite h.nvEnd
      · exact h.nvEnd
    exact h2.epochGo

theorem State.Inv.readEnd {go : State → Sys2Proof.ReadStatus → State} (h : s.Inv) (hgo : ∀ t x, t.Inv → (go t x).Inv) :
    (s.readEnd go).Inv :=
  hgo _ _ h.fresh

theorem State.Inv.adminOp (h : s.Inv) {c} : (s.adminOp c).Inv := by
  unfold State.adminOp
  split
  · exact h.wqCommand
  · exact h.wqCommand
  · exact h.wqCommand
  · exact h.wqCommand
  · exact h.wqCommand
  · exact h.wqCommand
  · exact h.wqCommand
  · exact h.wqCommand
  · exact h.cmdConfigCq
  · exact h.cmdConfigEq
  · exact h.cmdSetVfAllot
  · exact h.cmdRegisterRegion
  · exact h.cmdRevokeRegion
  · exact h.cmdQueryRegion
  · exact h.readEnd fun _ _ h => h.cmdMapWindow
  · exact h.cmdUnmapWindow
  · exact h.cmdInvalidateXlt
  · exact h.readEnd fun _ _ h => h.cmdCollSetup
  · exact h.cmdCollTeardown
  · exact h.cmdPisteSetup
  · exact h.cmdPisteTeardown
  · exact h.cmdLockConfig
  · exact h.cmdLockForceRelease
  · exact h.cmdTwinConfig
  · exact h.cmdGetLog
  · exact h.readEnd fun _ _ h => h.cmdFwUpdate
  · exact h.adminEnd

theorem State.Inv.adminRunAux (h : s.Inv) {f fuel} : (Machine.adminRunAux f fuel s).Inv := by
  induction fuel generalizing s with
  | zero => exact h
  | succ fuel ih =>
    unfold Machine.adminRunAux
    exact h.ite (h.poisonRx.setFldAq.modAq.ite (h.ite (ih h.modAq.adminOp)))

theorem State.Inv.adminRun (h : s.Inv) {f} : (s.adminRun f).Inv := h.adminRunAux

theorem State.Inv.adminRunAll (h : s.Inv) : s.adminRunAll.Inv := h.foldl fun _ _ h => h.adminRun

theorem State.Inv.safeClear (h : s.Inv) : s.safeClear.Inv := (h.setFld.leaveSafe.restartDue.adminRunAll.ite h.setFld).settle.ite h

/-! ## Reads (Machine/Reads) -/

theorem State.Inv.wrF (h : s.Inv) {f r i v} : (s.wrF f r i v).Inv := h.wrAq.ite h.wrRaw

theorem State.Inv.follow (h : s.Inv) {seq regs} : (s.follow seq regs).Inv := h.ite (h.snap fun _ h => h.foldl fun _ _ h => h.wrRaw)

theorem State.Inv.followAll (h : s.Inv) : s.followAll.Inv := h.ite h.follow.follow.follow

/-! ## Writes to BAR0 (Machine/RegWrite) -/

theorem State.Inv.adminTail (h : s.Inv) {f tail rd} : (s.adminTail f tail rd).Inv := h.wrAq.modAq.adminRun.settle

theorem State.Inv.adminHead (h : s.Inv) {f head} : (s.adminHead f head).Inv := h.wrAq.adminDrain.restartDue

theorem State.Inv.adminOn (h : s.Inv) {f} : (s.adminOn f).Inv := h.ite h.setFldAq.modAq.wrAq.wrAq

theorem State.Inv.adminOff (h : s.Inv) {f} : (s.adminOff f).Inv := h.setFldAq.ite h

theorem State.Inv.portWrite (h : s.Inv) {p n} : (s.portWrite p n).Inv := h.portEnable.ite (h.portDisable.ite h).wrRaw

theorem State.Inv.mirBits (h : s.Inv) {wo} : (s.mirBits wo).Inv := by
  unfold State.mirBits
  extract_lets s1 s2
  have h1 : s1.Inv := h.unpairCmd.ite h
  have h2 : s2.Inv := h1.releaseCmd.ite h1
  exact (h2.fence.ite h2.mirBad).ite h2

theorem State.Inv.secBits (h : s.Inv) {wo} : (s.secBits wo).Inv := ((h.newChal.ite h).unlock.ite (h.newChal.ite h)).fuseWrite

theorem State.Inv.regTake (h : s.Inv) {f r i al o n v} : (s.regTake f r i al o n v).Inv := by
  unfold State.regTake
  extract_lets t rise fall wo t1 t1' _ t1''
  have ht1 : t1.Inv := (h.timeStep.ite h).wrF
  have ht1' : t1'.Inv := h.avsOn.ite h.wrF
  have ht1'' : t1''.Inv := h.pmuSync.ite h
  split
  · exact h.adminOn.wrF.ite (h.adminOff.wrF.ite h.wrF)
  · exact h.wrF.adminTail
  · exact h.wrF.adminHead
  · exact h.wrF.nccEmpty.ite h.wrF
  · exact h.wrF.xltClear.ite h.wrF
  · exact h.wrF.xltClear
  · exact h.wrF.xltClear
  · exact h.wrF.xltClear
  · exact h.wrF.xltClear
  · exact h.wrF.pmapCheck.settle
  · exact h.wrF.spareSync
  · exact h.ite h.portWrite.pmapCheck.settle.timeCheck
  · exact (h.wrF.mirEnable.ite (h.wrF.mirOff.ite h.wrF)).mirBits.settle
  · exact ht1.ite ht1.ppsGate.timeSelect
  · exact ht1'.standby.settle.ite ht1'
  · exact h.blkCmd.ite h
  · exact h.wrF.update.ite h.wrF
  · exact h.watchdogKick
  · exact h.wrF.enterSafe.settle.ite h.wrF
  · exact h.inject_.ite h
  · exact h.safeClear.ite h
  · exact h.wrF.setFld.setFld.ite h.wrF
  · exact ht1''.pmuSync.ite ht1''
  · exact h.wrF.pmuLoad.ite h.wrF
  · exact h.tagSeed
  · exact h.secBits.settle
  · exact h.wrF

theorem State.Inv.regWriteAt {s0 : State} (h : s.Inv) {f off r i al v} : (s0.regWriteAt s f off r i al v).Inv :=
  h.accLog.ite (h.lockViol.ite (h.accLog.ite h.regTake))

theorem State.Inv.msixWrite (h : s.Inv) {f w v} : (s.msixWrite f w v).Inv := h.vecMask.ite h.update

theorem State.Inv.wordWrite {s0 : State} (h : s.Inv) {f off v} : (s0.wordWrite s f off v).Inv := by
  unfold State.wordWrite
  split
  · exact h.regWriteAt
  · exact h.msixWrite
  · exact h

theorem State.Inv.bar0Write (h : s.Inv) {a} : (s.bar0Write a).Inv :=
  h.ite (h.busError.ite (h.busError.ite (h.busError.ite (h.foldl fun _ _ h => h.wordWrite))))

theorem State.Inv.aqRow {op : State → State} (h : s.Inv) {f r} (hop : ∀ t, t.Inv → (op t).Inv) : (s.aqRow f r op).Inv :=
  h.ite (h.busError.ite (hop _ h))

/-! ## Doorbells, window accesses and the mailbox (Machine/HostIf) -/

theorem State.Inv.tailBell (h : s.Inv) {q tail} : (s.tailBell q tail).Inv :=
  h.bump.ite (h.bump.ite ((h.wqError.runWaitCmds.ite h.modWq).ite h.modWq.recWqTail.joinRun))

theorem State.Inv.rightsWrite (h : s.Inv) {q v} : (s.rightsWrite q v).Inv := h.modWq.recWqTail

theorem State.Inv.cqBell (h : s.Inv) {n v} : (s.cqBell n v).Inv := (h.modCq.recQctx.ite h.modCq).cqGo.ite h

theorem State.Inv.eqBell (h : s.Inv) {n v} : (s.eqBell n v).Inv := (h.modEq.recQctx.ite h.modEq).eqDrain.ite h

theorem State.Inv.slotWrite (h : s.Inv) {f off v} : (s.slotWrite f off v).Inv := by
  unfold State.slotWrite
  extract_lets
  split
  · split
    · exact h.tailBell
    · exact h.accLog
  · split
    · exact h.rightsWrite
    · exact h.accLog
  · split
    · exact h.cqBell
    · exact h.accLog
  · split
    · exact h.eqBell
    · exact h.accLog
  · exact h

theorem State.Inv.bar2Write (h : s.Inv) {w} : (s.bar2Write w).Inv :=
  h.ite (h.busError.ite (h.busError.ite (h.accLog.ite (h.foldl fun _ _ h => h.slotWrite).settle)))

theorem State.Inv.readError (h : s.Inv) {kind a} : (s.readError kind a).Inv := h.accLog.emit

theorem State.Inv.fenceWait (h : s.Inv) {l} : (s.fenceWait l).Inv := h.update.fenceRun

theorem State.Inv.bar0Read (h : s.Inv) {a} : (s.bar0Read a).Inv :=
  h.readError.ite (h.readError.ite (h.readError.ite (h.fenceWait.ite h.fresh.emit)))

theorem State.Inv.bar2ReadAt (h : s.Inv) {a} : (s.bar2ReadAt a).Inv := h.readError.ite (h.readError.ite (h.readError.ite h.emit))

theorem State.Inv.hostRead_ (h : s.Inv) {a} : (s.hostRead_ a).Inv := by
  unfold State.hostRead_
  split
  · exact h
  split
  · exact h.bar0Read
  · exact h.bar2ReadAt
  · exact h.fresh.emit

theorem State.Inv.cxlAccess {go : Nat → Nat → State} (h : s.Inv) {hpa} (hgo : ∀ x y, (go x y).Inv) : (s.cxlAccess hpa go).Inv := by
  unfold State.cxlAccess
  split
  · split
    · exact hgo _ _
    · exact h
  · exact h

theorem State.Inv.mailbox {go : State → State} (h : s.Inv) (hgo : ∀ t, t.Inv → (go t).Inv) : (s.mailbox go).Inv :=
  ((hgo _ h).msix.ite (hgo _ h)).ite h.fresh.busError

theorem State.Inv.mailOpen (h : s.Inv) {what} : (s.mailOpen what).Inv := h.fresh.emit

/-! ## Request and answer packets (Machine/Targets) -/

theorem State.Inv.badRequest (h : s.Inv) {r} : (s.badRequest r).Inv := h.badPkt.ite h

theorem State.Inv.request (h : s.Inv) {isType r} : (s.request isType r).Inv := by
  unfold State.request
  split
  · exact h
  split
  · exact h.badRequest
  · extract_lets
    split
    · exact h.targetWait
    split
    · exact h.notReady.settle
    split
    · exact h.targetWait
    next heq => exact State.Inv.settle (.targetExec (h.turnServer heq))

theorem State.Inv.pmark (h : s.Inv) {r} : (s.pmark r).Inv := h.ite (h.badRequest.ite (h.markIn.settle.ite h.pistePkt.settle))

theorem State.Inv.response (h : s.Inv) {p k} : (s.response p k).Inv := h.ite ((h.badPkt.ite h).ite h.respIn.settle)

theorem State.Inv.tagAnswered (h : s.Inv) {tag status isOwner} : (s.tagAnswered tag status isOwner).Inv := by
  unfold State.tagAnswered
  split
  · exact h.respIn.settle.ite h
  · exact h

theorem State.Inv.grantLate (h : s.Inv) {tag} : (s.grantLate tag).Inv := by
  unfold State.grantLate
  split
  · split
    · exact h.unknownTag.settle
    · exact h
  · exact h

/-! ## Timers (Machine/Timers) -/

theorem State.Inv.dupExpire (h : s.Inv) {i} : (s.dupExpire i).Inv := by
  unfold State.dupExpire
  split
  · exact h.update.ite h
  · exact h

theorem State.Inv.basePeriod (h : s.Inv) : s.basePeriod.Inv := h.update

theorem State.Inv.reassemblyLate (h : s.Inv) {i} : (s.reassemblyLate i).Inv := by
  unfold State.reassemblyLate
  split
  · exact h.msgTimeout.ite h
  · exact h

theorem State.Inv.lockProbeDue (h : s.Inv) {n} : (s.lockProbeDue n).Inv := by
  unfold State.lockProbeDue
  split
  · exact h.modRec.sendLockop.settle.ite h
  · exact h

theorem State.Inv.recExpire (h : s.Inv) {n} : (s.recExpire n).Inv := by
  unfold State.recExpire
  split
  · split
    · exact h.freeRec.ite h
    · exact h
  · exact h

theorem State.Inv.collProbeDue (h : s.Inv) {k peer} : (s.collProbeDue k peer).Inv := by
  unfold State.collProbeDue
  split
  · exact h.modCtx.sendColl.settle.ite h
  · exact h

theorem State.Inv.batchDue (h : s.Inv) {k} : (s.batchDue k).Inv := h.batchSend.settle.ite h

theorem State.Inv.leaseExpire (h : s.Inv) {al region block} : (s.leaseExpire al region block).Inv := by
  unfold State.leaseExpire
  extract_lets
  split
  · exact h.bump.leaseDone.settle.ite h
  · exact h

theorem State.Inv.startWaitEnd (h : s.Inv) {al} : (s.startWaitEnd al).Inv := by
  unfold State.startWaitEnd
  split
  · exact (h.update.foldl fun _ _ h => h.visible).settle.ite h
  · exact h

/-! ## The idle tick (Machine/Idle) -/

theorem State.Inv.fixedTick (h : s.Inv) : s.fixedTick.Inv := (h.foldl fun _ _ h => h.wrRaw.wrRaw.ite h).ite h

theorem State.Inv.stallTick (h : s.Inv) : s.stallTick.Inv := h.update

theorem State.Inv.idleTick (h : s.Inv) : s.idleTick.Inv := by
  unfold State.idleTick
  extract_lets s1 s2 s3 s4 s5
  have h2 : s2.Inv := h.passTick.gmPeriod.fixedTick.stallTick.followAll
  have h3 : s3.Inv := h2.wakeTags.settle.ite h2
  have h4 : s4.Inv := h3.settle.ite h3
  have h5 : s5.Inv := h4.adminRunAll.settle.ite h4
  exact h.passTick.ite h5.idleFill.backTick

/-! ## The queue of commands (Machine/Step) -/

theorem State.Inv.withPending (h : s.Inv) {l} : (s.withPending l).Inv := h.update

/-! ## Every command -/

theorem Completes.of_next {c : Instr} {s t : State} {P : State → Prop} (e : exec c s = .next t) (ht : P t) : Completes c s P :=
  ⟨t, e, ht⟩

/-- Every command completes from a consistent state, in a consistent state: one arm for each row of the command table. -/
theorem exec_completes_inv (h : s.Inv) (c : Instr) : Completes c s State.Inv := by
  cases c with
  | regWrite => exact .of_next rfl h.bar0Write
  | tailDoorbell => exact .of_next rfl h.hostStores.bar2Write
  | headDoorbell => exact .of_next rfl h.bar2Write
  | keyRightsWrite => exact .of_next rfl h.bar2Write
  | adminTailDoorbell => exact .of_next rfl (h.hostStores.aqRow fun _ h => h.adminTail)
  | adminHeadDoorbell => exact .of_next rfl (h.aqRow fun _ h => h.adminHead)
  | adminQueueEnable => exact .of_next rfl (h.aqRow fun _ h => h.adminOn)
  | adminQueueDisable => exact .of_next rfl (h.aqRow fun _ h => h.adminOff)
  | fenceRead => exact .of_next rfl h.hostRead_
  | windowEnable => exact .of_next rfl (h.regRow fun _ h => h.windowEnable)
  | nccEnable => exact .of_next rfl (h.regRow fun _ h => h.nccOn)
  | nccDisable => exact .of_next rfl (h.regRow fun _ h => h.nccOff)
  | nccInitDone => exact .of_next rfl h.nccInitDone
  | xltDisable => exact .of_next rfl (h.regRow fun _ h => h.xltOff)
  | xltExclWrite => exact .of_next rfl (h.regRow fun _ h => h.exclWrite)
  | timeStep => exact .of_next rfl (h.regRow fun _ h => h.timeStep)
  | standby => exact .of_next rfl (h.regRow fun _ h => h.standby.settle)
  | avsEnable => exact .of_next rfl (h.regRow fun _ h => h.avsOn)
  | watchdogKick => exact .of_next rfl (h.regRow fun _ h => h.watchdogKick)
  | blockResetCluster => exact .of_next rfl h.blkRow
  | blockResetQueueManager => exact .of_next rfl h.blkRow
  | blockResetTranslationUnit => exact .of_next rfl h.blkRow
  | blockResetLockUnit => exact .of_next rfl h.blkRow
  | blockResetCollectiveUnit => exact .of_next rfl h.blkRow
  | blockResetMirrorUnit => exact .of_next rfl h.blkRow
  | blockResetNearCache => exact .of_next rfl h.blkRow
  | blockResetSteward => exact .of_next rfl h.blkRow
  | blockResetGddr7Controller => exact .of_next rfl h.blkRow
  | blockResetLaneBlock => exact .of_next rfl h.blkRow
  | blockIdle => exact .of_next rfl h.blockIdle
  | blockIdleTimeout => exact .of_next rfl h.blockLate
  | mirLinkEnable => exact .of_next rfl (h.regRow fun _ h => h.mirEnable)
  | unpair => exact .of_next rfl (h.regRow fun _ h => h.unpairCmd.settle)
  | release => exact .of_next rfl (h.regRow fun _ h => h.releaseCmd.settle)
  | handover => exact .of_next rfl (h.regRow fun _ h => h.fence.settle.ite h.mirBad)
  | pmuStart => exact .of_next rfl (h.regRow fun _ h => h.pmuSync)
  | pmuStop => exact .of_next rfl (h.regRow fun _ h => h.pmuSync)
  | pmuLoad => exact .of_next rfl (h.regRow fun _ h => h.pmuLoad)
  | pmuTagSeed => exact .of_next rfl (h.regRow fun _ h => h.tagSeed)
  | newchal => exact .of_next rfl (h.regRow fun _ h => h.newChal)
  | unlock => exact .of_next rfl (h.regRow fun _ h => h.unlock.settle)
  | floor => exact .of_next rfl (h.regRow fun _ h => h.fuseWrite)
  | revoke => exact .of_next rfl (h.regRow fun _ h => h.fuseWrite)
  | fuseWriteDone => exact .of_next rfl h.fuseDone
  | faultInject => exact .of_next rfl (h.regRow fun _ h => h.inject_)
  | safeStateClear => exact .of_next rfl (h.regRow fun _ h => h.safeClear)
  | portEnable => exact .of_next rfl (h.regRow fun _ h => h.portEnable)
  | portDisable => exact .of_next rfl (h.regRow fun _ h => h.portDisable.settle.timeCheck)
  | cxlIdentifyMemoryDevice => exact .of_next rfl (h.mailbox fun _ h => h.fresh.emit)
  | cxlGetSupportedLogs => exact .of_next rfl (h.mailbox fun _ h => h.mailOpen)
  | cxlGetLog => exact .of_next rfl (h.mailbox fun _ h => h.fresh.emit)
  | cxlGetEventRecords => exact .of_next rfl (h.mailbox fun _ h => h.mailOpen)
  | cxlClearEventRecords => exact .of_next rfl (h.mailbox fun _ h => h.update.emit)
  | cxlGetHealthInfo => exact .of_next rfl (h.mailbox fun _ h => h.mailOpen)
  | cxlGetTimestamp => exact .of_next rfl (h.mailbox fun _ h => h.emit)
  | cxlSetTimestamp => exact .of_next rfl (h.mailbox fun _ h => (h.timeSelect.stepTime.ite h).emit)
  | cxlUnsupportedCommand => exact .of_next rfl (h.mailbox fun _ h => h.emit)
  | hdmDecoderCommit => exact .of_next rfl h.hdmCommit
  | cxlMemRead => exact .of_next rfl (h.cxlAccess fun _ _ => h.winLoad)
  | cxlMemWrite => exact .of_next rfl (h.cxlAccess fun _ _ => h.winStore)
  | msixUnmask => exact .of_next rfl (h.ite (h.busError.ite h.vecMask))
  | hostLinkUp => exact .of_next rfl h.hostLinkUp
  | l0pWidthChange => exact .of_next rfl h.l0p
  | dlDown => exact .of_next rfl h.dlDown.settle
  | hotReset => exact .of_next rfl (h.resetReq.settle.ite h)
  | perstAssert => exact .of_next rfl h.perstOn
  | perstDeassert => exact .of_next rfl h.perstOff
  | flrPf => exact .of_next rfl h.flrPf.settle
  | flrVf => exact .of_next rfl (h.resetReq.settle.ite h)
  | vfEnable => exact .of_next rfl h.vfEnable
  | powerOnReset => exact .of_next rfl h.powerOn
  | watchdogExpire => exact .of_next rfl (h.resetReq.ite h)
  | stewardBoot => exact .of_next rfl h.stewardBoot.settle
  | nvWriteDone => exact .of_next rfl h.nvDone.settle
  | ctxpoolReady => exact .of_next rfl h.poolUp
  | clusterSelftestDone => exact .of_next rfl h.selftest
  | memTrainDone => exact .of_next rfl h.memTrain
  | dstateReady => exact .of_next rfl h.dstateUp
  | lbCalibrationDone => exact .of_next rfl h.lbCal
  | turn => exact .of_next rfl h.turnHead
  | steal => exact .of_next rfl h.steal
  | targetTurn => exact .of_next rfl h.targetHead
  | descriptorFetchDone => exact .of_next rfl h.fetchDone
  | payloadReadDone => exact .of_next rfl h.payloadDone
  | nop => exact .of_next rfl h.issueOne
  | put => exact .of_next rfl h.issueOne.settle
  | get => exact .of_next rfl h.issueOne.settle
  | send => exact .of_next rfl h.issueOne.settle
  | recv => exact .of_next rfl h.issueOne.settle
  | fadd64 => exact .of_next rfl h.issueOne.settle
  | swap64 => exact .of_next rfl h.issueOne.settle
  | cas64 => exact .of_next rfl h.issueOne.settle
  | fadd128 => exact .of_next rfl h.issueOne.settle
  | swap128 => exact .of_next rfl h.issueOne.settle
  | cas128 => exact .of_next rfl h.issueOne.settle
  | cfadd64 => exact .of_next rfl h.issueOne.settle
  | collReduce => exact .of_next rfl h.issueOne.settle
  | collVote => exact .of_next rfl h.issueOne.settle
  | collBarrier => exact .of_next rfl h.issueOne.settle
  | lockAcquire => exact .of_next rfl h.issueOne.settle
  | lockTry => exact .of_next rfl h.issueOne.settle
  | lockRelease => exact .of_next rfl h.issueOne.settle
  | shaperRefill => exact .of_next rfl (h.refill.ite h)
  | configWq => exact .of_next rfl (h.adminTake fun _ h => h.wqCommand.settle)
  | enableWq => exact .of_next rfl (h.adminTake fun _ h => h.wqCommand.settle)
  | disableWq => exact .of_next rfl (h.adminTake fun _ h => h.wqCommand.settle)
  | drainComplete => exact .of_next rfl (h.drainDone.ite h)
  | resetWq => exact .of_next rfl (h.adminTake fun _ h => h.wqCommand.settle)
  | suspendWq => exact .of_next rfl (h.adminTake fun _ h => h.wqCommand.settle)
  | resumeWq => exact .of_next rfl (h.adminTake fun _ h => h.wqCommand.settle)
  | queryWq => exact .of_next rfl (h.adminTake fun _ h => h.wqCommand)
  | setShaper => exact .of_next rfl (h.adminTake fun _ h => h.wqCommand.settle)
  | configCq => exact .of_next rfl (h.adminTake fun _ h => h.cmdConfigCq)
  | configEq => exact .of_next rfl (h.adminTake fun _ h => h.cmdConfigEq)
  | setVfAllot => exact .of_next rfl (h.adminTake fun _ h => h.cmdSetVfAllot)
  | registerRegion => exact .of_next rfl (h.adminTake fun _ h => h.cmdRegisterRegion)
  | revokeRegion => exact .of_next rfl (h.adminTake fun _ h => h.cmdRevokeRegion.settle)
  | revokeComplete => exact .of_next rfl h.revokeDone
  | queryRegion => exact .of_next rfl (h.adminTake fun _ h => h.cmdQueryRegion)
  | mapWindow => exact .of_next rfl (h.adminTake fun _ h => h.cmdMapWindow)
  | unmapWindow => exact .of_next rfl (h.adminTake fun _ h => h.cmdUnmapWindow)
  | unmapWindowComplete => exact .of_next rfl h.unmapDone
  | invalidateXlt => exact .of_next rfl (h.adminTake fun _ h => h.cmdInvalidateXlt)
  | invalidateXltComplete => exact .of_next rfl h.invalDone
  | collSetup => exact .of_next rfl (h.adminTake fun _ h => h.cmdCollSetup)
  | collSetupComplete => exact .of_next rfl h.collSetupDone
  | collTeardown => exact .of_next rfl (h.adminTake fun _ h => h.cmdCollTeardown.settle)
  | collTeardownComplete => exact .of_next rfl h.collTeardownDone
  | pisteSetup => exact .of_next rfl (h.adminTake fun _ h => h.cmdPisteSetup.settle)
  | pisteTeardown => exact .of_next rfl (h.adminTake fun _ h => h.cmdPisteTeardown.settle)
  | lockConfig => exact .of_next rfl (h.adminTake fun _ h => h.cmdLockConfig)
  | lockForceRelease => exact .of_next rfl (h.adminTake fun _ h => h.cmdLockForceRelease.settle)
  | twinConfig => exact .of_next rfl (h.adminTake fun _ h => h.cmdTwinConfig)
  | pairingComplete => exact .of_next rfl h.pairingDone
  | twinConfigTimeout => exact .of_next rfl h.twinLate.settle
  | getLog => exact .of_next rfl (h.adminTake fun _ h => h.cmdGetLog)
  | fwUpdate => exact .of_next rfl (h.adminTake fun _ h => h.cmdFwUpdate)
  | fwUpdateComplete => exact .of_next rfl h.fwDone
  | retransmit => exact .of_next rfl h.retransmit.settle
  | unknownOutcome => exact .of_next rfl h.unknownTag.settle
  | tagRelease => exact .of_next rfl h.maybeRelease.settle
  | dupEntryExpire => exact .of_next rfl h.dupExpire
  | ccBasePeriod => exact .of_next rfl h.basePeriod
  | sendDeadline => exact .of_next rfl h.sendDeadline.settle
  | reassemblyTimeout => exact .of_next rfl h.reassemblyLate
  | putPacket => exact .of_next rfl h.request
  | getPacket => exact .of_next rfl h.request
  | atomicPacket => exact .of_next rfl h.request
  | sendPacket => exact .of_next rfl h.request
  | wrdPacket => exact .of_next rfl h.request
  | wwrPacket => exact .of_next rfl h.request
  | linvPacket => exact .of_next rfl h.request
  | lockopAcquire => exact .of_next rfl h.request
  | lockopTry => exact .of_next rfl h.request
  | lockopRelease => exact .of_next rfl h.request
  | lockopCancel => exact .of_next rfl h.request
  | lockopProbe => exact .of_next rfl h.request
  | lgrantPacket => exact .of_next rfl h.request
  | collContribution => exact .of_next rfl h.request
  | collResult => exact .of_next rfl h.request
  | collProbe => exact .of_next rfl h.request
  | collMergedRequest => exact .of_next rfl h.request
  | pmarkPacket => exact .of_next rfl h.pmark
  | respPacket => exact .of_next rfl h.response
  | linvAck => exact .of_next rfl h.tagAnswered
  | grantAnswer => exact .of_next rfl h.tagAnswered
  | grantTimeout => exact .of_next rfl h.grantLate
  | lockProbeTimer => exact .of_next rfl h.lockProbeDue
  | waitingRecordExpire => exact .of_next rfl h.recExpire
  | collProbeTimer => exact .of_next rfl h.collProbeDue
  | counterBatchSend => exact .of_next rfl h.batchDue
  | constituentExpire => exact .of_next rfl h.constitExpire.settle
  | leaseExpire => exact .of_next rfl h.leaseExpire
  | leaseStartWaitEnd => exact .of_next rfl h.startWaitEnd
  | windowBudgetExpire => exact .of_next rfl h.winExpire
  | windowSettleExpire => exact .of_next rfl h.winSettle
  | transitPacket => exact .of_next rfl h.transit
  | escwaitExpire => exact .of_next rfl h.escwait
  | lnotice => exact .of_next rfl h.control
  | lnoticeRefresh => exact .of_next rfl (h.lnoticeAll.settle.ite h)
  | psetup => exact .of_next rfl h.control
  | pconfirm => exact .of_next rfl h.control
  | preject => exact .of_next rfl h.control
  | pbreak => exact .of_next rfl h.control
  | pisteSetupTimeout => exact .of_next rfl h.pisteSetupLate
  | pisteTeardownTimeout => exact .of_next rfl h.pisteTeardownLate
  | lprobe => exact .of_next rfl h.control
  | lanswer => exact .of_next rfl h.control
  | oreset => exact .of_next rfl h.control
  | oresetRepeat => exact .of_next rfl h.oresetRepeat
  | livenessTimeout => exact .of_next rfl h.livenessLate
  | aliasPkt => exact .of_next rfl h.control
  | aliasRepeat => exact .of_next rfl h.aliasDue
  | aliasedTimeout => exact .of_next rfl h.aliasedEnd
  | trainingFrame => exact .of_next rfl h.trainingFrame
  | signalDetect => exact .of_next rfl h.signalDetect
  | eqComplete => exact .of_next rfl h.eqComplete
  | deskewLock => exact .of_next rfl h.deskewLock
  | initFlit => exact .of_next rfl h.initFlit.flitCheck
  | eqTimeout => exact .of_next rfl h.eqTimeout
  | trainTimeout => exact .of_next rfl h.trainTimeout
  | holdoffExpire => exact .of_next rfl h.holdoffExpire
  | retrainFlit => exact .of_next rfl h.retrainFlit.settle.timeCheck
  | retrainRepeat => exact .of_next rfl h.retrainRepeat
  | retrainComplete => exact .of_next rfl h.retrainComplete
  | retrainTimeout => exact .of_next rfl h.retrainTimeout.timeCheck
  | dataFlit => exact .of_next rfl h.dataFlit.flitCheck
  | idleFlit => exact .of_next rfl h.idleFlit.flitCheck
  | nakFlit => exact .of_next rfl h.nakFlit.flitCheck
  | badFlit => exact .of_next rfl h.badFlit.timeCheck
  | replayTimeout => exact .of_next rfl h.replayTimeout.timeCheck
  | nakHoldExpire => exact .of_next rfl h.nakHoldExpire
  | errorWindow => exact .of_next rfl h.errorWindow
  | laneSignalLoss => exact .of_next rfl h.laneSignalLoss.timeCheck
  | tsxSend => exact .of_next rfl h.tsxSend
  | tsxFlit => exact .of_next rfl h.tsxFlit.flitCheck
  | neighbourTimeStale => exact .of_next rfl h.nbStale
  | refLost => exact .of_next rfl h.refLost
  | ppsEdge => exact .of_next rfl h.ppsEdge
  | ppsInputLost => exact .of_next rfl h.ppsLost
  | ppsOutPulse => exact .of_next rfl h.ppsPulse
  | timeAlarm => exact .of_next rfl h.timeAlarm
  | signalDetectWake => exact .of_next rfl h.sigWake
  | standbyPowerDown => exact .of_next rfl h.powerDown
  | railenSequence => exact .of_next rfl h.railStep
  | paceWindow => exact .of_next rfl h.paceWindow
  | avsTransactionDone => exact .of_next rfl h.avsDone
  | junctionHot => exact .of_next rfl h.hot
  | hostUncorr => exact .of_next rfl h.hostUncorr
  | mirClockDetect => exact .of_next rfl (h.mirTo.ite h)
  | mirLanesLocked => exact .of_next rfl (h.setMlanes.mirTo.ite h)
  | mirCommaAligned => exact .of_next rfl (h.setMlanes.mirTo.ite h)
  | mirBackchannelBlock => exact .of_next rfl h.backChannel
  | mirTuneDone => exact .of_next rfl h.mirActive
  | mirTrainTimeout => exact .of_next rfl (h.mirDown.settle.ite h)
  | mirDownExpire => exact .of_next rfl (h.mirSend.ite h)
  | record => exact .of_next rfl (h.mirFrame fun _ h => h.recordIn).settle
  | mirNak => exact .of_next rfl (h.mirFrame fun _ h => h.bump.mirReplay).settle
  | mirIdle => exact .of_next rfl (h.mirFrame fun _ h => h).settle
  | mirReplayTimeout => exact .of_next rfl h.mirLate
  | heartbeat => exact .of_next rfl (h.mirFrame fun _ h => h.heartbeatIn).settle
  | heartbeatSend => exact .of_next rfl h.heartbeatSend
  | mirReadyTimeout => exact .of_next rfl h.mirStale
  | unpairFrame => exact .of_next rfl (h.mirFrame fun _ h => h.unpaired.ite h).settle
  | handoverFrame => exact .of_next rfl (h.mirFrame fun _ h => h.takeover.ite h).settle
  | twinFailDeclare => exact .of_next rfl h.failDeclare
  | takeoverComplete => exact .of_next rfl h.takeoverEnd
  | twinIsolate => exact .of_next rfl h.isolate.settle
  | fenceWindowExpire => exact .of_next rfl h.fenceWindow
  | handoverRepeat => exact .of_next rfl (h.sendHandover.ite h)
  | faultMessage => exact .of_next rfl h.faultMessage
  | faultWindowEnd => exact .of_next rfl h.windowEnd
  | faultLogWrite => exact .of_next rfl h.logWrite
  | ringFlitUe => exact .of_next rfl h.ringUe.settle
  | critStateUe => exact .of_next rfl h.critUe.settle.timeCheck
  | bwWindowEnd => exact .of_next rfl h.bwEnd
  | walkReadDone => exact .of_next rfl h.walkRead1
  | adCasDone => exact .of_next rfl h.walkCas1
  | xltEntryAged => exact .of_next rfl h.xltAged
  | hostResetComplete => exact .of_next rfl h.hostResetDone
  | referencePresent => exact .of_next rfl h.refPresent
  | configurationWrite => exact .of_next rfl (h.cfgWrite.ite h)
  | junctionCool => exact .of_next rfl h.cool
  | cdatDoeRequest => exact .of_next rfl (h.mailOpen.ite h)

theorem State.Inv.exec (h : s.Inv) {c t} (e : Machine.exec c s = .next t) : t.Inv := by
  obtain ⟨u, hu, hi⟩ := exec_completes_inv h c
  obtain rfl : u = t := Host.Outcome.next.inj (hu.symm.trans e)
  exact hi

end

/-! # The step

What a step does, by the two forms of the queue. -/

section
variable {s : State}

theorem step_of_pending_cons {c : Instr} {rest : List Instr} (hp : s.pending = c :: rest) : step s = exec c (s.withPending rest) := by
  unfold step
  rw [hp]

theorem step_of_pending_nil (hp : s.pending = []) : step s = .next s.idleTick := by
  unfold step
  rw [hp]

/-- In power-up and in Standby an idle tick is the passing of time alone (R550). -/
theorem idleTick_of_not_run (hr : s.rst.power ≠ .run) : s.idleTick = s.passTick := by
  have hr' : s.passTick.rst.power ≠ .run := hr
  exact if_pos hr'

/-- No command faults and none is refused. -/
theorem exec_next (c : Instr) (s : State) : ∃ t, exec c s = .next t := by
  cases c <;> exact ⟨_, rfl⟩

end

/-- Settles O57: each command and the idle tick keep the canonical forms of the register table and of host memory. -/
theorem stepKeepsConsistency : Obligations.StepKeepsConsistency := by
  unfold Obligations.StepKeepsConsistency
  intro s t h e
  cases hp : s.pending with
  | nil =>
    obtain rfl : s.idleTick = t := Host.Outcome.next.inj ((step_of_pending_nil hp).symm.trans e)
    exact h.idleTick
  | cons c rest => exact h.withPending.exec ((step_of_pending_cons hp).symm.trans e)

/-- Settles O55, by the form of the queue and one arm of `exec` for each command. -/
theorem stepRunsTheFrontCommand : Obligations.StepRunsTheFrontCommand := by
  unfold Obligations.StepRunsTheFrontCommand
  exact ⟨fun s c rest hp => step_of_pending_cons hp, exec_next,
    fun s hp => ⟨s.idleTick, step_of_pending_nil hp, idleTick_of_not_run⟩⟩

end Sys2Proof.Machine

/-! # Frames

What the primitive operations leave alone, and how the frames of `Obligations` compose. -/

namespace Sys2Proof.Machine

section
variable {s t u : State} {ks : List Nat}

/-! ## Fault messages -/

/-- A fault message changes the messages held and nothing else. -/
theorem State.raise_eq (s : State) (src code addr : Nat) : ∃ l, s.raise src code addr = { s with flt := { s.flt with msgs := l } } := by
  unfold State.raise
  extract_lets
  split <;> exact ⟨_, rfl⟩

section
variable (s : State) (src code addr : Nat)

@[simp] theorem State.raise_regs : (s.raise src code addr).regs = s.regs := by obtain ⟨_, h⟩ := s.raise_eq src code addr; rw [h]
@[simp] theorem State.raise_hostMem : (s.raise src code addr).hostMem = s.hostMem := by obtain ⟨_, h⟩ := s.raise_eq src code addr; rw [h]
@[simp] theorem State.raise_time : (s.raise src code addr).time = s.time := by obtain ⟨_, h⟩ := s.raise_eq src code addr; rw [h]
@[simp] theorem State.raise_host : (s.raise src code addr).host = s.host := by obtain ⟨_, h⟩ := s.raise_eq src code addr; rw [h]
@[simp] theorem State.raise_qmg : (s.raise src code addr).qmg = s.qmg := by obtain ⟨_, h⟩ := s.raise_eq src code addr; rw [h]
@[simp] theorem State.raise_tgt : (s.raise src code addr).tgt = s.tgt := by obtain ⟨_, h⟩ := s.raise_eq src code addr; rw [h]
@[simp] theorem State.raise_ini : (s.raise src code addr).ini = s.ini := by obtain ⟨_, h⟩ := s.raise_eq src code addr; rw [h]
@[simp] theorem State.raise_win : (s.raise src code addr).win = s.win := by obtain ⟨_, h⟩ := s.raise_eq src code addr; rw [h]
@[simp] theorem State.raise_xlt : (s.raise src code addr).xlt = s.xlt := by obtain ⟨_, h⟩ := s.raise_eq src code addr; rw [h]
@[simp] theorem State.raise_lck : (s.raise src code addr).lck = s.lck := by obtain ⟨_, h⟩ := s.raise_eq src code addr; rw [h]
@[simp] theorem State.raise_rte : (s.raise src code addr).rte = s.rte := by obtain ⟨_, h⟩ := s.raise_eq src code addr; rw [h]
@[simp] theorem State.raise_lnk : (s.raise src code addr).lnk = s.lnk := by obtain ⟨_, h⟩ := s.raise_eq src code addr; rw [h]
@[simp] theorem State.raise_mir : (s.raise src code addr).mir = s.mir := by obtain ⟨_, h⟩ := s.raise_eq src code addr; rw [h]
@[simp] theorem State.raise_rst : (s.raise src code addr).rst = s.rst := by obtain ⟨_, h⟩ := s.raise_eq src code addr; rw [h]
@[simp] theorem State.raise_ring : (s.raise src code addr).ring = s.ring := by obtain ⟨_, h⟩ := s.raise_eq src code addr; rw [h]
@[simp] theorem State.raise_out : (s.raise src code addr).out = s.out := by obtain ⟨_, h⟩ := s.raise_eq src code addr; rw [h]

end

theorem mergeLast_ne_nil {src time addr : Nat} {l : List FltMsg} (h : l ≠ []) (n : Nat) : mergeLast src time addr l n ≠ [] := by
  cases l with
  | nil => exact absurd rfl h
  | cons m t =>
    rw [mergeLast]
    split <;> exact List.cons_ne_nil _ _

/-- After a fault message some message is held: this one, or the ones that it merges into. -/
theorem State.raise_msgs_ne_nil (s : State) (src code addr : Nat) : (s.raise src code addr).flt.msgs ≠ [] := by
  unfold State.raise
  extract_lets time
  split
  · simp
  next h =>
    refine mergeLast_ne_nil (fun e => h ?_) 1
    rw [e]
    exact Nat.zero_lt_succ 3

/-! ## Host memory -/

theorem KeepsMem.of_eq (h : t.hostMem = s.hostMem) : KeepsMem s t := fun a => by rw [State.byte, h, State.byte]

theorem KeepsMem.refl : KeepsMem s s := fun _ => rfl

theorem KeepsMem.trans (h : KeepsMem s t) (h' : KeepsMem t u) : KeepsMem s u := fun a => (h' a).trans (h a)

/-- An update of components other than host memory. -/
theorem KeepsMem.update (h : KeepsMem s t) {regs time host qmg tgt ini msg win xlt col lck rte lnk mir rst flt pmu sec ring out free pending} :
    KeepsMem s { regs := regs, hostMem := t.hostMem, time := time, host := host, qmg := qmg, tgt := tgt, ini := ini, msg := msg,
                 win := win, xlt := xlt, col := col, lck := lck, rte := rte, lnk := lnk, mir := mir, rst := rst, flt := flt,
                 pmu := pmu, sec := sec, ring := ring, out := out, free := free, pending := pending } := h

theorem KeepsMem.wrRaw (h : KeepsMem s t) {r : RegName} {i v : Nat} : KeepsMem s (t.wrRaw r i v) :=
  h.trans (.of_eq (State.wrRaw_hostMem ..))

theorem KeepsMem.setFld (h : KeepsMem s t) {f : Fld} {i v : Nat} : KeepsMem s (t.setFld f v i) := h.wrRaw

theorem KeepsMem.bump (h : KeepsMem s t) {f : Fld} {i n : Nat} : KeepsMem s (t.bump f i n) := h.setFld

theorem KeepsMem.latch (h : KeepsMem s t) {f : Fld} {i : Nat} : KeepsMem s (t.latch f i) := h.setFld

theorem KeepsMem.setBit (h : KeepsMem s t) {f : Fld} {i j : Nat} {on : Bool} : KeepsMem s (t.setBit f i on j) := h.setFld

theorem KeepsMem.raise (h : KeepsMem s t) {src code addr : Nat} : KeepsMem s (t.raise src code addr) :=
  h.trans (.of_eq (State.raise_hostMem ..))

/-! ## Registers -/

theorem KeepsRegs.of_eq (h : t.regs = s.regs) : KeepsRegs s t ks := fun _ _ => by rw [h]

theorem KeepsRegs.refl : KeepsRegs s s ks := fun _ _ => rfl

theorem KeepsRegs.trans (h : KeepsRegs s t ks) (h' : KeepsRegs t u ks) : KeepsRegs s u ks :=
  fun k hk => (h' k hk).trans (h k hk)

/-- An update of components other than the registers. -/
theorem KeepsRegs.update (h : KeepsRegs s t ks)
    {hostMem time host qmg tgt ini msg win xlt col lck rte lnk mir rst flt pmu sec ring out free pending} :
    KeepsRegs s { regs := t.regs, hostMem := hostMem, time := time, host := host, qmg := qmg, tgt := tgt, ini := ini, msg := msg,
                  win := win, xlt := xlt, col := col, lck := lck, rte := rte, lnk := lnk, mir := mir, rst := rst, flt := flt,
                  pmu := pmu, sec := sec, ring := ring, out := out, free := free, pending := pending } ks := h

theorem KeepsRegs.emit (h : KeepsRegs s t ks) {e : Emit} : KeepsRegs s (t.emit e) ks := h

theorem KeepsRegs.raise (h : KeepsRegs s t ks) {src code addr : Nat} : KeepsRegs s (t.raise src code addr) ks :=
  h.trans (.of_eq (State.raise_regs ..))

theorem KeepsRegs.wrRaw (h : KeepsRegs s t ks) (ht : t.Inv) {r : RegName} {i v : Nat} (hm : r.addr i ∈ ks) :
    KeepsRegs s (t.wrRaw r i v) ks :=
  fun k hk => (mget_wrRaw_ne ht.regs r i v fun e : k = _ => hk (e ▸ hm)).trans (h k hk)

theorem KeepsRegs.setFld (h : KeepsRegs s t ks) (ht : t.Inv) {f : Fld} {i v : Nat} (hm : f.reg.addr i ∈ ks) :
    KeepsRegs s (t.setFld f v i) ks := h.wrRaw ht hm

theorem KeepsRegs.bump (h : KeepsRegs s t ks) (ht : t.Inv) {f : Fld} {i n : Nat} (hm : f.reg.addr i ∈ ks) :
    KeepsRegs s (t.bump f i n) ks := h.setFld ht hm

theorem KeepsRegs.latch (h : KeepsRegs s t ks) (ht : t.Inv) {f : Fld} {i : Nat} (hm : f.reg.addr i ∈ ks) :
    KeepsRegs s (t.latch f i) ks := h.setFld ht hm

theorem KeepsRegs.setBit (h : KeepsRegs s t ks) (ht : t.Inv) {f : Fld} {i j : Nat} {on : Bool} (hm : f.reg.addr j ∈ ks) :
    KeepsRegs s (t.setBit f i on j) ks := h.setFld ht hm

theorem KeepsRegs.mono {ls : List Nat} (h : KeepsRegs s t ks) (hl : ∀ k ∈ ks, k ∈ ls) : KeepsRegs s t ls :=
  fun k hk => h k (fun hm => hk (hl k hm))

/-! ## Addresses -/

/-- The address of the last instance of a family. -/
def RegFam.last (f : RegFam) : Nat := f.base + f.s1 * (f.n1 - 1) + f.s2 * (f.n2 - 1)

theorem RegName.base_le_addr (r : RegName) (i : Nat) : r.fam.base ≤ r.addr i := by
  unfold RegName.addr
  omega

theorem RegName.addr_le_last {r : RegName} {i : Nat} (hi : i < r.fam.n1 * r.fam.n2) : r.addr i ≤ r.fam.last := by
  have hn : 0 < r.fam.n2 := Nat.pos_of_ne_zero fun e => by rw [e, Nat.mul_zero] at hi; omega
  have h1 : i / r.fam.n2 ≤ r.fam.n1 - 1 := Nat.le_sub_one_of_lt (Nat.div_lt_of_lt_mul (by rwa [Nat.mul_comm]))
  have h2 : i % r.fam.n2 ≤ r.fam.n2 - 1 := Nat.le_sub_one_of_lt (Nat.mod_lt _ hn)
  unfold RegName.addr RegFam.last
  exact Nat.add_le_add (Nat.add_le_add_left (Nat.mul_le_mul_left _ h1) _) (Nat.mul_le_mul_left _ h2)

/-- A family that ends before another begins shares no address with it. -/
theorem RegName.addr_ne_of_last_lt {r r' : RegName} {i : Nat} (j : Nat) (hi : i < r.fam.n1 * r.fam.n2) (h : r.fam.last < r'.fam.base) :
    r.addr i ≠ r'.addr j := by
  have h1 := RegName.addr_le_last hi
  have h2 := r'.base_le_addr j
  omega

/-! ## Fields -/

/-- A field depends on the register table alone. -/
theorem fld_of_regs_eq (h : t.regs = s.regs) (f : Fld) (i : Nat) : t.fld f i = s.fld f i := by
  unfold State.fld State.rdRaw
  rw [h]

theorem flag_of_regs_eq (h : t.regs = s.regs) (f : Fld) (i : Nat) : t.flag f i = s.flag f i := by
  unfold State.flag
  rw [fld_of_regs_eq h]

/-- A register kept reads as before. -/
theorem rdRaw_of_keepsRegs (h : KeepsRegs s t ks) {r : RegName} {i : Nat} (hk : r.addr i ∉ ks) : t.rdRaw r i = s.rdRaw r i := by
  unfold State.rdRaw
  rw [h _ hk]

theorem fld_of_keepsRegs (h : KeepsRegs s t ks) {f : Fld} {i : Nat} (hk : f.reg.addr i ∉ ks) : t.fld f i = s.fld f i := by
  unfold State.fld
  rw [rdRaw_of_keepsRegs h hk]

theorem flag_of_keepsRegs (h : KeepsRegs s t ks) {f : Fld} {i : Nat} (hk : f.reg.addr i ∉ ks) : t.flag f i = s.flag f i := by
  unfold State.flag
  rw [fld_of_keepsRegs h hk]

theorem flag_setFld_ne (h : s.Inv) {f g : Fld} (v : Nat) {i j : Nat} (hk : g.reg.addr j ≠ f.reg.addr i) :
    (s.setFld f v i).flag g j = s.flag g j := by
  unfold State.flag
  rw [fld_setFld_ne h.regs v hk]

theorem flag_setFld_other (h : s.Inv) {f g : Fld} (v i : Nat) (hf : f.lo + f.w ≤ 32) (hr : g.reg = f.reg)
    (hd : g.lo + g.w ≤ f.lo ∨ f.lo + f.w ≤ g.lo) : (s.setFld f v i).flag g i = s.flag g i := by
  unfold State.flag
  rw [fld_setFld_other h.regs v i hf hr hd]

/-- A one-bit field written is read back. -/
theorem flag_setFld_same (h : s.Inv) {f : Fld} (b : Bool) (i : Nat) (hf : f.lo + f.w ≤ 32) (hw : f.w ≠ 0) :
    (s.setFld f (b2n b) i).flag f i = b := by
  have h1 : 1 < 2 ^ f.w := Nat.one_lt_two_pow hw
  unfold State.flag
  rw [fld_setFld_same h.regs f _ i hf]
  cases b <;> simp [b2n, Nat.mod_eq_of_lt h1]

theorem bitAt_putBits_same (n i : Nat) (on : Bool) : bitAt (putBits n i 1 (b2n on)) i = on := by
  have h := bits_putBits_same n i 1 (b2n on)
  unfold bits at h
  unfold bitAt
  rw [Nat.testBit_eq_decide_div_mod_eq, ← Nat.shiftRight_eq_div_pow, show (2 : Nat) = 2 ^ 1 from rfl, h]
  cases on <;> rfl

/-- A bit of a field written is read back. -/
theorem bitAt_setBit_same (h : s.Inv) {f : Fld} {i : Nat} (on : Bool) (j : Nat) (hf : f.lo + f.w ≤ 32) (hi : i < f.w) :
    bitAt ((s.setBit f i on j).fld f j) i = on := by
  unfold State.setBit
  rw [fld_setFld_same h.regs f _ j hf, bitAt, Nat.testBit_mod_two_pow, decide_eq_true hi, Bool.true_and]
  exact bitAt_putBits_same _ i on

theorem bitAt_setBit_ne (h : s.Inv) {f g : Fld} {i k : Nat} {on : Bool} {j l : Nat} (hk : g.reg.addr l ≠ f.reg.addr j) :
    bitAt ((s.setBit f i on j).fld g l) k = bitAt (s.fld g l) k := by
  unfold State.setBit
  rw [fld_setFld_ne h.regs _ hk]

end

end Sys2Proof.Machine

/-! # Units that become ready -/

namespace Sys2Proof.Machine

section
variable {s : State}

/-- What a queue's return to its run list leaves alone: everything but the run lists. -/
theorem State.enqueue_eq (s : State) (x : RunEnt) : ∃ r, s.enqueue x = { s with qmg := { s.qmg with run := r } } := by
  unfold State.enqueue
  extract_lets l
  split
  · exact ⟨_, rfl⟩
  · exact ⟨_, rfl⟩

theorem State.joinRun_eq (s : State) (q : Nat) : ∃ r, s.joinRun q = { s with qmg := { s.qmg with run := r } } := by
  unfold State.joinRun
  extract_lets w
  split
  · exact s.enqueue_eq _
  · exact ⟨_, rfl⟩

theorem State.foldl_joinRun_eq (l : List (Park × Nat)) (s : State) :
    ∃ r, l.foldl (fun t x => t.joinRun x.2) s = { s with qmg := { s.qmg with run := r } } := by
  induction l generalizing s with
  | nil => exact ⟨_, rfl⟩
  | cons x l ih =>
    obtain ⟨r, hr⟩ := s.joinRun_eq x.2
    obtain ⟨r', hr'⟩ := ih (s.joinRun x.2)
    exact ⟨r', by rw [List.foldl_cons, hr', hr]⟩

/-- Queues that return from their parks change the parks and the run lists alone. -/
theorem State.unpark_eq (s : State) (p : Park → Bool) :
    ∃ r, s.unpark p = { s with qmg := { s.qmg with parked := s.qmg.parked.filter (fun x => !p x.1), run := r } } := by
  unfold State.unpark
  obtain ⟨r, hr⟩ := State.foldl_joinRun_eq (s.qmg.parked.filter (fun x => p x.1))
    { s with qmg := { s.qmg with parked := s.qmg.parked.filter (fun x => !p x.1) } }
  exact ⟨r, hr⟩

@[simp] theorem State.unpark_regs (s : State) (p : Park → Bool) : (s.unpark p).regs = s.regs := by
  obtain ⟨r, hr⟩ := s.unpark_eq p
  rw [hr]
@[simp] theorem State.unpark_hostMem (s : State) (p : Park → Bool) : (s.unpark p).hostMem = s.hostMem := by
  obtain ⟨r, hr⟩ := s.unpark_eq p
  rw [hr]
@[simp] theorem State.unpark_tgt (s : State) (p : Park → Bool) : (s.unpark p).tgt = s.tgt := by
  obtain ⟨r, hr⟩ := s.unpark_eq p
  rw [hr]

/-- CTXPOOL_READY (R68). -/
theorem ctxpoolReady_completes (h : s.Inv) (ha : s.awake = true) :
    Completes .ctxpoolReady s (fun t => t.ctxpool = true ∧ KeepsRegs s t [RegName.GEN_READY.addr 0] ∧ KeepsMem s t) := by
  refine ⟨s.setFld .GEN_READY_CTXPOOL 1, ?_, flag_setFld_same h true 0 (by decide) (by decide),
    KeepsRegs.refl.setFld h (.head _), KeepsMem.refl.setFld⟩
  show Host.Outcome.next s.poolUp = _
  rw [State.poolUp, if_pos ha]

/-- The self-test of a cluster that is not ready and in no block reset ends (R67). -/
theorem selftest_eq (ha : s.awake = true) {c : Nat} (hc : c < 18) (hr : s.clusterReady c = false) (hb : mget s.rst.blocks c = none)
    (pass : Bool) : s.selftest c pass = if pass then (s.blockEnd c).setBit .GEN_READYCL_CLUSTER c true
      else ((s.blockEnd c).latch .ENG_STAT_STFLT c).raise (0x601 + c) 0x2006 c := by
  simp [State.selftest, ha, hr, hb, hc]

theorem clusterSelftestDone_completes (h : s.Inv) (ha : s.awake = true) {c : Nat} (hc : c < 18) (hr : s.clusterReady c = false)
    (hb : mget s.rst.blocks c = none) :
    Completes (.clusterSelftestDone c true) s (fun t => t.clusterReady c = true ∧ KeepsMem s t) ∧
    Completes (.clusterSelftestDone c false) s (fun t => t.flag .ENG_STAT_STFLT c = true ∧ t.clusterReady c = false ∧ KeepsMem s t) := by
  have hu : (s.blockEnd c).Inv := h.update
  refine ⟨⟨_, congrArg Host.Outcome.next (selftest_eq ha hc hr hb true), ?_, (KeepsMem.of_eq rfl).setBit⟩,
    ⟨_, congrArg Host.Outcome.next (selftest_eq ha hc hr hb false), ?_, ?_, (KeepsMem.of_eq rfl).latch.raise⟩⟩
  · exact bitAt_setBit_same hu true 0 (by decide) hc
  · rw [if_neg Bool.false_ne_true, flag_of_regs_eq (State.raise_regs ..)]
    exact flag_latch_same hu.regs _ c (by decide) (by decide)
  · rw [if_neg Bool.false_ne_true, State.clusterReady, fld_of_regs_eq (State.raise_regs ..), State.latch, fld_setFld_ne hu.regs]
    · exact hr
    · exact RegName.addr_ne_of_last_lt c (by decide) (by decide)

/-- The training of a memory channel that is not ready and in no block reset ends (R66). -/
theorem memTrain_eq (ha : s.awake = true) {k : Nat} (hk : k < 8) (hr : bitAt (s.fld .GEN_READY_MEMCH) k = false)
    (hb : mget s.rst.blocks (0x30 + k) = none) (hf : s.rst.fullBoot = false) (pass : Bool) :
    s.memTrain k pass = if pass then ((s.blockEnd (0x30 + k)).setBit .GEN_READY_MEMCH k true).setFld .HIF_MEMSTAT_KEYED
        (b2n !(s.flag .SEC_STAT_DEBUGOPEN)) k
      else ((s.blockEnd (0x30 + k)).latch .HIF_MEMSTAT_TRAINFLT k).raise (0x613 + k) 0x2001 k := by
  simp [State.memTrain, ha, hr, hb, hf, hk]

theorem memTrainDone_completes (h : s.Inv) (ha : s.awake = true) {k : Nat} (hk : k < 8) (hr : bitAt (s.fld .GEN_READY_MEMCH) k = false)
    (hb : mget s.rst.blocks (0x30 + k) = none) (hf : s.rst.fullBoot = false) :
    Completes (.memTrainDone k true) s (fun t => bitAt (t.fld .GEN_READY_MEMCH) k = true ∧ KeepsMem s t) ∧
    Completes (.memTrainDone k false) s (fun t => t.flag .HIF_MEMSTAT_TRAINFLT k = true ∧ KeepsMem s t) := by
  have hu : (s.blockEnd (0x30 + k)).Inv := h.update
  refine ⟨⟨_, congrArg Host.Outcome.next (memTrain_eq ha hk hr hb hf true), ?_, (KeepsMem.of_eq rfl).setBit.setFld⟩,
    ⟨_, congrArg Host.Outcome.next (memTrain_eq ha hk hr hb hf false), ?_, (KeepsMem.of_eq rfl).latch.raise⟩⟩
  · rw [if_pos rfl, fld_setFld_ne hu.setBit.regs]
    · exact bitAt_setBit_same hu true 0 (by decide) hk
    · exact RegName.addr_ne_of_last_lt k (by decide) (by decide)
  · rw [if_neg Bool.false_ne_true, flag_of_regs_eq (State.raise_regs ..)]
    exact flag_latch_same hu.regs _ k (by decide) (by decide)

/-- The suppression start and the start wait of a device `s` whose tables were cleared, taken in `u` (R232, R324). -/
def State.startFrom (s u : State) : State :=
  if s.rst.cleared then { u with
    tgt := { u.tgt with supStart := s.tick }
    win := { u.win with startEnd := some (s.tick + s.fld .NCC_LEASEDUR_DUR + epsilon) }
    rst := { u.rst with cleared := false } } else u

section
variable (s u : State)

theorem State.startFrom_regs : (s.startFrom u).regs = u.regs := by
  unfold State.startFrom
  split <;> rfl

theorem State.startFrom_hostMem : (s.startFrom u).hostMem = u.hostMem := by
  unfold State.startFrom
  split <;> rfl

theorem State.startFrom_supStart (hc : s.rst.cleared = true) : (s.startFrom u).tgt.supStart = s.tick := by
  simp only [State.startFrom, hc, if_true]

variable {s u} in
theorem State.Inv.startFrom (h : u.Inv) : (s.startFrom u).Inv := h.update.ite h

end

theorem dstateUp_eq (ha : s.awake = true) (hd : s.dstate = false) (hm : s.fld .GEN_READY_MEMCH = 0xFF) (hb : s.rst.booted = true)
    (ho : s.flag .SEC_STAT_DEBUGOPEN = false) :
    s.dstateUp = (s.startFrom (s.setFld .GEN_READY_DSTATE 1)).nccReady.unpark (fun r => r == .dstate) := by
  simp [State.dstateUp, ha, hd, hm, hb, ho, State.startFrom]

theorem dstateReady_completes (h : s.Inv) (ha : s.awake = true) (hd : s.dstate = false) (hm : s.fld .GEN_READY_MEMCH = 0xFF)
    (hb : s.rst.booted = true) (ho : s.flag .SEC_STAT_DEBUGOPEN = false) :
    Completes .dstateReady s (fun t => t.dstate = true ∧ (s.rst.cleared = true → t.tgt.supStart = s.tick) ∧
      KeepsRegs s t [RegName.GEN_READY.addr 0] ∧ KeepsMem s t) := by
  have h1 : (s.setFld .GEN_READY_DSTATE 1).Inv := h.setFld
  have h2 : (s.startFrom (s.setFld .GEN_READY_DSTATE 1)).Inv := h1.startFrom
  have hregs := s.startFrom_regs (s.setFld .GEN_READY_DSTATE 1)
  refine ⟨_, congrArg Host.Outcome.next (dstateUp_eq ha hd hm hb ho), ?_, ?_, ?_, ?_⟩
  · calc _ = (s.startFrom (s.setFld .GEN_READY_DSTATE 1)).nccReady.dstate := flag_of_regs_eq (State.unpark_regs ..) _ _
      _ = (s.startFrom (s.setFld .GEN_READY_DSTATE 1)).dstate := flag_setFld_other h2 _ 0 (by decide) rfl (by decide)
      _ = (s.setFld .GEN_READY_DSTATE 1).dstate := flag_of_regs_eq hregs _ _
      _ = true := flag_setFld_same h true 0 (by decide) (by decide)
  · intro hc
    rw [State.unpark_tgt, State.nccReady, State.setFld_tgt]
    exact s.startFrom_supStart _ hc
  · have hk : KeepsRegs s (s.setFld .GEN_READY_DSTATE 1) [RegName.GEN_READY.addr 0] := KeepsRegs.refl.setFld h (.head _)
    exact ((hk.trans (.of_eq hregs)).setFld h2 (.head _)).trans (.of_eq (State.unpark_regs ..))
  · have hk : KeepsMem s (s.setFld .GEN_READY_DSTATE 1) := KeepsMem.refl.setFld
    exact ((hk.trans (.of_eq (State.startFrom_hostMem ..))).setFld).trans (.of_eq (State.unpark_hostMem ..))

theorem lbCalibrationDone_completes (h : s.Inv) (ha : s.awake = true) {b : Nat} (hb : b < 9) (hr : s.lbReady b = false)
    (hf : s.rst.fullBoot = false) (ho : s.flag .TIM_STAT_REFOK = true) :
    CompletesVia (fun u => (u.blockStart b).settle) (.lbCalibrationDone b true) s (fun u => u.lbReady b = true ∧ u.flag .FLK_LBSTAT_CAL b = true ∧
      KeepsRegs s u [RegName.GEN_READY.addr 0, RegName.FLK_LBSTAT.addr b] ∧ KeepsMem s u) := by
  have h1 : (s.setBit .GEN_READY_LB b true).Inv := h.setBit
  refine ⟨((s.setBit .GEN_READY_LB b true).setFld .FLK_LBSTAT_CAL 1 b).setFld .FLK_LBSTAT_PLLLOCK 1 b, ?_, ?_, ?_, ?_, KeepsMem.refl.setBit.setFld.setFld⟩
  · show Host.Outcome.next (s.lbCal b true) = _
    simp [State.lbCal, ha, hr, hf, ho, hb]
  · have hne : RegName.GEN_READY.addr 0 ≠ RegName.FLK_LBSTAT.addr b := RegName.addr_ne_of_last_lt b (by decide) (by decide)
    unfold State.lbReady
    rw [fld_setFld_ne h1.setFld.regs _ hne, fld_setFld_ne h1.regs _ hne]
    exact bitAt_setBit_same h true 0 (by decide) hb
  · rw [flag_setFld_other (f := .FLK_LBSTAT_PLLLOCK) (g := .FLK_LBSTAT_CAL) h1.setFld _ b (by decide) rfl (by decide)]
    exact flag_latch_same h1.regs _ b (by decide) (by decide)
  · exact ((KeepsRegs.refl.setBit h (.head _)).setFld h1 (.tail _ (.head _))).setFld h1.setFld (.tail _ (.head _))

end

/-- Settles O19, unit by unit: what each event finds lets it set its bit, and it sets nothing else. -/
theorem unitsBecomeReady : Obligations.UnitsBecomeReady := by
  unfold Obligations.UnitsBecomeReady
  intro s h ha
  exact ⟨ctxpoolReady_completes h ha, fun _ hc hr hb => clusterSelftestDone_completes h ha hc hr hb,
    fun _ hk hr hb hf => memTrainDone_completes h ha hk hr hb hf, dstateReady_completes h ha,
    fun _ hb hr hf ho => lbCalibrationDone_completes h ha hb hr hf ho⟩

end Sys2Proof.Machine

/-! # Sensors and voltage -/

namespace Sys2Proof.Machine

section
variable {s : State}

theorem foldl_min_le (l : List Nat) (m : Nat) : l.foldl min m ≤ m := by
  induction l generalizing m with
  | nil => exact Nat.le_refl m
  | cons x l ih => exact (ih (min m x)).trans (Nat.min_le_left m x)

/-! ## PACE_WINDOW -/

/-- The registers of a window's report (R29): the samples of the regions, and the lowest reading with its region. -/
def State.paceReport (s : State) (l : List Nat) (pace region : Nat) : State :=
  ((List.range 9).foldl (fun t r => t.paceSample l r) s).wrRaw .PWR_PACE 0 (pace + 2 ^ 16 * min region 8)

theorem foldl_paceSample_frame (l rs : List Nat) : ∀ s : State, s.Inv →
    (rs.foldl (fun t r => t.paceSample l r) s).Inv ∧ KeepsMem s (rs.foldl (fun t r => t.paceSample l r) s) := by
  induction rs with
  | nil => exact fun s h => ⟨h, .refl⟩
  | cons r rs ih =>
    intro s h
    obtain ⟨hi, hm⟩ := ih (s.paceSample l r) h.wrRaw
    exact ⟨hi, KeepsMem.refl.wrRaw.trans hm⟩

theorem paceReport_inv (h : s.Inv) {l : List Nat} {pace region : Nat} : (s.paceReport l pace region).Inv :=
  (foldl_paceSample_frame l _ s h).1.wrRaw

theorem paceReport_keepsMem (h : s.Inv) {l : List Nat} {pace region : Nat} : KeepsMem s (s.paceReport l pace region) :=
  (foldl_paceSample_frame l _ s h).2.wrRaw

/-- PWR_PACE reports the lowest reading. -/
theorem paceReport_pace (h : s.Inv) {l : List Nat} {pace region : Nat} (hp : pace ≤ 65535) :
    (s.paceReport l pace region).fld .PWR_PACE_PACE = pace := by
  have hi := (foldl_paceSample_frame l (List.range 9) s h).1
  have hv : pace + 2 ^ 16 * min region 8 < 2 ^ 32 := by omega
  show bits ((s.paceReport l pace region).rdRaw .PWR_PACE 0) 0 16 = pace
  rw [State.paceReport, rdRaw_wrRaw_same hi.regs, Nat.mod_eq_of_lt hv, bits, Nat.shiftRight_zero]
  omega

/-- The end of a window noted: the windows below the floor in a row, and the tick. -/
def State.paceMark (s u : State) (n : Nat) : State := { u with rst := { u.rst with paceLow := n, paceAt := s.tick } }

/-- The count of low windows at the ceiling, and the PACE fault of R34, as the report of a window `s` is judged in `u`. -/
def State.paceJudge (s u : State) (pace : Nat) : State :=
  let low := decide (pace < 1024)
  let n := if low && s.fld .PWR_VCORE_REQ == 900 then min 4 (s.rst.paceLow + 1) else 0
  if n = 4 ∨ (low && !s.avsRuns) = true then ((s.paceMark u n).latch .PWR_FLT_PACE).raise 0x623 0x4001 pace else s.paceMark u n

theorem paceJudge_keepsMem (s u : State) (pace : Nat) : KeepsMem u (s.paceJudge u pace) := by
  unfold State.paceJudge
  extract_lets low n
  split
  · exact KeepsMem.refl.update.latch.raise
  · exact KeepsMem.refl.update

theorem paceJudge_paceAt (s u : State) (pace : Nat) : (s.paceJudge u pace).rst.paceAt = s.tick := by
  unfold State.paceJudge
  extract_lets low n
  split
  · rw [State.raise_rst, State.latch_rst]
    rfl
  · rfl

theorem paceJudge_pace {s u : State} (h : u.Inv) (pace : Nat) : (s.paceJudge u pace).fld .PWR_PACE_PACE = u.fld .PWR_PACE_PACE := by
  unfold State.paceJudge
  extract_lets low n
  have h2 : (s.paceMark u n).Inv := h.update
  split
  · rw [fld_of_regs_eq (State.raise_regs ..), State.latch, fld_setFld_ne h2.regs _ (by decide)]
    exact fld_of_regs_eq rfl _ _
  · exact fld_of_regs_eq rfl _ _

/-- A low reading while the loop does not run latches PACE (R34). -/
theorem paceJudge_latch {s u : State} (h : u.Inv) {pace : Nat} (hp : pace < 1024) (hr : s.avsRuns = false) :
    (s.paceJudge u pace).flag .PWR_FLT_PACE = true := by
  unfold State.paceJudge
  extract_lets low n
  have h2 : (s.paceMark u n).Inv := h.update
  rw [if_pos (.inr (by simp [low, hp, hr])), flag_of_regs_eq (State.raise_regs ..)]
  exact flag_latch_same h2.regs _ 0 (by decide) (by decide)

theorem paceWindow_eq {l : List Nat} (hw : s.rst.power = .run) (hl : l ≠ []) (ht : s.rst.paceAt + 1024 ≤ s.tick) :
    s.paceWindow l = (s.paceJudge (s.paceReport l (l.foldl min 65535)
      ((l.takeWhile (fun x => x != l.foldl min 65535)).length / 4)) (l.foldl min 65535)).avsAct (l.foldl min 65535) := by
  rw [State.paceWindow, if_neg (by simp [hw, hl, ht])]
  rfl

theorem paceWindow_early {l : List Nat} (ht : s.tick < s.rst.paceAt + 1024) : s.paceWindow l = s := by
  rw [State.paceWindow, if_pos (by simp [ht])]

/-! ## AVS_TRANSACTION_DONE -/

theorem avsDone_read_eq (hr : s.avsRuns = true) (mv : Nat) :
    ∃ r, s.avsDone true mv = { s.setFld .PWR_VCORE_READ mv with rst := r } ∧ r.avsFails = 0 := by
  rw [State.avsDone, if_neg (by simp [hr]), if_pos rfl]
  exact ⟨_, rfl, rfl⟩

theorem avsDone_fail_eq (hr : s.avsRuns = true) (hf : s.rst.avsFails < 2) (mv : Nat) :
    s.avsDone false mv = { s with rst := { s.rst with avsFails := s.rst.avsFails + 1 } } := by
  rw [State.avsDone, if_neg (by simp [hr]), if_neg Bool.false_ne_true]
  exact if_pos (Nat.succ_lt_succ hf)

/-- The third failure in a row stops the loop (R575). -/
theorem avsDone_stop_eq (hr : s.avsRuns = true) (hf : 2 ≤ s.rst.avsFails) (mv : Nat) :
    s.avsDone false mv = (({ s with rst := { s.rst with avsFails := s.rst.avsFails + 1, avsStopped := true } } : State).latch
      .PWR_FLT_AVSERR).raise 0x623 0x4002 s.rst.avsAccepted := by
  rw [State.avsDone, if_neg (by simp [hr]), if_neg Bool.false_ne_true]
  exact if_neg (by omega)

theorem avsRead_completes (h : s.Inv) {mv : Nat} (hr : s.avsRuns = true) (hv : mv < 1024) :
    Completes (.avsTransactionDone true mv) s (fun t => t.fld .PWR_VCORE_READ = mv ∧ t.rst.avsFails = 0 ∧
      KeepsRegs s t [RegName.PWR_VCORE.addr 0] ∧ KeepsMem s t) := by
  obtain ⟨r, he, h0⟩ := avsDone_read_eq hr mv
  refine ⟨_, congrArg Host.Outcome.next he, ?_, h0, ?_, ?_⟩
  · exact (fld_setFld_same h.regs .PWR_VCORE_READ mv 0 (by decide)).trans (Nat.mod_eq_of_lt hv)
  · have hk : KeepsRegs s (s.setFld .PWR_VCORE_READ mv) [RegName.PWR_VCORE.addr 0] := KeepsRegs.refl.setFld h (.head _)
    exact hk
  · have hk : KeepsMem s (s.setFld .PWR_VCORE_READ mv) := KeepsMem.refl.setFld
    exact hk

theorem avsFail_completes (h : s.Inv) {mv : Nat} (hr : s.avsRuns = true) (hf : 2 ≤ s.rst.avsFails) :
    Completes (.avsTransactionDone false mv) s (fun t => t.rst.avsStopped = true ∧ t.flag .PWR_FLT_AVSERR = true ∧
      KeepsRegs s t [RegName.PWR_FLT.addr 0] ∧ KeepsMem s t) := by
  refine ⟨_, congrArg Host.Outcome.next (avsDone_stop_eq hr hf mv), ?_, ?_, ?_, KeepsMem.refl.update.latch.raise⟩
  · rw [State.raise_rst, State.latch_rst]
  · rw [flag_of_regs_eq (State.raise_regs ..)]
    exact flag_latch_same h.regs _ 0 (by decide) (by decide)
  · exact (KeepsRegs.refl.update.latch h.update (.head _)).raise

/-! ## The junction and the host -/

theorem junctionHot_completes (h : s.Inv) {tj : Nat} (hw : s.rst.power = .run) (ht : 880 < tjVal tj) :
    Completes (.junctionHot tj) s (fun t => t.fld .PWR_TEMP_TJ = tj % 4096 ∧ t.flag .PWR_FLT_HOT = true ∧
      t.flt.msgs ≠ [] ∧ KeepsRegs s t [RegName.PWR_TEMP.addr 0, RegName.PWR_FLT.addr 0] ∧ KeepsMem s t) := by
  refine ⟨((s.setFld .PWR_TEMP_TJ tj).latch .PWR_FLT_HOT).raise 0x623 0x4003 (tj % 4096), ?_, ?_, ?_, State.raise_msgs_ne_nil _ _ _ _, ?_,
    KeepsMem.refl.setFld.latch.raise⟩
  · exact congrArg Host.Outcome.next (if_pos ⟨hw, ht⟩)
  · rw [fld_of_regs_eq (State.raise_regs ..), State.latch, fld_setFld_ne h.setFld.regs _ (by decide)]
    exact fld_setFld_same h.regs .PWR_TEMP_TJ tj 0 (by decide)
  · rw [flag_of_regs_eq (State.raise_regs ..)]
    exact flag_latch_same h.setFld.regs _ 0 (by decide) (by decide)
  · exact ((KeepsRegs.refl.setFld h (.head _)).latch h.setFld (.tail _ (.head _))).raise

theorem junctionCool_completes (h : s.Inv) {tj : Nat} (hw : s.rst.power = .run) (ht : tjVal tj < 840) :
    Completes (.junctionCool tj) s (fun t => t.fld .PWR_TEMP_TJ = tj % 4096 ∧
      KeepsRegs s t [RegName.PWR_TEMP.addr 0] ∧ KeepsMem s t) :=
  ⟨s.setFld .PWR_TEMP_TJ tj, congrArg Host.Outcome.next (if_pos ⟨hw, ht⟩), fld_setFld_same h.regs .PWR_TEMP_TJ tj 0 (by decide),
    KeepsRegs.refl.setFld h (.head _), KeepsMem.refl.setFld⟩

theorem hostUncorr_completes (h : s.Inv) {st : Nat} (hd : s.host.dl = true) :
    Completes (.hostUncorr st) s (fun t => t.flag .HIF_FLT_UNCORR = true ∧ t.host.aer = s.host.aer ||| st ∧ t.flt.msgs ≠ [] ∧
      KeepsRegs s t [RegName.HIF_FLT.addr 0] ∧ KeepsMem s t) := by
  refine ⟨_, congrArg Host.Outcome.next (if_pos hd), ?_, ?_, State.raise_msgs_ne_nil _ _ _ _, ?_, KeepsMem.refl.update.latch.raise⟩
  · rw [flag_of_regs_eq (State.raise_regs ..)]
    exact flag_latch_same h.regs _ 0 (by decide) (by decide)
  · rw [State.raise_host, State.latch_host]
  · exact (KeepsRegs.refl.update.latch h.update (.head _)).raise

theorem paceWindow_completes (h : s.Inv) {l : List Nat} (hw : s.rst.power = .run) (hl : l ≠ []) (ht : s.rst.paceAt + 1024 ≤ s.tick) :
    CompletesVia (fun u => u.avsAct (l.foldl min 65535)) (.paceWindow l) s (fun u => u.fld .PWR_PACE_PACE = l.foldl min 65535 ∧
      (l.foldl min 65535 < 1024 → s.avsRuns = false → u.flag .PWR_FLT_PACE = true) ∧ u.rst.paceAt = s.tick ∧ KeepsMem s u) :=
  ⟨_, congrArg Host.Outcome.next (paceWindow_eq hw hl ht),
    (paceJudge_pace (paceReport_inv h) _).trans (paceReport_pace h (foldl_min_le l 65535)),
    fun hp hr => paceJudge_latch (paceReport_inv h) hp hr, paceJudge_paceAt .., (paceReport_keepsMem h).trans (paceJudge_keepsMem _ _ _)⟩

end

/-- Settles O27: each row by the branch that its conditions take. -/
theorem sensorAndVoltageRowsComplete : Obligations.SensorAndVoltageRowsComplete := by
  unfold Obligations.SensorAndVoltageRowsComplete
  intro s h
  exact ⟨fun _ ht => congrArg Host.Outcome.next (paceWindow_early ht), fun _ => paceWindow_completes h,
    fun _ => avsRead_completes h,
    fun mv hr => ⟨fun hf => congrArg Host.Outcome.next (avsDone_fail_eq hr hf mv), avsFail_completes h hr⟩,
    fun _ => junctionHot_completes h, fun _ => junctionCool_completes h, fun _ => hostUncorr_completes h⟩

end Sys2Proof.Machine

/-! # Errors -/

namespace Sys2Proof.Machine

section
variable {s : State}

/-! ## Mirror records -/

/-- Records sent to the twin change the mirror's state, what was sent and the counter of records. -/
theorem mirPumpAux_eq (fuel : Nat) (s : State) :
    ∃ regs mir out, mirPumpAux fuel s = { s with regs := regs, mir := mir, out := out } := by
  induction fuel generalizing s with
  | zero => exact ⟨_, _, _, rfl⟩
  | succ fuel ih =>
    unfold mirPumpAux
    split
    · split
      · exact ⟨_, _, _, rfl⟩
      · extract_lets f
        obtain ⟨regs, mir, out, h⟩ := ih _
        rw [h]
        exact ⟨_, _, _, rfl⟩
    · exact ⟨_, _, _, rfl⟩

theorem State.mirPump_eq (s : State) : ∃ regs mir out, s.mirPump = { s with regs := regs, mir := mir, out := out } := by
  unfold State.mirPump
  split
  · exact ⟨_, _, _, rfl⟩
  · exact mirPumpAux_eq _ s

theorem State.record_eq (s : State) (rtype : Nat) (body : List Byte) :
    ∃ regs mir out, s.record rtype body = { s with regs := regs, mir := mir, out := out } := by
  unfold State.record
  split
  · exact State.mirPump_eq { s with mir := { s.mir with queue := s.mir.queue ++ [⟨rtype, body⟩] } }
  · exact ⟨_, _, _, rfl⟩

theorem State.recLock_eq (s : State) (k : Nat) (l : Lock) :
    ∃ regs mir out, s.recLock k l = { s with regs := regs, mir := mir, out := out } := by
  unfold State.recLock
  extract_lets code
  split
  · exact s.record_eq _ _
  · exact ⟨_, _, _, rfl⟩

theorem State.setLock_eq (s : State) (k : Nat) (l : Lock) :
    ∃ regs mir out, s.setLock k l = { s with lck := { s.lck with words := mset s.lck.words k l }, regs := regs, mir := mir, out := out } :=
  State.recLock_eq { s with lck := { s.lck with words := mset s.lck.words k l } } k l

@[simp] theorem State.lock_setLock_same (s : State) (k : Nat) (l : Lock) : (s.setLock k l).lock k = l := by
  obtain ⟨regs, mir, out, h⟩ := s.setLock_eq k l
  rw [h]
  simp only [State.lock, mgetD, mget_mset_same, Option.getD_some]

/-! ## Ring flits -/

/-- A flit sent while none of its pair is on its way arrives at once, and leaves the rings as they were. -/
theorem ringArrive_ringSend {f : RingFlit} (hs : s.ring.stopped.contains (pairKey f.src f.dst) = false)
    (hf : s.ring.flits.any (fun g => pairKey g.src g.dst == pairKey f.src f.dst) = false) :
    (s.ringSend f).ringArrive (pairKey f.src f.dst) = some (f, s) := by
  have hn : ∀ g ∈ s.ring.flits, ¬ (pairKey g.src g.dst == pairKey f.src f.dst) = true := by simpa using hf
  have h1 : (s.ring.flits ++ [f]).find? (fun g => pairKey g.src g.dst == pairKey f.src f.dst) = some f := by
    rw [List.find?_append, List.find?_eq_none.2 hn]
    simp
  have h2 : (s.ring.flits ++ [f]).eraseP (fun g => pairKey g.src g.dst == pairKey f.src f.dst) = s.ring.flits := by
    rw [List.eraseP_append_right _ hn]
    simp
  simp only [State.ringSend, hs, State.ringArrive, h1, h2, Bool.false_eq_true, if_false]

theorem routeChoice_of_filled (h : s.ring.filled = true) (a b : Nat) : ∃ x, s.routeChoice a b = some x := by
  simp [State.routeChoice, State.routeOf, h]

theorem routeChoice_of_not_filled (h : s.ring.filled = false) (a b : Nat) : s.routeChoice a b = none := by
  simp [State.routeChoice, State.routeOf, h]

theorem ringUe_of_not_filled (h : s.ring.filled = false) (f : RingFlit) (v : RingVictim) : s.ringUe f v = s := by
  rw [State.ringUe, routeChoice_of_not_filled h]

/-- A flit of a pair whose entry is not being changed, with none of the pair on its way, comes to its destination (R50). -/
theorem ringUe_arrives {f : RingFlit} (h : s.ring.filled = true) (hs : s.ring.stopped.contains (pairKey f.src f.dst) = false)
    (hf : s.ring.flits.any (fun g => pairKey g.src g.dst == pairKey f.src f.dst) = false) (v : RingVictim) :
    ∃ ring, s.ringUe f v = s.ringIn f ring v := by
  obtain ⟨⟨ring, cw⟩, hc⟩ := routeChoice_of_filled h f.src f.dst
  refine ⟨ring, ?_⟩
  rw [State.ringUe, hc]
  simp only [ringArrive_ringSend hs hf]

/-- While no source of a ring is SEVERE, a flit beyond correction leaves the routes as they are (R55). -/
theorem ringSevere_of_not_severe (h : ∀ r, r < 4 → s.flag .FLT_SRCSTAT_SEVERE (slotOf (0x626 + r)) = false) (ring a b : Nat) :
    s.ringSevere ring a b = s := by
  rw [State.ringSevere, h _ (Nat.mod_lt _ (by decide)), Bool.false_and, if_neg Bool.false_ne_true]

/-- A flit beyond correction is reported, and the transaction that it belonged to fails (R55). -/
theorem ringIn_bad {f : RingFlit} (hb : f.bad = true)
    (h : ∀ r, r < 4 → s.flag .FLT_SRCSTAT_SEVERE (slotOf (0x626 + r)) = false) (ring : Nat) (v : RingVictim) :
    s.ringIn f ring v = (s.raise (0x626 + ring % 4) 0x2003 (f.src + 2 ^ 8 * f.dst)).ringVictim v := by
  have h' : ∀ r, r < 4 → (s.raise (0x626 + ring % 4) 0x2003 (f.src + 2 ^ 8 * f.dst)).flag .FLT_SRCSTAT_SEVERE (slotOf (0x626 + r)) = false :=
    fun r hr => (flag_of_regs_eq (State.raise_regs ..) _ _).trans (h r hr)
  rw [State.ringIn, if_pos hb, ringSevere_of_not_severe h']

/-- A flit whose words can be corrected has them counted at its stop (R54). -/
theorem ringIn_corrected {f : RingFlit} (hb : f.bad = false) (ring : Nat) (v : RingVictim) :
    ∃ c, s.ringIn f ring v = { s with ring := { s.ring with corrected := c } } ∧
      mgetD c f.dst 0 = mgetD s.ring.corrected f.dst 0 + f.corrected := by
  rw [State.ringIn, if_neg (by simp [hb])]
  split
  next h0 => exact ⟨s.ring.corrected, rfl, by rw [h0, Nat.add_zero]⟩
  · exact ⟨_, rfl, by simp [mgetD]⟩

/-- A window read whose flit is lost is answered with poison, and its item leaves its block (R55). -/
theorem winUe_read {id b : Nat} {i : WItem} (hi : s.findItem id = some (b, i)) (hw : i.write = false) (he : i.expired = false) :
    ∃ (u : State) (mid : Nat), s.winUe id = ((u.poison mid).dropItem b id) := by
  rw [State.winUe, hi]
  simp only [he, hw, Bool.false_eq_true, if_false]
  exact ⟨_, _, rfl⟩

theorem ringFlitUe_completes {f : RingFlit} (hfill : s.ring.filled = true) (hs : s.ring.stopped.contains (pairKey f.src f.dst) = false)
    (hf : s.ring.flits.any (fun g => pairKey g.src g.dst == pairKey f.src f.dst) = false) :
    (f.bad = true → (∀ r, r < 4 → s.flag .FLT_SRCSTAT_SEVERE (slotOf (0x626 + r)) = false) →
      CompletesVia State.settle (.ringFlitUe f.srcs f.dsts f.words .none) s (fun u =>
        u.flt.msgs ≠ [] ∧ u.regs = s.regs ∧ u.out = s.out ∧ u.ring = s.ring ∧ KeepsMem s u)) ∧
    (∀ id b i, f.bad = true → (∀ r, r < 4 → s.flag .FLT_SRCSTAT_SEVERE (slotOf (0x626 + r)) = false) →
      s.findItem id = some (b, i) → i.write = false → i.expired = false →
      CompletesVia (fun v => (v.dropItem b id).settle) (.ringFlitUe f.srcs f.dsts f.words (.window id)) s (fun v =>
        ∃ o mid, v.out = o ++ [.cxlData mid (zeros 64) true])) ∧
    (∀ acc, f.bad = false → CompletesVia State.settle (.ringFlitUe f.srcs f.dsts f.words acc) s (fun u =>
      mgetD u.ring.corrected f.dst 0 = mgetD s.ring.corrected f.dst 0 + f.corrected ∧ u.ring.flits = s.ring.flits ∧
      u.regs = s.regs ∧ u.out = s.out ∧ KeepsMem s u)) := by
  refine ⟨fun hb hsev => ?_, fun id b i hb hsev hi hw he => ?_, fun acc hb => ?_⟩
  · obtain ⟨ring, e⟩ := ringUe_arrives hfill hs hf .none
    rw [ringIn_bad hb hsev] at e
    exact ⟨_, congrArg (Host.Outcome.next ∘ State.settle) e, State.raise_msgs_ne_nil _ _ _ _, State.raise_regs _ _ _ _,
      State.raise_out _ _ _ _, State.raise_ring _ _ _ _, KeepsMem.refl.raise⟩
  · obtain ⟨ring, e⟩ := ringUe_arrives hfill hs hf (.window id)
    rw [ringIn_bad hb hsev] at e
    have hi' : (s.raise (0x626 + ring % 4) 0x2003 (f.src + 2 ^ 8 * f.dst)).findItem id = some (b, i) := by
      rw [State.findItem, State.raise_win]
      exact hi
    obtain ⟨u, mid, hu⟩ := winUe_read hi' hw he
    exact ⟨u.poison mid, congrArg (Host.Outcome.next ∘ State.settle) (e.trans hu), u.out, mid, rfl⟩
  · obtain ⟨ring, e⟩ := ringUe_arrives hfill hs hf acc
    obtain ⟨c, hc, hn⟩ := ringIn_corrected (s := s) hb ring acc
    exact ⟨_, congrArg (Host.Outcome.next ∘ State.settle) (e.trans hc), hn, rfl, rfl, rfl, .of_eq rfl⟩

/-! ## Critical state -/

theorem memCorrected_completes (h : s.Inv) (k : Nat) :
    CompletesVia (fun u => u.settle.timeCheck) (.critStateUe (.memCorrected k)) s (fun u =>
      u.fld .HIF_MEMSTAT_CECNT k = min (2 ^ 16 - 1) (s.fld .HIF_MEMSTAT_CECNT k + 1) ∧
      KeepsRegs s u [RegName.HIF_MEMSTAT.addr k] ∧ KeepsMem s u) :=
  ⟨s.bump .HIF_MEMSTAT_CECNT k, rfl, fld_bump_same h.regs _ k 1 (by decide), KeepsRegs.refl.bump h (.head _), KeepsMem.refl.bump⟩

theorem memUe_completes (h : s.Inv) (k a : Nat) :
    CompletesVia (fun u => u.settle.timeCheck) (.critStateUe (.memUe k a)) s (fun u =>
      u.flag .HIF_MEMSTAT_UEFLT k = true ∧ u.flt.msgs ≠ [] ∧ KeepsRegs s u [RegName.HIF_MEMSTAT.addr k] ∧ KeepsMem s u) := by
  refine ⟨s.memUeAt k a, rfl, ?_, State.raise_msgs_ne_nil _ _ _ _, ?_, ?_⟩
  · rw [State.memUeAt, flag_of_regs_eq (State.raise_regs ..)]
    exact flag_latch_same h.regs _ k (by decide) (by decide)
  · exact (KeepsRegs.refl.latch h (.head _)).raise
  · exact KeepsMem.refl.latch.raise

/-- Critical state lost is latched and counted (R583). -/
def State.critSeen (s : State) : State := (s.latch .RST_FLT_CRIT).bump .RST_CRITCNT_COUNT

theorem critSeen_inv (h : s.Inv) : s.critSeen.Inv := h.latch.bump

theorem critSeen_flag (h : s.Inv) : s.critSeen.flag .RST_FLT_CRIT = true := by
  rw [State.critSeen, State.bump, flag_setFld_ne h.latch _ (by decide)]
  exact flag_latch_same h.regs _ 0 (by decide) (by decide)

theorem critSeen_count (h : s.Inv) : s.critSeen.fld .RST_CRITCNT_COUNT = min (2 ^ 32 - 1) (s.fld .RST_CRITCNT_COUNT + 1) := by
  rw [State.critSeen, fld_bump_same h.latch.regs _ 0 1 (by decide), State.latch, fld_setFld_ne h.regs _ (by decide)]
  rfl

theorem xltEntry_completes (h : s.Inv) (k : Nat) :
    CompletesVia (fun u => u.settle.timeCheck) (.critStateUe (.xltEntry k)) s (fun u => u.flag .RST_FLT_CRIT = true ∧
      u.fld .RST_CRITCNT_COUNT = min (2 ^ 32 - 1) (s.fld .RST_CRITCNT_COUNT + 1) ∧ u.xlt.cache = mdel s.xlt.cache k ∧
      KeepsRegs s u [RegName.RST_FLT.addr 0, RegName.RST_CRITCNT.addr 0] ∧ KeepsMem s u) := by
  have hr : (s.critSeen.raise 0x61E 0x2004 k).regs = s.critSeen.regs := State.raise_regs _ _ _ _
  refine ⟨s.critUe (.xltEntry k), rfl, ?_, ?_, ?_, ?_, ?_⟩
  · exact (flag_of_regs_eq hr _ _).trans (critSeen_flag h)
  · exact (fld_of_regs_eq hr _ _).trans (critSeen_count h)
  · show mdel (s.critSeen.raise 0x61E 0x2004 k).xlt.cache k = _
    rw [State.raise_xlt, State.critSeen, State.bump_xlt, State.latch_xlt]
  · exact ((KeepsRegs.refl.latch h (.head _)).bump h.latch (.tail _ (.head _))).raise.update
  · exact KeepsMem.refl.latch.bump.raise.update

/-- A failed read of GDDR7 touches the channels' registers alone. -/
theorem memUe_flag_crit (h : s.Inv) : s.memUe.flag .RST_FLT_CRIT = s.flag .RST_FLT_CRIT := by
  show ((({ s with free := s.free + 1 + 1 } : State).latch .HIF_MEMSTAT_UEFLT (Config.openNat s.free % 8)).raise _ _ _).flag _ = _
  rw [flag_of_regs_eq (State.raise_regs ..), State.latch, flag_setFld_ne h.update]
  · exact flag_of_regs_eq rfl _ _
  · exact (RegName.addr_ne_of_last_lt 0 (Nat.mod_lt _ (by decide)) (by decide)).symm

theorem memUe_mir : s.memUe.mir = s.mir := by
  show ((({ s with free := s.free + 1 + 1 } : State).latch .HIF_MEMSTAT_UEFLT (Config.openNat s.free % 8)).raise _ _ _).mir = _
  rw [State.raise_mir, State.latch_mir]

theorem mirPumpAux_keepsRegs (fuel : Nat) : ∀ {s : State}, s.Inv → KeepsRegs s (mirPumpAux fuel s) [RegName.MIR_TXREC.addr 0] := by
  induction fuel with
  | zero => exact fun _ => .refl
  | succ fuel ih =>
    intro s h
    unfold mirPumpAux
    split
    · split
      · exact .refl
      · refine KeepsRegs.trans ?_ (ih h.emit.update.bump)
        exact KeepsRegs.refl.emit.update.bump h.emit.update (.head _)
    · exact .refl

theorem State.Inv.record_keepsRegs (h : s.Inv) (rtype : Nat) (body : List Byte) :
    KeepsRegs s (s.record rtype body) [RegName.MIR_TXREC.addr 0] := by
  unfold State.record
  split
  · unfold State.mirPump
    split
    · exact .of_eq rfl
    · exact KeepsRegs.refl.update.trans (mirPumpAux_keepsRegs _ h.update)
  · exact .refl

theorem State.Inv.setLock_keepsRegs (h : s.Inv) (k : Nat) (l : Lock) : KeepsRegs s (s.setLock k l) [RegName.MIR_TXREC.addr 0] := by
  unfold State.setLock State.recLock
  extract_lets code
  split
  · exact KeepsRegs.refl.update.trans (State.Inv.record_keepsRegs h.update _ _)
  · exact .of_eq rfl

/-- A lock word lost while the device is not PAIRED is DISABLED with an empty line (R583). -/
theorem lockWord_completes (h : s.Inv) {al : Bool} {i : Nat} (hp : s.mir.twin ≠ .paired) :
    CompletesVia (fun u => u.settle.timeCheck) (.critStateUe (.lockWord al i)) s (fun u =>
      u.flag .RST_FLT_CRIT = true ∧ (u.lock (tableKey al i)).st = .disabled ∧ (u.lock (tableKey al i)).line = []) := by
  let t : State := (s.critSeen.raise 0x61C 0x2004 i).memUe
  have hs : s.critSeen.Inv := critSeen_inv h
  have ht : t.Inv := hs.raise.memUe
  have hm : t.mir.twin ≠ .paired := by
    rw [memUe_mir, State.raise_mir, State.critSeen, State.bump_mir, State.latch_mir]
    exact hp
  have e : t.lockUe (tableKey al i) =
      t.setLock (tableKey al i) { (t.lock (tableKey al i)).freed with st := .disabled, line := [] } := if_neg fun hc => hm hc.1
  refine ⟨t.lockUe (tableKey al i), rfl, ?_, ?_, ?_⟩
  · rw [e, flag_of_keepsRegs (ht.setLock_keepsRegs _ _) (by decide), memUe_flag_crit hs.raise, flag_of_regs_eq (State.raise_regs ..)]
    exact critSeen_flag h
  · rw [e, State.lock_setLock_same]
  · rw [e, State.lock_setLock_same]

/-! ## Bandwidth windows -/

/-- The counts of a port over a window are 0. -/
def PortSt.Idle (p : PortSt) : Prop := p.txFlits = 0 ∧ p.rxFlits = 0 ∧ p.rpFlits = 0 ∧ p.crStall = 0

theorem State.port_of_lnk_eq {s t : State} (h : t.lnk = s.lnk) (p : Nat) : t.port p = s.port p := by rw [State.port, h, State.port]

/-- The figures of a port are written to registers, and its counts cleared. -/
theorem State.bwPort_eq (s : State) (w : Nat) (kv : Nat × PortSt) : ∃ u : State, u.lnk = s.lnk ∧ KeepsMem s u ∧
    s.bwPort w kv = u.modPort kv.1 (fun x => { x with txFlits := 0, rxFlits := 0, rpFlits := 0, crStall := 0 }) := by
  refine ⟨_, ?_, ?_, rfl⟩
  · rfl
  · exact KeepsMem.refl.wrRaw.wrRaw.wrRaw

theorem bwPort_port (s : State) (w : Nat) (kv : Nat × PortSt) (p : Nat) :
    (s.bwPort w kv).port p = if p = kv.1 then { s.port p with txFlits := 0, rxFlits := 0, rpFlits := 0, crStall := 0 } else s.port p := by
  obtain ⟨u, hl, -, e⟩ := s.bwPort_eq w kv
  rw [e, ← State.port_of_lnk_eq hl]
  split
  next hp => rw [hp, State.modPort_port_same]
  next hp => simp only [State.port, State.modPort, mgetD, mget_mset_ne _ _ hp]

theorem bwPort_keepsMem (s : State) (w : Nat) (kv : Nat × PortSt) : KeepsMem s (s.bwPort w kv) := by
  obtain ⟨u, -, hm, e⟩ := s.bwPort_eq w kv
  rw [e]
  exact hm.update

/-- The end of a window clears the counts of every port that it goes over, and never sets those of another. -/
theorem foldl_bwPort_idle (w : Nat) (l : List (Nat × PortSt)) : ∀ (s : State) (p : Nat), ((s.port p).Idle ∨ ∃ x ∈ l, x.1 = p) →
    ((l.foldl (fun t kv => t.bwPort w kv) s).port p).Idle := by
  induction l with
  | nil => exact fun s p h => h.elim id fun ⟨x, hx, _⟩ => absurd hx List.not_mem_nil
  | cons kv l ih =>
    intro s p h
    refine ih (s.bwPort w kv) p ?_
    rw [bwPort_port]
    split
    · exact .inl ⟨rfl, rfl, rfl, rfl⟩
    next e =>
      refine h.imp id fun ⟨x, hx, hp⟩ => ⟨x, ?_, hp⟩
      exact (List.mem_cons.1 hx).resolve_left fun e' => e (by rw [← hp, e'])

theorem foldl_bwPort_keepsMem (w : Nat) (l : List (Nat × PortSt)) : ∀ s : State, KeepsMem s (l.foldl (fun t kv => t.bwPort w kv) s) := by
  induction l with
  | nil => exact fun _ => .refl
  | cons kv l ih => exact fun s => (bwPort_keepsMem s w kv).trans (ih (s.bwPort w kv))

theorem bwWindowEnd_completes (ht : s.pmu.bwAt / 2 ^ s.fld .PMU_BWWIN_LOG2 < s.now / 2 ^ s.fld .PMU_BWWIN_LOG2) :
    Completes .bwWindowEnd s (fun t => t.pmu.bwAt = s.now ∧ (∀ x ∈ s.lnk.ports, (t.port x.1).txFlits = 0 ∧ (t.port x.1).rxFlits = 0 ∧
      (t.port x.1).rpFlits = 0 ∧ (t.port x.1).crStall = 0) ∧ KeepsMem s t) := by
  refine ⟨_, congrArg Host.Outcome.next (if_pos ht), rfl, fun x hx => ?_, ?_⟩
  · exact foldl_bwPort_idle _ s.lnk.ports s x.1 (.inr ⟨x, hx, rfl⟩)
  · exact (foldl_bwPort_keepsMem _ _ _).update

/-! ## Leaving the safe state -/

theorem execSafeStateClear_of_reaches (hr : s.reaches .FLT_SAFE 0) : exec .safeStateClear s = .next s.safeClear := by
  show Host.Outcome.next (s.regRow .FLT_SAFE 0 State.safeClear) = _
  simp only [State.regRow, hr.1, hr.2, Bool.not_true, Bool.false_eq_true, if_false]

theorem safeStateClear_completes (h : s.Inv) (hr : s.reaches .FLT_SAFE 0) (hl : s.flag .FLT_SAFE_LATCH = true) (hg : s.safeGone = true) :
    (s.flt.safe = false → CompletesVia State.settle .safeStateClear s (fun u => u.flag .FLT_SAFE_LATCH = false ∧
      KeepsRegs s u [RegName.FLT_SAFE.addr 0] ∧ KeepsMem s u)) ∧
    (s.flt.safe = true → s.rst.power = .run →
      CompletesVia (fun v => (v.lnoticeAll.dmaResume.restartDue.adminRunAll).settle) .safeStateClear s (fun v =>
        v.flt.safe = false ∧ v.flag .FLT_SAFE_LATCH = false ∧ KeepsRegs s v [RegName.FLT_SAFE.addr 0] ∧ KeepsMem s v)) := by
  have he := execSafeStateClear_of_reaches hr
  rw [State.safeClear, if_pos (by rw [hl, hg]; rfl)] at he
  have h0 : (s.setFld .FLT_SAFE_LATCH 0).flag .FLT_SAFE_LATCH = false := flag_setFld_same h false 0 (by decide) (by decide)
  have hk : KeepsRegs s (s.setFld .FLT_SAFE_LATCH 0) [RegName.FLT_SAFE.addr 0] := KeepsRegs.refl.setFld h (.head _)
  have hm : KeepsMem s (s.setFld .FLT_SAFE_LATCH 0) := KeepsMem.refl.setFld
  refine ⟨fun hs => ⟨_, he.trans (congrArg (Host.Outcome.next ∘ State.settle) (if_neg ?_)), h0, hk, hm⟩, fun hs hp =>
    ⟨_, he.trans (congrArg (Host.Outcome.next ∘ State.settle) (if_pos ?_)), rfl, (flag_of_regs_eq rfl _ _).trans h0, hk.update, hm.update⟩⟩
  · rw [State.setFld_flt, hs, Bool.false_and]
    exact Bool.false_ne_true
  · rw [State.setFld_flt, State.setFld_rst, hs, hp]
    rfl

theorem safeStateClear_of_latch_clear (hr : s.reaches .FLT_SAFE 0) (hl : s.flag .FLT_SAFE_LATCH = false) :
    exec .safeStateClear s = .next s := by
  rw [execSafeStateClear_of_reaches hr, State.safeClear, hl, Bool.false_and, if_neg Bool.false_ne_true]

end

/-- Settles O30: the flits by the way they take, the rest by the branch that their conditions take. -/
theorem errorRowsComplete : Obligations.ErrorRowsComplete := by
  unfold Obligations.ErrorRowsComplete
  intro s h
  refine ⟨fun f => ⟨fun hf acc => ?_, ringFlitUe_completes⟩, fun k _ => ⟨memCorrected_completes h k, memUe_completes h k⟩,
    xltEntry_completes h, fun al i => lockWord_completes h, bwWindowEnd_completes, fun hn => ?_, safeStateClear_completes h,
    safeStateClear_of_latch_clear⟩
  · exact congrArg (Host.Outcome.next ∘ State.settle) (ringUe_of_not_filled hf f acc)
  · exact congrArg Host.Outcome.next (if_neg (Nat.not_lt.2 hn))

end Sys2Proof.Machine

/-! # What counting touches (R614 to R619)

An event that the counters meet changes the counter groups' registers, the messages of an overflow, the samples that wait for an
engine, and the ticks of the latest snapshots, and nothing else. `Counts s t` says so of a state `t` that `s` has become; the lemmas
have the shapes of the definitions, as the lemmas `State.Inv.f` have. -/

namespace Sys2Proof.Machine

/-- `t` is what `s` has become by counting alone. -/
def Counts (s t : State) : Prop :=
  t.Inv ∧ KeepsCounted s t [] ∧ ∃ regs msgs skid snapAt, t = { s with
    regs := regs, flt := { s.flt with msgs := msgs }, pmu := { s.pmu with skid := skid }, host := { s.host with snapAt := snapAt } }

theorem mem_numsFrom {i a n : Nat} : i ∈ numsFrom a n ↔ a ≤ i ∧ i < a + n := by
  induction n generalizing a with
  | zero => simp only [numsFrom, List.not_mem_nil, false_iff]; omega
  | succ n ih => simp only [numsFrom, List.mem_cons, ih]; omega

section
variable {s t : State}

namespace KeepsCounted

theorem refl {ks : List Nat} : KeepsCounted s s ks := fun _ _ _ => rfl

theorem of_eq {ks : List Nat} (h : t.regs = s.regs) : KeepsCounted s t ks := fun _ _ _ => by rw [h]

theorem trans {u : State} {ks : List Nat} (h : KeepsCounted s t ks) (h' : KeepsCounted t u ks) : KeepsCounted s u ks :=
  fun k hk hr => (h' k hk hr).trans (h k hk hr)

theorem mono {ks ks' : List Nat} (h : KeepsCounted s t ks) (hs : ∀ k ∈ ks, k ∈ ks') : KeepsCounted s t ks' :=
  fun k hk hr => h k (fun hm => hk (hs k hm)) hr

theorem of_keepsRegs {ks : List Nat} (h : KeepsRegs s t ks) : KeepsCounted s t ks := fun k hk _ => h k hk

/-- A field outside the counters, and outside the keys, keeps its value. -/
theorem fld_eq {ks : List Nat} (h : KeepsCounted s t ks) {f : Fld} {i : Nat} (hk : f.reg.addr i ∉ ks)
    (hr : f.reg.addr i < 0x21000 ∨ 0x26000 ≤ f.reg.addr i) : t.fld f i = s.fld f i := by
  unfold State.fld State.rdRaw
  rw [h _ hk hr]

end KeepsCounted

namespace Counts

theorem inv (h : Counts s t) : t.Inv := h.1

theorem kept (h : Counts s t) : KeepsCounted s t [] := h.2.1

theorem eq (h : Counts s t) : ∃ regs msgs skid snapAt, t = { s with
    regs := regs, flt := { s.flt with msgs := msgs }, pmu := { s.pmu with skid := skid }, host := { s.host with snapAt := snapAt } } := h.2.2

theorem refl (h : s.Inv) : Counts s s := ⟨h, .refl, s.regs, s.flt.msgs, s.pmu.skid, s.host.snapAt, rfl⟩

theorem keepsMem (h : Counts s t) : KeepsMem s t := by
  obtain ⟨-, -, _, _, _, _, rfl⟩ := h
  exact .of_eq rfl

theorem fld_eq (h : Counts s t) {f : Fld} {i : Nat} (hr : f.reg.addr i < 0x21000 ∨ 0x26000 ≤ f.reg.addr i) :
    t.fld f i = s.fld f i := h.kept.fld_eq (List.not_mem_nil) hr

theorem ite {a b : State} {c : Prop} {inst : Decidable c} (ha : Counts s a) (hb : Counts s b) : Counts s (if c then a else b) := by
  split
  · exact ha
  · exact hb

theorem foldl_mem {β : Type} {l : List β} {f : State → β → State} (h : Counts s t) (hf : ∀ t, ∀ x ∈ l, Counts s t → Counts s (f t x)) :
    Counts s (l.foldl f t) := by
  induction l generalizing t with
  | nil => exact h
  | cons x l ih => exact ih (hf t x (.head _) h) fun t y hy => hf t y (.tail _ hy)

theorem wrRaw (h : Counts s t) {r : RegName} {i v : Nat} (hi : i < r.fam.n1 * r.fam.n2) (h0 : 0x21000 ≤ r.fam.base)
    (h1 : r.fam.last < 0x26000) : Counts s (t.wrRaw r i v) := by
  have ha := r.base_le_addr i
  have hb := RegName.addr_le_last hi
  refine ⟨h.inv.wrRaw, fun k hk hr => (mget_wrRaw_ne h.inv.regs r i v ?_).trans (h.kept k hk hr), ?_⟩
  · omega
  · obtain ⟨-, -, _, m, p, q, rfl⟩ := h
    exact ⟨_, m, p, q, rfl⟩

theorem setFld (h : Counts s t) {f : Fld} {i v : Nat} (hi : i < f.reg.fam.n1 * f.reg.fam.n2) (h0 : 0x21000 ≤ f.reg.fam.base)
    (h1 : f.reg.fam.last < 0x26000) : Counts s (t.setFld f v i) := h.wrRaw hi h0 h1

theorem raise (h : Counts s t) {src code addr : Nat} : Counts s (t.raise src code addr) := by
  obtain ⟨l, e⟩ := t.raise_eq src code addr
  rw [e]
  obtain ⟨hi, hk, r, _, p, q, rfl⟩ := h
  exact ⟨hi.update, hk, r, l, p, q, rfl⟩

theorem raiseN (h : Counts s t) {src code addr n : Nat} : Counts s (t.raiseN src code addr n) := by
  have h1 : Counts s ((numsFrom 0 (min n 5)).foldl (fun t _ => t.raise src code addr) t) := h.foldl_mem fun _ _ _ h => h.raise
  unfold State.raiseN
  obtain ⟨hi, hk, r, l, p, q, e⟩ := h1
  rw [e] at hi hk ⊢
  exact ⟨hi.update, hk, r, _, p, q, rfl⟩

theorem snap {upd : State → State} (h : Counts s t) {seq : Fld} {i : Nat} (hi : i < seq.reg.fam.n1 * seq.reg.fam.n2)
    (h0 : 0x21000 ≤ seq.reg.fam.base) (h1 : seq.reg.fam.last < 0x26000) (hupd : ∀ u, Counts s u → Counts s (upd u)) :
    Counts s (t.snap seq i upd) := by
  unfold State.snap
  extract_lets key s1 s2
  have h2 : Counts s s2 := (hupd _ h).setFld hi h0 h1
  have h3 : Counts s { s2 with host := { s2.host with snapAt := mset s2.host.snapAt key t.tick } } := by
    obtain ⟨hi, hk, r, l, p, _, e⟩ := h2
    rw [e] at hi hk ⊢
    exact ⟨hi.update, hk, r, l, p, _, rfl⟩
  split
  · exact h.ite h3
  · exact h3

/-- The sample group of a counter's group is written (R619). -/
theorem pmuPut (h : Counts s t) {i addr time d} (hi : i < 144) : Counts s (t.pmuPut i addr time d) := by
  have hg : i / 8 < 18 := by omega
  have hw {u : State} (hu : Counts s u) {r : RegName} {v : Nat} (hn : 18 ≤ r.fam.n1 * r.fam.n2) (h0 : 0x21000 ≤ r.fam.base)
      (h1 : r.fam.last < 0x26000) : Counts s (u.wrRaw r (i / 8) v) := hu.wrRaw (by omega) h0 h1
  have hs {u : State} (hu : Counts s u) {f : Fld} {v : Nat} (hn : 18 ≤ f.reg.fam.n1 * f.reg.fam.n2) (h0 : 0x21000 ≤ f.reg.fam.base)
      (h1 : f.reg.fam.last < 0x26000) : Counts s (u.setFld f v (i / 8)) := hu.setFld (by omega) h0 h1
  unfold State.pmuPut
  extract_lets
  refine h.snap hg (by decide) (by decide) fun t ht => ?_
  extract_lets t1 t2
  have h1 : Counts s t1 :=
    hw (hw (hw ht (by decide) (by decide) (by decide)) (by decide) (by decide) (by decide)) (by decide) (by decide) (by decide)
  have h2 : Counts s t2 := hs h1 (by decide) (by decide) (by decide)
  split
  · refine hw (hs (hs (hs (hs h2 ?_ ?_ ?_) ?_ ?_ ?_) ?_ ?_ ?_) ?_ ?_ ?_) ?_ ?_ ?_ <;> decide
  · exact hs h2 (by decide) (by decide) (by decide)

theorem pmuSample (h : Counts s t) {i e} (hi : i < 144) : Counts s (t.pmuSample i e) := by
  unfold State.pmuSample
  extract_lets
  split
  · exact h.pmuPut hi
  · obtain ⟨hv, hk, r, l, _, q, rfl⟩ := h
    exact ⟨hv.update, hk, r, l, _, q, rfl⟩
  · exact h.pmuPut hi

theorem pmuOverflow (h : Counts s t) {i e n} (hi : i < 144) : Counts s (t.pmuOverflow i e n) := by
  have hg : i / 8 < 18 := by omega
  unfold State.pmuOverflow
  extract_lets g s1 s2 s3
  have h1 : Counts s s1 := setFld (f := .PMU_OVFCNT_COUNT) (setFld (f := .PMU_GSTAT_OVF) h hg (by decide) (by decide)) hi (by decide) (by decide)
  have h2 : Counts s s2 := h1.raiseN.ite h1
  have h3 : Counts s s3 := (h2.setFld hg (by decide) (by decide)).ite h2
  exact (h3.pmuSample hi).ite h3

theorem setPmuVal (h : Counts s t) {i v} (hi : i < 144) : Counts s (t.setPmuVal i v) :=
  (h.wrRaw hi (by decide) (by decide)).wrRaw hi (by decide) (by decide)

theorem pmuOne (h : Counts s t) {i e} (hi : i < 144) : Counts s (t.pmuOne i e) :=
  ((h.setPmuVal hi).ite ((h.setPmuVal hi).pmuOverflow hi)).ite h

theorem pmu_ (h : Counts s t) {e} : Counts s (t.pmu_ e) :=
  (h.foldl_mem fun _ _ hi h => h.pmuOne (by simpa using (mem_numsFrom.mp hi).2)).ite h

end Counts

/-- The components that an event leaves alone. -/
theorem State.Inv.counts_pmu (h : s.Inv) (e : PmuEv) : Counts s (s.pmu_ e) := (Counts.refl h).pmu_

end
end Sys2Proof.Machine

/-! # What sending touches

A request that leaves, a tag that is freed, and the packets that move in the crossbar on that account change queues of packets,
tags, counters and parked queues: never host memory, the locks, the translation unit, the mirror unit or the lease table. `Sends s t`
says so of a state `t` that `s` has become; the lemma `Sends.f` says that `f` keeps it, and its proof has the shape of `f`, as the
lemmas `State.Inv.f` have. -/

namespace Sys2Proof.Machine

/-- The registers that sending may change: those of the collective unit, the router and the counter groups. -/
def sendReg (k : Nat) : Bool :=
  (decide (0x7000 ≤ k) && decide (k < 0x8000)) || (decide (0x9000 ≤ k) && decide (k < 0xA000)) ||
    (decide (0x21000 ≤ k) && decide (k < 0x26000))

/-- `t` is what `s` has become by sending alone. -/
def Sends (s t : State) : Prop :=
  t.Inv ∧ t.hostMem = s.hostMem ∧ t.time = s.time ∧ t.xlt = s.xlt ∧ t.lck = s.lck ∧ t.mir = s.mir ∧ t.rst = s.rst ∧ t.out = s.out ∧
  (t.win.leases = s.win.leases ∧ t.win.released = s.win.released) ∧ ∀ k, sendReg k = false → mget t.regs k = mget s.regs k

section
variable {s t u : State}

namespace Sends

theorem inv (h : Sends s t) : t.Inv := h.1

theorem refl (h : s.Inv) : Sends s s := ⟨h, rfl, rfl, rfl, rfl, rfl, rfl, rfl, ⟨rfl, rfl⟩, fun _ _ => rfl⟩

theorem trans (h : Sends s t) (h' : Sends t u) : Sends s u := by
  obtain ⟨-, a1, a2, a3, a4, a5, a6, a7, ⟨a8, a9⟩, a10⟩ := h
  obtain ⟨i, b1, b2, b3, b4, b5, b6, b7, ⟨b8, b9⟩, b10⟩ := h'
  exact ⟨i, b1.trans a1, b2.trans a2, b3.trans a3, b4.trans a4, b5.trans a5, b6.trans a6, b7.trans a7,
    ⟨b8.trans a8, b9.trans a9⟩, fun k hk => (b10 k hk).trans (a10 k hk)⟩

theorem keepsMem (h : Sends s t) : KeepsMem s t := .of_eq h.2.1

theorem lck_eq (h : Sends s t) : t.lck = s.lck := by
  obtain ⟨-, -, -, -, h, -⟩ := h
  exact h

theorem leases_eq (h : Sends s t) : t.win.leases = s.win.leases := by
  obtain ⟨-, -, -, -, -, -, -, -, ⟨h, -⟩, -⟩ := h
  exact h

theorem released_eq (h : Sends s t) : t.win.released = s.win.released := by
  obtain ⟨-, -, -, -, -, -, -, -, ⟨-, h⟩, -⟩ := h
  exact h

theorem fld_eq (h : Sends s t) {f : Fld} {i : Nat} (hf : sendReg (f.reg.addr i) = false) : t.fld f i = s.fld f i := by
  obtain ⟨-, -, -, -, -, -, -, -, -, h⟩ := h
  unfold State.fld State.rdRaw
  rw [h _ hf]

/-! ## Shapes -/

theorem ite {a b : State} {c : Prop} {inst : Decidable c} (ha : Sends s a) (hb : Sends s b) : Sends s (if c then a else b) := by
  split
  · exact ha
  · exact hb

theorem foldl {β : Type} {l : List β} {f : State → β → State} (h : Sends s t) (hf : ∀ t x, Sends s t → Sends s (f t x)) :
    Sends s (l.foldl f t) := by
  induction l generalizing t with
  | nil => exact h
  | cons x l ih => exact ih (hf t x h)

/-- An update of the components that sending may change. -/
theorem update (h : Sends s t) {host qmg tgt ini msg col rte lnk flt pmu sec ring free pending} :
    Sends s { regs := t.regs, hostMem := t.hostMem, time := t.time, host := host, qmg := qmg, tgt := tgt, ini := ini, msg := msg,
              win := t.win, xlt := t.xlt, col := col, lck := t.lck, rte := rte, lnk := lnk, mir := t.mir, rst := t.rst, flt := flt,
              pmu := pmu, sec := sec, ring := ring, out := t.out, free := free, pending := pending } := h

theorem wrRaw (h : Sends s t) {r : RegName} {i v : Nat} (hr : sendReg (r.addr i) = true) : Sends s (t.wrRaw r i v) := by
  obtain ⟨hi, a1, a2, a3, a4, a5, a6, a7, a8, a9⟩ := h
  exact ⟨hi.wrRaw, a1, a2, a3, a4, a5, a6, a7, a8, fun k hk => (mget_wrRaw_ne hi.regs r i v fun e : k = _ => by
    rw [e, hr] at hk; cases hk).trans (a9 k hk)⟩

theorem setFld (h : Sends s t) {f : Fld} {i v : Nat} (hr : sendReg (f.reg.addr i) = true) : Sends s (t.setFld f v i) := h.wrRaw hr

theorem bump (h : Sends s t) {f : Fld} {i n : Nat} (hr : sendReg (f.reg.addr i) = true) : Sends s (t.bump f i n) := h.setFld hr

theorem latch (h : Sends s t) {f : Fld} {i : Nat} (hr : sendReg (f.reg.addr i) = true) : Sends s (t.latch f i) := h.setFld hr

/-- An event that the counters meet. -/
theorem counts (h : Sends s t) (hu : Counts t u) : Sends s u := by
  refine h.trans ?_
  obtain ⟨hi, hk, r, l, p, q, rfl⟩ := hu
  refine ⟨hi, rfl, rfl, rfl, rfl, rfl, rfl, rfl, ⟨rfl, rfl⟩, fun k hr => hk k List.not_mem_nil ?_⟩
  simp only [sendReg, Bool.or_eq_false_iff, Bool.and_eq_false_iff, decide_eq_false_iff_not] at hr
  omega

theorem pmu_ (h : Sends s t) {e} : Sends s (t.pmu_ e) := h.counts (h.inv.counts_pmu e)

/-! ## Queues and packets -/

theorem of_run (h : Sends s t) {u : State} (hu : ∃ r, u = { t with qmg := { t.qmg with run := r } }) : Sends s u := by
  obtain ⟨r, rfl⟩ := hu
  exact h.update

theorem enqueue (h : Sends s t) {x} : Sends s (t.enqueue x) := h.of_run (t.enqueue_eq x)

theorem unpark (h : Sends s t) {p} : Sends s (t.unpark p) := by
  obtain ⟨r, hr⟩ := t.unpark_eq p
  rw [hr]
  exact h.update

theorem modDesc (h : Sends s t) {q cnt f} : Sends s (t.modDesc q cnt f) := h.update

theorem fresh (h : Sends s t) : Sends s t.fresh.2 := h.update

theorem modPort (h : Sends s t) {p f} : Sends s (t.modPort p f) := h.update

theorem freeSlots (h : Sends s t) {key n} : Sends s (t.freeSlots key n) := h.modPort.ite h

theorem freeKey (h : Sends s t) {key n} : Sends s (t.freeKey key n) := by
  unfold State.freeKey
  split
  · exact h.freeSlots
  · exact h

theorem trail (h : Sends s t) {i key x} : Sends s (t.trail i key x) := by
  unfold State.trail
  split
  · exact h.modPort
  · exact h

theorem commit (h : Sends s t) {i key p v k} : Sends s (t.commit i key p v k) := h.modPort.pmu_.ite h.modPort

theorem toLocal (h : Sends s t) {i} : Sends s (t.toLocal i) := h.ite h.update

theorem dropUnroutable (h : Sends s t) : Sends s t.dropUnroutable :=
  (h.bump (f := .RTE_UNROUTE_COUNT) (by decide)).latch (f := .RTE_FLT_UNROUTE) (by decide)

theorem reinject (h : Sends s t) {i k} : Sends s (t.reinject i k) := by
  refine Sends.ite ((h.bump (f := .RTE_FWDDROP_COUNT) (by decide)).latch (f := .RTE_FLT_FWDFULL) (by decide)) ?_
  exact (h.bump (f := .RTE_REINJ_COUNT) (i := 0) (n := 1) (by decide)).update

theorem routeOne (h : Sends s t) {i key} : Sends s (t.routeOne i key).1 := by
  unfold State.routeOne
  split
  · exact h
  split
  · split
    · exact h
    · exact h.freeKey.toLocal
  · split
    · exact h
    · extract_lets s0 s1
      have h0 : Sends s s0 := h.fresh.ite h
      have h1 : Sends s s1 := (h0.bump (by decide)).pmu_.ite h0
      exact ((h1.bump (by decide)).ite h1).trail.commit
  · exact h
  · split
    · exact h
    · dsimp only
      exact h.freeKey.reinject
  · exact h.trail.freeKey.dropUnroutable
  · exact h.trail.freeKey.bump (by decide)

theorem setInq (h : Sends s t) {key l} : Sends s (t.setInq key l) := h.update

theorem of_fst_eq {x : State × Bool} {u : State} {b : Bool} (h : Sends s x.1) (hx : x = (u, b)) : Sends s u := by
  rw [hx] at h
  exact h

theorem routeKeyAux (h : Sends s t) {key fuel} : Sends s (Machine.routeKeyAux key fuel t) := by
  induction fuel generalizing t with
  | zero => exact h
  | succ fuel ih =>
    unfold Machine.routeKeyAux
    split
    · exact h
    split
    next heq => exact ih (h.routeOne.of_fst_eq heq).setInq
    · exact h

theorem routeReinj (h : Sends s t) : Sends s t.routeReinj := by
  refine Sends.foldl (h.update) fun t i ht => ?_
  split
  next heq => exact ht.routeOne.of_fst_eq heq
  · exact ht.update

theorem arrive (h : Sends s t) {key i} : Sends s (t.arrive key i) := h.setInq.routeKeyAux.routeReinj

theorem pmuOwner (h : Sends s t) {code o tclass} : Sends s (t.pmuOwner code o tclass) := h.pmu_

theorem inject (h : Sends s t) {k tag avoid own} : Sends s (t.inject k tag avoid own) := h.pmuOwner.arrive

theorem pisteSend (h : Sends s t) {n ps i} : Sends s (t.pisteSend n ps i) := h.commit.update

theorem injectPiste (h : Sends s t) {n k tag own} : Sends s (t.injectPiste n k tag own) := h.pmuOwner.pisteSend.ite h.pmuOwner.update

/-! ## Requests -/

theorem setCc (h : Sends s t) {cell c} : Sends s (t.setCc cell c) := h.update

theorem ccWake (h : Sends s t) {cell} : Sends s (t.ccWake cell) := h.unpark.ite h

theorem ccLeave (h : Sends s t) {e} : Sends s (t.ccLeave e) := h.ite h.setCc.ccWake

theorem targetWait (h : Sends s t) {r} : Sends s (t.targetWait r) := enqueue h.update

/-- The window's blocks may change, but not its leases. -/
theorem winBlk (h : Sends s t) {b} : Sends s { t with win := { t.win with blk := b } } := h

theorem noteFirst (h : Sends s t) {o} : Sends s (t.noteFirst o) := by
  unfold State.noteFirst
  extract_lets _ mark
  have hmark : ∀ id, Sends s (mark id) := fun _ => h.winBlk
  split
  · exact hmark _
  · exact hmark _
  · exact h

theorem transmit (h : Sends s t) {w n} : Sends s (t.transmit w n) := by
  unfold State.transmit
  extract_lets loc cell origin p k n e _ s1 c s2
  have h1 : Sends s s1 := noteFirst h.update
  have h2 : Sends s s2 := h1.ite h1.setCc
  split
  · exact h2.targetWait
  split
  · exact h2.injectPiste
  · exact h2.inject

theorem mergedFill (h : Sends s t) {k w x} (hx : t.mergedFill k w = some x) : Sends s x.1 := by
  unfold State.mergedFill at hx
  extract_lets c inTime at hx
  split at hx
  · cases hx
  · cases hx
    exact (unpark h.update).bump (by decide)

theorem sendNow (h : Sends s t) {w n} : Sends s (t.sendNow w n) := by
  unfold State.sendNow
  split
  · split
    next heq => exact (h.mergedFill heq).fresh.transmit
    · exact h
  · exact h.fresh.transmit

theorem sendW (h : Sends s t) {w} : Sends s (t.sendW w) := by
  unfold State.sendW
  split
  · exact h.update
  split
  · exact h.sendNow
  · exact h.update

theorem sendReq (h : Sends s t) {o k nonIdem piste origin noInstall} :
    Sends s (t.sendReq o k nonIdem piste origin noInstall) := h.sendW

theorem wakeAux (h : Sends s t) {fuel} : Sends s (Machine.wakeAux fuel t) := by
  induction fuel generalizing t with
  | zero => exact h
  | succ fuel ih =>
    unfold Machine.wakeAux
    split
    · exact h
    split
    · refine ih ?_
      split
      · exact h.update
      · exact h.update
    split
    · split
      · exact ih (sendNow h.update)
      · exact h
    · exact h

theorem wakeTags (h : Sends s t) : Sends s t.wakeTags :=
  (h.wakeAux.unpark.ite h.wakeAux).unpark.ite (h.wakeAux.unpark.ite h.wakeAux)

theorem releaseTag (h : Sends s t) {n} : Sends s (t.releaseTag n) := by
  unfold State.releaseTag
  split
  · exact h
  · exact (ccLeave h.update).wakeTags.unpark

theorem maybeRelease (h : Sends s t) {n} : Sends s (t.maybeRelease n) := by
  unfold State.maybeRelease
  split
  · split
    · exact h.releaseTag.ite h
    · exact h
  · exact h

theorem closeTags (h : Sends s t) {l} : Sends s (t.closeTags l) := h.foldl fun _ _ h => maybeRelease h.update

theorem cancelReqs (h : Sends s t) {mine} : Sends s (t.cancelReqs mine) := closeTags h.update

theorem answered (h : Sends s t) {n txtime residence} : Sends s (t.answered n txtime residence) := by
  unfold State.answered
  split
  · exact h
  · exact Sends.ite h.update (ccWake h.update)

end Sends
end
end Sys2Proof.Machine

/-! # Answers and timers of leases and locks (R317, R422, R427, R429) -/

namespace Sys2Proof.Machine

section
variable {s t : State} {n : Nat} {e : TagEnt}

/-! ## What frees a tag while no request waits for one -/

/-- `t` is what `s` has become by work on the initiator's tables and on queues alone. -/
def Frees (s t : State) : Prop := t.ini.waiting = s.ini.waiting ∧ ∃ i q, t = { s with ini := i, qmg := q }

namespace Frees

theorem refl : Frees s s := ⟨rfl, s.ini, s.qmg, rfl⟩

theorem ini (h : Frees s t) {i : IniSt} (hw : i.waiting = t.ini.waiting) : Frees s { t with ini := i } := by
  obtain ⟨h1, _, q, rfl⟩ := h
  exact ⟨hw.trans h1, i, q, rfl⟩

theorem qmg (h : Frees s t) {q : QmgSt} : Frees s { t with qmg := q } := by
  obtain ⟨h1, i, _, rfl⟩ := h
  exact ⟨h1, i, q, rfl⟩

theorem unpark (h : Frees s t) {p} : Frees s (t.unpark p) := by
  obtain ⟨r, hr⟩ := t.unpark_eq p
  rw [hr]
  exact h.qmg

theorem ite {a b : State} {c : Prop} {inst : Decidable c} (ha : Frees s a) (hb : Frees s b) : Frees s (if c then a else b) := by
  split
  · exact ha
  · exact hb

theorem foldl {β : Type} {l : List β} {f : State → β → State} (h : Frees s t) (hf : ∀ t x, Frees s t → Frees s (f t x)) :
    Frees s (l.foldl f t) := by
  induction l generalizing t with
  | nil => exact h
  | cons x l ih => exact ih (hf t x h)

theorem ccWake (h : Frees s t) {cell} : Frees s (t.ccWake cell) := h.unpark.ite h

theorem setCc (h : Frees s t) {cell c} : Frees s (t.setCc cell c) := h.ini rfl

theorem modTag (h : Frees s t) {n f} : Frees s (t.modTag n f) := h.ini rfl

theorem ccLeave (h : Frees s t) {e} : Frees s (t.ccLeave e) := h.ite h.setCc.ccWake

theorem regs_eq (h : Frees s t) : t.regs = s.regs := by
  obtain ⟨-, _, _, rfl⟩ := h
  rfl

theorem win_eq (h : Frees s t) : t.win = s.win := by
  obtain ⟨-, _, _, rfl⟩ := h
  rfl

theorem lck_eq (h : Frees s t) : t.lck = s.lck := by
  obtain ⟨-, _, _, rfl⟩ := h
  rfl

theorem lock_eq (h : Frees s t) (k : Nat) : t.lock k = s.lock k := by
  unfold State.lock
  rw [h.lck_eq]

theorem keepsMem (h : Frees s t) : KeepsMem s t := by
  obtain ⟨-, _, _, rfl⟩ := h
  exact .of_eq rfl

theorem inv (h : Frees s t) (hs : s.Inv) : t.Inv := by
  obtain ⟨-, _, _, rfl⟩ := h
  exact hs.update

theorem answered (h : Frees s t) {n txtime residence} : Frees s (t.answered n txtime residence) := by
  unfold State.answered
  split
  · exact h
  · exact h.modTag.ite h.modTag.setCc.ccWake

section
variable (hs : s.ini.waiting = [])
include hs

theorem wakeTags (h : Frees s t) : Frees s t.wakeTags := by
  have hw : Machine.wakeAux t.ini.waiting.length t = t := by
    rw [h.1, hs]
    rfl
  unfold State.wakeTags
  rw [hw]
  extract_lets s1 s2
  have h2 : Frees s s2 := h.unpark.ite h
  exact h2.unpark.ite h2

theorem releaseTag (h : Frees s t) : Frees s (t.releaseTag n) := by
  unfold State.releaseTag
  split
  · exact h
  · exact (wakeTags hs (h.ini (i := { t.ini with tags := mdel t.ini.tags n }) rfl).ccLeave).unpark

theorem maybeRelease (h : Frees s t) : Frees s (t.maybeRelease n) := by
  unfold State.maybeRelease
  split
  · split
    · exact (h.releaseTag hs).ite h
    · exact h
  · exact h

/-- While no request waits for a tag, cancelling requests does no more than free tags. -/
theorem cancelReqs (h : Frees s t) {mine} : Frees s (t.cancelReqs mine) := by
  have hw : t.ini.waiting.filter (fun w => !mine w.owner) = t.ini.waiting := by rw [h.1, hs]; rfl
  exact Frees.foldl (h.ini hw) fun t x ht => maybeRelease hs (ht.ini rfl)

end
end Frees

/-! ## An answer that counts -/

theorem State.isAlias_own (s : State) : s.isAlias s.own = false := by
  simp [State.isAlias]

/-- The answer that LINV_ACK and GRANT_ANSWER bring for a tag's request. -/
def State.ownAnswer (s : State) (n : Nat) (e : TagEnt) (status : Nat) : Pkt :=
  { dest := s.own, src := e.pkt.dest, ptype := 0x40, tag := n, epoch := e.pkt.epoch, status := status, txtime := e.pkt.txtime }

/-- An open tag's answer reaches its owner (R246). -/
theorem tagAnswered_eq {status : Nat} {own : Owner → Bool} (ht : mget s.ini.tags n = some e) (ha : e.answered = false)
    (hd : e.done = false) (hf : e.flushed = false) (ho : own e.owner = true) (h1 : (typeAnswers e.pkt.ptype).contains status = true)
    (h2 : (answersOf e.pkt).contains status = true) (hb : status ≠ aBusy) :
    s.tagAnswered n status own = ((s.ownerAnswer n e (s.ownAnswer n e status)).maybeRelease n).settle := by
  have ha' : s.isAlias (s.ownAnswer n e status).dest = false := s.isAlias_own
  have hage : ¬ 500000 < (s.ownAnswer n e status).age := Nat.not_lt.mpr (Nat.zero_le 500000)
  have htag : (mget s.ini.tags (s.ownAnswer n e status).tag).filter (fun e' => e'.pkt.epoch == (s.ownAnswer n e status).epoch) = some e := by
    change (mget s.ini.tags n).filter (fun e' => e'.pkt.epoch == e.pkt.epoch) = some e
    rw [ht]
    simp [Option.filter]
  have hin : s.respIn 72 (s.ownAnswer n e status) = (s.ownerAnswer n e (s.ownAnswer n e status)).maybeRelease n := by
    unfold State.respIn
    rw [ha', if_neg (by decide), if_neg hage, htag]
    change (if (!(typeAnswers e.pkt.ptype).contains status) = true then _ else
      if (e.answered || (e.flushed && !e.loc) || !(answersOf e.pkt).contains status) = true then _ else
      if status = aBusy then _ else State.maybeRelease (if (e.done || e.flushed) = true then _ else _) n) = _
    rw [h1, h2, ha, hd, hf, if_neg (by decide), if_neg (by simp), if_neg hb, if_neg (by decide)]
    rfl
  unfold State.tagAnswered
  rw [ht]
  simp only [ho, if_true]
  exact congrArg State.settle hin

/-! ## Invalidations (R317) -/

theorem linvAck_exec {k h : Nat} (ht : mget s.ini.tags n = some e) (ha : e.answered = false) (hd : e.done = false)
    (hf : e.flushed = false) (ho : e.owner = .linv k h) (hp : e.pkt.ptype = 0x07) :
    ∃ u, Frees s u ∧ exec (.linvAck n) s = .next ((u.linvAcked k h).maybeRelease n).settle := by
  refine ⟨s.answered n (s.ownAnswer n e 0).txtime (s.ownAnswer n e 0).sentAgo, Frees.refl.answered, ?_⟩
  have hq : (answersOf e.pkt).contains 0 = true := by
    unfold answersOf
    rw [hp]
    rfl
  refine congrArg Host.Outcome.next ((tagAnswered_eq ht ha hd hf (by rw [ho]) (by rw [hp]; rfl) hq (by decide)).trans ?_)
  unfold State.ownerAnswer
  rw [ho]
  rfl

theorem lease_setLease_same (s : State) (k : Nat) (l : Lease) : (s.setLease k l).lease k = l := by
  simp only [State.setLease, State.lease, mgetD, mget_mset_same, Option.getD_some]

theorem linvAcked_idle {k h : Nat} {l : Lease} (hl : mget s.win.leases k = some l) (hw : l.writing = []) :
    s.linvAcked k h = s := by
  unfold State.linvAcked
  rw [hl]
  simp only [hw, if_true]

theorem linvAcked_eq {k h : Nat} {l : Lease} (hl : mget s.win.leases k = some l) (hw : l.writing ≠ []) :
    s.linvAcked k h = (if l.holders.filter (· != h) = [] ∧ l.ovf = false then
      (s.setLease k { l with holders := l.holders.filter (· != h) }).leaseDone k
      else s.setLease k { l with holders := l.holders.filter (· != h) }) := by
  unfold State.linvAcked
  rw [hl]
  simp only [hw, if_false]

/-- The state in which a lease entry has ended and nothing that waited on it has gone on. -/
def State.leaseGone (s : State) (k : Nat) : State :=
  { s.linvClose k with win := { (s.linvClose k).win with
      leases := mdel (s.linvClose k).win.leases k, released := (s.linvClose k).win.released ++ ((s.linvClose k).lease k).held } }

theorem leaseDone_eq (hs : s.Inv) {k : Nat} : s.leaseDone k = (s.lease k).writing.foldl (fun a w => a.visible w) (s.leaseGone k) := by
  have h : (s.linvClose k).lease k = s.lease k := by
    have h : Sends s (s.linvClose k) := (Sends.refl hs).cancelReqs
    unfold State.lease
    rw [h.leases_eq]
  change ((s.linvClose k).lease k).writing.foldl (fun a w => a.visible w) (s.leaseGone k) = _
  rw [h]

theorem leaseGone_spec (hs : s.Inv) {k : Nat} (hm : mwf s.win.leases) :
    mget (s.leaseGone k).win.leases k = none ∧ (s.leaseGone k).win.released = s.win.released ++ (s.lease k).held := by
  have h : Sends s (s.linvClose k) := (Sends.refl hs).cancelReqs
  have hl : (s.linvClose k).lease k = s.lease k := by
    unfold State.lease
    rw [h.leases_eq]
  constructor
  · change mget (mdel (s.linvClose k).win.leases k) k = none
    rw [h.leases_eq]
    exact mget_mdel_same hm k
  · change (s.linvClose k).win.released ++ _ = _
    rw [hl, h.released_eq]

theorem leaseGone_quiet {k : Nat} (hw : s.ini.waiting = []) : (s.leaseGone k).regs = s.regs ∧ KeepsMem s (s.leaseGone k) := by
  have h : Frees s (s.linvClose k) := Frees.refl.cancelReqs hw
  exact ⟨h.regs_eq, h.keepsMem.update⟩

/-! ## Grants (R427) -/

theorem grantAnswer_exec {k status : Nat} (ht : mget s.ini.tags n = some e) (ha : e.answered = false) (hd : e.done = false)
    (hf : e.flushed = false) (ho : e.owner = .grant k) (hp : e.pkt.ptype = 0x09) (hst : status = aAccepted ∨ status = aDeclined) :
    ∃ u, Frees s u ∧
      exec (.grantAnswer n status) s = .next ((u.grantSettle k e.pkt.gseq (status == aAccepted)).maybeRelease n).settle := by
  refine ⟨s.answered n (s.ownAnswer n e status).txtime (s.ownAnswer n e status).sentAgo, Frees.refl.answered, ?_⟩
  have hq : (answersOf e.pkt).contains status = true := by
    unfold answersOf
    rw [hp]
    rcases hst with rfl | rfl <;> rfl
  have ht9 : (typeAnswers e.pkt.ptype).contains status = true := by
    rw [hp]
    rcases hst with rfl | rfl <;> rfl
  have hb : status ≠ aBusy := by rcases hst with rfl | rfl <;> decide
  refine congrArg Host.Outcome.next ((tagAnswered_eq ht ha hd hf (by rw [ho]) ht9 hq hb).trans ?_)
  unfold State.ownerAnswer
  rw [ho]
  rfl

theorem keepsMem_setLock (h : KeepsMem s t) {k : Nat} {l : Lock} : KeepsMem s (t.setLock k l) := by
  obtain ⟨_, _, _, e⟩ := t.setLock_eq k l
  rw [e]
  exact h.update

theorem keepsMem_recLine (h : KeepsMem s t) {k op : Nat} {w : Waiter} : KeepsMem s (t.recLine k op w) := by
  unfold State.recLine
  split
  · obtain ⟨_, _, _, e⟩ := t.record_eq 3 _
    rw [e]
    exact h.update
  · exact h

theorem lock_recLine (s : State) (k op : Nat) (w : Waiter) (j : Nat) : (s.recLine k op w).lock j = s.lock j := by
  unfold State.recLine
  split
  · obtain ⟨_, _, _, e⟩ := s.record_eq 3 _
    rw [e]
    rfl
  · rfl

theorem State.Inv.recLine_keepsRegs (h : s.Inv) (k op : Nat) (w : Waiter) : KeepsRegs s (s.recLine k op w) [RegName.MIR_TXREC.addr 0] := by
  unfold State.recLine
  split
  · exact h.record_keepsRegs _ _
  · exact .refl

/-- A lock word whose grant goes to the head waiter `w`, with `r` behind it (R425). -/
def Lock.passed (l : Lock) (w : Waiter) (r : List Waiter) : Lock :=
  { st := .granting, owner := w.coord, func := w.func, wq := w.wq, gseq := add32 l.gseq 1, granteeIdx := w.wqidx, line := r }

/-- A lock passed to the head waiter, its grant not yet sent (R425). -/
def State.passTo (s : State) (k : Nat) (l : Lock) (w : Waiter) (r : List Waiter) : State :=
  ((s.recLine k 2 w).setLock k (l.passed w r)).bump .LCK_GRANT_COUNT

theorem lockPass_nil {k : Nat} {l : Lock} (hl : l.line = []) :
    s.lockPass k l = (s.cancelReqs (fun o => o == .grant k)).setLock k l.freed := by
  unfold State.lockPass
  rw [hl]

theorem lockPass_cons {k : Nat} {l : Lock} {w : Waiter} {r : List Waiter} (hl : l.line = w :: r) :
    s.lockPass k l = ((s.cancelReqs (fun o => o == .grant k)).passTo k l w r).whenProtected
      (.grant k (add32 l.gseq 1) (1 + 2 * b2n l.aband + 4 * b2n l.forced))
      (fun u => u.sendGrant k (1 + 2 * b2n l.aband + 4 * b2n l.forced)) := by
  unfold State.lockPass
  rw [hl]
  rfl

theorem passTo_lock (s : State) (k : Nat) (l : Lock) (w : Waiter) (r : List Waiter) : (s.passTo k l w r).lock k = l.passed w r := by
  change ((s.recLine k 2 w).setLock k (l.passed w r)).lock k = _
  exact State.lock_setLock_same ..

theorem passTo_count (h : s.Inv) (k : Nat) (l : Lock) (w : Waiter) (r : List Waiter) :
    (s.passTo k l w r).fld .LCK_GRANT_COUNT = min (2 ^ 32 - 1) (s.fld .LCK_GRANT_COUNT + 1) := by
  have hk : KeepsRegs s ((s.recLine k 2 w).setLock k (l.passed w r)) [RegName.MIR_TXREC.addr 0] :=
    (h.recLine_keepsRegs k 2 w).trans (h.recLine.setLock_keepsRegs k _)
  refine (fld_bump_same (h.recLine.setLock).regs .LCK_GRANT_COUNT 0 1 (by decide)).trans ?_
  rw [fld_of_keepsRegs hk (by decide)]
  rfl

theorem grantSettle_accepted {k g : Nat} (hst : (s.lock k).st = .granting) (hg : (s.lock k).gseq = g) :
    s.grantSettle k g true = s.setLock k { s.lock k with st := .held, granteeIdx := 0 } :=
  (if_pos ⟨hst, hg⟩).trans (if_pos rfl)

theorem grantSettle_declined {k g : Nat} (hst : (s.lock k).st = .granting) (hg : (s.lock k).gseq = g) :
    s.grantSettle k g false = (s.bump .LCK_DECLINE_COUNT).lockPass k (s.lock k) :=
  (if_pos ⟨hst, hg⟩).trans (if_neg Bool.false_ne_true)

/-- A grant of this lock is under way under the sequence number of the request (R420, R427). -/
structure GrantOut (s : State) (n : Nat) (e : TagEnt) (k : Nat) : Prop where
  tag : mget s.ini.tags n = some e
  answered : e.answered = false
  done : e.done = false
  flushed : e.flushed = false
  owner : e.owner = .grant k
  ptype : e.pkt.ptype = 0x09
  st : (s.lock k).st = .granting
  gseq : (s.lock k).gseq = e.pkt.gseq

section
variable {k : Nat} (hs : s.Inv) (hg : GrantOut s n e k)
include hg

theorem grantAccepted_completes : CompletesVia (fun v => (v.maybeRelease n).settle) (.grantAnswer n aAccepted) s (fun v =>
    v.lock k = { s.lock k with st := .held, granteeIdx := 0 } ∧ KeepsMem s v) := by
  obtain ⟨u, hu, hx⟩ := grantAnswer_exec hg.tag hg.answered hg.done hg.flushed hg.owner hg.ptype (.inl rfl)
  have hl := hu.lock_eq k
  rw [show (aAccepted == aAccepted) = true from rfl, grantSettle_accepted (hl ▸ hg.st) (hl ▸ hg.gseq), hl] at hx
  exact ⟨_, hx, State.lock_setLock_same .., keepsMem_setLock hu.keepsMem⟩

include hs

theorem grantDeclined_exec : ∃ u : State, u.Inv ∧ KeepsMem s u ∧ u.fld .LCK_GRANT_COUNT = s.fld .LCK_GRANT_COUNT ∧
    exec (.grantAnswer n aDeclined) s = .next ((u.lockPass k (s.lock k)).maybeRelease n).settle := by
  obtain ⟨u, hu, hx⟩ := grantAnswer_exec hg.tag hg.answered hg.done hg.flushed hg.owner hg.ptype (.inr rfl)
  have hl := hu.lock_eq k
  rw [show (aDeclined == aAccepted) = false from rfl, grantSettle_declined (hl ▸ hg.st) (hl ▸ hg.gseq), hl] at hx
  have hf : (u.bump .LCK_DECLINE_COUNT).fld .LCK_GRANT_COUNT = u.fld .LCK_GRANT_COUNT :=
    fld_setFld_ne (hu.inv hs).regs _ (by decide)
  exact ⟨_, (hu.inv hs).bump, hu.keepsMem.bump, hf.trans (fld_of_regs_eq hu.regs_eq _ _), hx⟩

theorem grantDeclined_frees (hl : (s.lock k).line = []) :
    CompletesVia (fun v => (v.maybeRelease n).settle) (.grantAnswer n aDeclined) s (fun v =>
      v.lock k = (s.lock k).freed ∧ KeepsMem s v) := by
  obtain ⟨u, hi, hm, -, hx⟩ := grantDeclined_exec hs hg
  rw [lockPass_nil hl] at hx
  exact ⟨_, hx, State.lock_setLock_same .., keepsMem_setLock (hm.trans (Sends.refl hi).cancelReqs.keepsMem)⟩

theorem grantDeclined_passes {w : Waiter} {r : List Waiter} (hl : (s.lock k).line = w :: r) :
    CompletesVia (fun v => ((v.whenProtected (.grant k (add32 (s.lock k).gseq 1) (1 + 2 * b2n (s.lock k).aband + 4 * b2n (s.lock k).forced))
        (fun x => x.sendGrant k (1 + 2 * b2n (s.lock k).aband + 4 * b2n (s.lock k).forced))).maybeRelease n).settle)
      (.grantAnswer n aDeclined) s (fun v =>
        v.lock k = (s.lock k).passed w r ∧
        v.fld .LCK_GRANT_COUNT = min (2 ^ 32 - 1) (s.fld .LCK_GRANT_COUNT + 1) ∧ KeepsMem s v) := by
  obtain ⟨u, hi, hm, hc, hx⟩ := grantDeclined_exec hs hg
  rw [lockPass_cons hl] at hx
  have hu : Sends u (u.cancelReqs (fun o => o == .grant k)) := (Sends.refl hi).cancelReqs
  refine ⟨_, hx, passTo_lock .., ?_, ?_⟩
  · rw [passTo_count hu.inv, hu.fld_eq (by decide), hc]
  · exact (keepsMem_setLock (keepsMem_recLine (hm.trans hu.keepsMem))).bump

/-- A grant unanswered at 2.0 ms leaves the lock HELD, with the fault latched (R427). -/
def State.grantLost (s : State) (k : Nat) : State := (s.setLock k { s.lock k with st := .held, granteeIdx := 0 }).latch .LCK_FLT_GRANTUNK

omit hs hg in
theorem grantUnknown_eq {g : Nat} (hst : (s.lock k).st = .granting) (hq : (s.lock k).gseq = g) :
    s.grantUnknown k g = (s.grantLost k).event0 0x21 0 (k % 2 ^ 24) (s.lock k).owner := if_pos ⟨hst, hq⟩

theorem grantTimeout_completes (hloc : e.loc = false) (hdue : e.origin + 2000000 ≤ s.tick) :
    CompletesVia (fun v => ((v.event0 0x21 0 (k % 2 ^ 24) (s.lock k).owner).maybeRelease n).settle) (.grantTimeout n) s (fun v =>
      v.lock k = { s.lock k with st := .held, granteeIdx := 0 } ∧ v.flag .LCK_FLT_GRANTUNK = true ∧ KeepsMem s v) := by
  have hu : Frees s (s.modTag n (fun e => { e with done := true })) := Frees.refl.modTag
  have hl := hu.lock_eq k
  have hx : exec (.grantTimeout n) s = .next (s.grantLate n) := rfl
  have hn : s.unknownTag n =
      ((s.modTag n (fun e => { e with done := true })).grantUnknown k e.pkt.gseq).maybeRelease n := by
    unfold State.unknownTag
    rw [hg.tag]
    dsimp only
    rw [hg.answered, hg.done, hg.flushed, hloc, hg.ptype, if_neg (by simpa using hdue)]
    unfold State.ownerUnknown
    rw [hg.owner]
  have hlate : s.grantLate n = (s.unknownTag n).settle := by
    unfold State.grantLate
    rw [hg.tag]
    dsimp only
    rw [hg.owner]
  rw [hlate, hn, grantUnknown_eq (hl ▸ hg.st) (hl ▸ hg.gseq), hl] at hx
  refine ⟨_, hx, ?_, flag_latch_same ?_ _ _ (by decide) (by decide), (keepsMem_setLock hu.keepsMem).latch⟩
  · change (State.setLock _ k _).lock k = _
    rw [State.lock_setLock_same, hl]
  · exact (hu.inv hs).setLock.regs

end

/-! ## Waiting records (R422, R429) -/

theorem lockProbeTimer_idle {x : WaitRec} (hx : mget s.lck.recs n = some x)
    (h : s.dstate = false ∨ s.tick < x.since + s.fld .LCK_PROBEINT_INT) : exec (.lockProbeTimer n) s = .next s := by
  refine congrArg Host.Outcome.next (?_ : s.lockProbeDue n = s)
  unfold State.lockProbeDue
  rw [hx]
  refine if_neg fun hc => ?_
  simp only [Bool.and_eq_true, decide_eq_true_eq] at hc
  obtain ⟨⟨⟨hd, -⟩, -⟩, hle⟩ := hc
  rcases h with h | h
  · rw [h] at hd
    cases hd
  · omega

theorem lockProbeTimer_due {x : WaitRec} (hx : mget s.lck.recs n = some x) (hd : s.dstate = true) (hq : x.queued = true)
    (ha : x.accepted = none) (hle : x.since + s.fld .LCK_PROBEINT_INT ≤ s.tick) :
    CompletesVia (fun v => (v.sendLockop (.lockProbe x.q x.cnt) x 4).settle) (.lockProbeTimer n) s (fun v =>
      mget v.lck.recs n = some { x with since := s.tick } ∧ v.regs = s.regs ∧ KeepsMem s v) := by
  refine ⟨s.modRec n (fun x => { x with since := s.tick }), congrArg Host.Outcome.next ?_, ?_, rfl, .of_eq rfl⟩
  · unfold State.lockProbeDue
    rw [hx]
    exact if_pos (by simp [hd, hq, ha, hle])
  · change mget (mmod s.lck.recs n (fun x => { x with since := s.tick })) n = _
    unfold mmod
    rw [hx]
    exact mget_mset_same ..

theorem recExpire_eq {x : WaitRec} {a g : Nat} (hx : mget s.lck.recs n = some x) (ha : x.accepted = some (a, g)) :
    s.recExpire n = if a + 10000000 ≤ s.tick then s.freeRec n else s := by
  unfold State.recExpire
  rw [hx]
  dsimp only
  rw [ha]

theorem waitingRecordExpire_completes {x : WaitRec} {a g : Nat} (hx : mget s.lck.recs n = some x) (ha : x.accepted = some (a, g))
    (hle : a + 10000000 ≤ s.tick) (hm : mwf s.lck.recs) :
    Completes (.waitingRecordExpire n) s (fun v => mget v.lck.recs n = none ∧
      (∀ k, k ≠ n → mget v.lck.recs k = mget s.lck.recs k) ∧ v.lck.words = s.lck.words ∧ v.regs = s.regs ∧ KeepsMem s v) := by
  refine ⟨s.freeRec n, congrArg Host.Outcome.next ((recExpire_eq hx ha).trans (if_pos hle)), ?_⟩
  unfold State.freeRec
  obtain ⟨r, hr⟩ := State.unpark_eq { s with lck := { s.lck with recs := mdel s.lck.recs n } } (fun r => r == .waitRec)
  rw [hr]
  exact ⟨mget_mdel_same hm n, fun k hk => mget_mdel_ne hm hk, rfl, rfl, .of_eq rfl⟩

end

/-- Settles O43: an answer that counts reaches its request's owner over the initiator's tables alone, and from there each row is one
branch of the lease entry, of the lock word or of the waiting record. -/
theorem lockAnswerAndTimerRowsComplete : Obligations.LockAnswerAndTimerRowsComplete := by
  unfold Obligations.LockAnswerAndTimerRowsComplete
  intro s hs
  refine ⟨fun n e ht ha hd hf => ⟨fun k h l ho hp hl => ?_, fun k ho hp hst hq => ?_⟩, fun n x hx => ⟨fun hd => ?_, ?_, ?_⟩⟩
  · obtain ⟨u, hu, hx⟩ := linvAck_exec ht ha hd hf ho hp
    have hul : mget u.win.leases k = some l := hu.win_eq ▸ hl
    refine ⟨fun hw => ⟨u, ?_, hu.win_eq, hu.regs_eq, hu.keepsMem⟩, fun hw hr => ?_, fun hw hr hov hm => ?_⟩
    · rwa [linvAcked_idle hul hw] at hx
    · rw [linvAcked_eq hul hw, if_neg (by rintro ⟨h1, h2⟩; rcases hr with hr | hr; exacts [hr h1, by rw [hr] at h2; cases h2])] at hx
      exact ⟨_, hx, lease_setLease_same .., hu.regs_eq, hu.keepsMem.update⟩
    · have hi := (hu.inv hs).setLease (k := k) (l := { l with holders := [] })
      rw [linvAcked_eq hul hw, if_pos ⟨hr, hov⟩, hr, leaseDone_eq hi, lease_setLease_same] at hx
      have hmu : mwf u.win.leases := hu.win_eq ▸ hm
      obtain ⟨h1, h2⟩ := leaseGone_spec hi (k := k) (mwf_mset hmu k _)
      refine ⟨_, hx, h1, ?_, fun hwait => ?_⟩
      · rw [h2, lease_setLease_same]
        change u.win.released ++ l.held = _
        rw [hu.win_eq]
      · obtain ⟨h3, h4⟩ := leaseGone_quiet (s := u.setLease k { l with holders := [] }) (k := k) (hu.1.trans hwait)
        exact ⟨h3.trans hu.regs_eq, hu.keepsMem.trans h4⟩
  · have hg : GrantOut s n e k := ⟨ht, ha, hd, hf, ho, hp, hst, hq⟩
    exact ⟨grantAccepted_completes hg, grantDeclined_frees hs hg, fun w r hl => grantDeclined_passes hs hg hl,
      grantTimeout_completes hs hg⟩
  · exact lockProbeTimer_idle hx (.inl hd)
  · exact fun hd hq ha => ⟨lockProbeTimer_due hx hd hq ha, fun h => lockProbeTimer_idle hx (.inr h)⟩
  · exact fun a g ha => ⟨waitingRecordExpire_completes hx ha,
      fun hlt => congrArg Host.Outcome.next ((recExpire_eq hx ha).trans (if_neg (Nat.not_le.mpr hlt)))⟩

end Sys2Proof.Machine

/-! # Transit packets and piste control packets (R446, R454, R467, R471, R475) -/

namespace Sys2Proof.Machine

section
variable {s t : State}

/-! ## The head of an input queue -/

theorem routeKey_single {key : Nat} {x : InPkt} {u : State} (hq : mgetD s.rte.inq key [] = [x])
    (hr : s.routeOne x (some key) = (u, true)) : s.routeKey key = u.setInq key [] := by
  unfold State.routeKey
  rw [hq]
  change routeKeyAux key (0 + 1) s = _
  unfold routeKeyAux
  rw [hq]
  dsimp only
  rw [hr]
  rfl

theorem routeReinj_of_empty (h : s.rte.reinj = []) : s.routeReinj = s := by
  have hs : ({ s with rte := { s.rte with reinj := [] } } : State) = s := by rw [← h]
  unfold State.routeReinj
  rw [h]
  exact hs

theorem mgetD_setInq_same (s : State) (key : Nat) (x : InPkt) : mgetD (s.setInq key [x]).rte.inq key [] = [x] := by
  change (mget (mset s.rte.inq key [x]) key).getD [] = _
  rw [mget_mset_same]
  rfl

/-- A packet at an empty input that leaves it at once, while nothing waits to be re-injected. -/
theorem arrive_eq_of_routeOne {key : Nat} {i : InPkt} {u : State} (hq : mgetD s.rte.inq key [] = []) (hat : i.at_ = s.tick)
    (hr : (s.setInq key [i]).routeOne i (some key) = (u, true)) (hre : u.rte.reinj = []) : s.arrive key i = u.setInq key [] := by
  have hi : ({ i with at_ := s.tick } : InPkt) = i := by rw [← hat]
  unfold State.arrive
  rw [hq]
  simp only [if_true, List.nil_append]
  rw [hi, routeKey_single (mgetD_setInq_same s key i) hr]
  exact routeReinj_of_empty hre

/-! ## The routes of the boundary cases -/

theorem route_deliver {i : InPkt} (hc : i.pkt.isCtl = false) (hr : i.pkt.redir = false) (hl : s.isLocal i.pkt.dest = true) :
    s.route i = .deliver := by
  unfold State.route
  simp only [hc, hr, hl, Bool.false_and, if_true, Bool.false_eq_true, if_false]

theorem route_hopLimit {i : InPkt} (hc : i.pkt.isCtl = false) (hr : i.pkt.redir = false) (hl : s.isLocal i.pkt.dest = false)
    (hp : i.port < 72) (hh : 15 < i.pkt.hops + 1) : s.route i = .hopLimit := by
  unfold State.route
  simp only [hc, hr, hl, Bool.false_and, Bool.false_eq_true, if_false, hp, hh, and_self, if_true]

theorem heldBack_of_port {i : InPkt} (hp : i.port < 72) : s.heldBack i = false := by
  have h : (i.port == 72) = false := by simp only [beq_eq_false_iff_ne]; omega
  simp only [State.heldBack, h, Bool.false_and]

/-- A packet that is routed to this device and has arrived whole. -/
theorem routeOne_deliver {i : InPkt} {key : Nat} (hp : i.port < 72) (hr : s.route i = .deliver) (hw : i.part = none) :
    s.routeOne i (some key) = ((s.freeSlots key i.flits).toLocal i, true) := by
  unfold State.routeOne
  simp only [heldBack_of_port hp, hr, hw, Bool.false_eq_true, if_false, Option.isSome_none]
  rfl

theorem routeOne_hopLimit {i : InPkt} {key : Nat} (hp : i.port < 72) (hr : s.route i = .hopLimit) (hw : i.part = none) :
    s.routeOne i (some key) = ((s.freeSlots key i.flits).bump .RTE_HOPLIM_COUNT, true) := by
  unfold State.routeOne
  simp only [heldBack_of_port hp, hr, Bool.false_eq_true, if_false]
  unfold State.trail
  rw [hw]
  rfl

/-- What freeing slots leaves alone. -/
theorem freeSlots_eq (s : State) (key n : Nat) : ∃ l, s.freeSlots key n = { s with lnk := l } := by
  unfold State.freeSlots
  split
  · exact ⟨_, rfl⟩
  · exact ⟨s.lnk, rfl⟩

theorem toLocal_eq {i : InPkt} (hf : s.ctlFull = false) :
    s.toLocal i = { s with rte := { s.rte with deliver := s.rte.deliver ++ [{ i with place := placeOf i.pkt }] } } := by
  refine if_neg ?_
  rw [hf]
  simp

/-- A packet handed to this device: it stands at its place, with no register and no host memory changed. -/
theorem toLocal_freeSlots {i : InPkt} {key n : Nat} (hf : s.ctlFull = false) :
    ∃ l, (s.freeSlots key n).toLocal i =
      { s with lnk := l, rte := { s.rte with deliver := s.rte.deliver ++ [{ i with place := placeOf i.pkt }] } } := by
  obtain ⟨l, hl⟩ := freeSlots_eq s key n
  rw [hl]
  exact ⟨l, toLocal_eq (s := { s with lnk := l }) hf⟩

/-! ## Transit packets -/

/-- A packet as it stands at its input port `p` (R219). -/
def State.entering (s : State) (p : Nat) (k : Pkt) : InPkt :=
  { pkt := k, port := p, rx := s.tick, delay := s.fld .FLK_PDELAY_DELAY p, at_ := s.tick }

theorem port_lt_of_portIn {p : Nat} (h : s.portIn p = true) : p < 72 := by
  simp only [State.portIn, Bool.and_eq_true, decide_eq_true_eq] at h
  exact h.1.1

theorem transit_illegal {p : Nat} {k : Pkt} (hp : s.portIn p = true) (hk : k.legal = false) : s.transit p k = s.badPkt p := by
  unfold State.transit
  simp only [hp, hk, Bool.not_true, Bool.not_false, Bool.false_eq_true, if_false, if_true]

theorem transit_legal {p : Nat} {k : Pkt} (hp : s.portIn p = true) (hk : k.legal = true) : s.transit p k =
    (if k.vc = 6 then s.pistePkt (inKey p 6) (s.entering p k) else s.arrive (inKey p k.vc) (s.entering p k)).settle := by
  unfold State.transit
  simp only [hp, hk, Bool.not_true, Bool.false_eq_true, if_false]
  rfl

theorem placeOf_resp {k : Pkt} (hc : k.isCtl = false) (hr : k.isResp = true) : placeOf k = k.tag % 18 := by
  simp only [placeOf, hc, hr, Bool.true_or, Bool.false_eq_true, if_false, if_true]

theorem transit_delivers {p : Nat} {k : Pkt} (hp : s.portIn p = true) (hk : k.legal = true) (hf : s.ctlFull = false)
    (hc : k.isCtl = false) (hl : s.isLocal k.dest = true) (hr : k.redir = false) (hq : mgetD s.rte.inq (inKey p k.vc) [] = [])
    (hre : s.rte.reinj = []) :
    CompletesVia State.settle (.transitPacket p k) s (fun u =>
      u.rte.deliver = s.rte.deliver ++ [{ s.entering p k with place := placeOf k }] ∧ (k.isResp = true → placeOf k = k.tag % 18) ∧
      u.regs = s.regs ∧ KeepsMem s u) := by
  refine ⟨_, congrArg Host.Outcome.next (transit_legal hp hk), ?_⟩
  by_cases hv : k.vc = 6
  · rw [if_pos hv]
    have hx : s.pistePkt (inKey p 6) (s.entering p k) = (s.freeSlots (inKey p 6) 0).toLocal (s.entering p k) := if_pos hl
    obtain ⟨l, e⟩ := toLocal_freeSlots (i := s.entering p k) (key := inKey p 6) (n := 0) hf
    rw [hx, e]
    exact ⟨rfl, placeOf_resp hc, rfl, .of_eq rfl⟩
  · rw [if_neg hv]
    obtain ⟨l, e⟩ := toLocal_freeSlots (s := s.setInq (inKey p k.vc) [s.entering p k]) (i := s.entering p k)
      (key := inKey p k.vc) (n := 0) hf
    have hx := routeOne_deliver (s := s.setInq (inKey p k.vc) [s.entering p k]) (key := inKey p k.vc) (i := s.entering p k)
      (port_lt_of_portIn hp) (route_deliver hc hr hl) rfl
    rw [arrive_eq_of_routeOne hq rfl hx (by rw [show (s.entering p k).flits = 0 from rfl, e]; exact hre),
      show (s.entering p k).flits = 0 from rfl, e]
    exact ⟨rfl, placeOf_resp hc, rfl, .of_eq rfl⟩

/-- A packet past its hop limit: it counts, and nothing else of the registers changes (R454). -/
theorem hopLimit_spec {u : State} (hr : u.regs = s.regs) (hi : u.Inv) (hm : KeepsMem s u) :
    (u.bump .RTE_HOPLIM_COUNT).fld .RTE_HOPLIM_COUNT = min (2 ^ 32 - 1) (s.fld .RTE_HOPLIM_COUNT + 1) ∧
      KeepsRegs s (u.bump .RTE_HOPLIM_COUNT) [RegName.RTE_HOPLIM.addr 0] ∧ KeepsMem s (u.bump .RTE_HOPLIM_COUNT) := by
  refine ⟨(fld_bump_same hi.regs .RTE_HOPLIM_COUNT 0 1 (by decide)).trans ?_, (KeepsRegs.of_eq hr).bump hi (.head _), hm.bump⟩
  rw [fld_of_regs_eq hr]
  rfl

theorem transit_hopLimit (hs : s.Inv) {p : Nat} {k : Pkt} (hp : s.portIn p = true) (hk : k.legal = true)
    (hc : k.isCtl = false) (hl : s.isLocal k.dest = false) (hv : k.vc ≠ 6) (hr : k.redir = false) (hh : 15 < k.hops + 1)
    (hq : mgetD s.rte.inq (inKey p k.vc) [] = []) (hre : s.rte.reinj = []) :
    CompletesVia State.settle (.transitPacket p k) s (fun u => u.rte.deliver = s.rte.deliver ∧
      u.fld .RTE_HOPLIM_COUNT = min (2 ^ 32 - 1) (s.fld .RTE_HOPLIM_COUNT + 1) ∧ KeepsRegs s u [RegName.RTE_HOPLIM.addr 0] ∧
      KeepsMem s u) := by
  refine ⟨_, congrArg Host.Outcome.next (transit_legal hp hk), ?_⟩
  rw [if_neg hv]
  obtain ⟨l, e⟩ := freeSlots_eq (s.setInq (inKey p k.vc) [s.entering p k]) (inKey p k.vc) 0
  have hx := routeOne_hopLimit (s := s.setInq (inKey p k.vc) [s.entering p k]) (key := inKey p k.vc) (i := s.entering p k)
    (port_lt_of_portIn hp) (route_hopLimit hc hr hl (port_lt_of_portIn hp) hh) rfl
  rw [show (s.entering p k).flits = 0 from rfl, e] at hx
  rw [arrive_eq_of_routeOne hq rfl hx hre]
  obtain ⟨h1, h2, h3⟩ := hopLimit_spec (u := { s.setInq (inKey p k.vc) [s.entering p k] with lnk := l }) rfl hs.update (.of_eq rfl)
  exact ⟨rfl, h1, h2, h3⟩

theorem transit_pisteHopLimit (hs : s.Inv) {p : Nat} {k : Pkt} (hp : s.portIn p = true) (hk : k.legal = true)
    (hl : s.isLocal k.dest = false) (hv : k.vc = 6) (hh : 15 < k.hops + 1) :
    CompletesVia State.settle (.transitPacket p k) s (fun u =>
      u.fld .RTE_HOPLIM_COUNT = min (2 ^ 32 - 1) (s.fld .RTE_HOPLIM_COUNT + 1) ∧ KeepsRegs s u [RegName.RTE_HOPLIM.addr 0] ∧
      KeepsMem s u) := by
  refine ⟨_, congrArg Host.Outcome.next (transit_legal hp hk), ?_⟩
  rw [if_pos hv]
  have hx : s.pistePkt (inKey p 6) (s.entering p k) = (s.freeSlots (inKey p 6) 0).bump .RTE_HOPLIM_COUNT := by
    unfold State.pistePkt
    exact (if_neg (ne_true_of_eq_false hl)).trans (if_pos hh)
  obtain ⟨l, e⟩ := freeSlots_eq s (inKey p 6) 0
  rw [hx, e]
  exact hopLimit_spec rfl hs.update (.of_eq rfl)

/-! ## A packet queued for a port -/

theorem port_modPort_same (s : State) (p : Nat) (f : PortSt → PortSt) : (s.modPort p f).port p = f (s.port p) := by
  change (mget (mset s.lnk.ports p (f (s.port p))) p).getD {} = _
  rw [mget_mset_same]
  rfl

theorem queue_setQueue_append (ps : PortSt) (v : Nat) (l : List TxPkt) (x : TxPkt) : (ps.setQueue v (l ++ [x])).queue v = l ++ [x] := by
  have h : l ++ [x] ≠ [] := by simp
  unfold PortSt.setQueue PortSt.queue
  rw [if_neg h]
  change (mget (mset ps.txq v (l ++ [x])) v).getD [] = _
  rw [mget_mset_same]
  rfl

/-- A packet queued stands last on its channel. -/
theorem queuePkt_queue (s : State) (p v : Nat) (i : InPkt) (src via : Option Nat) :
    ((s.queuePkt p v i src via).port p).queue v = (s.port p).queue v ++ [{
      inp := { i with part := none }, rest := i.part.getD (i.pkt.flits v), closed := i.part.isNone, src := src, via := via,
      ord := (s.port p).ordNext }] := by
  unfold State.queuePkt
  rw [port_modPort_same]
  exact queue_setQueue_append ..

/-- A piste packet as it leaves by a transit entry: the entry's label, and one hop more (R454, R467). -/
def pisteHop (k : Pkt) (e : TransitEnt) : Pkt := { k with plabel := e.outLabel, hops := k.hops + 1 }

/-- A piste packet goes on by its entry's port, under the label that the entry gives it (R467). -/
def State.pisteOn (s : State) (p : Nat) (k : Pkt) (e : TransitEnt) : State :=
  s.commit (s.entering p k) (some (inKey p 6)) e.outPort 6 { k with plabel := e.outLabel }

theorem pisteOn_counts (hs : s.Inv) {p : Nat} {k : Pkt} {e : TransitEnt} (hp : p < 72) (hv : k.vc = 6) :
    Counts (s.queuePkt e.outPort 6 { s.entering p k with pkt := pisteHop k e } none (some (inKey p 6))) (s.pisteOn p k e) := by
  have hk6 : ({ k with plabel := e.outLabel, hops := k.hops + 1, vc := 6 } : Pkt) = pisteHop k e := by
    unfold pisteHop
    rw [← hv]
  have hvia : (some (inKey p 6)).filter (fun x => decide (x < 576)) = some (inKey p 6) := by
    have : inKey p 6 < 576 := by unfold inKey; omega
    simp [Option.filter, this]
  have h1 : (s.entering p k).port < 72 := hp
  have h2 : (s.entering p k).flits = 0 := rfl
  unfold State.pisteOn State.commit
  simp only [h1, h2, if_true, hvia]
  rw [hk6]
  exact State.Inv.counts_pmu hs.queuePkt _

theorem pisteOn_spec (hs : s.Inv) {p : Nat} {k : Pkt} {e : TransitEnt} (hp : p < 72) (hv : k.vc = 6) :
    ((s.pisteOn p k e).port e.outPort).queue 6 = (s.port e.outPort).queue 6 ++ [{
      inp := { s.entering p k with pkt := pisteHop k e }, rest := (pisteHop k e).flits 6, via := some (inKey p 6),
      ord := (s.port e.outPort).ordNext }] ∧
    (s.pisteOn p k e).rte = s.rte ∧ KeepsCounted s (s.pisteOn p k e) [] ∧ KeepsMem s (s.pisteOn p k e) := by
  have hc := pisteOn_counts hs (e := e) hp hv
  have hk : KeepsCounted s (s.pisteOn p k e) [] := KeepsCounted.trans (.of_eq rfl) hc.kept
  obtain ⟨_, _, _, _, h⟩ := hc.eq
  rw [h] at hk ⊢
  exact ⟨queuePkt_queue s e.outPort 6 { s.entering p k with pkt := pisteHop k e } none (some (inKey p 6)), rfl, hk, .of_eq rfl⟩

theorem pistePkt_forwards {p : Nat} {k : Pkt} {e : TransitEnt} (hl : s.isLocal k.dest = false) (hh : k.hops + 1 ≤ 15)
    (he : mget s.rte.transit (pisteKey p k.plabel) = some e) :
    s.pistePkt (inKey p 6) (s.entering p k) =
      if k.ptype = 0x0B then (s.pisteOn p k e).freeEntry (pisteKey p k.plabel) else s.pisteOn p k e := by
  unfold State.pistePkt
  refine (if_neg (ne_true_of_eq_false hl)).trans ((if_neg (Nat.not_lt.mpr hh)).trans ?_)
  rw [show mget s.rte.transit (pisteKey (s.entering p k).port (s.entering p k).pkt.plabel) = some e from he]
  rfl

theorem transit_pisteForwards (hs : s.Inv) {p : Nat} {k : Pkt} {e : TransitEnt} (hp : s.portIn p = true) (hk : k.legal = true)
    (hl : s.isLocal k.dest = false) (hv : k.vc = 6) (hh : k.hops + 1 ≤ 15) (he : mget s.rte.transit (pisteKey p k.plabel) = some e)
    (hm : mwf s.rte.transit) :
    CompletesVia State.settle (.transitPacket p k) s (fun u =>
      (u.port e.outPort).queue 6 = (s.port e.outPort).queue 6 ++ [{
        inp := { s.entering p k with pkt := pisteHop k e }, rest := (pisteHop k e).flits 6, via := some (inKey p 6),
        ord := (s.port e.outPort).ordNext }] ∧
      (mget u.rte.transit (pisteKey p k.plabel)).isSome = decide (k.ptype ≠ 0x0B) ∧ KeepsCounted s u [] ∧ KeepsMem s u) := by
  obtain ⟨hq, hr, hc, hmem⟩ := pisteOn_spec hs (e := e) (port_lt_of_portIn hp) hv
  refine ⟨_, congrArg Host.Outcome.next (transit_legal hp hk), ?_⟩
  rw [if_pos hv, pistePkt_forwards hl hh he]
  split
  next hb =>
    have hgone : mget ((s.pisteOn p k e).freeEntry (pisteKey p k.plabel)).rte.transit (pisteKey p k.plabel) = none := by
      change mget (mdel (s.pisteOn p k e).rte.transit _) _ = none
      rw [hr]
      exact mget_mdel_same hm _
    exact ⟨hq, by rw [hgone]; simp [hb], hc, hmem⟩
  next hb => exact ⟨hq, by rw [hr, he]; simp [hb], hc, hmem⟩

/-! ## The escape timer (R446) -/

theorem escwait_head {p v : Nat} {x : InPkt} {r : List InPkt} (hq : mgetD s.rte.inq (inKey p v) [] = x :: r) :
    s.escwait p v = if x.at_ + s.fld .RTE_CTL_ESCWAIT ≤ s.tick then (s.routeKey (inKey p v)).settle else s := by
  unfold State.escwait
  rw [hq]

/-- A packet that moves to escape, counted (R446). -/
def State.escaped (s : State) (k : Pkt) : State := (s.bump .RTE_ESC_COUNT).pmu_ { code := 0x18, tclass := some k.tclass }

theorem routeOne_escapes {x : InPkt} {key q w : Nat} {k' : Pkt} (hb : s.heldBack x = false) (hr : s.route x = .send q w k' true false)
    (h4 : x.pkt.vc ≠ 4) (h5 : x.pkt.vc ≠ 5) (hbusy : s.blockBusy (0x40 + q / 8) = false) :
    s.routeOne x (some key) =
      (((s.escaped k').trail x (some key) (.stream q w)).commit { x with esc := true } (some key) q w k', true) := by
  unfold State.routeOne
  simp only [hb, hr, hbusy, h4, h5, or_self, and_false, Bool.false_eq_true, if_false, if_true, Bool.or_true, Bool.true_or]
  rfl

theorem escaped_spec (hs : s.Inv) (k : Pkt) :
    (s.escaped k).fld .RTE_ESC_COUNT = min (2 ^ 32 - 1) (s.fld .RTE_ESC_COUNT + 1) ∧
      KeepsCounted s (s.escaped k) [RegName.RTE_ESC.addr 0] ∧ KeepsMem s (s.escaped k) := by
  have hc : Counts _ (s.escaped k) := State.Inv.counts_pmu hs.bump _
  refine ⟨(hc.fld_eq (.inl (by decide))).trans (fld_bump_same hs.regs .RTE_ESC_COUNT 0 1 (by decide)),
    KeepsCounted.trans (.of_keepsRegs ?_) (hc.kept.mono fun _ h => absurd h List.not_mem_nil), KeepsMem.trans ?_ hc.keepsMem⟩
  · exact KeepsRegs.refl.bump hs (.head _)
  · exact KeepsMem.refl.bump

theorem escwait_escapes (hs : s.Inv) {p v q w : Nat} {x : InPkt} {k' : Pkt} (hq : mgetD s.rte.inq (inKey p v) [] = [x])
    (hdue : x.at_ + s.fld .RTE_CTL_ESCWAIT ≤ s.tick) (hb : s.heldBack x = false) (hr : s.route x = .send q w k' true false)
    (h4 : x.pkt.vc ≠ 4) (h5 : x.pkt.vc ≠ 5) (hbusy : s.blockBusy (0x40 + q / 8) = false) :
    CompletesVia (fun u => (((u.trail x (some (inKey p v)) (.stream q w)).commit { x with esc := true } (some (inKey p v)) q w k').setInq
        (inKey p v) []).settle) (.escwaitExpire p v) s (fun u =>
      u.fld .RTE_ESC_COUNT = min (2 ^ 32 - 1) (s.fld .RTE_ESC_COUNT + 1) ∧ KeepsCounted s u [RegName.RTE_ESC.addr 0] ∧ KeepsMem s u) := by
  refine ⟨s.escaped k', congrArg Host.Outcome.next ?_, escaped_spec hs k'⟩
  rw [escwait_head hq, if_pos hdue, routeKey_single hq (routeOne_escapes hb hr h4 h5 hbusy)]

/-! ## Control packets -/

theorem control_illegal {ty p : Nat} {k : Pkt} (hp : s.portIn p = true) (ht : k.ptype = ty) (hk : k.legal = false) :
    s.control ty p k = s.badPkt p := by
  unfold State.control
  simp only [hp, ht, hk, bne_self_eq_false, Bool.not_true, Bool.or_self, Bool.not_false, Bool.false_eq_true, if_false, if_true]

theorem control_full {ty p : Nat} {k : Pkt} (hp : s.portIn p = true) (ht : k.ptype = ty) (hk : k.legal = true)
    (hf : s.ctlFull = true) : s.control ty p k = s := by
  unfold State.control
  simp only [hp, ht, hk, hf, bne_self_eq_false, Bool.not_true, Bool.or_self, Bool.false_eq_true, if_false, if_true]

theorem control_legal {ty p : Nat} {k : Pkt} (hp : s.portIn p = true) (ht : k.ptype = ty) (hk : k.legal = true)
    (hf : s.ctlFull = false) : s.control ty p k = (s.ctlIn p k).settle := by
  unfold State.control
  simp only [hp, ht, hk, hf, bne_self_eq_false, Bool.not_true, Bool.or_self, Bool.false_eq_true, if_false]

/-- The rows of piste control packets, each with its type. -/
def pisteRows (p : Nat) (k : Pkt) : List (Nat × Instr) :=
  [(0x81, .psetup p k), (0x82, .pconfirm p k), (0x83, .preject p k), (0x84, .pbreak p k)]

theorem exec_pisteRow {p : Nat} {k : Pkt} {x : Nat × Instr} (hx : x ∈ pisteRows p k) : exec x.2 s = .next (s.control x.1 p k) := by
  simp only [pisteRows, List.mem_cons, List.not_mem_nil, or_false] at hx
  rcases hx with rfl | rfl | rfl | rfl <;> rfl

theorem ctlIn_psetup {p : Nat} {k : Pkt} (h : k.ptype = 0x81) : s.ctlIn p k = s.psetupIn p k := by
  unfold State.ctlIn
  rw [h]
  rfl

theorem ctlIn_pconfirm {p : Nat} {k : Pkt} (h : k.ptype = 0x82) : s.ctlIn p k = s.pconfirmIn p k := by
  unfold State.ctlIn
  rw [h]
  rfl

theorem ctlIn_preject {p : Nat} {k : Pkt} (h : k.ptype = 0x83) : s.ctlIn p k = s.prejectIn p k := by
  unfold State.ctlIn
  rw [h]
  rfl

theorem ctlIn_pbreak {p : Nat} {k : Pkt} (h : k.ptype = 0x84) : s.ctlIn p k = s.pbreakIn p k := by
  unfold State.ctlIn
  rw [h]
  rfl


/-- Where a control packet of this port and type brings the control stop. -/
theorem exec_ctlRow {p ty : Nat} {k : Pkt} {c : Instr} {u : State} (hc : exec c s = .next (s.control ty p k)) (hp : s.portIn p = true)
    (ht : k.ptype = ty) (hk : k.legal = true) (hf : s.ctlFull = false) (hu : s.ctlIn p k = u) : exec c s = .next u.settle := by
  rw [hc, control_legal hp ht hk hf, hu]

/-! ## Piste setup (R471) -/

theorem psetupIn_destination {p : Nat} {k : Pkt} (h : bits (pay k 6 1) 0 4 ≤ bits (pay k 7 1) 0 4) :
    s.psetupIn p k = s.sendCtl p 0x82 (k.payload.take 5 ++ zeros 11) := if_pos h

/-- The transit entry that a setup reserves on the output port `q` (R471). -/
def setupEntry (q : Nat) (k : Pkt) : TransitEnt :=
  { outPort := q, outLabel := 0, share := pay k 5 1, origin := bits (pay k 0 4) 0 20, piste := pay k 4 1 }

/-- The state in which a setup has its transit entry (R471). -/
def State.pisteReserved (s : State) (p l q : Nat) (k : Pkt) : State :=
  { s.fresh.2 with rte := { s.rte with transit := mset s.rte.transit (pisteKey p l) (setupEntry q k) } }

theorem psetupIn_transit {p l q : Nat} {k : Pkt} (h : bits (pay k 7 1) 0 4 < bits (pay k 6 1) 0 4) (hl : s.freeLabel p = some l)
    (hq : s.pistePort (pathHop k (bits (pay k 7 1) 0 4)).1 (pathHop k (bits (pay k 7 1) 0 4)).2 (pay k 5 1) = some q) :
    s.psetupIn p k =
      (s.pisteReserved p l q k).sendCtl q 0x81 (k.payload.take 7 ++ leBytes 1 (bits (pay k 7 1) 0 4 + 1) ++ k.payload.drop 8) := by
  unfold State.psetupIn
  dsimp only
  rw [if_neg (Nat.not_le.mpr h), hl, hq]
  rfl

theorem psetupIn_rejected {p : Nat} {k : Pkt} (h : bits (pay k 7 1) 0 4 < bits (pay k 6 1) 0 4)
    (hn : s.freeLabel p = none ∨
      s.pistePort (pathHop k (bits (pay k 7 1) 0 4)).1 (pathHop k (bits (pay k 7 1) 0 4)).2 (pay k 5 1) = none) :
    s.psetupIn p k = s.sendCtl p 0x83 (k.payload.take 5 ++ zeros 3 ++ leBytes 4 s.own ++ zeros 4) := by
  unfold State.psetupIn
  dsimp only
  rw [if_neg (Nat.not_le.mpr h)]
  rcases hn with hn | hn
  · rw [hn]
  · rw [hn]
    cases s.freeLabel p <;> rfl

/-! ## Confirm, reject and break at the origin (R471, R475) -/

/-- A piste's record at its origin replaced. -/
def State.setPiste (s : State) (n : Nat) (x : Piste) : State := { s with rte := { s.rte with pistes := mset s.rte.pistes n x } }

/-- A piste's record at its origin deleted. -/
def State.dropPiste (s : State) (n : Nat) : State := { s with rte := { s.rte with pistes := mdel s.rte.pistes n } }

section
variable {p : Nat} {k : Pkt} {y : Piste} (ho : bits (pay k 0 4) 0 20 = s.own) (hy : mget s.rte.pistes (pay k 4 1) = some y)
  (hout : y.outPort = p)
include ho hy hout

theorem pconfirmIn_origin (hst : y.st = 1) : s.pconfirmIn p k =
    (s.setPiste (pay k 4 1) { y with st := 2, outLabel := bits (pay k 8 2) 0 10 }).endB
      (fun b => b.op == 0x30 && b.obj == pay k 4 1) 0 y.hops (y.outPort + 2 ^ 16 * bits (pay k 8 2) 0 10) := by
  unfold State.pconfirmIn
  dsimp only
  rw [if_pos ho, hy]
  exact if_pos ⟨hst, hout⟩

theorem prejectIn_origin (hst : y.st = 1) : s.prejectIn p k =
    (s.dropPiste (pay k 4 1)).endB (fun b => b.op == 0x30 && b.obj == pay k 4 1) sNoResource (bits (pay k 8 4) 0 20) := by
  unfold State.prejectIn
  dsimp only
  rw [if_pos ho, hy]
  exact if_pos ⟨hst, hout⟩

theorem pbreakIn_origin (hd : bitAt (pay k 8 1) 0 = false) (hst : y.st = 2) : s.pbreakIn p k =
    ((((s.setPiste (pay k 4 1) { y with st := 3 }).unqueuePiste y.outPort y.outLabel).unholdPiste (pay k 4 1)).latch
      .RTE_FLT_PISTEBRK).raise (512 + p) 0x1006 (pay k 4 1) := by
  unfold State.pbreakIn
  dsimp only
  rw [if_neg (ne_true_of_eq_false hd), if_pos ho, hy]
  dsimp only
  rw [if_pos hout]
  unfold State.pisteBreak
  rw [hy]
  dsimp only
  rw [hst]
  rfl

end

theorem setPiste_spec (s : State) (n : Nat) (x : Piste) :
    mget (s.setPiste n x).rte.pistes n = some x ∧ (s.setPiste n x).regs = s.regs ∧ KeepsMem s (s.setPiste n x) :=
  ⟨mget_mset_same .., rfl, .of_eq rfl⟩

theorem dropPiste_spec (n : Nat) (hm : mwf s.rte.pistes) :
    mget (s.dropPiste n).rte.pistes n = none ∧ (s.dropPiste n).regs = s.regs ∧ KeepsMem s (s.dropPiste n) :=
  ⟨mget_mdel_same hm n, rfl, .of_eq rfl⟩

/-! ## Confirm, reject and break in transit (R471, R475) -/

/-- A transit entry replaced. -/
def State.setEntry (s : State) (key : Nat) (e : TransitEnt) : State := { s with rte := { s.rte with transit := mset s.rte.transit key e } }

section
variable {p key : Nat} {k : Pkt} {e : TransitEnt} (ho : bits (pay k 0 4) 0 20 ≠ s.own)
  (he : s.entryOut p (bits (pay k 0 4) 0 20) (pay k 4 1) = some (key, e))
include ho he

theorem pconfirmIn_transit : s.pconfirmIn p k = (s.setEntry key { e with outLabel := bits (pay k 8 2) 0 10 }).sendCtl (key / 1024) 0x82
    (k.payload.take 5 ++ zeros 3 ++ leBytes 2 (key % 1024) ++ zeros 6) := by
  unfold State.pconfirmIn
  dsimp only
  rw [if_neg ho, he]
  rfl

theorem prejectIn_transit : s.prejectIn p k = (s.freeEntry key).sendCtl (key / 1024) 0x83 k.payload := by
  unfold State.prejectIn
  dsimp only
  rw [if_neg ho, he]

theorem pbreakIn_transit (hd : bitAt (pay k 8 1) 0 = false) :
    s.pbreakIn p k = (s.freeEntry key).sendBreak (key / 1024) (bits (pay k 0 4) 0 20) (pay k 4 1) false := by
  unfold State.pbreakIn
  dsimp only
  rw [if_neg (ne_true_of_eq_false hd), if_neg ho, he]

end

theorem setEntry_spec (s : State) (key : Nat) (e : TransitEnt) :
    mget (s.setEntry key e).rte.transit key = some e ∧ (s.setEntry key e).regs = s.regs ∧ KeepsMem s (s.setEntry key e) :=
  ⟨mget_mset_same .., rfl, .of_eq rfl⟩

theorem freeEntry_spec (key : Nat) (hm : mwf s.rte.transit) :
    mget (s.freeEntry key).rte.transit key = none ∧ (s.freeEntry key).regs = s.regs ∧ KeepsMem s (s.freeEntry key) :=
  ⟨mget_mdel_same hm key, rfl, .of_eq rfl⟩

end

/-- Settles O46: every row is one branch of the crossbar's choice or of the control stop, and its effect the record that the branch
writes. -/
theorem transitRowsComplete : Obligations.TransitRowsComplete := by
  unfold Obligations.TransitRowsComplete
  intro s hs
  refine ⟨fun p v x r hq => ⟨fun hlt => ?_, fun q w k' hdue hr hrt h4 h5 hb hbusy => ?_⟩, fun p k hp hk => ⟨?_, fun x hx ht => ?_⟩,
    fun p k hp hk hf x hx ht => ?_, fun p k hp hk hf => ⟨?_, ?_, ?_, ?_, fun ht => ⟨?_, ?_, ?_⟩, fun y ho hy hout hm => ⟨?_, ?_, ?_⟩,
      fun key e ho he hm => ⟨?_, ?_, ?_⟩⟩⟩
  · exact congrArg Host.Outcome.next ((escwait_head hq).trans (if_neg (Nat.not_le.mpr hlt)))
  · subst hr
    exact escwait_escapes hs hq hdue hb hrt h4 h5 hbusy
  · exact congrArg Host.Outcome.next (transit_illegal hp hk)
  · exact (exec_pisteRow hx).trans (congrArg Host.Outcome.next (control_illegal hp ht hk))
  · exact (exec_pisteRow hx).trans (congrArg Host.Outcome.next (control_full hp ht hk hf))
  · exact transit_delivers hp hk hf
  · exact transit_hopLimit hs hp hk
  · exact fun _ => transit_pisteHopLimit hs hp hk
  · exact fun e _ => transit_pisteForwards hs hp hk
  · exact fun h => exec_ctlRow rfl hp ht hk hf ((ctlIn_psetup ht).trans (psetupIn_destination h))
  · exact fun l q h hl hq => ⟨_, exec_ctlRow rfl hp ht hk hf ((ctlIn_psetup ht).trans (psetupIn_transit h hl hq)),
      mget_mset_same .., rfl, .of_eq rfl⟩
  · exact fun h hn => exec_ctlRow rfl hp ht hk hf ((ctlIn_psetup ht).trans (psetupIn_rejected h hn))
  · exact fun ht hst => ⟨_, exec_ctlRow rfl hp ht hk hf ((ctlIn_pconfirm ht).trans (pconfirmIn_origin ho hy hout hst)), setPiste_spec ..⟩
  · exact fun ht hst => ⟨_, exec_ctlRow rfl hp ht hk hf ((ctlIn_preject ht).trans (prejectIn_origin ho hy hout hst)), dropPiste_spec _ hm⟩
  · exact fun ht hd hst => ⟨_, exec_ctlRow rfl hp ht hk hf ((ctlIn_pbreak ht).trans (pbreakIn_origin ho hy hout hd hst)), setPiste_spec ..⟩
  · exact fun ht => ⟨_, exec_ctlRow rfl hp ht hk hf ((ctlIn_pconfirm ht).trans (pconfirmIn_transit ho he)), setEntry_spec ..⟩
  · exact fun ht => ⟨_, exec_ctlRow rfl hp ht hk hf ((ctlIn_preject ht).trans (prejectIn_transit ho he)), freeEntry_spec _ hm⟩
  · exact fun ht hd => ⟨_, exec_ctlRow rfl hp ht hk hf ((ctlIn_pbreak ht).trans (pbreakIn_transit ho he hd)), freeEntry_spec _ hm⟩

end Sys2Proof.Machine

/-! # A turn on a work queue (R36 to R43, R67)

An engine that takes a turn counts it, leaves the run lists, and writes the turn and a fetched copy into the queue's record. `Turned q s t`
says of a state `t` that `s` has become no more than that, so that whatever an issue asks of the state (`State.issueWait` and what it
uses) answers in `t` as in `s`. -/

namespace Sys2Proof.Machine

/-- The registers that the start of a turn may change: the counts of steals and the counter groups. -/
def turnReg (k : Nat) : Bool := (decide (0x3100 ≤ k) && decide (k < 0x3A00)) || (decide (0x21000 ≤ k) && decide (k < 0x26000))

/-- `t` is what `s` has become by what starts a turn on queue `q`. -/
structure Turned (q : Nat) (s t : State) : Prop where
  inv : t.Inv
  regs : ∀ k, turnReg k = false → mget t.regs k = mget s.regs k
  record : ∃ f u, t.wq q = { s.wq q with fetched := f, turn := u }
  rest : ∃ regs msgs skid snapAt free run wq, t = { s with
    regs := regs, flt := { s.flt with msgs := msgs }, pmu := { s.pmu with skid := skid }, host := { s.host with snapAt := snapAt },
    free := free, qmg := { s.qmg with run := run, wq := wq } }

section
variable {q : Nat} {s t u : State}

theorem wq_modWq_same (s : State) (q : Nat) (f : WQ → WQ) : (s.modWq q f).wq q = f (s.wq q) := by
  change (mget (mset s.qmg.wq q (f (s.wq q))) q).getD {} = _
  rw [mget_mset_same]
  rfl

namespace Turned

theorem refl (h : s.Inv) : Turned q s s :=
  ⟨h, fun _ _ => rfl, ⟨_, _, rfl⟩, s.regs, s.flt.msgs, s.pmu.skid, s.host.snapAt, s.free, s.qmg.run, s.qmg.wq, rfl⟩

theorem counts (h : Turned q s t) (hu : Counts t u) : Turned q s u := by
  obtain ⟨-, hr, hw, _, _, _, _, _, _, _, rfl⟩ := h
  obtain ⟨hi, hk, _, _, _, _, rfl⟩ := hu
  refine ⟨hi, fun k hf => (hk k List.not_mem_nil ?_).trans (hr k hf), hw, _, _, _, _, _, _, _, rfl⟩
  simp only [turnReg, Bool.or_eq_false_iff, Bool.and_eq_false_iff, decide_eq_false_iff_not] at hf
  omega

theorem pmuQ (h : Turned q s t) {code n r e cnt tc addr by_} : Turned q s (t.pmuQ code n r e cnt tc addr by_) :=
  h.counts (h.inv.counts_pmu _)

theorem setFld (h : Turned q s t) {f : Fld} {v i : Nat} (hf : turnReg (f.reg.addr i) = true) : Turned q s (t.setFld f v i) := by
  obtain ⟨hi, hr, hw, _, _, _, _, _, _, _, rfl⟩ := h
  refine ⟨hi.setFld, fun k hk => (mget_wrRaw_ne hi.regs _ i _ fun e : k = _ => ?_).trans (hr k hk), hw, _, _, _, _, _, _, _, rfl⟩
  rw [e, hf] at hk
  cases hk

theorem bump (h : Turned q s t) {f : Fld} {i n : Nat} (hf : turnReg (f.reg.addr i) = true) : Turned q s (t.bump f i n) := h.setFld hf

theorem fresh (h : Turned q s t) : Turned q s t.fresh.2 := by
  obtain ⟨hi, hr, hw, _, _, _, _, _, _, _, rfl⟩ := h
  exact ⟨hi.fresh, hr, hw, _, _, _, _, _, _, _, rfl⟩

theorem setRun (h : Turned q s t) {e l} : Turned q s (t.setRun e l) := by
  obtain ⟨hi, hr, hw, _, _, _, _, _, _, _, rfl⟩ := h
  exact ⟨hi.update, hr, hw, _, _, _, _, _, _, _, rfl⟩

theorem modWq (h : Turned q s t) {f : WQ → WQ} (hf : ∀ w : WQ, ∃ x y, f w = { w with fetched := x, turn := y }) :
    Turned q s (t.modWq q f) := by
  obtain ⟨hi, hr, ⟨a, b, hw⟩, _, _, _, _, _, _, _, rfl⟩ := h
  refine ⟨hi.update, hr, ?_, _, _, _, _, _, _, _, rfl⟩
  rw [wq_modWq_same, hw]
  obtain ⟨x, y, e⟩ := hf { s.wq q with fetched := a, turn := b }
  exact ⟨x, y, e⟩

theorem ite {a b : State} {c : Prop} {inst : Decidable c} (ha : Turned q s a) (hb : Turned q s b) : Turned q s (if c then a else b) := by
  split
  · exact ha
  · exact hb

/-! ## What a turn's start leaves as it was -/

theorem keepsMem (h : Turned q s t) : KeepsMem s t := by
  obtain ⟨-, -, -, _, _, _, _, _, _, _, rfl⟩ := h
  exact .of_eq rfl

theorem fld_eq (h : Turned q s t) {f : Fld} {i : Nat} (hf : turnReg (f.reg.addr i) = false) : t.fld f i = s.fld f i := by
  unfold State.fld State.rdRaw
  rw [h.regs _ hf]

theorem flag_eq (h : Turned q s t) {f : Fld} {i : Nat} (hf : turnReg (f.reg.addr i) = false) : t.flag f i = s.flag f i := by
  unfold State.flag
  rw [h.fld_eq hf]

theorem own_eq (h : Turned q s t) : t.own = s.own := h.fld_eq (by decide)

theorem alias_eq (h : Turned q s t) : t.alias_ = s.alias_ := h.fld_eq (by decide)

theorem isLocal_eq (h : Turned q s t) (c : Nat) : t.isLocal c = s.isLocal c := by
  unfold State.isLocal
  rw [h.own_eq, h.alias_eq]

theorem valid_eq (h : Turned q s t) (c : Nat) : t.valid c = s.valid c := by
  unfold State.valid State.rdRaw
  rw [h.regs _ (by decide)]

theorem dstate_eq (h : Turned q s t) : t.dstate = s.dstate := h.flag_eq (by decide)

/-- The registers of the queues' owners lie apart from those that a turn's start writes. -/
theorem turnReg_owner {r : RegName} {i : Nat} (hi : i < r.fam.n1 * r.fam.n2) (h : r.fam.last < 0x3100 ∨ 0x3A00 ≤ r.fam.base)
    (h' : r.fam.last < 0x21000) : turnReg (r.addr i) = false := by
  have ha := r.base_le_addr i
  have hb := RegName.addr_le_last hi
  simp only [turnReg, Bool.or_eq_false_iff, Bool.and_eq_false_iff, decide_eq_false_iff_not]
  omega

theorem wqOwner_eq (h : Turned q s t) (n : Nat) : t.wqOwner n = s.wqOwner n := by
  have hf : ∀ v ∈ numsFrom 1 63, t.fld .QMG_VFWQ_BASE v = s.fld .QMG_VFWQ_BASE v ∧ t.fld .QMG_VFWQ_COUNT v = s.fld .QMG_VFWQ_COUNT v := by
    intro v hv
    have hv' := (mem_numsFrom.mp hv).2
    exact ⟨h.fld_eq (turnReg_owner (Nat.lt_of_lt_of_le hv' (by decide)) (by decide) (by decide)),
      h.fld_eq (turnReg_owner (Nat.lt_of_lt_of_le hv' (by decide)) (by decide) (by decide))⟩
  unfold State.wqOwner State.ownerBy
  rw [List.find?_congr fun v hv => by rw [(hf v hv).1, (hf v hv).2]]

theorem cqBlocked_eq (h : Turned q s t) (n : Nat) : t.cqBlocked n = s.cqBlocked n := by
  obtain ⟨-, -, -, _, _, _, _, _, _, _, rfl⟩ := h
  rfl

theorem cqReady_eq (h : Turned q s t) (n : Nat) : t.cqReady n = s.cqReady n := by
  have hd : t.dmaStop = s.dmaStop := h.flag_eq (by decide)
  obtain ⟨-, -, -, _, _, _, _, _, _, _, rfl⟩ := h
  unfold State.cqReady
  rw [hd]
  rfl

theorem mirWq_eq (h : Turned q s t) (n : Nat) : t.mirWq n = s.mirWq n := by
  obtain ⟨-, -, -, _, _, _, _, _, _, _, rfl⟩ := h
  rfl

theorem tick_eq (h : Turned q s t) : t.tick = s.tick := by
  obtain ⟨-, -, -, _, _, _, _, _, _, _, rfl⟩ := h
  rfl

theorem notices_eq (h : Turned q s t) : t.lck.notices = s.lck.notices := by
  obtain ⟨-, -, -, _, _, _, _, _, _, _, rfl⟩ := h
  rfl

theorem ctx_eq (h : Turned q s t) (k : Nat) : t.ctx k = s.ctx k := by
  obtain ⟨-, -, -, _, _, _, _, _, _, _, rfl⟩ := h
  rfl

theorem runsNow_eq (h : Turned q s t) : t.runsNow q = s.runsNow q := by
  obtain ⟨f, u, hw⟩ := h.record
  unfold State.runsNow
  rw [h.dstate_eq, hw]

theorem noPiste_eq (h : Turned q s t) (d : Raw) : t.noPiste q d = s.noPiste q d := by
  have hw := h.wqOwner_eq q
  obtain ⟨-, -, -, _, _, _, _, _, _, _, rfl⟩ := h
  unfold State.noPiste
  rw [hw]

theorem pisteFor_eq (h : Turned q s t) (d : Raw) : t.pisteFor d = s.pisteFor d := by
  obtain ⟨-, -, -, _, _, _, _, _, _, _, rfl⟩ := h
  rfl

theorem counterOf_eq (h : Turned q s t) (d : Raw) : t.counterOf d = s.counterOf d := by
  have ho := h.own_eq
  obtain ⟨-, -, -, _, _, _, _, _, _, _, rfl⟩ := h
  unfold State.counterOf
  rw [ho]

theorem collFor_eq (h : Turned q s t) (d : Raw) : t.collFor q d = s.collFor q d := by
  unfold State.collFor
  simp only [h.wqOwner_eq, h.ctx_eq]

theorem badDest_eq (h : Turned q s t) (d : Raw) : t.badDest d = s.badDest d := by
  unfold State.badDest
  rw [h.valid_eq]

theorem badContext_eq (h : Turned q s t) (d : Raw) : t.badContext q d = s.badContext q d := by
  unfold State.badContext
  rw [h.collFor_eq]

theorem entryWait_eq (h : Turned q s t) (d : Raw) : t.entryWait q d = s.entryWait q d := by
  obtain ⟨f, u, hw⟩ := h.record
  unfold State.entryWait State.needsDstate
  simp only [h.notices_eq, h.wqOwner_eq, h.cqBlocked_eq, h.dstate_eq, h.counterOf_eq, hw]

theorem freeTag_isNone_eq (h : Turned q s t) : t.freeTag.isNone = s.freeTag.isNone := by
  have key (v : State) : v.freeTag.isNone = decide (131072 ≤ v.ini.tags.length) := by
    unfold State.freeTag
    by_cases hc : 131072 ≤ v.ini.tags.length
    · rw [if_pos hc, decide_eq_true hc]
      rfl
    · rw [if_neg hc, decide_eq_false hc]
      dsimp only
      split <;> rfl
  rw [key, key]
  obtain ⟨-, -, -, _, _, _, _, _, _, _, rfl⟩ := h
  rfl

theorem cc_eq (h : Turned q s t) (cell : Nat) : t.cc cell = s.cc cell := by
  have h1 : t.fld .RTE_CCWINIT_CWNDINIT = s.fld .RTE_CCWINIT_CWNDINIT := h.fld_eq (by decide)
  have h2 : t.fld .RTE_CCWMIN_CWNDMIN = s.fld .RTE_CCWMIN_CWNDMIN := h.fld_eq (by decide)
  have h3 : t.fld .RTE_CCWMAX_CWNDMAX = s.fld .RTE_CCWMAX_CWNDMAX := h.fld_eq (by decide)
  obtain ⟨-, -, -, _, _, _, _, _, _, _, rfl⟩ := h
  unfold State.cc State.clipCwnd
  rw [h1, h2, h3]
  rfl

theorem sendWait_eq (h : Turned q s t) (d : Raw) : t.sendWait q d = s.sendWait q d := by
  have h1 : t.maySend = s.maySend := by
    obtain ⟨-, -, -, _, _, _, _, _, _, _, rfl⟩ := h
    rfl
  have h2 : t.postedUsed = s.postedUsed := by
    obtain ⟨-, -, -, _, _, _, _, _, _, _, rfl⟩ := h
    rfl
  have h3 : ∀ k, t.batchFull k = s.batchFull k := by
    obtain ⟨-, -, -, _, _, _, _, _, _, _, rfl⟩ := h
    exact fun _ => rfl
  have h4 : t.ini.waiting = s.ini.waiting ∧ t.lck.recs = s.lck.recs := by
    obtain ⟨-, -, -, _, _, _, _, _, _, _, rfl⟩ := h
    exact ⟨rfl, rfl⟩
  unfold State.sendWait
  simp only [h1, h2, h3, h4, h.cc_eq, h.freeTag_isNone_eq, h.collFor_eq, h.counterOf_eq, h.isLocal_eq, h.pisteFor_eq, h.ctx_eq]

theorem issueWait_eq (h : Turned q s t) (d : Raw) : t.issueWait q d = s.issueWait q d := by
  unfold State.issueWait
  rw [h.entryWait_eq, h.badDest_eq, h.badContext_eq, h.sendWait_eq]

end Turned

/-- The counts of steals lie in the range that a turn's start may change. -/
theorem turnReg_engine {i : Nat} {r : RegName} (hi : i < 288) (hr : r = .ENG_STEAL ∨ r = .ENG_STOLEN) : turnReg (r.addr i) = true := by
  have key (hn : 288 ≤ r.fam.n1 * r.fam.n2) (h0 : 0x3100 ≤ r.fam.base) (h1 : r.fam.last < 0x3A00) : turnReg (r.addr i) = true := by
    have ha := r.base_le_addr i
    have hb := RegName.addr_le_last (r := r) (i := i) (by omega)
    simp only [turnReg, Bool.or_eq_true, Bool.and_eq_true, decide_eq_true_eq]
    omega
  rcases hr with rfl | rfl
  · exact key (by decide) (by decide) (by decide)
  · exact key (by decide) (by decide) (by decide)

/-! ## The start of a turn -/

theorem Turned.mayTurn (h : Turned q s t) (hm : s.mayTurn q) : t.mayTurn q := by
  obtain ⟨f, u, hw⟩ := h.record
  obtain ⟨h1, h2, h3, h4⟩ := hm
  refine ⟨?_, ?_, h.runsNow_eq.trans h3, ?_⟩
  · rw [hw]
    exact h1
  · rw [hw, h.cqBlocked_eq]
    exact h2
  · rw [h.notices_eq, h.wqOwner_eq]
    exact h4

theorem Turned.mayServe (h : Turned q s t) (hm : s.mayServe q) : t.mayServe q := by
  obtain ⟨h1, h2, h3⟩ := hm
  refine ⟨?_, ?_, h.mayTurn h3⟩
  · obtain ⟨f, u, hw⟩ := h.record
    rw [hw]
    exact h1
  · obtain ⟨f, u, hw⟩ := h.record
    rw [hw]
    exact h2

/-- Engine `e` holds a turn of `left` entries on the queue, counted (R43). -/
def State.turnTaken (s : State) (e q left : Nat) : State :=
  (s.modWq q (fun w => { w with turn := some { engine := e, left := left } })).pmuQ 0x05 1 q (some e)

theorem State.Inv.turned_turnTaken (h : s.Inv) (e left : Nat) : Turned q s (s.turnTaken e q left) :=
  ((Turned.refl h).modWq fun w => ⟨w.fetched, _, rfl⟩).pmuQ

theorem turnTaken_wq (h : s.Inv) (e left : Nat) : (s.turnTaken e q left).wq q = { s.wq q with turn := some { engine := e, left := left } } := by
  have hc : Counts (s.modWq q (fun w => { w with turn := some { engine := e, left := left } })) (s.turnTaken e q left) :=
    State.Inv.counts_pmu h.modWq _
  have hw : (s.turnTaken e q left).wq q = (s.modWq q (fun w => { w with turn := some { engine := e, left := left } })).wq q := by
    obtain ⟨-, -, _, _, _, _, heq⟩ := hc
    rw [heq]
    rfl
  exact hw.trans (wq_modWq_same ..)

/-- A queue that may be served is taken: an unmirrored one begins to process at once (R43, R530). -/
theorem takeTurn_eq {e left : Nat} (hm : s.mayServe q) (hx : s.mirWq q = false) :
    s.takeTurn e q left = (s.turnTaken e q left).turnGo q := by
  obtain ⟨h1, h2, h3, h4, h5, h6⟩ := hm
  unfold State.takeTurn
  dsimp only
  rw [if_neg (by simp [h1, h2]), if_neg (fun hc => absurd (h3 hc.1) (Int.not_lt.mpr hc.2)), if_neg (by simp [h4]), if_neg (by simp [h5]),
    if_neg (by simp [h6])]
  exact if_neg (ne_true_of_eq_false hx)

theorem mset_of_mget {α : Type} {m : AMap α} {k : Nat} {v : α} (h : mget m k = some v) : mset m k v = m := by
  induction m with
  | nil => cases h
  | cons x m ih =>
    obtain ⟨j, w⟩ := x
    unfold mget at h
    unfold mset
    split
    next hk =>
      rw [if_pos hk.symm] at h
      cases h
      rw [hk]
    next hk =>
      rw [if_neg (Ne.symm hk)] at h
      split
      next hlt =>
        rw [if_pos hlt] at h
        cases h
      next hlt =>
        rw [if_neg hlt] at h
        rw [ih h]

/-- A record that a change leaves as it is. -/
theorem modWq_eq_self {f : WQ → WQ} (h : mget s.qmg.wq q = some (s.wq q)) (hf : f (s.wq q) = s.wq q) : s.modWq q f = s := by
  unfold State.modWq
  rw [hf, mset_of_mget h]

theorem turnTaken_listed (h : s.Inv) (e left : Nat) :
    mget (s.turnTaken e q left).qmg.wq q = some ((s.turnTaken e q left).wq q) := by
  have hc : Counts (s.modWq q (fun w => { w with turn := some { engine := e, left := left } })) (s.turnTaken e q left) :=
    State.Inv.counts_pmu h.modWq _
  rw [turnTaken_wq h]
  obtain ⟨-, -, _, _, _, _, heq⟩ := hc
  rw [heq]
  exact mget_mset_same ..

/-- A turn just taken on a queue whose head entry is held and matches goes straight to processing (R156). -/
theorem turnGo_turnTaken (h : s.Inv) {e left a : Nat} {d : Raw} (hc : (s.wq q).copy (s.wq q).head = some (d, a))
    (hm : d.mark = markOf (s.wq q).log2 (s.wq q).head) : (s.turnTaken e q left).turnGo q = (s.turnTaken e q left).turnRun q := by
  have hself : (s.turnTaken e q left).modTurn q (fun t => { t with wait := .none }) = s.turnTaken e q left := by
    refine modWq_eq_self (turnTaken_listed h e left) ?_
    rw [turnTaken_wq h]
    rfl
  have hcopy : (({ s.wq q with turn := some { engine := e, left := left } } : WQ)).copy (s.wq q).head = some (d, a) := hc
  unfold State.turnGo
  dsimp only
  rw [hself, turnTaken_wq h]
  dsimp only
  rw [hcopy]
  exact if_pos hm

/-- Nothing stops a turn at the head entry `d` (R41, R156, R666). -/
structure AtEntry (q : Nat) (d : Raw) (a : Nat) (s : State) : Prop where
  turn : ∃ u, (s.wq q).turn = some u ∧ u.wait = .none ∧ u.left ≠ 0
  badBell : (s.wq q).badBell = false
  active : (s.wq q).st = .active
  waitCmds : (s.wq q).waitCmds = []
  suspendDue : (s.wq q).suspendDue = false
  work : (s.wq q).hasWork = true
  runs : s.runsNow q = true
  good : (s.wq q).failed.contains (s.wq q).head = false
  copy : (s.wq q).copy (s.wq q).head = some (d, a)
  mark : d.mark = markOf (s.wq q).log2 (s.wq q).head

theorem turnAux_atEntry {d : Raw} {a n : Nat} (h : AtEntry q d a s) : turnAux q (n + 1) s = turnAux q n (s.issueAt q d a) := by
  obtain ⟨u, hu, hw, hl⟩ := h.turn
  conv_lhs => unfold turnAux
  dsimp only
  rw [hu]
  dsimp only
  rw [if_neg (not_not.mpr hw), if_neg (by simp [h.badBell]),
    if_neg (by simp [h.active, hl, h.waitCmds, h.suspendDue, h.work, h.runs]), if_neg (ne_true_of_eq_false h.good), h.copy]
  dsimp only
  exact if_neg (not_not.mpr h.mark)

/-- A turn that waits goes no further. -/
theorem turnAux_waits {u : Turn} (n : Nat) (hu : (s.wq q).turn = some u) (hw : u.wait ≠ .none) : turnAux q n s = s := by
  cases n with
  | zero => rfl
  | succ n =>
    unfold turnAux
    dsimp only
    rw [hu]
    exact if_pos hw

/-! ## One descriptor as a turn of one entry -/

/-- The state in which engine `e` has taken the queue off its run list and holds a copy of the head entry `d`. -/
def State.headHeld (s : State) (e q : Nat) (d : Raw) : State :=
  let s0 := ((s.serverOf (q % 288)).map Prod.snd).getD s
  let s1 := (if e = q % 288 then s0 else s0.pmuQ 0x06 1 q (some e)).leaveRun q
  if ((s1.wq q).copy (s1.wq q).head).isSome then s1
    else s1.modWq q (fun w => { w with fetched := w.fetched ++ [(w.head, d, s.now)] })

theorem headTurn_eq (s : State) (e q : Nat) (d : Raw) : s.headTurn e q d = (s.headHeld e q d).turnTaken e q 1 := rfl

/-- The server of an entry is the state itself, or the state with the steal counted. -/
theorem serverOf_turned (h : s.Inv) {r e : Nat} {u : State} (hr : r < 288) (hs : s.serverOf r = some (e, u)) : Turned q s u := by
  unfold State.serverOf at hs
  split at hs
  · cases hs
    exact .refl h
  split at hs
  · cases hs
  · extract_lets l at hs
    obtain ⟨e', he, hx⟩ := Option.map_eq_some_iff.mp hs
    cases hx
    have hlt : e < 288 := List.mem_range.mp (List.mem_of_mem_filter (List.mem_of_getElem? he))
    exact ((Turned.refl h).fresh.bump (turnReg_engine hlt (.inl rfl))).bump (turnReg_engine hr (.inr rfl))

end
end Sys2Proof.Machine

/-! # The issue of a descriptor (R153, R157, R158) -/

namespace Sys2Proof.Machine

section
variable {q e : Nat} {s t : State} {d : Raw}

/-! ## The state at the head entry -/

theorem serverOf_qmg {r : Nat} {u : State} (hs : s.serverOf r = some (e, u)) : u.qmg = s.qmg := by
  unfold State.serverOf at hs
  split at hs
  · cases hs
    rfl
  split at hs
  · cases hs
  · extract_lets l at hs
    obtain ⟨e', -, hx⟩ := Option.map_eq_some_iff.mp hs
    cases hx
    rfl

/-- The state in which engine `e` has taken the queue off its run list. -/
def State.headOff (u : State) (e q : Nat) : State := (if e = q % 288 then u else u.pmuQ 0x06 1 q (some e)).leaveRun q

theorem headOff_wq {u : State} (h : u.Inv) : (u.headOff e q).wq q = u.wq q := by
  unfold State.headOff
  split
  · rfl
  · have hc : Counts u (u.pmuQ 0x06 1 q (some e)) := h.counts_pmu _
    obtain ⟨-, -, _, _, _, _, heq⟩ := hc
    rw [heq]
    rfl

theorem headEntry_of_copy {a : Nat} (h : (s.wq q).copy (s.wq q).head = some (d, a)) : s.headEntry q = d := by
  unfold State.headEntry
  dsimp only
  rw [h]

/-- An appended copy is found where there was none. -/
theorem copy_append {w : WQ} {c a : Nat} (h : w.copy c = none) :
    ({ w with fetched := w.fetched ++ [(c, d, a)] } : WQ).copy c = some (d, a) := by
  have h' : w.fetched.find? (fun x => x.1 == c) = none := by simpa [WQ.copy] using h
  simp [WQ.copy, List.find?_append, h']

/-- The queue's record as the turn of one entry begins: a copy of the head entry is held. -/
theorem headHeld_spec (h : s.Inv) {op : Nat} (hm : s.mayStart e q d op) :
    Turned q s (s.headHeld e q d) ∧ ∃ f a, (s.headHeld e q d).wq q = { s.wq q with fetched := f } ∧
      ({ s.wq q with fetched := f } : WQ).copy (s.wq q).head = some (d, a) := by
  obtain ⟨hi, -, hs, -⟩ := hm
  obtain ⟨⟨e', u⟩, hu, rfl⟩ := Option.map_eq_some_iff.mp hs
  have hlt : q % 288 < 288 := Nat.mod_lt _ (by decide)
  have hT := serverOf_turned (q := q) h hlt hu
  have hT1 : Turned q s (u.headOff e' q) := (hT.ite hT.pmuQ).setRun
  have hw : (u.headOff e' q).wq q = s.wq q := by
    rw [headOff_wq hT.inv]
    unfold State.wq
    rw [serverOf_qmg hu]
  have hH : s.headHeld e' q d = if (((u.headOff e' q).wq q).copy ((u.headOff e' q).wq q).head).isSome then u.headOff e' q
      else (u.headOff e' q).modWq q (fun w => { w with fetched := w.fetched ++ [(w.head, d, s.now)] }) := by
    unfold State.headHeld
    rw [hu]
    rfl
  have hentry : s.headEntry q = d := by
    simp only [State.issuable, Bool.and_eq_true, beq_iff_eq] at hi
    exact hi.1.2
  rw [hH, hw]
  split
  next hc =>
    obtain ⟨⟨d', a⟩, hd⟩ := Option.isSome_iff_exists.mp hc
    have hdd : d' = d := (headEntry_of_copy hd).symm.trans hentry
    subst hdd
    exact ⟨hT1, _, a, hw, hd⟩
  next hc =>
    refine ⟨hT1.modWq fun w => ⟨_, w.turn, rfl⟩, _, s.now, ?_, copy_append (Option.not_isSome_iff_eq_none.mp hc)⟩
    rw [wq_modWq_same, hw]

/-- The state in which an engine has reached a queue's head entry, for the one entry that its turn has (R43). -/
structure AtHead (q e : Nat) (d : Raw) (s t : State) : Prop where
  turned : Turned q s t
  turn : (t.wq q).turn = some { engine := e, left := 1 }

theorem issueOne_eq {op : Nat} (hi : s.issuable q d = true) (hop : d.opcode = op)
    (hs : (s.serverOf (q % 288)).map Prod.fst = some e) : s.issueOne q d op = (s.headHeld e q d).takeTurn e q 1 := by
  obtain ⟨⟨e', u⟩, hu, rfl⟩ := Option.map_eq_some_iff.mp hs
  unfold State.issueOne State.headHeld
  rw [if_pos (by simp [hi, hop]), hu]
  rfl

theorem headTurn_spec (h : s.Inv) {op : Nat} (hm : s.mayStart e q d op) (hb : s.mayBoundary q) :
    AtHead q e d s (s.headTurn e q d) ∧ ∃ a, s.issueOne q d op = s.turnRest q ((s.headTurn e q d).issueAt q d a) := by
  obtain ⟨hT, f, a, hw, hc⟩ := headHeld_spec h hm
  obtain ⟨hi', hop, hs, hturn⟩ := hm
  have hi := hi'
  obtain ⟨hmir, hwc, hsd, hbb, hfail⟩ := hb
  simp only [State.issuable, Bool.and_eq_true, beq_iff_eq] at hi
  obtain ⟨⟨⟨⟨⟨hact, hwork⟩, -⟩, -⟩, -⟩, hmark⟩ := hi
  have hwq : (s.headTurn e q d).wq q = { s.wq q with fetched := f, turn := some { engine := e, left := 1 } } := by
    rw [headTurn_eq, turnTaken_wq hT.inv, hw]
  have hS : Turned q s (s.headTurn e q d) := (hT.modWq fun w => ⟨w.fetched, _, rfl⟩).pmuQ
  have hone := issueOne_eq hi' hop hs
  have hat : AtEntry q d a (s.headTurn e q d) := by
    refine ⟨⟨_, by rw [hwq], rfl, Nat.one_ne_zero⟩, ?_, ?_, ?_, ?_, ?_, hS.runsNow_eq.trans hturn.2.2.1, ?_, ?_, ?_⟩ <;> rw [hwq] <;> assumption
  refine ⟨⟨hS, by rw [hwq]⟩, a, ?_⟩
  rw [hone, takeTurn_eq (hT.mayServe ⟨hact, hwork, hturn⟩) ((hT.mirWq_eq q).trans hmir),
    turnGo_turnTaken hT.inv (a := a) (d := d) (by rw [hw]; exact hc) (by rw [hw]; exact hmark), ← headTurn_eq]
  have hq : ((s.headTurn e q d).wq q).quantum = (s.wq q).quantum := by rw [hwq]; rfl
  unfold State.turnRun State.turnRest
  rw [turnAux_atEntry hat, hq]

/-! ## Which issue an opcode has (R153, R157) -/

/-- The issue of an entry that nothing holds back: the read of its payload, or what its opcode does. -/
def State.issueBy (s : State) (q : Nat) (raw : Raw) (a : Nat) : State :=
  if payloadLen raw ≠ 0 then s.payloadStart q raw (s.wq q).kr a []
  else match raw.opcode with
    | 0x00 => s.issueDone q raw a 0
    | 0x01 => s.issueData q raw (s.wq q).kr a raw.inlineBytes none
    | 0x02 => ((s.countOff raw).markIssued q raw (s.wq q).kr a
        (((getPackets raw (s.wq q).kr).map (fun k => (getPieces k).length)).sum) 0).sendAll q (s.wq q).head (s.pisteFor raw) false false
        (getPackets raw (s.wq q).kr)
    | 0x03 => s.issueData q raw (s.wq q).kr a raw.inlineBytes none
    | 0x04 => s.issueRecv q raw (s.wq q).kr a
    | 0x18 => s.issueCfadd q raw (s.wq q).kr a
    | 0x21 => s.issueColl q raw (s.wq q).kr a
    | 0x22 => s.issueColl q raw (s.wq q).kr a
    | 0x30 => s.issueLock q raw (s.wq q).kr a
    | 0x31 => s.issueLock q raw (s.wq q).kr a
    | 0x32 => s.issueLock q raw (s.wq q).kr a
    | _ => s.issueData q raw (s.wq q).kr a [] none

theorem issueAt_eq_issueBy {a : Nat} (h1 : d.malformed (s.noPiste q d) = 0) (h2 : s.issueWait q d = none) (h3 : s.badDest d = false)
    (h4 : s.badContext q d = false) : s.issueAt q d a = s.issueBy q d a := by
  unfold State.issueAt
  dsimp only
  rw [if_neg (not_not.mpr h1), h2]
  dsimp only
  rw [if_neg (ne_true_of_eq_false h3), if_neg (ne_true_of_eq_false h4)]
  rfl

section
variable {a : Nat} (hp : payloadLen d = 0)
include hp

theorem issueBy_nop (ho : d.opcode = 0x00) : s.issueBy q d a = s.issueDone q d a 0 := by
  unfold State.issueBy
  rw [if_neg (not_not.mpr hp), ho]
  rfl

theorem issueBy_data (ho : d.opcode = 0x01 ∨ d.opcode = 0x03) : s.issueBy q d a = s.issueData q d (s.wq q).kr a d.inlineBytes none := by
  unfold State.issueBy
  rw [if_neg (not_not.mpr hp)]
  rcases ho with ho | ho <;> rw [ho] <;> rfl

theorem issueBy_get (ho : d.opcode = 0x02) : s.issueBy q d a = ((s.countOff d).markIssued q d (s.wq q).kr a
    (((getPackets d (s.wq q).kr).map (fun k => (getPieces k).length)).sum) 0).sendAll q (s.wq q).head (s.pisteFor d) false false
    (getPackets d (s.wq q).kr) := by
  unfold State.issueBy
  rw [if_neg (not_not.mpr hp), ho]
  rfl

theorem issueBy_recv (ho : d.opcode = 0x04) : s.issueBy q d a = s.issueRecv q d (s.wq q).kr a := by
  unfold State.issueBy
  rw [if_neg (not_not.mpr hp), ho]
  rfl

theorem issueBy_cfadd (ho : d.opcode = 0x18) : s.issueBy q d a = s.issueCfadd q d (s.wq q).kr a := by
  unfold State.issueBy
  rw [if_neg (not_not.mpr hp), ho]
  rfl

theorem issueBy_coll (ho : d.opcode = 0x21 ∨ d.opcode = 0x22) : s.issueBy q d a = s.issueColl q d (s.wq q).kr a := by
  unfold State.issueBy
  rw [if_neg (not_not.mpr hp)]
  rcases ho with ho | ho <;> rw [ho] <;> rfl

theorem issueBy_lock (ho : d.opcode = 0x30 ∨ d.opcode = 0x31 ∨ d.opcode = 0x32) :
    s.issueBy q d a = s.issueLock q d (s.wq q).kr a := by
  unfold State.issueBy
  rw [if_neg (not_not.mpr hp)]
  rcases ho with ho | ho | ho <;> rw [ho] <;> rfl

theorem issueBy_atomic (ho : d.opcode ∈ [0x10, 0x11, 0x12, 0x14, 0x15]) : s.issueBy q d a = s.issueData q d (s.wq q).kr a [] none := by
  unfold State.issueBy
  rw [if_neg (not_not.mpr hp)]
  simp only [List.mem_cons, List.not_mem_nil, or_false] at ho
  rcases ho with ho | ho | ho | ho | ho <;> rw [ho] <;> rfl

end

/-- Only a PUT, a SEND, a CAS128 and a COLL_REDUCE have a payload in host memory. -/
theorem payloadLen_eq_zero (h : d.opcode ∈ [0x00, 0x02, 0x04, 0x10, 0x11, 0x12, 0x14, 0x15, 0x18, 0x21, 0x22, 0x30, 0x31, 0x32]) :
    payloadLen d = 0 := by
  simp only [List.mem_cons, List.not_mem_nil, or_false] at h
  unfold payloadLen
  rcases h with h | h | h | h | h | h | h | h | h | h | h | h | h | h <;> rw [h] <;> rfl

theorem issueData_put {kr a : Nat} {data : List Byte} (ho : d.opcode = 0x01) (hl : putPackets d kr data ≠ []) :
    s.issueData q d kr a data none = ((s.countOff d).markIssued q d kr a (putPackets d kr data).length 0).sendAll q (s.wq q).head
      (s.pisteFor d) false false (putPackets d kr data) := by
  unfold State.issueData
  rw [ho]
  exact if_neg hl

theorem issueData_send {kr a : Nat} {data : List Byte} (ho : d.opcode = 0x03) (hl : ∀ m, sendPackets d m data ≠ []) :
    s.issueData q d kr a data none =
      ((s.countOff d).markIssued q d kr a (sendPackets d 0 data).length 0).sendAll q (s.wq q).head (s.pisteFor d) false true
        (sendPackets d (((s.countOff d).markIssued q d kr a (sendPackets d 0 data).length 0).freeTag.getD 0) data) := by
  unfold State.issueData
  rw [ho]
  exact if_neg (hl _)

theorem issueData_atomic {kr a : Nat} {data : List Byte} (ho : d.opcode ∈ [0x10, 0x11, 0x12, 0x14, 0x15]) :
    s.issueData q d kr a data none = ((s.countOff d).markIssued q d kr a 1 0).sendAll q (s.wq q).head (s.pisteFor d) true true
      [atomicPacket d kr data] := by
  unfold State.issueData
  simp only [List.mem_cons, List.not_mem_nil, or_false] at ho
  rcases ho with ho | ho | ho | ho | ho <;> rw [ho] <;> rfl

/-! ## What an issue records (R158) -/

/-- `t` differs from `s` in registers alone. -/
def OnlyRegs (s t : State) : Prop := ∃ r, t = { s with regs := r }

theorem OnlyRegs.refl : OnlyRegs s s := ⟨s.regs, rfl⟩

theorem OnlyRegs.wrRaw (h : OnlyRegs s t) {r : RegName} {i v : Nat} : OnlyRegs s (t.wrRaw r i v) := by
  obtain ⟨_, rfl⟩ := h
  exact ⟨_, rfl⟩

theorem OnlyRegs.setFld (h : OnlyRegs s t) {f : Fld} {v i : Nat} : OnlyRegs s (t.setFld f v i) := h.wrRaw

theorem OnlyRegs.bump (h : OnlyRegs s t) {f : Fld} {i n : Nat} : OnlyRegs s (t.bump f i n) := h.setFld

/-- A snapshot group's update touches registers and the tick of the latest. -/
theorem snap_eq {upd : State → State} {seq : Fld} {i : Nat} (h : OnlyRegs s (upd s)) :
    ∃ r a, s.snap seq i upd = { s with regs := r, host := { s.host with snapAt := a } } := by
  unfold State.snap
  extract_lets key s1 s2
  obtain ⟨r, e⟩ : OnlyRegs s s2 := h.setFld
  clear_value s2
  subst e
  split
  · split
    · exact ⟨_, _, rfl⟩
    · exact ⟨_, _, rfl⟩
  · exact ⟨_, _, rfl⟩

theorem pmuPut_eq (s : State) (i addr time : Nat) (x : Option (Nat × Nat × Nat)) :
    ∃ r a, s.pmuPut i addr time x = { s with regs := r, host := { s.host with snapAt := a } } := by
  unfold State.pmuPut
  refine snap_eq ?_
  extract_lets t1 t2
  have h2 : OnlyRegs s t2 := OnlyRegs.refl.wrRaw.wrRaw.wrRaw.setFld
  split
  · exact h2.setFld.setFld.setFld.setFld.wrRaw
  · exact h2.setFld

theorem skidTake_eq (s : State) (q en cnt : Nat) :
    ∃ r p h, s.skidTake q en cnt = { s with regs := r, pmu := p, host := h } := by
  have key (l : List (Nat × Skid)) : ∀ t : State, ∃ r h,
      l.foldl (fun t kv => t.pmuPut kv.1 kv.2.addr kv.2.time (some (q, en, cnt))) t = { t with regs := r, host := h } := by
    induction l with
    | nil => exact fun t => ⟨_, _, rfl⟩
    | cons x l ih =>
      intro t
      obtain ⟨r, a, e⟩ := pmuPut_eq t x.1 x.2.addr x.2.time (some (q, en, cnt))
      rw [List.foldl_cons, e]
      obtain ⟨r', h', e'⟩ := ih { t with regs := r, host := { t.host with snapAt := a } }
      exact ⟨r', h', e'⟩
  obtain ⟨r, h, e⟩ := key (s.pmu.skid.filter (fun kv => kv.2.engine == en))
    { s with pmu := { s.pmu with skid := s.pmu.skid.filter (fun kv => kv.2.engine != en) } }
  exact ⟨r, _, h, e⟩

theorem tagIssue_eq (s : State) (q cnt en fetch : Nat) : ∃ p, s.tagIssue q cnt en fetch = { s with pmu := p } := by
  unfold State.tagIssue
  split
  · exact ⟨_, rfl⟩
  · exact ⟨_, rfl⟩

/-- The record that the issue of `d` at the published head leaves. -/
def State.issuedDesc (s : State) (q : Nat) (d : Raw) (kr n st : Nat) : Desc :=
  { cnt := (s.wq q).head, op := d.opcode, raw := d, kr := kr, left := n, status := st, start := s.tick,
    engine := match (s.wq q).turn with | some t => t.engine | none => q % 288 }

theorem markIssued_spec (h : s.Inv) (kr a n st : Nat) :
    ((s.markIssued q d kr a n st).wq q).head = add32 (s.wq q).head 1 ∧
    ((s.markIssued q d kr a n st).wq q).outst = (s.wq q).outst ++ [s.issuedDesc q d kr n st] ∧
    KeepsMem s (s.markIssued q d kr a n st) := by
  unfold State.markIssued
  extract_lets w cnt eng x delay s1 tc s2
  have h1 : (s1.wq q).head = add32 (s.wq q).head 1 ∧ (s1.wq q).outst = (s.wq q).outst ++ [s.issuedDesc q d kr n st] := by
    unfold s1
    rw [wq_modWq_same]
    exact ⟨rfl, rfl⟩
  have hi1 : s1.Inv := h.modWq
  have hc : Counts s1 s2 := (((Counts.refl hi1).pmu_).pmu_).pmu_
  obtain ⟨r, p, y, e⟩ := skidTake_eq s2 q eng cnt
  rw [e]
  obtain ⟨p', e'⟩ := tagIssue_eq { s2 with regs := r, pmu := p, host := y } q cnt eng a
  rw [e']
  have hm : KeepsMem s s2 := KeepsMem.trans (.of_eq rfl) hc.keepsMem
  obtain ⟨-, -, _, _, _, _, e2⟩ := hc
  clear_value s2
  subst e2
  exact ⟨h1.1, h1.2, hm⟩

theorem countOff_onlyRegs (s : State) (d : Raw) : OnlyRegs s (s.countOff d) := by
  unfold State.countOff
  split
  · exact OnlyRegs.refl.bump
  · exact .refl

theorem AtHead.head_eq (h : AtHead q e d s t) : (t.wq q).head = (s.wq q).head := by
  obtain ⟨f, u, hw⟩ := h.turned.record
  rw [hw]

theorem AtHead.kr_eq (h : AtHead q e d s t) : (t.wq q).kr = (s.wq q).kr := by
  obtain ⟨f, u, hw⟩ := h.turned.record
  rw [hw]

/-- The entry at the head has been issued, whatever registers changed with it (R158). -/
theorem AtHead.issued {v : State} (h : AtHead q e d s t) (hv : OnlyRegs t v) (hi : v.Inv) (kr a n st : Nat) :
    s.issued q (s.newDesc q d n st e kr) (v.markIssued q d kr a n st) := by
  obtain ⟨h1, h2, h3⟩ := markIssued_spec hi (d := d) (q := q) kr a n st
  have hvw : v.wq q = t.wq q := by
    obtain ⟨_, rfl⟩ := hv
    rfl
  have hvt : v.tick = s.tick := by
    obtain ⟨_, rfl⟩ := hv
    exact h.turned.tick_eq
  have hvm : KeepsMem t v := by
    obtain ⟨_, rfl⟩ := hv
    exact .of_eq rfl
  have hout : (t.wq q).outst = (s.wq q).outst := by
    obtain ⟨f, u, hw⟩ := h.turned.record
    rw [hw]
  have hx : v.issuedDesc q d kr n st = s.newDesc q d n st e kr := by
    unfold State.issuedDesc State.newDesc
    rw [hvw, h.turn, h.head_eq, hvt]
  rw [hvw, h.head_eq] at h1
  rw [hvw, hx, hout] at h2
  exact ⟨h1, h2, (h.turned.keepsMem.trans hvm).trans h3⟩

theorem AtHead.issuedOff (h : AtHead q e d s t) (kr a n st : Nat) :
    s.issued q (s.newDesc q d n st e kr) ((t.countOff d).markIssued q d kr a n st) :=
  h.issued (countOff_onlyRegs t d) (h.turned.inv.countOff) kr a n st

/-- An entry that nothing holds back reaches its issue (R157). -/
theorem mayIssue_issues (hs : s.Inv) {op : Nat} (hm : s.mayIssue e q d op) :
    AtHead q e d s (s.headTurn e q d) ∧ d.opcode = op ∧
      ∃ a, s.issueOne q d op = s.turnRest q ((s.headTurn e q d).issueBy q d a) := by
  obtain ⟨⟨hst, hb, -, hmal⟩, hw, hd, hc⟩ := hm
  obtain ⟨hh, a, heq⟩ := headTurn_spec hs hst hb
  refine ⟨hh, hst.2.1, a, ?_⟩
  rw [heq, issueAt_eq_issueBy ((congrArg d.malformed (hh.turned.noPiste_eq d)).trans hmal) ((hh.turned.issueWait_eq d).trans hw)
    ((hh.turned.badDest_eq d).trans hd) ((hh.turned.badContext_eq d).trans hc)]

/-! ## The rows -/

section
variable (hs : s.Inv)
include hs

theorem nop_issues (hm : s.mayIssue e q d 0x00) (hcq : d.sig = true → s.cqReady (s.wq q).cq = true) :
    CompletesVia (fun v => s.turnRest q (v.finish q (s.newDesc q d 0 0 e (s.wq q).kr) 0)) (.nop q d) s
      (s.issued q (s.newDesc q d 0 0 e (s.wq q).kr)) := by
  obtain ⟨hh, ho, a, heq⟩ := mayIssue_issues hs hm
  have hiss := hh.issued .refl hh.turned.inv (s.wq q).kr a 0 0
  refine ⟨_, congrArg Host.Outcome.next (heq.trans ?_), hiss⟩
  have hcqw : ((s.headTurn e q d).wq q).cq = (s.wq q).cq := by
    obtain ⟨f, u, hw⟩ := hh.turned.record
    rw [hw]
  have hready : ¬ (((0 : Nat) != 0 || d.sig) && !(s.headTurn e q d).cqReady ((s.headTurn e q d).wq q).cq) = true := by
    rw [hcqw, hh.turned.cqReady_eq]
    cases hsig : d.sig
    · simp
    · simp [hcq hsig]
  have hdesc : ((s.headTurn e q d).markIssued q d (s.wq q).kr a 0 0).desc q (s.wq q).head = some (s.newDesc q d 0 0 e (s.wq q).kr) := by
    obtain ⟨-, ho, -⟩ := hiss
    have hno : (s.wq q).outst.find? (fun x => x.cnt == (s.wq q).head) = none := by
      obtain ⟨⟨-, -, hno, -⟩, -⟩ := hm
      simpa using hno
    unfold State.desc
    rw [ho, List.find?_append, hno]
    simp [State.newDesc]
  rw [issueBy_nop (payloadLen_eq_zero (by rw [ho]; decide)) ho]
  unfold State.issueDone
  dsimp only
  rw [if_neg hready, hh.head_eq, hh.kr_eq, hdesc]

theorem put_issues (hm : s.mayIssue e q d 0x01) (hp : payloadLen d = 0) (hl : putPackets d (s.wq q).kr d.inlineBytes ≠ []) :
    CompletesVia (fun v => (s.turnRest q (v.sendAll q (s.wq q).head (s.pisteFor d) false false
        (putPackets d (s.wq q).kr d.inlineBytes))).settle) (.put q d) s
      (s.issued q (s.newDesc q d (putPackets d (s.wq q).kr d.inlineBytes).length 0 e (s.wq q).kr)) := by
  obtain ⟨hh, ho, a, heq⟩ := mayIssue_issues hs hm
  refine ⟨_, congrArg (Host.Outcome.next ∘ State.settle) (heq.trans ?_), hh.issuedOff (s.wq q).kr a _ 0⟩
  rw [issueBy_data hp (.inl ho), hh.kr_eq, issueData_put ho hl, hh.head_eq, hh.turned.pisteFor_eq]

theorem get_issues (hm : s.mayIssue e q d 0x02) :
    CompletesVia (fun v => (s.turnRest q (v.sendAll q (s.wq q).head (s.pisteFor d) false false (getPackets d (s.wq q).kr))).settle)
      (.get q d) s (s.issued q (s.newDesc q d ((getPackets d (s.wq q).kr).map (fun k => (getPieces k).length)).sum 0 e (s.wq q).kr)) := by
  obtain ⟨hh, ho, a, heq⟩ := mayIssue_issues hs hm
  refine ⟨_, congrArg (Host.Outcome.next ∘ State.settle) (heq.trans ?_), hh.issuedOff (s.wq q).kr a _ 0⟩
  rw [issueBy_get (payloadLen_eq_zero (by rw [ho]; decide)) ho, hh.kr_eq, hh.head_eq, hh.turned.pisteFor_eq]

theorem send_issues (hm : s.mayIssue e q d 0x03) (hp : payloadLen d = 0) (hl : ∀ m, sendPackets d m d.inlineBytes ≠ []) :
    CompletesVia (fun v => (s.turnRest q (v.sendAll q (s.wq q).head (s.pisteFor d) false true
        (sendPackets d (v.freeTag.getD 0) d.inlineBytes))).settle) (.send q d) s
      (s.issued q (s.newDesc q d (sendPackets d 0 d.inlineBytes).length 0 e (s.wq q).kr)) := by
  obtain ⟨hh, ho, a, heq⟩ := mayIssue_issues hs hm
  refine ⟨_, congrArg (Host.Outcome.next ∘ State.settle) (heq.trans ?_), hh.issuedOff (s.wq q).kr a _ 0⟩
  rw [issueBy_data hp (.inr ho), hh.kr_eq, issueData_send ho hl, hh.head_eq, hh.turned.pisteFor_eq]

theorem recv_issues (hm : s.mayIssue e q d 0x04) :
    CompletesVia (fun v => (s.turnRest q (v.recvPlace
        { q := q, cnt := (s.wq q).head, sig := d.sig, tag := d.op0, mask := d.op1, src := d.dest, laddr := d.laddr, cap := d.len,
          kr := (s.wq q).kr, func := s.wqOwner q, asid := (s.wq q).asid })).settle) (.recv q d) s
      (s.issued q (s.newDesc q d 1 0 e (s.wq q).kr)) := by
  obtain ⟨hh, ho, a, heq⟩ := mayIssue_issues hs hm
  refine ⟨_, congrArg (Host.Outcome.next ∘ State.settle) (heq.trans ?_), hh.issued .refl hh.turned.inv (s.wq q).kr a 1 0⟩
  have hasid : ((s.headTurn e q d).wq q).asid = (s.wq q).asid := by
    obtain ⟨f, u, hw⟩ := hh.turned.record
    rw [hw]
  rw [issueBy_recv (payloadLen_eq_zero (by rw [ho]; decide)) ho, hh.kr_eq]
  unfold State.issueRecv
  rw [hh.head_eq, hh.turned.wqOwner_eq, hasid]

theorem atomic_issues {op : Nat} (hop : op ∈ [0x10, 0x11, 0x12, 0x14, 0x15]) (hm : s.mayIssue e q d op) :
    ∃ u, s.issueOne q d op = s.turnRest q (u.sendAll q (s.wq q).head (s.pisteFor d) true true [atomicPacket d (s.wq q).kr []]) ∧
      s.issued q (s.newDesc q d 1 0 e (s.wq q).kr) u := by
  obtain ⟨hh, ho, a, heq⟩ := mayIssue_issues hs hm
  refine ⟨_, heq.trans ?_, hh.issuedOff (s.wq q).kr a 1 0⟩
  have hpl : d.opcode ∈ [0x00, 0x02, 0x04, 0x10, 0x11, 0x12, 0x14, 0x15, 0x18, 0x21, 0x22, 0x30, 0x31, 0x32] := by
    rw [ho]
    revert hop
    generalize op = o
    simp only [List.mem_cons, List.not_mem_nil, or_false]
    omega
  rw [issueBy_atomic (payloadLen_eq_zero hpl) (ho ▸ hop), hh.kr_eq, issueData_atomic (ho ▸ hop), hh.head_eq, hh.turned.pisteFor_eq]

end
end
end Sys2Proof.Machine

/-! # What the translation of an access touches (R334, R348)

A translation counts, logs its failure, reads through walks and waits: it changes the translation unit's tables, its status registers,
messages and counters. `Looks s t` says so of a state `t` that `s` has become. -/

namespace Sys2Proof.Machine

/-- The registers that a translation may change: the status, counters and fault log of the unit, HIF_FLT and the counter groups. -/
def lookReg (k : Nat) : Bool :=
  (decide (0x4014 ≤ k) && decide (k < 0x4040)) || k == 0x1008 || (decide (0x21000 ≤ k) && decide (k < 0x26000))

/-- `t` is what `s` has become by translating alone. -/
structure Looks (s t : State) : Prop where
  inv : t.Inv
  regs : ∀ k, lookReg k = false → mget t.regs k = mget s.regs k
  rest : ∃ regs snapAt xlt msgs skid out free, t = { s with
    regs := regs, host := { s.host with snapAt := snapAt }, xlt := xlt, flt := { s.flt with msgs := msgs },
    pmu := { s.pmu with skid := skid }, out := out, free := free }

section
variable {s t u : State}

namespace Looks

theorem refl (h : s.Inv) : Looks s s :=
  ⟨h, fun _ _ => rfl, s.regs, s.host.snapAt, s.xlt, s.flt.msgs, s.pmu.skid, s.out, s.free, rfl⟩

theorem trans (h : Looks s t) (h' : Looks t u) : Looks s u := by
  obtain ⟨-, hr, _, _, _, _, _, _, _, rfl⟩ := h
  obtain ⟨hi, hk, _, _, _, _, _, _, _, rfl⟩ := h'
  exact ⟨hi, fun k hf => (hk k hf).trans (hr k hf), _, _, _, _, _, _, _, rfl⟩

theorem keepsMem (h : Looks s t) : KeepsMem s t := by
  obtain ⟨-, -, _, _, _, _, _, _, _, rfl⟩ := h
  exact .of_eq rfl

theorem qmg_eq (h : Looks s t) : t.qmg = s.qmg := by
  obtain ⟨-, -, _, _, _, _, _, _, _, rfl⟩ := h
  rfl

theorem tgt_eq (h : Looks s t) : t.tgt = s.tgt := by
  obtain ⟨-, -, _, _, _, _, _, _, _, rfl⟩ := h
  rfl

theorem fld_eq (h : Looks s t) {f : Fld} {i : Nat} (hf : lookReg (f.reg.addr i) = false) : t.fld f i = s.fld f i := by
  unfold State.fld State.rdRaw
  rw [h.regs _ hf]

theorem ite {a b : State} {c : Prop} {inst : Decidable c} (ha : Looks s a) (hb : Looks s b) : Looks s (if c then a else b) := by
  split
  · exact ha
  · exact hb

theorem counts (h : Looks s t) (hu : Counts t u) : Looks s u := by
  refine h.trans ?_
  obtain ⟨hi, hk, _, _, _, _, rfl⟩ := hu
  refine ⟨hi, fun k hf => hk k List.not_mem_nil ?_, _, _, _, _, _, _, _, rfl⟩
  simp only [lookReg, Bool.or_eq_false_iff, Bool.and_eq_false_iff, decide_eq_false_iff_not] at hf
  omega

theorem wrRaw (h : Looks s t) {r : RegName} {i v : Nat} (hr : lookReg (r.addr i) = true) : Looks s (t.wrRaw r i v) := by
  refine h.trans ⟨h.inv.wrRaw, fun k hk => mget_wrRaw_ne h.inv.regs r i v fun e => ?_, _, _, _, _, _, _, _, rfl⟩
  rw [e, hr] at hk
  cases hk

theorem setFld (h : Looks s t) {f : Fld} {i v : Nat} (hr : lookReg (f.reg.addr i) = true) : Looks s (t.setFld f v i) := h.wrRaw hr

theorem bump (h : Looks s t) {f : Fld} {i n : Nat} (hr : lookReg (f.reg.addr i) = true) : Looks s (t.bump f i n) := h.setFld hr

theorem latch (h : Looks s t) {f : Fld} {i : Nat} (hr : lookReg (f.reg.addr i) = true) : Looks s (t.latch f i) := h.setFld hr

theorem pmu_ (h : Looks s t) {e} : Looks s (t.pmu_ e) := h.counts (h.inv.counts_pmu e)

theorem raise (h : Looks s t) {src code addr} : Looks s (t.raise src code addr) := h.counts (Counts.refl h.inv).raise

theorem fresh (h : Looks s t) : Looks s t.fresh.2 := h.trans ⟨h.inv.fresh, fun _ _ => rfl, _, _, _, _, _, _, _, rfl⟩

theorem emit (h : Looks s t) {e} : Looks s (t.emit e) := h.trans ⟨h.inv.emit, fun _ _ => rfl, _, _, _, _, _, _, _, rfl⟩

theorem setXlt (h : Looks s t) {x : XltSt} : Looks s { t with xlt := x } := h.trans ⟨h.inv.update, fun _ _ => rfl, _, _, _, _, _, _, _, rfl⟩

theorem snap {upd : State → State} (h : Looks s t) {seq : Fld} {i : Nat} (hr : lookReg (seq.reg.addr i) = true)
    (hupd : ∀ u, Looks s u → Looks s (upd u)) : Looks s (t.snap seq i upd) := by
  have hset (v : State) (a : AMap Nat) (hv : Looks s v) : Looks s { v with host := { v.host with snapAt := a } } :=
    hv.trans ⟨hv.inv.update, fun _ _ => rfl, _, _, _, _, _, _, _, rfl⟩
  unfold State.snap
  extract_lets key s1 s2
  have h2 : Looks s s2 := (hupd _ h).setFld hr
  split
  · exact h.ite (hset _ _ h2)
  · exact hset _ _ h2

/-- A state and an answer whose state looks. -/
theorem fst_ite {α : Type} {a b : State × α} {c : Prop} {inst : Decidable c} (ha : Looks s a.1) (hb : Looks s b.1) :
    Looks s (if c then a else b).1 := by
  split
  · exact ha
  · exact hb

theorem xltFault (h : Looks s t) {w kind level addr} : Looks s (t.xltFault w kind level addr) := by
  unfold State.xltFault
  extract_lets s1 s2
  have h2 : Looks s s2 := (h.bump (by decide)).snap (by decide) fun _ h =>
    (((((((h.setFld (by decide)).setFld (by decide)).setFld (by decide)).setFld (by decide)).setFld (by decide)).setFld
      (by decide)).wrRaw (by decide)).wrRaw (by decide)
  exact ((h2.latch (by decide)).raise).ite ((h2.latch (by decide)).raise.ite ((h2.latch (by decide)).ite ((h2.latch (by decide)).ite h2)))

theorem walkRead (h : Looks s t) {w func addr level} : Looks s (t.walkRead w func addr level).1 :=
  .fst_ite h (h.bump (by decide)).emit

theorem descend (h : Looks s t) {w l table} : Looks s (Machine.descend w l table t).1 := by
  induction l generalizing w table with
  | zero => exact h.walkRead
  | succ l ih =>
    unfold Machine.descend
    split
    · exact ih
    · exact h.walkRead

theorem fromRoot (h : Looks s t) {w root top} : Looks s (t.fromRoot w root top).1 := .fst_ite h h.descend

theorem leafChecks (h : Looks s t) {w e tries} : Looks s (t.leafChecks w e tries).1 := by
  unfold State.leafChecks
  extract_lets
  exact .fst_ite h (.fst_ite h (.fst_ite h (.fst_ite (.fst_ite h (.fst_ite h (.fst_ite h (h.bump (by decide)).emit))) h)))

theorem walkBegin (h : Looks s t) {w} : Looks s (t.walkBegin w).1 := by
  unfold State.walkBegin
  split
  · exact h.fromRoot
  · exact h.walkRead

theorem xlateAux (h : Looks s t) {q fuel va n got segs} : Looks s (Machine.xlateAux q fuel va n got segs t).1 := by
  induction fuel generalizing t va n got segs with
  | zero => exact h
  | succ fuel ih =>
    unfold Machine.xlateAux
    split
    · exact h
    extract_lets take w r
    split
    · exact ih h
    have hr : Looks s r.1 := by
      unfold r
      refine .fst_ite h (.fst_ite h ?_)
      split
      · exact (h.bump (by decide)).leafChecks
      · exact (h.bump (by decide)).pmu_.fresh.walkBegin
    clear_value r
    split
    · exact ih hr
    · exact hr.xltFault
    · exact hr.setXlt

theorem xlate (h : Looks s t) {acc func asid va n write target kr got} : Looks s (t.xlate acc func asid va n write target kr got).1 :=
  h.xlateAux

end Looks
end
end Sys2Proof.Machine

/-! # The rows of one descriptor (R153, R157) -/

namespace Sys2Proof.Machine

section
variable {q e : Nat} {s t : State} {d : Raw} (hs : s.Inv)

/-- The opcodes of atomics that carry no payload from host memory. -/
theorem inlineOps_of_atomic {op : Nat} (h : op ∈ [0x10, 0x11, 0x12, 0x14, 0x15]) :
    op ∈ [0x00, 0x02, 0x04, 0x10, 0x11, 0x12, 0x14, 0x15, 0x18, 0x21, 0x22, 0x30, 0x31, 0x32] := by
  simp only [List.mem_cons, List.not_mem_nil, or_false] at h ⊢
  omega

theorem wq_modTurn_same (s : State) (q : Nat) (f : Turn → Turn) : (s.modTurn q f).wq q = { s.wq q with turn := (s.wq q).turn.map f } :=
  wq_modWq_same ..

/-- The lock service's tables are no part of what an issue records. -/
theorem issued_setLck {x : Desc} {v : State} (h : s.issued q x v) (l : LckSt) : s.issued q x { v with lck := l } := h

/-! ## Counters, collectives and locks -/

section
include hs

theorem cfadd_issues (hm : s.mayIssue e q d 0x18) {p : Pkt}
    (hp : (s.counterOf d = none ∧ p = atomicPacket d (s.wq q).kr []) ∨
      ∃ k, s.counterOf d = some k ∧ p = { dest := s.own, ptype := 0x0A, tclass := d.tclass, ext := extColl k 3 false 0 (s.ctx k).setupId 0 0 0, payload := leBytes 8 d.op0 }) :
    CompletesVia (fun v => (s.turnRest q (v.sendAll q (s.wq q).head none true true [p])).settle) (.cfadd64 q d) s
      (s.issued q (s.newDesc q d 1 0 e (s.wq q).kr)) := by
  obtain ⟨hh, ho, a, heq⟩ := mayIssue_issues hs hm
  refine ⟨_, congrArg (Host.Outcome.next ∘ State.settle) (heq.trans ?_), hh.issuedOff (s.wq q).kr a 1 0⟩
  rw [issueBy_cfadd (payloadLen_eq_zero (by rw [ho]; decide)) ho, hh.kr_eq]
  unfold State.issueCfadd
  dsimp only
  rw [hh.turned.counterOf_eq, hh.head_eq]
  rcases hp with ⟨hc, rfl⟩ | ⟨k, hc, rfl⟩
  · rw [hc]
  · rw [hc]
    dsimp only
    rw [hh.turned.own_eq, hh.turned.ctx_eq]

/-- What a vote or a barrier contributes (R389). -/
def State.voteOf (s : State) (d : Raw) : Contrib :=
  if d.opcode = 0x21 then { value := leBytes 8 (b2n (bitAt d.op0 0)), noCount := if bitAt d.op0 0 then 0 else 1,
                            novoters := if bitAt d.op0 0 then [] else [s.own] } else {}

theorem coll_issues {op k : Nat} (hop : op = 0x21 ∨ op = 0x22) (hm : s.mayIssue e q d op) (hk : s.collFor q d = some k) :
    ∃ u, s.issueOne q d op = s.turnRest q (u.collIssue k q (s.wq q).head (s.voteOf d)) ∧ s.issued q (s.newDesc q d 1 0 e (s.wq q).kr) u := by
  obtain ⟨hh, ho, a, heq⟩ := mayIssue_issues hs hm
  refine ⟨_, heq.trans ?_, hh.issuedOff (s.wq q).kr a 1 0⟩
  have hpl : payloadLen d = 0 := payloadLen_eq_zero (by rcases hop with rfl | rfl <;> rw [ho] <;> decide)
  rw [issueBy_coll hpl (ho ▸ hop), hh.kr_eq]
  unfold State.issueColl State.voteOf
  dsimp only
  rw [hh.turned.collFor_eq, hk, hh.head_eq, hh.turned.own_eq]

/-- The packet of a lock operation (R419). -/
def State.lockPkt (s : State) (q : Nat) (d : Raw) : Pkt :=
  { dest := d.dest, ptype := 0x08, sub := d.opcode - 0x30, tclass := d.tclass, ext := extLock (d.key % 2 ^ 24) q (s.wqOwner q) (s.wq q).head }

/-- The waiting record of an acquire (R421). -/
def State.acquireRec (s : State) (q : Nat) (d : Raw) : WaitRec := { home := d.dest, lock := d.key % 2 ^ 24, q := q, cnt := (s.wq q).head }

theorem lock_issues {op : Nat} (hop : op = 0x30 ∨ op = 0x31 ∨ op = 0x32) (hm : s.mayIssue e q d op) :
    ∃ u, s.issueOne q d op = s.turnRest q (u.sendAll q (s.wq q).head none true true [s.lockPkt q d]) ∧
      s.issued q (s.newDesc q d 1 0 e (s.wq q).kr) u ∧ (d.opcode = 0x30 → ∃ n, mget u.lck.recs n = some (s.acquireRec q d)) := by
  obtain ⟨hh, ho, a, heq⟩ := mayIssue_issues hs hm
  have hpl : payloadLen d = 0 := payloadLen_eq_zero (by rcases hop with rfl | rfl | rfl <;> rw [ho] <;> decide)
  have hiss := hh.issuedOff (s.wq q).kr a 1 0
  rw [issueBy_lock hpl (ho ▸ hop), hh.kr_eq] at heq
  unfold State.issueLock at heq
  dsimp only at heq
  rw [hh.head_eq, hh.turned.wqOwner_eq] at heq
  refine ⟨_, heq, ?_, fun h30 => ?_⟩
  · split
    · exact issued_setLck hiss _
    · exact hiss
  · rw [if_pos h30]
    exact ⟨_, mget_mset_same ..⟩

/-! ## Payloads in host memory (R350) -/

/-- The translation of the payload of the head entry, in the state in which its engine has taken it. -/
def State.payloadXlate (s : State) (e q : Nat) (d : Raw) : State × XRes :=
  (s.headTurn e q d).xlate (.payload q) (s.wqOwner q) (s.wq q).asid d.laddr (payloadLen d) false false (s.wq q).kr []

omit hs in
theorem emits_eq (f : Nat × Nat → Emit) (l : List (Nat × Nat)) (s : State) :
    ∃ o, l.foldl (fun u x => u.emit (f x)) s = { s with out := o } := by
  induction l generalizing s with
  | nil => exact ⟨s.out, rfl⟩
  | cons x l ih =>
    obtain ⟨o, ho⟩ := ih (s.emit (f x))
    exact ⟨o, ho⟩

/-- A row whose payload lies in host memory: its translation is made for the turn, and the turn then waits. -/
theorem payload_starts {op : Nat} (hm : s.mayIssue e q d op) (hp : payloadLen d ≠ 0) :
    ∃ a u, s.issueOne q d op = s.turnRest q ((s.payloadXlate e q d).1.payloadGo q d (s.wq q).kr a [] (s.payloadXlate e q d).2) ∧
      (s.payloadXlate e q d).1.wq q = u ∧ u.head = (s.wq q).head ∧ u.turn = some { engine := e, left := 1 } ∧ KeepsMem s (s.payloadXlate e q d).1 := by
  obtain ⟨hh, -, a, heq⟩ := mayIssue_issues hs hm
  have hl : Looks (s.headTurn e q d) (s.payloadXlate e q d).1 := (Looks.refl hh.turned.inv).xlate
  have hw : (s.payloadXlate e q d).1.wq q = (s.headTurn e q d).wq q := by
    unfold State.wq
    rw [hl.qmg_eq]
  have hasid : ((s.headTurn e q d).wq q).asid = (s.wq q).asid := by
    obtain ⟨f, u, hw⟩ := hh.turned.record
    rw [hw]
  refine ⟨a, _, heq.trans ?_, hw, hh.head_eq, hh.turn, hh.turned.keepsMem.trans hl.keepsMem⟩
  have hby : (s.headTurn e q d).issueBy q d a = (s.headTurn e q d).payloadStart q d ((s.headTurn e q d).wq q).kr a [] := if_pos hp
  rw [hby, hh.kr_eq]
  unfold State.payloadStart
  rw [hh.turned.wqOwner_eq, hasid]
  rfl

theorem payload_reads {op : Nat} (hm : s.mayIssue e q d op) (hp : payloadLen d ≠ 0) (hw : (s.payloadXlate e q d).2.wait = false)
    (hsegs : (s.payloadXlate e q d).2.segs ≠ []) :
    (s.issueOne q d op |>.wq q).head = (s.wq q).head ∧ KeepsMem s (s.issueOne q d op) ∧
      ∃ t, (s.issueOne q d op |>.wq q).turn = some t ∧ t.wait = .payload ∧ t.kr = (s.wq q).kr ∧
        t.segs = (s.payloadXlate e q d).2.segs ∧ t.fail = (s.payloadXlate e q d).2.fail := by
  obtain ⟨a, u, heq, hu, hhead, hturn, hmem⟩ := payload_starts hs hm hp
  generalize s.payloadXlate e q d = x at *
  obtain ⟨o, ho⟩ := emits_eq (fun y => .hostRead (x.1.wqOwner q) y.1 y.2) x.2.segs x.1
  have hgo : x.1.payloadGo q d (s.wq q).kr a [] x.2 = ({ x.1 with out := o } : State).modTurn q (fun t =>
      { t with wait := .payload, kr := (s.wq q).kr, segs := x.2.segs, fail := x.2.fail, inv := [] }) := by
    unfold State.payloadGo
    rw [if_neg (ne_true_of_eq_false hw), if_neg hsegs, ho]
    rfl
  have hwq := wq_modTurn_same { x.1 with out := o } q (fun t =>
      { t with wait := .payload, kr := (s.wq q).kr, segs := x.2.segs, fail := x.2.fail, inv := [] })
  rw [show ({ x.1 with out := o } : State).wq q = u from hu, hturn] at hwq
  rw [hgo] at heq
  rw [heq]
  unfold State.turnRest
  rw [turnAux_waits _ (congrArg WQ.turn hwq) (by exact fun h => by cases h), hwq]
  exact ⟨hhead, hmem.update, _, rfl, rfl, rfl, rfl, rfl⟩

theorem payload_walks {op : Nat} (hm : s.mayIssue e q d op) (hp : payloadLen d ≠ 0) (hw : (s.payloadXlate e q d).2.wait = true) :
    (s.issueOne q d op |>.wq q).head = (s.wq q).head ∧ KeepsMem s (s.issueOne q d op) ∧
      ∃ t, (s.issueOne q d op |>.wq q).turn = some t ∧ t.wait = .walk ∧ t.kr = (s.wq q).kr := by
  obtain ⟨a, u, heq, hu, hhead, hturn, hmem⟩ := payload_starts hs hm hp
  generalize s.payloadXlate e q d = x at *
  have hgo : x.1.payloadGo q d (s.wq q).kr a [] x.2 = x.1.modTurn q (fun t => { t with wait := .walk, kr := (s.wq q).kr }) := if_pos hw
  have hwq := wq_modTurn_same x.1 q (fun t => { t with wait := .walk, kr := (s.wq q).kr })
  rw [hu, hturn] at hwq
  rw [hgo] at heq
  rw [heq]
  unfold State.turnRest
  rw [turnAux_waits _ (congrArg WQ.turn hwq) (by exact fun h => by cases h), hwq]
  exact ⟨hhead, hmem.update, _, rfl, rfl, rfl⟩

end

/-- The rows of descriptors besides NOP, each with its opcode. -/
def descriptorRows (q : Nat) (d : Raw) : List (Nat × Instr) :=
  [(0x01, .put q d), (0x02, .get q d), (0x03, .send q d), (0x04, .recv q d), (0x10, .fadd64 q d), (0x11, .swap64 q d), (0x12, .cas64 q d),
   (0x14, .fadd128 q d), (0x15, .swap128 q d), (0x16, .cas128 q d), (0x18, .cfadd64 q d), (0x20, .collReduce q d), (0x21, .collVote q d),
   (0x22, .collBarrier q d), (0x30, .lockAcquire q d), (0x31, .lockTry q d), (0x32, .lockRelease q d)]

/-- The rows of descriptors besides NOP settle after the issue. -/
theorem exec_descriptorRow {x : Nat × Instr} (hx : x ∈ descriptorRows q d) : exec x.2 s = .next (s.issueOne q d x.1).settle := by
  simp only [descriptorRows, List.mem_cons, List.not_mem_nil, or_false] at hx
  rcases hx with rfl | rfl | rfl | rfl | rfl | rfl | rfl | rfl | rfl | rfl | rfl | rfl | rfl | rfl | rfl | rfl | rfl <;> rfl

/-- A row of a descriptor whose issue is known. -/
theorem exec_descriptorRow_eq {x : Nat × Instr} {u : State} (hx : x ∈ descriptorRows q d) (hu : s.issueOne q d x.1 = u) :
    exec x.2 s = .next u.settle := (exec_descriptorRow hx).trans (congrArg (Host.Outcome.next ∘ State.settle) hu)

end

/-- Settles O35: an engine that takes the queue leaves every test of the issue as it was, so the head entry reaches its issue, which records
it and sends what its opcode sends. -/
theorem descriptorRowsIssue : Obligations.DescriptorRowsIssue := by
  unfold Obligations.DescriptorRowsIssue
  intro s e q d hs kr c pst
  have hsub {l : List (Nat × Instr)} (hl : l.all (fun x => x ∈ descriptorRows q d)) {x : Nat × Instr} (hx : x ∈ l) :
      x ∈ descriptorRows q d := by simpa using List.all_eq_true.mp hl x hx
  refine ⟨nop_issues hs, put_issues hs, get_issues hs, send_issues hs, recv_issues hs, fun x hx hm => ?_, fun hm hc => ?_,
    fun k hm hc => ?_, fun k hm hk => ?_, fun k hm hk => ?_, fun x hx hm => ?_, fun x hx hm hp => ⟨fun hw hsegs => ?_, fun hw => ?_⟩⟩
  · have hop : x.1 ∈ [0x10, 0x11, 0x12, 0x14, 0x15] := List.mem_map_of_mem (f := Prod.fst) hx
    obtain ⟨u, hu, hi⟩ := atomic_issues hs hop hm
    exact ⟨u, exec_descriptorRow_eq (hsub (by simp [descriptorRows]) hx) hu, hi⟩
  · exact cfadd_issues hs hm (.inl ⟨hc, rfl⟩)
  · exact cfadd_issues hs hm (.inr ⟨k, hc, rfl⟩)
  · obtain ⟨u, hu, hi⟩ := coll_issues hs (.inl rfl) hm hk
    have hv : s.voteOf d = _ := if_pos hm.1.1.2.1
    exact ⟨u, exec_descriptorRow_eq (x := (0x21, _)) (by simp [descriptorRows]) (hv ▸ hu), hi⟩
  · obtain ⟨u, hu, hi⟩ := coll_issues hs (.inr rfl) hm hk
    have hv : s.voteOf d = _ := if_neg (by rw [hm.1.1.2.1]; decide)
    exact ⟨u, exec_descriptorRow_eq (x := (0x22, _)) (by simp [descriptorRows]) (hv ▸ hu), hi⟩
  · have hop : x.1 = 0x30 ∨ x.1 = 0x31 ∨ x.1 = 0x32 := by
      simpa using List.mem_map_of_mem (f := Prod.fst) hx
    obtain ⟨u, hu, hi, hr⟩ := lock_issues hs hop hm
    exact ⟨u, exec_descriptorRow_eq (hsub (by simp [descriptorRows]) hx) hu, hi, hr⟩
  · exact ⟨_, exec_descriptorRow (hsub (by simp [descriptorRows]) hx), payload_reads hs hm hp hw hsegs⟩
  · exact ⟨_, exec_descriptorRow (hsub (by simp [descriptorRows]) hx), payload_walks hs hm hp hw⟩

end Sys2Proof.Machine

/-! # What the work of the device changes

The traffic and the queue work of the device change many components, but some facts hold however much of it happens: time and the
resets stand, no request tag comes into use before requests may leave (R93, R94), a walk that has ended does not come back, a turn that
has ended is not taken again, an entry that joins a run list joins that of its home engine (R36), GEN_READY stands, and NCC_NOLEASE once it
counts goes on counting (R316). `Acts lv iss org s` says so of a state
`s` that `org` has become: `lv` says whether queues may also have left their run lists, `iss` whether descriptors may have been issued and
requests may have come to wait for walks. The lemma `Acts.f` says that `f` keeps it, and its proof has the shape of `f`, as the lemmas
`State.Inv.f` have; they stand in the order of the model's files. -/

namespace Sys2Proof.Machine

/-- A value that a table gives for a key stays when another key leaves, whether or not the table is in its canonical form. -/
theorem mget_mdel_of_ne {α : Type} {m : AMap α} {k j : Nat} {v : α} (hj : j ≠ k) (h : mget m j = some v) : mget (mdel m k) j = some v := by
  induction m with
  | nil => cases h
  | cons x m ih =>
    unfold mget at h
    unfold mdel
    split at h
    next e =>
      rw [if_neg (fun e' => hj (by rw [← e, e']))]
      split
      · simp [mget, e, Option.some.inj h]
      · simp [mget, e, Option.some.inj h]
    split at h
    · cases h
    next hne hlt =>
      split
      · exact h
      split
      · simp [mget, hne, hlt, h]
      · simp [mget, hne, hlt, ih h]

/-- A work queue `w` has become `w'` without a new turn, a new copy or a newly issued entry. -/
structure Spare (w w' : WQ) : Prop where
  turn : ∀ t', w'.turn = some t' → ∃ t, w.turn = some t ∧ t'.engine = t.engine
  fetched : w.fetched = [] → w'.fetched = []
  outst : ∀ d' ∈ w'.outst, ∃ d ∈ w.outst, d'.cnt = d.cnt

namespace Spare

variable {w w' w'' : WQ}

theorem kept (ht : w'.turn = w.turn := by rfl) (hf : w'.fetched = w.fetched := by rfl) (ho : w'.outst = w.outst := by rfl) :
    Spare w w' :=
  ⟨fun t h => ⟨t, ht ▸ h, rfl⟩, fun h => hf.trans h, fun d h => ⟨d, ho ▸ h, rfl⟩⟩

theorem refl (w : WQ) : Spare w w := kept

theorem trans (h : Spare w w') (h' : Spare w' w'') : Spare w w'' := by
  refine ⟨fun t ht => ?_, fun hf => h'.fetched (h.fetched hf), fun d hd => ?_⟩
  · obtain ⟨t1, h1, e1⟩ := h'.turn t ht
    obtain ⟨t2, h2, e2⟩ := h.turn t1 h1
    exact ⟨t2, h2, e1.trans e2⟩
  · obtain ⟨d1, h1, e1⟩ := h'.outst d hd
    obtain ⟨d2, h2, e2⟩ := h.outst d1 h1
    exact ⟨d2, h2, e1.trans e2⟩

/-- A queue without turn, copies and issued entries. -/
theorem of_clear (ht : w'.turn = none := by rfl) (hf : w'.fetched = [] := by rfl) (ho : w'.outst = [] := by rfl) : Spare w w' :=
  ⟨fun t h => (by rw [ht] at h; cases h), fun _ => hf, fun d h => (by rw [ho] at h; cases h)⟩

/-- A queue whose turn has ended. -/
theorem of_ended (ht : w'.turn = none := by rfl) (hf : w'.fetched = w.fetched := by rfl) (ho : w'.outst = w.outst := by rfl) :
    Spare w w' :=
  ⟨fun t h => (by rw [ht] at h; cases h), fun h => hf.trans h, fun d h => ⟨d, ho ▸ h, rfl⟩⟩

/-- A queue whose copies are dropped. -/
theorem of_dropped (ht : w'.turn = w.turn := by rfl) (hf : w'.fetched = [] := by rfl) (ho : w'.outst = w.outst := by rfl) :
    Spare w w' :=
  ⟨fun t h => ⟨t, ht ▸ h, rfl⟩, fun _ => hf, fun d h => ⟨d, ho ▸ h, rfl⟩⟩

/-- A queue of which some issued entries have completed. -/
theorem of_outst_filter {p : Desc → Bool} (ht : w'.turn = w.turn := by rfl) (hf : w'.fetched = w.fetched := by rfl)
    (ho : w'.outst = w.outst.filter p := by rfl) : Spare w w' :=
  ⟨fun t h => ⟨t, ht ▸ h, rfl⟩, fun h => hf.trans h, fun d h => ⟨d, List.mem_of_mem_filter (ho ▸ h), rfl⟩⟩

/-- A queue whose turn goes on with its engine. -/
theorem of_turn_map {f : Turn → Turn} (hf : ∀ t, (f t).engine = t.engine) (ht : w'.turn = w.turn.map f := by rfl)
    (hc : w'.fetched = w.fetched := by rfl) (ho : w'.outst = w.outst := by rfl) : Spare w w' := by
  refine ⟨fun t h => ?_, fun h => hc.trans h, fun d h => ⟨d, ho ▸ h, rfl⟩⟩
  obtain ⟨t0, h0, rfl⟩ := Option.map_eq_some_iff.mp (ht ▸ h)
  exact ⟨t0, h0, hf t0⟩

end Spare

/-- No instance of a register, whatever its number, stands at the address `a`. -/
def RegName.apart (r : RegName) (a : Nat) : Bool :=
  decide (a < r.fam.base) || !decide (Nat.gcd r.fam.s1 r.fam.s2 ∣ a - r.fam.base)

theorem RegName.addr_ne_of_apart {r : RegName} {a : Nat} (h : r.apart a = true) (i : Nat) : r.addr i ≠ a := by
  rintro rfl
  have hle : r.fam.base ≤ r.addr i := (Nat.le_add_right _ _).trans (Nat.le_add_right _ _)
  have hdvd : Nat.gcd r.fam.s1 r.fam.s2 ∣ r.addr i - r.fam.base := by
    rw [RegName.addr, Nat.add_assoc, Nat.add_sub_cancel_left]
    exact Nat.dvd_add (Dvd.dvd.mul_right (Nat.gcd_dvd_left _ _) _) (Dvd.dvd.mul_right (Nat.gcd_dvd_right _ _) _)
  simp [RegName.apart, hdvd, Nat.not_lt.mpr hle] at h

/-- A register apart from GEN_READY and NCC_NOLEASE, the two of which `Acts` speaks. -/
def RegName.free (r : RegName) : Bool := r.apart (RegName.GEN_READY.addr 0) && r.apart (RegName.NCC_NOLEASE.addr 0)

/-- `s` is what `org` has become by the device's work. -/
structure Acts (lv iss : Bool) (org s : State) : Prop where
  time : s.time = org.time
  rst : s.rst = org.rst
  quiet : s.ini.quietUntil = org.ini.quietUntil
  tags : org.ini.tags = [] → org.tick < org.ini.quietUntil → s.ini.tags = []
  next : org.xlt.next ≤ s.xlt.next
  walks : ∀ x ∈ s.xlt.walks, (∃ y ∈ org.xlt.walks, y.1 = x.1) ∨ org.xlt.next ≤ x.1
  walksWf : mwf org.xlt.walks → (∀ x ∈ org.xlt.walks, x.1 < org.xlt.next) → mwf s.xlt.walks ∧ ∀ x ∈ s.xlt.walks, x.1 < s.xlt.next
  wq : iss = false → ∀ q, Spare (org.wq q) (s.wq q)
  busy : iss = false → ∀ x ∈ s.tgt.busy, x ∈ org.tgt.busy
  busyWf : mwf org.tgt.busy → mwf s.tgt.busy
  run : lv = false → ∀ e x, x.home ≠ e → (x ∈ s.runList e ↔ x ∈ org.runList e)
  ready : ∀ x, mget org.regs (RegName.GEN_READY.addr 0) = some x → mget s.regs (RegName.GEN_READY.addr 0) = some x
  noLease : (mget org.regs (RegName.NCC_NOLEASE.addr 0)).isSome → (mget s.regs (RegName.NCC_NOLEASE.addr 0)).isSome

section
variable {lv iss : Bool} {org s : State}

namespace Acts

theorem refl (s : State) : Acts lv iss s s where
  time := rfl
  rst := rfl
  quiet := rfl
  tags h _ := h
  next := Nat.le_refl _
  walks x hx := .inl ⟨x, hx, rfl⟩
  walksWf h h' := ⟨h, h'⟩
  wq _ _ := .refl _
  busy _ _ hx := hx
  busyWf h := h
  run _ _ _ _ := .rfl
  ready _ h := h
  noLease h := h

/-- What one state has become by the device's work goes on to become another. -/
theorem trans {t : State} (h : Acts lv iss org s) (h' : Acts lv iss s t) : Acts lv iss org t where
  time := h'.time.trans h.time
  rst := h'.rst.trans h.rst
  quiet := h'.quiet.trans h.quiet
  tags ho hq := h'.tags (h.tags ho hq) (by
    have e : s.tick = org.tick := congrArg TimeSt.elapsed h.time
    rw [e, h.quiet]
    exact hq)
  next := h.next.trans h'.next
  walks x hx := by
    obtain ⟨y, hy, e⟩ | hn := h'.walks x hx
    · rw [← e]
      exact h.walks y hy
    · exact .inr (h.next.trans hn)
  walksWf h1 h2 := h'.walksWf (h.walksWf h1 h2).1 (h.walksWf h1 h2).2
  wq hi q := (h.wq hi q).trans (h'.wq hi q)
  busy hi x hx := h.busy hi x (h'.busy hi x hx)
  busyWf hw := h'.busyWf (h.busyWf hw)
  run hl e x hx := (h'.run hl e x hx).trans (h.run hl e x hx)
  ready x hx := h'.ready x (h.ready x hx)
  noLease hx := h'.noLease (h.noLease hx)

theorem tick_eq (h : Acts lv iss org s) : s.tick = org.tick := congrArg TimeSt.elapsed h.time

/-- An update of the components of which `Acts` says nothing. -/
theorem update (h : Acts lv iss org s) {hostMem host cq eq aq bcmds parked regions dup tctx tleft accepted marks supStart supStartAlias
    waiting cc aliasDrops msg win cache wcache invals col lck rte lnk mir flt pmu sec ring out free pending} :
    Acts lv iss org
      { regs := s.regs, hostMem := hostMem, time := s.time, host := host,
        qmg := { wq := s.qmg.wq, cq := cq, eq := eq, aq := aq, bcmds := bcmds, run := s.qmg.run, parked := parked },
        tgt := { regions := regions, dup := dup, tctx := tctx, busy := s.tgt.busy, tleft := tleft, accepted := accepted, marks := marks,
                 supStart := supStart, supStartAlias := supStartAlias },
        ini := { tags := s.ini.tags, waiting := waiting, cc := cc, quietUntil := s.ini.quietUntil, aliasDrops := aliasDrops },
        msg := msg, win := win,
        xlt := { cache := cache, wcache := wcache, next := s.xlt.next, walks := s.xlt.walks, invals := invals },
        col := col, lck := lck, rte := rte, lnk := lnk, mir := mir, rst := s.rst, flt := flt, pmu := pmu, sec := sec, ring := ring,
        out := out, free := free, pending := pending } :=
  ⟨h.time, h.rst, h.quiet, h.tags, h.next, h.walks, h.walksWf, h.wq, h.busy, h.busyWf, h.run, h.ready, h.noLease⟩

/-! ## The shapes that meanings are built of -/

theorem ite {a b : State} {c : Prop} {inst : Decidable c} (ha : Acts lv iss org a) (hb : Acts lv iss org b) : Acts lv iss org (if c then a else b) := by
  split
  · exact ha
  · exact hb

theorem fst_ite {β : Type} {p q : State × β} {c : Prop} {inst : Decidable c} (hp : Acts lv iss org p.1) (hq : Acts lv iss org q.1) :
    Acts lv iss org (if c then p else q).1 := by
  split
  · exact hp
  · exact hq

theorem snd_ite {β : Type} {p q : β × State} {c : Prop} {inst : Decidable c} (hp : Acts lv iss org p.2) (hq : Acts lv iss org q.2) :
    Acts lv iss org (if c then p else q).2 := by
  split
  · exact hp
  · exact hq

theorem of_fst_eq {β : Type} {p : State × β} {t : State} {x : β} (h : Acts lv iss org p.1) (e : p = (t, x)) : Acts lv iss org t := by
  rw [e] at h
  exact h

theorem of_snd_eq {β : Type} {p : β × State} {t : State} {x : β} (h : Acts lv iss org p.2) (e : p = (x, t)) : Acts lv iss org t := by
  rw [e] at h
  exact h

theorem foldl {β : Type} {xs : List β} {f : State → β → State} (h : Acts lv iss org s) (hf : ∀ t x, Acts lv iss org t → Acts lv iss org (f t x)) :
    Acts lv iss org (xs.foldl f s) := by
  induction xs generalizing s with
  | nil => exact h
  | cons x xs ih => exact ih (hf s x h)

/-- New locks and waiting records. -/
theorem setLck (h : Acts lv iss org s) {lck} : Acts lv iss org { s with lck := lck } := h.update

/-! ## The moves of which `Acts` speaks -/

/-- What a register key names after a write to another one, if it was listed. -/
theorem mget_wrRaw_of_ne {a : Nat} {x : BitVec 32} {r j v} (hne : r.addr j ≠ a) (hx : mget s.regs a = some x) :
    mget (s.wrRaw r j v).regs a = some x := by
  unfold State.wrRaw
  dsimp only
  split
  · exact mget_mdel_of_ne hne.symm hx
  · rw [mget_mset_ne _ _ hne.symm, hx]

/-- A register written that is neither GEN_READY nor NCC_NOLEASE, or, with a value other than its reset value, NCC_NOLEASE. -/
theorem wrRaw_of (h : Acts lv iss org s) {r j v} (hg : r.addr j ≠ RegName.GEN_READY.addr 0)
    (hn : r.addr j ≠ RegName.NCC_NOLEASE.addr 0 ∨ v % 2 ^ 32 ≠ r.resetAt j) : Acts lv iss org (s.wrRaw r j v) := by
  have hu : Acts lv iss s (s.wrRaw r j v) := by
    refine { Acts.refl s with ready := fun x hx => mget_wrRaw_of_ne hg hx, noLease := fun hx => ?_ }
    obtain ⟨x, hx⟩ := Option.isSome_iff_exists.mp hx
    by_cases he : r.addr j = RegName.NCC_NOLEASE.addr 0
    · have hv := hn.resolve_left (not_not_intro he)
      unfold State.wrRaw
      rw [if_neg hv, he]
      exact Option.isSome_iff_exists.mpr ⟨_, mget_mset_same _ _ _⟩
    · exact Option.isSome_iff_exists.mpr ⟨x, mget_wrRaw_of_ne he hx⟩
  exact h.trans hu

theorem wrRaw (h : Acts lv iss org s) {r j v} (hr : r.free = true := by rfl) : Acts lv iss org (s.wrRaw r j v) := by
  rw [RegName.free, Bool.and_eq_true] at hr
  exact h.wrRaw_of (RegName.addr_ne_of_apart hr.1 j) (.inl (RegName.addr_ne_of_apart hr.2 j))

theorem write (h : Acts lv iss org s) {a b} : Acts lv iss org (s.write a b) := h.update

theorem modWq (h : Acts lv iss org s) {q f} (hf : ∀ w, Spare w (f w) := by exact fun _ => .kept) : Acts lv iss org (s.modWq q f) := by
  refine { h with wq := fun hi q' => ?_ }
  refine (h.wq hi q').trans ?_
  by_cases e : q' = q
  · rw [e, wq_modWq_same]
    exact hf _
  · rw [show (s.modWq q f).wq q' = s.wq q' from congrArg (Option.getD · ({} : WQ)) (mget_mset_ne _ _ e)]
    exact .refl _

/-- A work queue that the issue of descriptors may change at will. -/
theorem modWq_issues (h : Acts lv true org s) {q f} : Acts lv true org (s.modWq q f) := { h with wq := nofun }

theorem modDesc (h : Acts lv iss org s) {q cnt f} (hf : ∀ d, d.cnt = cnt → (f d).cnt = cnt := by exact fun _ e => e) : Acts lv iss org (s.modDesc q cnt f) := by
  refine h.modWq fun w => ⟨fun t ht => ⟨t, ht, rfl⟩, fun h => h, fun d' hd' => ?_⟩
  obtain ⟨d, hd, rfl⟩ := List.mem_map.mp hd'
  refine ⟨d, hd, ?_⟩
  split
  next e => rw [hf d e, e]
  · rfl

/-- The request tags of a state in which requests may leave. -/
theorem tags_of_maySend (h : Acts lv iss org s) {tags} (hs : org.ini.quietUntil ≤ org.tick) :
    Acts lv iss org { s with ini := { s.ini with tags := tags } } :=
  { h with tags := fun _ hq => absurd hq (Nat.not_lt.mpr hs) }

/-- The request tags, of which none is new. -/
theorem tags_of_nil (h : Acts lv iss org s) {tags} (ht : s.ini.tags = [] → tags = []) : Acts lv iss org { s with ini := { s.ini with tags := tags } } :=
  { h with tags := fun ho hq => ht (h.tags ho hq) }

theorem modTag (h : Acts lv iss org s) {t f} : Acts lv iss org (s.modTag t f) := h.tags_of_nil fun e => by rw [e]; rfl

/-- Requests may leave, so the ticks after a reset in which none does have passed. -/
theorem quiet_le (h : Acts lv iss org s) (hs : s.maySend = true) : org.ini.quietUntil ≤ org.tick := by
  rw [State.maySend, Bool.and_eq_true, Bool.and_eq_true, Bool.and_eq_true] at hs
  obtain ⟨⟨⟨-, hq⟩, -⟩, -⟩ := hs
  rw [← h.quiet, ← h.tick_eq]
  exact of_decide_eq_true hq

/-- Walks of which none is new. -/
theorem walks_of_mem (h : Acts lv iss org s) {ws : AMap Walk} (hm : ∀ x ∈ ws, ∃ y ∈ s.xlt.walks, y.1 = x.1)
    (hw : mwf s.xlt.walks → mwf ws) : Acts lv iss org { s with xlt := { s.xlt with walks := ws } } := by
  refine { h with walks := fun x hx => ?_, walksWf := fun ho hn => ?_ }
  · obtain ⟨y, hy, e⟩ := hm x hx
    rw [← e]
    exact h.walks y hy
  · obtain ⟨h1, h2⟩ := h.walksWf ho hn
    refine ⟨hw h1, fun x hx => ?_⟩
    obtain ⟨y, hy, e⟩ := hm x hx
    rw [← e]
    exact h2 y hy

/-- A new walk takes the next number. -/
theorem newWalk (h : Acts lv iss org s) {w} :
    Acts lv iss org { s with xlt := { s.xlt with walks := mset s.xlt.walks s.xlt.next w, next := s.xlt.next + 1 } } := by
  refine { h with next := Nat.le_succ_of_le h.next, walks := fun x hx => ?_, walksWf := fun ho hn => ?_ }
  · obtain rfl | hx := mem_mset hx
    · exact .inr h.next
    · exact h.walks x hx
  · obtain ⟨h1, h2⟩ := h.walksWf ho hn
    refine ⟨mwf_mset h1 _ _, fun x hx => ?_⟩
    obtain rfl | hx := mem_mset hx
    · exact Nat.lt_succ_self _
    · exact Nat.lt_succ_of_lt (h2 x hx)

/-- An installation in a translation cache takes a number. -/
theorem installed (h : Acts lv iss org s) {cache wcache} :
    Acts lv iss org { s with xlt := { s.xlt with cache := cache, wcache := wcache, next := s.xlt.next + 1 } } :=
  { h with next := Nat.le_succ_of_le h.next, walksWf := fun ho hn =>
      ⟨(h.walksWf ho hn).1, fun x hx => Nat.lt_succ_of_lt ((h.walksWf ho hn).2 x hx)⟩ }

theorem enqueue (h : Acts lv iss org s) {x} : Acts lv iss org (s.enqueue x) := by
  unfold State.enqueue
  extract_lets xs
  refine h.ite { h with run := fun hl e y hy => ?_ }
  rw [← h.run hl e y hy]
  by_cases he : e = x.home
  · have hr : (s.setRun x.home (xs ++ [x])).runList e = xs ++ [x] := by
      unfold State.setRun State.runList
      rw [if_neg (by simp), he]
      exact congrArg (Option.getD · []) (mget_mset_same _ _ _)
    have hx : y ≠ x := fun e' => hy (by rw [e', he])
    rw [hr, List.mem_append, List.mem_singleton, he]
    exact ⟨fun h => h.resolve_right hx, .inl⟩
  · have hr : (s.setRun x.home (xs ++ [x])).runList e = s.runList e := by
      unfold State.setRun State.runList
      rw [if_neg (by simp)]
      exact congrArg (Option.getD · []) (mget_mset_ne _ _ he)
    rw [hr]

theorem leaveRun (h : Acts true iss org s) {q} : Acts true iss org (s.leaveRun q) := { h with run := nofun }

theorem markBusy (h : Acts lv true org s) {r t} : Acts lv true org (s.markBusy r t) :=
  { h with busy := nofun, busyWf := fun hw => mwf_mset (h.busyWf hw) _ _ }

theorem unmarkBusy (h : Acts lv iss org s) {t} : Acts lv iss org (s.unmarkBusy t) :=
  { h with busy := fun hi x hx => h.busy hi x (mem_mdel hx), busyWf := fun hw => mwf_mdel (h.busyWf hw) _ }

end Acts

end

end Sys2Proof.Machine

/-! # The device's work keeps what `Acts` says

One lemma for each function that requests, answers, turns and admin commands on queues are built of; the proofs have the shapes of the
definitions. -/

namespace Sys2Proof.Machine

section
-- The default proofs that a register is free wait for all earlier proofs when these are checked beside one another.
set_option Elab.async false
variable {lv iss : Bool} {org s : State}

/-- A register that has counted is not 0. -/
theorem State.bump_ne_zero (s : State) {f : Fld} {i : Nat} (h0 : f.reg.resetAt i = 0) (hw : 0 < f.w) (hl : f.lo + f.w ≤ 32) :
    putBits (s.rdRaw f.reg i) f.lo f.w (satAdd (2 ^ f.w - 1) (s.fld f i) 1) % 2 ^ 32 ≠ 0 := by
  have hn : s.rdRaw f.reg i < 2 ^ 32 := by
    unfold State.rdRaw
    split
    · exact BitVec.isLt _
    · rw [h0]
      decide
  have h2 : 2 ≤ 2 ^ f.w := Nat.pow_le_pow_right (by decide : 0 < 2) hw
  have hs : satAdd (2 ^ f.w - 1) (s.fld f i) 1 % 2 ^ f.w ≠ 0 := by
    unfold satAdd
    rw [Nat.mod_eq_of_lt (by omega)]
    omega
  rw [Nat.mod_eq_of_lt (putBits_lt _ hn hl)]
  intro e
  rw [← bits_putBits_same (s.rdRaw f.reg i) f.lo f.w, e] at hs
  exact hs (by simp [bits])

namespace Acts

/-! ## Registers, memory, outputs, events and completions (Machine/Ops) -/

section
variable {f : Fld} (hf : f.reg.free = true := by rfl)
include hf

theorem setFld (h : Acts lv iss org s) {v i} : Acts lv iss org (s.setFld f v i) := h.wrRaw hf

theorem bump (h : Acts lv iss org s) {i n} : Acts lv iss org (s.bump f i n) := h.setFld hf

theorem latch (h : Acts lv iss org s) {i} : Acts lv iss org (s.latch f i) := h.setFld hf

theorem setBit (h : Acts lv iss org s) {i on j} : Acts lv iss org (s.setBit f i on j) := h.setFld hf

end

/-- A count of a register whose reset value is 0 goes on, wherever the register stands: what it has become is not 0. -/
theorem bump_count (h : Acts lv iss org s) {f : Fld} {i : Nat} (hg : f.reg.apart (RegName.GEN_READY.addr 0) = true := by rfl)
    (h0 : f.reg.resetAt i = 0 := by rfl) (hw : 0 < f.w := by decide) (hl : f.lo + f.w ≤ 32 := by decide) : Acts lv iss org (s.bump f i) :=
  h.wrRaw_of (RegName.addr_ne_of_apart hg i) (.inr (h0 ▸ s.bump_ne_zero h0 hw hl))

theorem snap {upd : State → State} (h : Acts lv iss org s) {seq : Fld} {i} (hupd : ∀ t, Acts lv iss org t → Acts lv iss org (upd t))
    (hf : seq.reg.free = true := by rfl) :
    Acts lv iss org (s.snap seq i upd) := by
  unfold State.snap
  extract_lets key s1 s2
  have h2 : Acts lv iss org s2 := (hupd _ h).setFld hf
  split
  · exact h.ite h2.update
  · exact h2.update

theorem emit (h : Acts lv iss org s) {e} : Acts lv iss org (s.emit e) := h.update

theorem fresh (h : Acts lv iss org s) : Acts lv iss org s.fresh.2 := h.update

theorem poisonRx (h : Acts lv iss org s) {rd} : Acts lv iss org (s.poisonRx rd) := h.latch.ite h

theorem modCq (h : Acts lv iss org s) {c f} : Acts lv iss org (s.modCq c f) := h.update

theorem modEq (h : Acts lv iss org s) {e f} : Acts lv iss org (s.modEq e f) := h.update

theorem modAq (h : Acts lv iss org s) {f g} : Acts lv iss org (s.modAq f g) := h.update

theorem modPort (h : Acts lv iss org s) {p f} : Acts lv iss org (s.modPort p f) := h.update

theorem modCtx (h : Acts lv iss org s) {k f} : Acts lv iss org (s.modCtx k f) := h.update

theorem msixSend (h : Acts lv iss org s) {f v} : Acts lv iss org (s.msixSend f v) := h.emit

theorem msix (h : Acts lv iss org s) {f v} : Acts lv iss org (s.msix f v) := h.update.ite h.msixSend

theorem raise (h : Acts lv iss org s) {src code addr} : Acts lv iss org (s.raise src code addr) := h.update.ite h.update

theorem setPmuVal (h : Acts lv iss org s) {i v} : Acts lv iss org (s.setPmuVal i v) := h.wrRaw.wrRaw

theorem pmuPut (h : Acts lv iss org s) {i addr time d} : Acts lv iss org (s.pmuPut i addr time d) := by
  unfold State.pmuPut
  extract_lets
  refine .snap h fun t ht => ?_
  extract_lets t1
  have ht1 : Acts lv iss org t1 := ht.wrRaw.wrRaw.wrRaw
  split
  · exact ht1.setFld.setFld.setFld.setFld.setFld.wrRaw
  · exact ht1.setFld.setFld

theorem pmuSample (h : Acts lv iss org s) {i e} : Acts lv iss org (s.pmuSample i e) := by
  unfold State.pmuSample
  extract_lets
  split
  · exact h.pmuPut
  · exact h.update
  · exact h.pmuPut

theorem skidTake (h : Acts lv iss org s) {q en cnt} : Acts lv iss org (s.skidTake q en cnt) := h.update.foldl fun _ _ h => h.pmuPut

theorem raiseN (h : Acts lv iss org s) {src code addr n} : Acts lv iss org (s.raiseN src code addr n) :=
  (h.foldl fun _ _ h => h.raise).update

theorem pmuOverflow (h : Acts lv iss org s) {i e n} : Acts lv iss org (s.pmuOverflow i e n) := by
  unfold State.pmuOverflow
  extract_lets g s1 s2 s3
  have h1 : Acts lv iss org s1 := h.setBit.bump
  have h2 : Acts lv iss org s2 := h1.raiseN.ite h1
  have h3 : Acts lv iss org s3 := h2.setFld.ite h2
  exact h3.pmuSample.ite h3

theorem pmuOne (h : Acts lv iss org s) {i e} : Acts lv iss org (s.pmuOne i e) := (h.setPmuVal.ite h.setPmuVal.pmuOverflow).ite h

theorem pmu_ (h : Acts lv iss org s) {e} : Acts lv iss org (s.pmu_ e) := (h.foldl fun _ _ h => h.pmuOne).ite h

theorem pmuQ (h : Acts lv iss org s) {code n q engine cnt tclass addr by_} : Acts lv iss org (s.pmuQ code n q engine cnt tclass addr by_) :=
  h.pmu_

theorem pmuTagWrite (h : Acts lv iss org s) {q cnt} : Acts lv iss org (s.pmuTagWrite q cnt) := by
  unfold State.pmuTagWrite
  split
  · split
    · extract_lets s1
      have h1 : Acts lv iss org s1 := h.snap fun _ h => h.setFld.setFld.setFld.setFld.wrRaw.setFld.setFld.wrRaw.wrRaw.wrRaw.wrRaw
      exact h1.update
    · exact h
  · exact h

theorem whenProtected {now : State → State} (h : Acts lv iss org s) {a} (hnow : ∀ t, Acts lv iss org t → Acts lv iss org (now t)) :
    Acts lv iss org (s.whenProtected a now) :=
  h.update.ite (hnow _ h)

theorem mirPumpAux (h : Acts lv iss org s) {fuel} : Acts lv iss org (Machine.mirPumpAux fuel s) := by
  induction fuel generalizing s with
  | zero => exact h
  | succ fuel ih =>
    unfold Machine.mirPumpAux
    split
    · split
      · exact h
      · exact ih h.emit.update.bump
    · exact h

theorem mirPump (h : Acts lv iss org s) : Acts lv iss org s.mirPump := h.ite h.mirPumpAux

theorem record (h : Acts lv iss org s) {rtype body} : Acts lv iss org (s.record rtype body) := h.update.mirPump.ite h

theorem eqWrite (h : Acts lv iss org s) {n e} : Acts lv iss org (s.eqWrite n e) := h.write.modEq.msix.ite h.write.modEq

theorem recQctx (h : Acts lv iss org s) {isEq n} : Acts lv iss org (s.recQctx isEq n) := h.record.ite h.record

theorem eqReserve (h : Acts lv iss org s) {n} : Acts lv iss org (s.eqReserve n) := h.ite h.modEq.recQctx.update

theorem evLost (h : Acts lv iss org s) {n} : Acts lv iss org (s.evLost n) := h.bump.modEq

theorem eqLoss (h : Acts lv iss org s) {n} : Acts lv iss org (s.eqLoss n) := h.ite h.modEq

theorem eqDrainAux (h : Acts lv iss org s) {n fuel} : Acts lv iss org (Machine.eqDrainAux n fuel s) := by
  induction fuel generalizing s with
  | zero => exact h
  | succ fuel ih =>
    unfold Machine.eqDrainAux
    extract_lets
    split
    · exact h
    · exact h.ite (h.eqReserve.ite (ih h.modEq.eqWrite))

theorem eqDrain (h : Acts lv iss org s) {n} : Acts lv iss org (s.eqDrain n) := h.eqLoss.eqDrainAux

theorem eventAt (h : Acts lv iss org s) {n type sub object data time} : Acts lv iss org (s.eventAt n type sub object data time) :=
  h.bump.ite (h.evLost.ite h.eqLoss.modEq.eqDrain)

theorem event (h : Acts lv iss org s) {n type sub object data} : Acts lv iss org (s.event n type sub object data) := h.eventAt

theorem event0 (h : Acts lv iss org s) {type sub object data} : Acts lv iss org (s.event0 type sub object data) := h.event

theorem wqEvent (h : Acts lv iss org s) {q type sub data} : Acts lv iss org (s.wqEvent q type sub data) := h.event

theorem cqReserve (h : Acts lv iss org s) {n} : Acts lv iss org (s.cqReserve n) := h.ite h.modCq.recQctx.update

theorem headWb (h : Acts lv iss org s) {q} : Acts lv iss org (s.headWb q) := h.ite (h.modWq.ite h.write.modWq)

theorem cqWrite {s0 : State} (h0 : Acts lv iss org s0) {n c} : Acts lv iss org (s0.cqWrite n c) :=
  h0.headWb.write.modCq.pmuQ.pmuTagWrite.event.ite h0.headWb.write.modCq.pmuQ.pmuTagWrite

theorem cqStall (h : Acts lv iss org s) {n} : Acts lv iss org (s.cqStall n) := h.ite h.bump.modCq.event

theorem cqDrainAux (h : Acts lv iss org s) {n fuel} : Acts lv iss org (Machine.cqDrainAux n fuel s) := by
  induction fuel generalizing s with
  | zero => exact h
  | succ fuel ih =>
    unfold Machine.cqDrainAux
    extract_lets
    split
    · exact h
    · exact h.ite (h.cqStall.ite (h.cqReserve.ite (ih h.modCq.cqWrite)))

theorem cqDrain (h : Acts lv iss org s) {n} : Acts lv iss org (s.cqDrain n) := h.cqDrainAux

theorem cqHold (h : Acts lv iss org s) {n} : Acts lv iss org (s.cqHold n) := h.ite (h.cqStall.ite h.cqReserve)

theorem joinRun (h : Acts lv iss org s) {q} : Acts lv iss org (s.joinRun q) := h.enqueue.ite h

theorem park (h : Acts lv iss org s) {r q} : Acts lv iss org (s.park r q) := h.update

theorem unpark (h : Acts lv iss org s) {p} : Acts lv iss org (s.unpark p) := h.update.foldl fun _ _ h => h.joinRun

theorem cqRelease (h : Acts lv iss org s) {n} : Acts lv iss org (s.cqRelease n) := h.modCq.unpark.ite h

/-! ## Queues: admin and descriptor completions (Machine/Queues) -/

theorem adminDrainAux (h : Acts lv iss org s) {f fuel} : Acts lv iss org (Machine.adminDrainAux f fuel s) := by
  induction fuel generalizing s with
  | zero => exact h
  | succ fuel ih =>
    unfold Machine.adminDrainAux
    extract_lets
    split
    · exact h
    split
    · exact h
    · exact ih (h.write.modAq.pmu_.msix.ite h.write.modAq.pmu_)

theorem adminDrain (h : Acts lv iss org s) {f} : Acts lv iss org (s.adminDrain f) := h.adminDrainAux

theorem adminCpl (h : Acts lv iss org s) {f c} : Acts lv iss org (s.adminCpl f c) := h.modAq.adminDrain.ite h

theorem adminCplProt (h : Acts lv iss org s) {f c} : Acts lv iss org (s.adminCplProt f c) := h.whenProtected fun _ h => h.adminCpl

theorem adminEnd (h : Acts lv iss org s) {c status r0 r1} : Acts lv iss org (s.adminEnd c status r0 r1) := h.adminCpl

theorem startB (h : Acts lv iss org s) {b} : Acts lv iss org (s.startB b) := h.update

theorem dropB (h : Acts lv iss org s) {p} : Acts lv iss org (s.dropB p) := h.update

theorem endB (h : Acts lv iss org s) {p status r0 r1} : Acts lv iss org (s.endB p status r0 r1) := by
  unfold State.endB
  split
  · exact h.dropB.adminCpl
  · exact h

theorem endBProt (h : Acts lv iss org s) {p status r0 r1} : Acts lv iss org (s.endBProt p status r0 r1) := by
  unfold State.endBProt
  split
  · exact h.dropB.adminCplProt
  · exact h

theorem pmuTagDone (h : Acts lv iss org s) {q d status} : Acts lv iss org (s.pmuTagDone q d status) := by
  unfold State.pmuTagDone
  split
  · exact h.update.ite h
  · exact h

theorem postCpl (h : Acts lv iss org s) {q cnt op status d0 d1 peer engine} :
    Acts lv iss org (s.postCpl q cnt op status d0 d1 peer engine) :=
  h.modCq.cqDrain

theorem unparkQ (h : Acts lv iss org s) {r q} : Acts lv iss org (s.unparkQ r q) := h.update.joinRun.ite h

theorem finish (h : Acts lv iss org s) {q d status d0 d1 peer} : Acts lv iss org (s.finish q d status d0 d1 peer) := by
  unfold State.finish
  extract_lets s1 s2 s3 s4
  have h1 : Acts lv iss org s1 := h.modWq fun w => .of_outst_filter
  have h2 : Acts lv iss org s2 := h1.pmuQ.ite h1
  have h3 : Acts lv iss org s3 := h2.pmuTagDone
  have h4 : Acts lv iss org s4 := h3.postCpl.ite h3.pmuTagWrite
  exact h4.unparkQ

theorem qerr (h : Acts lv iss org s) {q kind idx} : Acts lv iss org (s.qerr q kind idx) :=
  h.snap fun _ h => h.setFld.setFld.setFld.wrRaw

theorem recWq (h : Acts lv iss org s) {q} : Acts lv iss org (s.recWq q) := h.record.ite h

theorem recWqHead (h : Acts lv iss org s) {q} : Acts lv iss org (s.recWqHead q) := h.record.ite h

theorem recWqTail (h : Acts lv iss org s) {q} : Acts lv iss org (s.recWqTail q) := h.record.ite h

/-! ## The sending side of the link layer (Machine/Links) -/

theorem xmit (h : Acts lv iss org s) {p f} : Acts lv iss org (s.xmit p f) := h.modPort.emit

theorem xmitKind (h : Acts lv iss org s) {p kind body} : Acts lv iss org (s.xmitKind p kind body) := h.xmit

theorem freeSlots (h : Acts lv iss org s) {key n} : Acts lv iss org (s.freeSlots key n) := h.modPort.ite h

theorem dropTx (h : Acts lv iss org s) {p v t rest} : Acts lv iss org (s.dropTx p v t rest) := by
  unfold State.dropTx
  extract_lets
  split
  · exact (h.modPort.ite h.modPort.modPort).freeSlots
  · exact h.modPort

theorem leftBy (h : Acts lv iss org s) {started tag p} : Acts lv iss org (s.leftBy started tag p) := by
  unfold State.leftBy
  split
  · exact h.ite (h.tags_of_nil fun e => by rw [e]; rfl)
  · exact h

theorem sendHead (h : Acts lv iss org s) {p v} : Acts lv iss org (s.sendHead p v) := by
  unfold State.sendHead
  split
  · exact h
  split
  · exact h
  split
  · exact h.dropTx
  · extract_lets seq _ f1 s1 s2
    have h2 : Acts lv iss org s2 := h.modPort.xmit.leftBy
    split
    · exact h2.freeSlots
    · exact h2

theorem pumpAux (h : Acts lv iss org s) {p fuel} : Acts lv iss org (Machine.pumpAux p fuel s) := by
  induction fuel generalizing s with
  | zero => exact h
  | succ fuel ih =>
    unfold Machine.pumpAux
    extract_lets
    split
    · exact h
    split
    · exact ih h.modPort.xmit.pmu_
    split
    · exact h
    split
    · exact ih h.modPort.sendHead
    · exact h

theorem pump (h : Acts lv iss org s) {p} : Acts lv iss org (s.pump p) := h.pumpAux

theorem settleAux (h : Acts lv iss org s) {p fuel} : Acts lv iss org (Machine.settleAux p fuel s) := by
  induction fuel generalizing s with
  | zero => exact h
  | succ fuel ih => exact (ih h.xmitKind).ite h

theorem flush (h : Acts lv iss org s) : Acts lv iss org s.flush := (h.foldl fun _ _ h => h.pump).foldl fun _ _ h => h.settleAux

theorem queuePkt (h : Acts lv iss org s) {p v i src via} : Acts lv iss org (s.queuePkt p v i src via) := h.modPort

theorem badPkt (h : Acts lv iss org s) {p} : Acts lv iss org (s.badPkt p) := h.bump

theorem sendCtlTo (h : Acts lv iss org s) {p dest src ptype payload} : Acts lv iss org (s.sendCtlTo p dest src ptype payload) :=
  h.queuePkt.ite h

theorem sendCtl (h : Acts lv iss org s) {p ptype payload} : Acts lv iss org (s.sendCtl p ptype payload) := h.sendCtlTo

/-! ## The transit crossbar and the line map (Machine/Routing) -/

theorem watchTwin (h : Acts lv iss org s) : Acts lv iss org s.watchTwin := by
  unfold State.watchTwin
  split
  · exact h
  · exact h.update

theorem commit (h : Acts lv iss org s) {i key p v k} : Acts lv iss org (s.commit i key p v k) := h.queuePkt.pmu_.ite h.queuePkt

theorem dropUnroutable (h : Acts lv iss org s) : Acts lv iss org s.dropUnroutable := h.bump.latch

theorem freeKey (h : Acts lv iss org s) {key n} : Acts lv iss org (s.freeKey key n) := by
  unfold State.freeKey
  split
  · exact h.freeSlots
  · exact h

theorem reinject (h : Acts lv iss org s) {i k} : Acts lv iss org (s.reinject i k) := h.bump.latch.ite h.bump.update

theorem toLocal (h : Acts lv iss org s) {i} : Acts lv iss org (s.toLocal i) := h.ite h.update

theorem setPart (h : Acts lv iss org s) {key x} : Acts lv iss org (s.setPart key x) := h.modPort

theorem trail (h : Acts lv iss org s) {i key x} : Acts lv iss org (s.trail i key x) := by
  unfold State.trail
  split
  · exact h.setPart
  · exact h

theorem routeOne (h : Acts lv iss org s) {i key} : Acts lv iss org ((s.routeOne i key).1) := by
  unfold State.routeOne
  split
  · exact h
  split
  · exact .fst_ite h h.freeKey.toLocal
  · split
    · exact h
    · extract_lets s0 s1
      have h0 : Acts lv iss org s0 := h.fresh.ite h
      have h1 : Acts lv iss org s1 := h0.bump.pmu_.ite h0
      exact (h1.bump.ite h1).trail.commit
  · exact h
  · split
    · exact h
    · dsimp only
      exact h.freeKey.reinject
  · exact h.trail.freeKey.dropUnroutable
  · exact h.trail.freeKey.bump

theorem setInq (h : Acts lv iss org s) {key l} : Acts lv iss org (s.setInq key l) := h.update

theorem routeKeyAux (h : Acts lv iss org s) {key fuel} : Acts lv iss org (Machine.routeKeyAux key fuel s) := by
  induction fuel generalizing s with
  | zero => exact h
  | succ fuel ih =>
    unfold Machine.routeKeyAux
    split
    · exact h
    split
    next heq => exact ih (h.routeOne.of_fst_eq heq).setInq
    · exact h

theorem routeKey (h : Acts lv iss org s) {key} : Acts lv iss org (s.routeKey key) := h.routeKeyAux

theorem routeReinj (h : Acts lv iss org s) : Acts lv iss org s.routeReinj := by
  refine h.update.foldl fun t i ht => ?_
  split
  next heq => exact ht.routeOne.of_fst_eq heq
  · exact ht.update

theorem arrive (h : Acts lv iss org s) {key i} : Acts lv iss org (s.arrive key i) := h.setInq.routeKey.routeReinj

theorem pmuOwner (h : Acts lv iss org s) {code o tclass} : Acts lv iss org (s.pmuOwner code o tclass) := h.pmu_

theorem inject (h : Acts lv iss org s) {k tag avoid own} : Acts lv iss org (s.inject k tag avoid own) := h.pmuOwner.arrive

theorem pisteSend (h : Acts lv iss org s) {n ps i} : Acts lv iss org (s.pisteSend n ps i) := h.commit.update

theorem injectPiste (h : Acts lv iss org s) {n k tag own} : Acts lv iss org (s.injectPiste n k tag own) :=
  h.pmuOwner.pisteSend.ite h.pmuOwner.update

theorem pisteRunAux (h : Acts lv iss org s) {n fuel} : Acts lv iss org (Machine.pisteRunAux n fuel s) := by
  induction fuel generalizing s with
  | zero => exact h
  | succ fuel ih =>
    unfold Machine.pisteRunAux
    extract_lets
    split
    · exact (ih h.pisteSend).ite h
    · exact h

theorem pisteRun (h : Acts lv iss org s) : Acts lv iss org s.pisteRun := h.foldl fun _ _ h => h.ite h.pisteRunAux

theorem unholdPiste (h : Acts lv iss org s) {n} : Acts lv iss org (s.unholdPiste n) :=
  h.ite (h.update.foldl fun _ _ h => h.ite h.arrive)

theorem fabricRun (h : Acts lv iss org s) : Acts lv iss org s.fabricRun :=
  (h.foldl fun _ _ h => h.routeKey).routeReinj.pisteRun.flush

theorem sendBreak (h : Acts lv iss org s) {p origin piste toDest} : Acts lv iss org (s.sendBreak p origin piste toDest) := h.sendCtl

theorem unqueuePiste (h : Acts lv iss org s) {port label} : Acts lv iss org (s.unqueuePiste port label) :=
  h.modPort.foldl fun _ _ h => h.ite h.arrive

theorem forgetMark (h : Acts lv iss org s) {n} : Acts lv iss org (s.forgetMark n) :=
  Acts.update (h.tags_of_nil (tags := s.ini.tags.map _) fun e => by rw [e]; rfl)

theorem pisteGone (h : Acts lv iss org s) {n status} : Acts lv iss org (s.pisteGone n status) := by
  unfold State.pisteGone
  split
  · exact h.unqueuePiste.unholdPiste.forgetMark.update.endB.ite h
  · exact h

theorem pisteBreak (h : Acts lv iss org s) {n port} : Acts lv iss org (s.pisteBreak n port) := by
  unfold State.pisteBreak
  split
  · exact h
  split
  · exact h.update.endB
  · exact h.update.unqueuePiste.unholdPiste.latch.raise
  · exact h.pisteGone
  · exact h

theorem recallReqs (h : Acts lv iss org s) : Acts lv iss org s.recallReqs := by
  unfold State.recallReqs
  extract_lets
  refine h.foldl fun t x ht => ?_
  extract_lets
  refine ht.modPort.foldl fun t x ht => ?_
  split
  · exact ht.update
  · exact ht.setInq

/-! ## Requests of the initiator (Machine/Send) -/

theorem setCc (h : Acts lv iss org s) {cell c} : Acts lv iss org (s.setCc cell c) := h.update

theorem ccWake (h : Acts lv iss org s) {cell} : Acts lv iss org (s.ccWake cell) := h.unpark.ite h

theorem ccLeave (h : Acts lv iss org s) {e} : Acts lv iss org (s.ccLeave e) := h.ite h.setCc.ccWake

theorem targetWait (h : Acts lv iss org s) {r} : Acts lv iss org (s.targetWait r) := h.update.enqueue

theorem noteFirst (h : Acts lv iss org s) {o} : Acts lv iss org (s.noteFirst o) := by
  unfold State.noteFirst
  extract_lets _ mark
  have hmark : ∀ id, Acts lv iss org (mark id) := fun _ => h.update
  split
  · exact hmark _
  · exact hmark _
  · exact h

theorem transmit (h : Acts lv iss org s) (hq : org.ini.quietUntil ≤ org.tick) {w t} : Acts lv iss org (s.transmit w t) := by
  unfold State.transmit
  extract_lets loc cell origin p k n e _ s1 c s2
  have h1 : Acts lv iss org s1 := Acts.noteFirst (h.tags_of_maySend hq)
  have h2 : Acts lv iss org s2 := h1.ite h1.setCc
  split
  · exact h2.targetWait
  split
  · exact h2.injectPiste
  · exact h2.inject

theorem mergedFill (h : Acts lv iss org s) {k w x} (hx : s.mergedFill k w = some x) : Acts lv iss org x.1 := by
  unfold State.mergedFill at hx
  extract_lets c inTime at hx
  split at hx
  · cases hx
  · cases hx
    exact h.modCtx.unpark.bump

theorem sendNow (h : Acts lv iss org s) (hq : org.ini.quietUntil ≤ org.tick) {w t} : Acts lv iss org (s.sendNow w t) := by
  unfold State.sendNow
  split
  · split
    next heq => exact (h.mergedFill heq).fresh.transmit hq
    · exact h
  · exact h.fresh.transmit hq

theorem sendW (h : Acts lv iss org s) {w} : Acts lv iss org (s.sendW w) := by
  unfold State.sendW
  split
  · exact h.update
  next hm =>
  have hq := h.quiet_le (Bool.of_not_eq_false fun e => hm (.inr e))
  split
  · exact h.sendNow hq
  · exact h.update

theorem sendReq (h : Acts lv iss org s) {o k nonIdem piste origin noInstall} :
    Acts lv iss org (s.sendReq o k nonIdem piste origin noInstall) :=
  h.sendW

theorem wakeAux (h : Acts lv iss org s) {fuel} : Acts lv iss org (Machine.wakeAux fuel s) := by
  induction fuel generalizing s with
  | zero => exact h
  | succ fuel ih =>
    unfold Machine.wakeAux
    split
    · exact h
    split
    · refine ih ?_
      split
      · exact h.update.modDesc
      · exact h.update
    split
    next hm =>
      split
      · exact ih (Acts.sendNow h.update (h.quiet_le hm))
      · exact h
    · exact h

theorem wakeTags (h : Acts lv iss org s) : Acts lv iss org s.wakeTags :=
  (h.wakeAux.unpark.ite h.wakeAux).unpark.ite (h.wakeAux.unpark.ite h.wakeAux)

theorem releaseTag (h : Acts lv iss org s) {t} : Acts lv iss org (s.releaseTag t) := by
  unfold State.releaseTag
  split
  · exact h
  · exact (h.tags_of_nil fun e => by rw [e]; rfl).ccLeave.wakeTags.unpark

theorem maybeRelease (h : Acts lv iss org s) {t} : Acts lv iss org (s.maybeRelease t) := by
  unfold State.maybeRelease
  split
  · split
    · exact h.releaseTag.ite h
    · exact h
  · exact h

theorem closeTags (h : Acts lv iss org s) {l} : Acts lv iss org (s.closeTags l) := h.foldl fun _ _ h => h.modTag.maybeRelease

theorem cancelReqs (h : Acts lv iss org s) {mine} : Acts lv iss org (s.cancelReqs mine) := h.update.closeTags

theorem answered (h : Acts lv iss org s) {t txtime residence} : Acts lv iss org (s.answered t txtime residence) := by
  unfold State.answered
  split
  · exact h
  · exact h.modTag.ite h.modTag.setCc.ccWake

theorem sendCell (h : Acts lv iss org s) {dest src ptype payload} : Acts lv iss org (s.sendCell dest src ptype payload) := by
  unfold State.sendCell
  extract_lets
  split
  · exact h.sendCtlTo
  · split
    · exact h.sendCtlTo
    · exact h
  · exact h

/-! ## Address translation (Machine/Xlate) -/

theorem xltFault (h : Acts lv iss org s) {w kind level addr} : Acts lv iss org (s.xltFault w kind level addr) := by
  unfold State.xltFault
  extract_lets s1 s2
  have h2 : Acts lv iss org s2 := h.bump.snap fun _ h => h.setFld.setFld.setFld.setFld.setFld.setFld.wrRaw.wrRaw
  exact h2.latch.raise.ite (h2.latch.raise.ite (h2.latch.ite (h2.latch.ite h2)))

theorem xltInstall (h : Acts lv iss org s) {e} : Acts lv iss org (s.xltInstall e) := h.installed

theorem wcInstall (h : Acts lv iss org s) {e} : Acts lv iss org (s.wcInstall e) := h.installed

theorem walkRead (h : Acts lv iss org s) {w func addr level} : Acts lv iss org ((s.walkRead w func addr level).1) := by
  unfold State.walkRead
  split
  · exact h
  · exact h.bump.emit

theorem descend (h : Acts lv iss org s) {w l table} : Acts lv iss org ((Machine.descend w l table s).1) := by
  induction l generalizing w table with
  | zero => exact h.walkRead
  | succ l ih =>
    unfold Machine.descend
    split
    · exact ih
    · exact h.walkRead

theorem fromRoot (h : Acts lv iss org s) {w root top} : Acts lv iss org ((s.fromRoot w root top).1) := by
  unfold State.fromRoot
  split
  · exact h
  · exact h.descend

theorem leafChecks (h : Acts lv iss org s) {w e tries} : Acts lv iss org ((s.leafChecks w e tries).1) := by
  unfold State.leafChecks
  extract_lets
  split
  · exact h
  split
  · exact h
  split
  · exact h
  split
  · split
    · exact h
    split
    · exact h
    split
    · exact h
    · exact h.bump.emit
  · exact h

theorem walkBegin (h : Acts lv iss org s) {w} : Acts lv iss org ((s.walkBegin w).1) := by
  unfold State.walkBegin
  split
  · exact h.fromRoot
  · exact h.walkRead

theorem xlateAux (h : Acts lv iss org s) {q fuel va n got segs} : Acts lv iss org ((Machine.xlateAux q fuel va n got segs s).1) := by
  induction fuel generalizing s va n got segs with
  | zero => exact h
  | succ fuel ih =>
    unfold Machine.xlateAux
    split
    · exact h
    extract_lets take w r
    split
    · exact ih h
    have hr : Acts lv iss org r.1 := by
      unfold r
      refine .fst_ite h (.fst_ite h ?_)
      split
      · exact h.bump.leafChecks
      · exact h.bump.pmu_.fresh.walkBegin
    clear_value r
    split
    · exact ih hr
    · exact Acts.xltFault hr
    · exact Acts.newWalk hr

theorem xlate (h : Acts lv iss org s) {acc func asid va n write target kr got} :
    Acts lv iss org ((s.xlate acc func asid va n write target kr got).1) :=
  h.xlateAux

theorem writeSegs (h : Acts lv iss org s) {l b} : Acts lv iss org (Machine.writeSegs l b s) := by
  induction l generalizing s b with
  | nil => exact h
  | cons x l ih => exact ih h.write

/-! ## Answers of the target and the lease table (Machine/Lease) -/

theorem resExt (h : Acts lv iss org s) {k ext} : Acts lv iss org ((s.resExt k ext).2) := by
  unfold State.resExt
  split
  · exact h
  split
  · exact h
  split
  · exact h.fresh.fresh
  · exact h

theorem respond {s0 : State} (h0 : Acts lv iss org s0) {r status res age ext payload} :
    Acts lv iss org (s0.respond r status res age ext payload) :=
  h0.resExt.toLocal.ite h0.resExt.inject

theorem answer (h : Acts lv iss org s) {r status ext payload} : Acts lv iss org (s.answer r status ext payload) := h.respond

theorem setLease (h : Acts lv iss org s) {k l} : Acts lv iss org (s.setLease k l) := h.update

theorem dupDone (h : Acts lv iss org s) {r} : Acts lv iss org (s.dupDone r) := h.ite h.update

theorem visible (hs : Acts lv iss org s) {h} : Acts lv iss org (s.visible h) := hs.dupDone.answer

theorem linvClose (h : Acts lv iss org s) {k} : Acts lv iss org (s.linvClose k) := h.cancelReqs

theorem leaseDone {s0 : State} (hs0 : Acts lv iss org s0) {k} : Acts lv iss org (s0.leaseDone k) :=
  hs0.linvClose.update.foldl fun _ _ h => h.visible

theorem sendLinv (h : Acts lv iss org s) {k holder} : Acts lv iss org (s.sendLinv k holder) := h.bump.sendReq

theorem homeWrite (hs : Acts lv iss org s) {al rkey blk window h} : Acts lv iss org (s.homeWrite al rkey blk window h) := by
  unfold State.homeWrite
  extract_lets
  split
  · exact hs.update
  split
  · exact hs.visible
  split
  · extract_lets s1 s2
    have hs2 : Acts lv iss org s2 := hs.setLease.foldl fun _ _ h => h.sendLinv
    exact hs2.leaseDone.ite hs2
  · exact hs.setLease.leaseDone

theorem holdAccess (h : Acts lv iss org s) {k r} : Acts lv iss org (s.holdAccess k r) := h.update.ite h.setLease

theorem grant (h : Acts lv iss org s) {al rkey blk who st} : Acts lv iss org ((s.grant al rkey blk who st).2) := by
  unfold State.grant
  extract_lets
  split
  · exact h.bump_count
  split
  · exact h.bump_count
  split
  · split
    · exact h.bump_count.latch
    · exact h.setLease
  · split <;> exact h.setLease

theorem linvAcked (h : Acts lv iss org s) {k holder} : Acts lv iss org (s.linvAcked k holder) := by
  unfold State.linvAcked
  split
  · exact h
  · exact h.ite (h.setLease.leaseDone.ite h.setLease)

/-! ## The checks of requests at the target (Machine/Checks) -/

theorem dupPut (h : Acts lv iss org s) {i e} : Acts lv iss org (s.dupPut i e) := h.update

theorem dupMod (h : Acts lv iss org s) {i f} : Acts lv iss org (s.dupMod i f) := h.update

theorem remember (h : Acts lv iss org s) {r pending status d0 d1} : Acts lv iss org (s.remember r pending status d0 d1) :=
  h.ite h.dupPut

theorem answerDup (h : Acts lv iss org s) {r e} : Acts lv iss org (s.answerDup r e) := h.ite h.answer

theorem modRegion (h : Acts lv iss org s) {k f} : Acts lv iss org (s.modRegion k f) := h.update

theorem checkKey (h : Acts lv iss org s) {r key} : Acts lv iss org ((s.checkKey r key).1) := by
  unfold State.checkKey
  extract_lets
  split
  · exact h
  split
  · exact h
  split
  · exact h.ite h.raise
  · split <;> exact h

theorem admitReq {go : State → State} (h : Acts lv iss org s) {r nonIdem} (hgo : ∀ t, Acts lv iss org t → Acts lv iss org (go t)) :
    Acts lv iss org (s.admitReq r nonIdem go) := by
  unfold State.admitReq
  split
  · exact h
  split
  · exact h.answer
  split
  · exact h
  split
  · exact h.pmu_.answerDup
  · exact hgo _ h

theorem inflight (h : Acts lv iss org s) {k up} : Acts lv iss org (s.inflight k up) := h.modRegion

theorem notReady (h : Acts lv iss org s) {r} : Acts lv iss org (s.notReady r) := h.ite h.answer

/-! ## Collectives (Machine/Coll) -/

theorem sendColl (h : Acts lv iss org s) {k peer ctype n orphan x} : Acts lv iss org (s.sendColl k peer ctype n orphan x) :=
  h.sendReq

theorem modInst (h : Acts lv iss org s) {k n f} : Acts lv iss org (s.modInst k n f) := h.modCtx

theorem lossRecord (h : Acts lv iss org s) {k n x} : Acts lv iss org (s.lossRecord k n x) := h.ite h.write

theorem instDone (h : Acts lv iss org s) {k} : Acts lv iss org (s.instDone k) := by
  unfold State.instDone
  exact h.modCtx.bump.unpark

theorem instFinish (h : Acts lv iss org s) {k i x got failed} :
    (∀ t, (s.instFinish k i x got failed).1 = some t → Acts lv iss org t) ∧ Acts lv iss org ((s.instFinish k i x got failed).2) := by
  unfold State.instFinish
  split
  · exact ⟨fun t ht => Option.some.inj ht ▸ h.instDone, h⟩
  · extract_lets c b r s1 s2
    have hr : Acts lv iss org r.1 := .fst_ite h (.fst_ite h (.fst_ite h h.xlate))
    have h1 : Acts lv iss org s1 := hr.ite hr.writeSegs
    have h2 : Acts lv iss org s2 := h1.lossRecord.ite h1
    split
    · exact ⟨fun t ht => (Option.some_ne_none t ht.symm).elim, hr⟩
    · exact ⟨fun t ht => Option.some.inj ht ▸ h2.finish.instDone, h2⟩

theorem instRunAux (h : Acts lv iss org s) {k fuel got} : Acts lv iss org (Machine.instRunAux k fuel got s) := by
  induction fuel generalizing s got with
  | zero => exact h
  | succ fuel ih =>
    unfold Machine.instRunAux
    split
    · exact h
    split
    · split
      · exact h
      split
      next heq => exact ih (h.instFinish.1 _ (congrArg Prod.fst heq))
      next heq => exact h.instFinish.2.of_snd_eq heq
    · exact h

theorem instRun (h : Acts lv iss org s) {k got} : Acts lv iss org (s.instRun k got) := h.instRunAux

theorem instFailed (h : Acts lv iss org s) {k n kind} : Acts lv iss org (s.instFailed k n kind) := by
  unfold State.instFailed
  split
  · split
    · split
      · split
        next heq => exact Acts.instRun (h.instFinish.1 _ (congrArg Prod.fst heq))
        next heq => exact h.instFinish.2.of_snd_eq heq
      · exact h
    · exact h
  · exact h

theorem instResult (h : Acts lv iss org s) {k n x} : Acts lv iss org (s.instResult k n x) :=
  (h.modInst.foldl fun _ _ h => h.sendColl).instRun

theorem rootResolve (h : Acts lv iss org s) {k i} : Acts lv iss org (s.rootResolve k i) :=
  (h.modCtx.modInst.foldl fun _ _ h => h.sendColl).instRun

theorem collSendAux (h : Acts lv iss org s) {k fuel} : Acts lv iss org (Machine.collSendAux k fuel s) := by
  induction fuel generalizing s with
  | zero => exact h
  | succ fuel ih =>
    unfold Machine.collSendAux
    extract_lets
    split
    · exact h
    · exact ((ih h.rootResolve).ite (ih h.modInst.sendColl)).ite h

theorem collRun (h : Acts lv iss org s) {k} : Acts lv iss org (s.collRun k) := h.collSendAux

theorem collIssue (h : Acts lv iss org s) {k q cnt x} : Acts lv iss org (s.collIssue k q cnt x) := by
  unfold State.collIssue
  extract_lets c n s1 s2
  have h2 : Acts lv iss org s2 := h.modInst.modCtx
  exact h2.modInst.fresh.instRun.ite (h2.modInst.fresh.instResult.ite h2.sendColl)

theorem constitAnswer (h : Acts lv iss org s) {x status v age} : Acts lv iss org (s.constitAnswer x status v age) :=
  (h.ite h.dupMod).respond

theorem batchFail (h : Acts lv iss org s) {k} : Acts lv iss org (s.batchFail k) := by
  unfold State.batchFail
  extract_lets
  exact (h.modCtx.foldl fun _ _ h => h.constitAnswer).unpark

theorem pendingLost (h : Acts lv iss org s) {k lost forward} : Acts lv iss org (s.pendingLost k lost forward) := by
  unfold State.pendingLost
  extract_lets c mine s1 s2
  have h2 : Acts lv iss org s2 := h.modCtx.foldl fun _ _ h => (h.modInst.fresh.foldl fun _ _ h => h.sendColl).ite h.modInst.fresh
  exact h2.instRun

theorem resendOrphans (h : Acts lv iss org s) {k} : Acts lv iss org (s.resendOrphans k) := h.foldl fun _ _ h => h.sendColl

theorem declareLost (h : Acts lv iss org s) {k peer} : Acts lv iss org (s.declareLost k peer) := by
  unfold State.declareLost
  extract_lets c isRoot isParent sub s1 s2
  have h1 : Acts lv iss org s1 := h.latch.bump.event0
  have h2 : Acts lv iss org s2 := h1.modCtx.latch
  split
  · exact h.ite h2.pendingLost.batchFail
  · exact h.ite (h1.modCtx.resendOrphans.collRun.ite h1.modCtx.collRun)

theorem excludedAt (h : Acts lv iss org s) {k n} : Acts lv iss org (s.excludedAt k n) := by
  unfold State.excludedAt
  extract_lets s1
  have h1 : Acts lv iss org s1 := h.modCtx.event0
  split
  · exact h1.ite h1.modInst.fresh.instRun
  · exact h1

theorem collAdmit {go : State → State} (h : Acts lv iss org s) {r} (hgo : ∀ t, Acts lv iss org t → Acts lv iss org (go t)) :
    Acts lv iss org (s.collAdmit r go) :=
  h.ite (h.answer.ite (h.answer.ite (h.latch.event0.answer.ite (hgo _ h))))

theorem collContrib (h : Acts lv iss org s) {r} : Acts lv iss org (s.collContrib r) := by
  unfold State.collContrib
  refine .collAdmit h fun t ht => ?_
  extract_lets k n _ c x put
  have hput : ∀ u, Acts lv iss org u → Acts lv iss org (put u) := fun _ h => h.modInst.answer.collRun
  split
  · exact ht.answer.ite ht.modInst.answer.collRun.instRun
  split
  · split
    · exact ht.answer.sendColl
    split
    · exact ht.answer
    split
    · exact hput _ (ht.ite ht.modCtx).modInst
    · exact ht.answer
  · exact ht.answer.ite (ht.answer.ite (ht.answer.ite (hput _ ht)))

theorem collResultIn (h : Acts lv iss org s) {r} : Acts lv iss org (s.collResultIn r) :=
  h.collAdmit fun _ h => h.answer.ite h.answer.instResult

theorem collProbeIn (h : Acts lv iss org s) {r} : Acts lv iss org (s.collProbeIn r) := h.collAdmit fun _ h => h.answer

theorem constitJoin (h : Acts lv iss org s) {k x} : Acts lv iss org (s.constitJoin k x) := h.modCtx.bump

theorem mergedJoin (h : Acts lv iss org s) {r} : Acts lv iss org (s.mergedJoin r) := by
  unfold State.mergedJoin
  refine .collAdmit h fun t ht => ?_
  extract_lets
  split
  · exact ht
  split
  · exact ht.pmu_.answerDup
  · exact ht.constitAnswer.ite (ht.latch.answer.ite (ht.answer.ite ht.remember.pmu_.constitJoin))

theorem mergedDone (h : Acts lv iss org s) {k status v age} : Acts lv iss org (s.mergedDone k status v age) :=
  h.modCtx.foldl fun _ _ h => h.constitAnswer

/-! ## The lock service (Machine/Lock) -/

theorem recLock (h : Acts lv iss org s) {k l} : Acts lv iss org (s.recLock k l) := h.record.ite h

theorem recLine (h : Acts lv iss org s) {k op w} : Acts lv iss org (s.recLine k op w) := h.record.ite h

theorem setLock (h : Acts lv iss org s) {k l} : Acts lv iss org (s.setLock k l) := h.update.recLock

theorem sendGrant (h : Acts lv iss org s) {k flags} : Acts lv iss org (s.sendGrant k flags) := h.sendReq

theorem lockPass {s0 : State} (h0 : Acts lv iss org s0) {k l} : Acts lv iss org (s0.lockPass k l) := by
  unfold State.lockPass
  extract_lets s
  have h : Acts lv iss org s := h0.cancelReqs
  split
  · exact h.setLock
  · exact h.recLine.setLock.bump.whenProtected fun _ h => h.sendGrant

theorem lockAnswer (h : Acts lv iss org s) {r nonIdem status d0 res} : Acts lv iss org (s.lockAnswer r nonIdem status d0 res) :=
  (h.remember.ite h).whenProtected fun _ h => (h.dupDone.ite h).answer

theorem lockTake (h : Acts lv iss org s) {r k l try_} : Acts lv iss org (s.lockTake r k l try_) := by
  unfold State.lockTake
  extract_lets
  split
  · exact h.setLock.bump.lockAnswer
  split
  · exact h.lockAnswer
  · exact h.lockAnswer.ite (h.latch.answer.ite h.recLine.setLock.bump.pmu_.lockAnswer)

theorem lockGive (h : Acts lv iss org s) {r k l} : Acts lv iss org (s.lockGive r k l) := h.lockPass.lockAnswer.ite h.bump.lockAnswer

theorem lockCancel (h : Acts lv iss org s) {r k l} : Acts lv iss org (s.lockCancel r k l) := (h.recLine.setLock.ite h).lockAnswer

theorem lockProbe (h : Acts lv iss org s) {r l} : Acts lv iss org (s.lockProbe r l) := h.lockAnswer

theorem lockExec {op : State → Nat → Lock → State} (h :
    Acts lv iss org s) {r} (hop : ∀ t x y, Acts lv iss org t → Acts lv iss org (op t x y)) :
    Acts lv iss org (s.lockExec r op) :=
  h.admitReq fun _ h => h.lockAnswer.ite (h.answer.ite (hop _ _ _ h))

theorem grantSettle (h : Acts lv iss org s) {k gseq accepted} : Acts lv iss org (s.grantSettle k gseq accepted) :=
  (h.setLock.ite h.bump.lockPass).ite h

theorem modRec (h : Acts lv iss org s) {n f} : Acts lv iss org (s.modRec n f) := h.update

theorem freeRec (h : Acts lv iss org s) {n} : Acts lv iss org (s.freeRec n) := h.update.unpark

theorem acquired (h : Acts lv iss org s) {n x d0} : Acts lv iss org (s.acquired n x d0) := by
  unfold State.acquired
  extract_lets
  split
  · exact h.modRec.finish
  · exact h.modRec

theorem acquireFail (h : Acts lv iss org s) {n x status d1} : Acts lv iss org (s.acquireFail n x status d1) := by
  unfold State.acquireFail
  extract_lets
  split
  · exact h.freeRec.finish
  · exact h.freeRec

theorem sendLockop (h : Acts lv iss org s) {o x sub} : Acts lv iss org (s.sendLockop o x sub) := h.sendReq

theorem cancelWaits (h : Acts lv iss org s) {q} : Acts lv iss org (s.cancelWaits q) := h.foldl fun _ _ h => h.modRec.sendLockop

theorem dropWaits (h : Acts lv iss org s) {q cancel} : Acts lv iss org (s.dropWaits q cancel) :=
  h.foldl fun _ _ h => h.freeRec.sendLockop.ite h.freeRec

theorem grantExec (h : Acts lv iss org s) {r} : Acts lv iss org (s.grantExec r) := by
  unfold State.grantExec
  extract_lets
  refine .admitReq h fun t ht => ?_
  split
  · exact ht.answer
  · extract_lets done hit
    clear_value hit
    split
    · exact ht.remember.answer
    split
    · exact ht.remember.acquired.answer.ite ht.remember.answer
    · exact ht.remember.answer

theorem purgeLine (h : Acts lv iss org s) {k c f} : Acts lv iss org (s.purgeLine k c f) :=
  h.ite (h.foldl fun _ _ h => h.recLine).setLock

theorem ownerDead (h : Acts lv iss org s) {c f sub} : Acts lv iss org (s.ownerDead c f sub) :=
  h.ite ((h.foldl fun _ _ h => h.purgeLine).foldl fun _ _ h => h.bump.lockPass).latch.event0

theorem peerDead (h : Acts lv iss org s) {c f sub} : Acts lv iss org (s.peerDead c f sub) :=
  ((h.ite h.update).ite (h.ite h.update).raise).ownerDead

theorem endNotices (h : Acts lv iss org s) : Acts lv iss org s.endNotices := h.update.wakeTags.unpark.ite h

/-! ## Tagged messages (Machine/Msg) -/

theorem modMsg (h : Acts lv iss org s) {n f} : Acts lv iss org (s.modMsg n f) := h.update

theorem dropMsg (h : Acts lv iss org s) {n} : Acts lv iss org (s.dropMsg n) := h.update

theorem msgDup (h : Acts lv iss org s) {c f} : Acts lv iss org (s.msgDup c f) := h.dupMod

theorem recvEnd (h : Acts lv iss org s) {c x status} : Acts lv iss org (s.recvEnd c x status) := by
  unfold State.recvEnd
  extract_lets s1
  have h1 : Acts lv iss org s1 := by
    unfold s1
    split
    · exact h.finish
    · exact h
  exact h1.unpark

theorem msgSettle (h : Acts lv iss org s) {n} : Acts lv iss org (s.msgSettle n) := by
  unfold State.msgSettle
  split
  · exact h
  split
  · exact h
  · extract_lets
    split
    · exact h.msgDup
    · exact h.msgDup.ite h.msgDup.dropMsg.recvEnd

theorem placeMsg (h : Acts lv iss org s) {acc x i l got} : Acts lv iss org ((s.placeMsg acc x i l got).1) := by
  unfold State.placeMsg
  extract_lets
  split
  · exact h
  split
  · exact h
  split
  · exact h.xlate
  · exact h.xlate.writeSegs

theorem msgCopy (h : Acts lv iss org s) {n idx got} : Acts lv iss org (s.msgCopy n idx got) := by
  unfold State.msgCopy
  split
  · exact h
  split
  · extract_lets r
    have hr : Acts lv iss org r.1 := .fst_ite h h.placeMsg
    exact hr.ite hr.modMsg.msgSettle
  · exact h

theorem recvPlace (h : Acts lv iss org s) {x} : Acts lv iss org (s.recvPlace x) := by
  unfold State.recvPlace
  split
  · exact (h.modMsg.foldl fun _ _ h => h.msgCopy).msgSettle
  · exact h.update

theorem msgPlace (h : Acts lv true org s) {r got} : Acts lv true org (s.msgPlace r got) := by
  unfold State.msgPlace
  extract_lets
  split
  · exact h
  · extract_lets
    split
    · exact h.update.answer
    split
    · exact h.answer
    split
    · split
      · exact h.modMsg.answer.msgSettle
      · extract_lets
        split
        · exact h.placeMsg.markBusy
        · exact h.placeMsg.modMsg.answer.msgSettle.ite h.placeMsg.modMsg.answer.msgSettle
    · exact h.answer.ite h.modMsg.answer.msgSettle

theorem msgPlaceFailed (h : Acts lv iss org s) {r} : Acts lv iss org (s.msgPlaceFailed r) := by
  unfold State.msgPlaceFailed
  extract_lets
  split
  · exact h
  · exact h.modMsg.answer.msgSettle

theorem msgCopyFailed (h : Acts lv iss org s) {n idx} : Acts lv iss org (s.msgCopyFailed n idx) := h.modMsg.msgSettle

theorem msgNew (h : Acts lv true org s) {r} : Acts lv true org (s.msgNew r) := by
  unfold State.msgNew
  extract_lets k q hit c posted _ s1 s2 s3
  have h2 : Acts lv true org s2 := h.update.ite h.update.dupPut
  have h3 : Acts lv true org s3 := h2.pmuQ.ite h2
  exact h.answer.ite (h.answer.ite h3.msgPlace)

theorem msgExec (h : Acts lv true org s) {r} : Acts lv true org (s.msgExec r) := by
  unfold State.msgExec
  extract_lets
  split
  · exact h
  split
  · exact h.answer
  split
  · exact h
  split
  · exact h.answer
  · exact h.msgPlace.ite (h.answer.ite h.msgNew)

theorem msgDiscard (h : Acts lv iss org s) {c} : Acts lv iss org (s.msgDiscard c) := h.dropMsg.msgDup

theorem unpost (h : Acts lv iss org s) {q} : Acts lv iss org (s.unpost q) := h.update

theorem recvCancel (h : Acts lv iss org s) {q silent} : Acts lv iss org (s.recvCancel q silent) := by
  unfold State.recvCancel
  extract_lets mine s1 s2 s3
  have h2 : Acts lv iss org s2 := h.unpost.foldl fun _ _ h => h.msgDiscard
  have h3 : Acts lv iss org s3 := by
    unfold s3
    split
    · exact h2
    · refine h2.foldl fun t x ht => ?_
      split
      · exact ht.finish
      · exact ht
  exact h3.unpark

theorem recvAbandon (h : Acts lv iss org s) {q} : Acts lv iss org (s.recvAbandon q) := h.foldl fun _ _ h => h.msgDiscard

/-! ## Requests at the target (Machine/Target) -/

theorem getAnswers (h : Acts lv iss org s) {r off data} : Acts lv iss org (s.getAnswers r off data) := h.foldl fun _ _ h => h.answer

theorem accessFail (h : Acts lv iss org s) {r rk nonIdem} : Acts lv iss org (s.accessFail r rk nonIdem) :=
  (h.inflight.remember.ite h.inflight).answer

theorem accessDo (h : Acts lv iss org s) {r a segs} : Acts lv iss org (s.accessDo r a segs) := by
  unfold State.accessDo
  extract_lets
  split
  · exact h.writeSegs.inflight.homeWrite
  · exact h.inflight.getAnswers
  · exact Acts.answer (.snd_ite h.inflight.grant h.inflight)
  · exact h.writeSegs.inflight.remember.homeWrite
  · exact (h.ite h.writeSegs).inflight.remember.homeWrite

theorem perform (h : Acts lv true org s) {r got} : Acts lv true org (s.perform r got) := by
  unfold State.perform
  extract_lets
  split
  · exact h.holdAccess
  split
  · exact h.xlate.markBusy
  · exact h.xlate.accessFail.ite (h.xlate.poisonRx.accessFail.ite h.xlate.accessDo)

theorem release (h : Acts lv true org s) {r} : Acts lv true org (s.release r) := by
  unfold State.release
  extract_lets
  split
  · exact h.inflight
  split
  · exact h.inflight.answerDup
  · exact h.perform

theorem accessChecks (h : Acts lv true org s) {r nonIdem permits opLen} : Acts lv true org (s.accessChecks r nonIdem permits opLen) := by
  unfold State.accessChecks
  extract_lets
  split
  · exact h.checkKey.answer
  · exact h.answer.ite (h.answer.ite (h.answer.ite (h.pmu_.answer.ite h.pmu_.inflight.perform)))

theorem regionExec (h : Acts lv true org s) {r} : Acts lv true org (s.regionExec r) := h.admitReq fun _ h => h.accessChecks

theorem mergedExec (h : Acts lv true org s) {r} : Acts lv true org (s.mergedExec r) :=
  (h.collAdmit fun _ h => h.admitReq fun _ h => h.accessChecks).ite h.mergedJoin

theorem markReads (h : Acts lv iss org s) {p f} : Acts lv iss org (s.markReads p f) := h.tags_of_nil fun e => by rw [e]; rfl

theorem linvExec (h : Acts lv iss org s) {r} : Acts lv iss org (s.linvExec r) :=
  h.admitReq fun _ h => h.update.markReads.bump.answer

theorem targetExec (h : Acts lv true org s) {r} : Acts lv true org (s.targetExec r) := by
  unfold State.targetExec
  extract_lets
  split
  · exact h.admitReq fun _ h => h.answer
  split
  · exact h.regionExec.ite h
  · exact h.msgExec
  · exact h.linvExec
  · split
    · exact h.lockExec fun _ _ _ h => h.lockTake
    · exact h.lockExec fun _ _ _ h => h.lockTake
    · exact h.lockExec fun _ _ _ h => h.lockGive
    · exact h.lockExec fun _ _ _ h => h.lockCancel
    · exact h.lockExec fun _ _ _ h => h.lockProbe
    · exact h
  · exact h.grantExec
  · split
    · exact h.collContrib
    · exact h.collResultIn
    · exact h.collProbeIn
    · exact h.mergedExec
  · exact h.regionExec

theorem takeReq (h : Acts lv true org s) {t r rest} : Acts lv true org (s.takeReq t r rest) :=
  (h.update.update.msgPlace.ite h.update.update.perform).ite h.update.targetExec

theorem turnHeld (h : Acts lv iss org s) {t n} : Acts lv iss org (s.turnHeld t n) := h.update.ite h

theorem serveTctx (h : Acts lv true org s) {e t rd fuel} : Acts lv true org (Machine.serveTctx e t rd fuel s) := by
  induction fuel generalizing s with
  | zero => exact h
  | succ fuel ih =>
    unfold Machine.serveTctx
    split
    · exact h
    split
    · exact h
    · exact h.ite (ih h.takeReq.turnHeld)

theorem continueTctx (h : Acts lv true org s) {e t rd n} : Acts lv true org (s.continueTctx e t rd n) :=
  h.serveTctx.ite h.serveTctx.enqueue

theorem turnGoOn {go : State → State} (h : Acts lv true org s) {r} (hgo : ∀ t, Acts lv true org t → Acts lv true org (go t)) :
    Acts lv true org (s.turnGoOn r go) :=
  (hgo _ h.unmarkBusy).turnHeld.ite (hgo _ h.unmarkBusy).turnHeld.continueTctx

/-! ## The Global Window at the requester (Machine/Window) -/

theorem winEvent (h : Acts lv iss org s) {type sub object data} : Acts lv iss org (s.winEvent type sub object data) := by
  unfold State.winEvent
  split
  · exact h.ite h.update.event0
  · exact h.update.event0

theorem winFail (h : Acts lv iss org s) {kind d a write status} : Acts lv iss org (s.winFail kind d a write status) := by
  unfold State.winFail
  extract_lets s1 s2
  have h1 : Acts lv iss org s1 := h.bump_count.bump.ite h.bump
  have h2 : Acts lv iss org s2 := h1.snap fun _ h => h.setFld.setFld.setFld.setFld.wrRaw.setFld
  split
  · exact h2.latch.winEvent
  · exact h2.latch.winEvent
  · exact h2.latch.winEvent
  · exact h2.winEvent
  · exact h2

theorem poison (h : Acts lv iss org s) {mid} : Acts lv iss org (s.poison mid) := h.emit

theorem setFrame (h : Acts lv iss org s) {g f} : Acts lv iss org (s.setFrame g f) := h.update

theorem makeRoom (h : Acts lv iss org s) {g} : Acts lv iss org (s.makeRoom g) := by
  unfold State.makeRoom
  extract_lets
  split
  · exact h
  split
  · exact h.fresh.update
  · exact h

theorem installFrame (h : Acts lv iss org s) {e src g expiry line} : Acts lv iss org (s.install e src g expiry line) := by
  unfold State.install
  extract_lets f usable
  clear_value usable f
  split
  · exact h
  split
  · exact h.setFrame
  · exact h.setFrame
  · exact h.update.makeRoom.setFrame
  · exact h

theorem setBlk (h : Acts lv iss org s) {b w} : Acts lv iss org (s.setBlk b w) := h.update

theorem modItem (h : Acts lv iss org s) {b id f} : Acts lv iss org (s.modItem b id f) := h.setBlk

theorem wakeBlk (h : Acts lv iss org s) {b} : Acts lv iss org (s.wakeBlk b) := h.enqueue.ite h

theorem fenceRun (h : Acts lv iss org s) : Acts lv iss org s.fenceRun := h.update.foldl fun _ _ h => h.emit

theorem fenceDrop (h : Acts lv iss org s) {id} : Acts lv iss org (s.fenceDrop id) := h.update.fenceRun

theorem dropItem (h : Acts lv iss org s) {b id} : Acts lv iss org (s.dropItem b id) := h.setBlk.fenceDrop.wakeBlk

theorem winReadDone (h : Acts lv iss org s) {e src id status expiry data} :
    Acts lv iss org (s.winReadDone e src id status expiry data) := by
  unfold State.winReadDone
  split
  · exact h
  · exact h.winFail.poison.dropItem.ite h.installFrame.emit.dropItem

theorem winLineDone (h : Acts lv iss org s) {b id line} : Acts lv iss org (s.winLineDone b id line) := by
  unfold State.winLineDone
  split
  · exact h
  · exact (h.foldl fun _ _ h => h.emit).modItem.dropItem.ite (h.foldl fun _ _ h => h.emit).modItem

theorem winWriteDone (h : Acts lv iss org s) {id line status} : Acts lv iss org (s.winWriteDone id line status) := by
  unfold State.winWriteDone
  split
  · exact h
  · exact (h.winFail.ite h).winLineDone

/-! ## Answers at the initiator (Machine/Resp) -/

theorem descPart (h : Acts lv iss org s) {q cnt n status bytes} : Acts lv iss org (s.descPart q cnt n status bytes) := by
  unfold State.descPart
  split
  · exact h
  next d e =>
    have hc : d.cnt = cnt := eq_of_beq (List.find?_some e :)
    extract_lets d1
    exact h.finish.ite (h.modDesc (f := fun _ => d1) fun _ _ => hc)

theorem getPlaced (h : Acts lv iss org s) {q cnt pos n} : Acts lv iss org (s.getPlaced q cnt pos n) := by
  unfold State.getPlaced
  split
  · exact h
  · extract_lets
    exact h.modDesc.descPart

theorem placeGet (h : Acts lv iss org s) {q cnt pkt got} : Acts lv iss org (s.placeGet q cnt pkt got) := by
  unfold State.placeGet
  split
  · exact h
  · extract_lets
    split
    · exact h.descPart
    split
    · exact h.descPart
    split
    · exact h.xlate
    split
    · exact h.xlate.descPart
    · exact h.xlate.writeSegs.getPlaced

theorem getTake (h : Acts lv iss org s) {t e pkt} : Acts lv iss org (s.getTake t e pkt) :=
  h.answered.ite (h.modTag.answered.ite h.modTag)

theorem getAnswer (h : Acts lv iss org s) {t e q cnt pkt} : Acts lv iss org (s.getAnswer t e q cnt pkt) :=
  h.ite (h.getTake.descPart.ite h.getTake.placeGet)

theorem lockDone (h : Acts lv iss org s) {q cnt op status d0} : Acts lv iss org (s.lockDone q cnt op status d0) := by
  unfold State.lockDone
  split
  · split
    · exact h
    · exact h.ite (h.acquired.ite (h.modRec.ite h.acquireFail))
  split
  · exact h
  · exact h.finish.ite h.finish

theorem descAnswer (h : Acts lv iss org s) {e q cnt pkt} : Acts lv iss org (s.descAnswer e q cnt pkt) := by
  unfold State.descAnswer
  split
  · exact h
  · exact h.lockDone.ite (h.modDesc.ite h).descPart

theorem tagAnswer (h : Acts lv iss org s) {t q cnt} : Acts lv iss org (s.tagAnswer t q cnt) := by
  unfold State.tagAnswer
  split
  · exact h.fresh.update.ite h
  · exact h

theorem ownerAnswer (h : Acts lv iss org s) {t e pkt} : Acts lv iss org (s.ownerAnswer t e pkt) := by
  unfold State.ownerAnswer
  extract_lets
  split
  · exact h.tagAnswer.getAnswer.ite h.answered.tagAnswer.descAnswer
  · exact h.answered.winReadDone
  · exact h.answered.winWriteDone
  · exact h.answered.installFrame.ite h.answered
  · exact h.answered.linvAcked.ite h.answered
  · exact h.answered.grantSettle
  · split
    · exact h.answered.acquireFail.ite h.answered
    · exact h.answered
  · split
    · exact h.answered.acquireFail.ite h.answered
    · exact h.answered
  · exact h.answered.ite (h.answered.declareLost.ite (h.answered.excludedAt.ite h.answered))
  · exact h.answered.mergedDone
  · exact h.answered.pisteGone

theorem lateAnswer (h : Acts lv iss org s) {t e pkt} : Acts lv iss org (s.lateAnswer t e pkt) := (h.ite h.getTake).ite h.answered

theorem badCode (h : Acts lv iss org s) {port} : Acts lv iss org (s.badCode port) := h.badPkt.ite h

theorem respIn (h : Acts lv iss org s) {port pkt} : Acts lv iss org (s.respIn port pkt) := by
  unfold State.respIn
  split
  · exact h.update
  split
  · exact h
  split
  · exact h.badCode.ite h
  · exact h.badCode.ite (h.ite (h.pmuOwner.ite (h.lateAnswer.ite h.ownerAnswer).maybeRelease))

/-! ## Control packets, and the packets that move inside the device (Machine/Fabric) -/

theorem lnoticeIn (h : Acts lv iss org s) {k} : Acts lv iss org (s.lnoticeIn k) := h.update.watchTwin.ite h

theorem psetupIn (hs : Acts lv iss org s) {p k} : Acts lv iss org (s.psetupIn p k) := by
  unfold State.psetupIn
  extract_lets
  split
  · exact hs.sendCtl
  split
  · exact hs.fresh.update.sendCtl
  · exact hs.sendCtl

theorem freeEntry (h : Acts lv iss org s) {key} : Acts lv iss org (s.freeEntry key) := h.update

theorem pconfirmIn (h : Acts lv iss org s) {p k} : Acts lv iss org (s.pconfirmIn p k) := by
  unfold State.pconfirmIn
  extract_lets
  split
  · split
    · exact h.update.endB.ite h
    · exact h
  split
  · exact h.update.sendCtl
  · exact h

theorem prejectIn (h : Acts lv iss org s) {p k} : Acts lv iss org (s.prejectIn p k) := by
  unfold State.prejectIn
  extract_lets
  split
  · split
    · exact h.update.endB.ite h
    · exact h
  split
  · exact h.freeEntry.sendCtl
  · exact h

theorem pbreakIn (h : Acts lv iss org s) {p k} : Acts lv iss org (s.pbreakIn p k) := by
  unfold State.pbreakIn
  extract_lets
  split
  · split
    · exact h.freeEntry.sendBreak
    · exact h
  split
  · split
    · exact h.pisteBreak.ite h
    · exact h
  split
  · exact h.freeEntry.sendBreak
  · exact h

theorem relayCell (h : Acts lv iss org s) {k} : Acts lv iss org (s.relayCell k) := h.sendCell

theorem lprobeIn (h : Acts lv iss org s) {k} : Acts lv iss org (s.lprobeIn k) := h.sendCell.ite h.relayCell

theorem lanswerIn (h : Acts lv iss org s) {k} : Acts lv iss org (s.lanswerIn k) := by
  unfold State.lanswerIn
  extract_lets
  split
  · exact h.relayCell
  split
  · exact h.update.endNotices
  split
  · exact h.update.ite h
  · exact h

theorem oresetIn (h : Acts lv iss org s) {k} : Acts lv iss org (s.oresetIn k) := h.relayCell.ite (h.ite h.update.peerDead).sendCell

theorem aliasIn (h : Acts lv iss org s) {k} : Acts lv iss org (s.aliasIn k) := by
  unfold State.aliasIn
  extract_lets holder d set_ _ s1 s1'
  have hs1' : Acts lv iss org s1' := h.setFld.setFld
  split
  · exact (h.update.ite h.update.event0.recallReqs).ite h.update.wakeTags
  · exact h.ite ((hs1'.ite hs1'.update.peerDead).ite h.update.setFld)

theorem ctlIn (h : Acts lv iss org s) {p k} : Acts lv iss org (s.ctlIn p k) := by
  unfold State.ctlIn
  split
  · exact h.lnoticeIn
  · exact h.psetupIn
  · exact h.pconfirmIn
  · exact h.prejectIn
  · exact h.pbreakIn
  · exact h.lprobeIn
  · exact h.lanswerIn
  · exact h.oresetIn
  · exact h.aliasIn
  · exact h

theorem markIn (h : Acts lv iss org s) {r} : Acts lv iss org (s.markIn r) := h.update.ite h.answer

theorem deliver (h : Acts lv iss org s) {i} : Acts lv iss org (s.deliver i) :=
  h.ctlIn.ite (h.pmu_.respIn.ite (h.pmu_.markIn.ite h.pmu_.targetWait))

theorem refuse (h : Acts lv iss org s) {t l} : Acts lv iss org (s.refuse t l) := by
  unfold State.refuse
  extract_lets
  split
  · exact h.update.notReady
  · exact h.update

theorem answerMarks (h : Acts lv iss org s) : Acts lv iss org s.answerMarks := h.ite (h.update.foldl fun _ _ h => h.answer)

theorem settleFuel (h : Acts lv true org s) {fuel} : Acts lv true org (Machine.settleFuel fuel s) := by
  induction fuel generalizing s with
  | zero => exact h
  | succ fuel ih =>
    unfold Machine.settleFuel
    split
    · exact ih h.update.deliver
    split
    · exact ih h.update.release
    split
    · exact ih h.refuse
    · exact h.answerMarks

theorem settle (h : Acts lv true org s) : Acts lv true org s.settle := h.settleFuel.fabricRun.settleFuel.fabricRun

/-! ## The states of work queues (Machine/WqCmds) -/

theorem dropFetched (h : Acts true iss org s) {q} : Acts true iss org (s.dropFetched q) :=
  have h1 : Acts true iss org _ := (h.modWq fun _ => .of_dropped).update.leaveRun
  h1.cqRelease.ite h1

theorem flushTags (h : Acts lv iss org s) {q} : Acts lv iss org (s.flushTags q) :=
  Acts.update (h.tags_of_nil (tags := s.ini.tags.map _) fun e => by rw [e]; rfl)

theorem endAll {s0 : State} (h : Acts lv iss org s) {q} : Acts lv iss org (s.endAll s0 q) := h.foldl fun _ _ h => h.finish

theorem flushAll (h : Acts lv iss org s) {q} : Acts lv iss org (s.flushAll q) := h.flushTags.recvAbandon.recvCancel.dropWaits.endAll

theorem dropWalks (h : Acts lv iss org s) {q} : Acts lv iss org (s.dropWalks q) :=
  h.walks_of_mem (fun x hx => ⟨x, List.mem_of_mem_filter hx, rfl⟩) fun hw => mwf_filter hw _

theorem wqError (h : Acts true iss org s) {q kind idx} : Acts true iss org (s.wqError q kind idx) :=
  (h.dropWalks.modWq fun _ => .of_ended).dropFetched.qerr.bump.flushAll.headWb.recWqHead.recWq.wqEvent

theorem drainDone (h : Acts lv iss org s) {q} : Acts lv iss org (s.drainDone q) := h.modWq.recWq.recWqTail.wqEvent.endBProt

theorem disableNow (h : Acts true iss org s) {q} : Acts true iss org (s.disableNow q) := by
  unfold State.disableNow
  extract_lets s1 s2
  have h1 : Acts true iss org s1 := h.modWq.dropFetched
  have h2 : Acts true iss org s2 := h1.recvCancel.cancelWaits.recWq
  exact h2.drainDone.ite h2

theorem suspendNow (h : Acts true iss org s) {q} : Acts true iss org (s.suspendNow q) := h.modWq.dropFetched.recWq.wqEvent

theorem wqEnd (h : Acts lv iss org s) {c q status r0 r1} : Acts lv iss org (s.wqEnd c q status r0 r1) :=
  h.adminCplProt.ite h.adminEnd

theorem cmdConfigWq (h : Acts lv iss org s) {c q} : Acts lv iss org (s.cmdConfigWq c q) := by
  unfold State.cmdConfigWq
  extract_lets
  split
  · split
    · exact h.wqEnd
    · exact (h.modWq fun _ => .of_clear).recWq.recWqTail.recWqHead.wqEnd
  · exact h.wqEnd

theorem cmdEnableWq (h : Acts lv iss org s) {c q} : Acts lv iss org (s.cmdEnableWq c q) := h.modWq.recWq.joinRun.wqEnd.ite h.wqEnd

theorem cmdDisableWq (h : Acts true iss org s) {c q} : Acts true iss org (s.cmdDisableWq c q) := h.startB.disableNow.ite h.wqEnd

theorem cmdResetWq (h : Acts lv iss org s) {c q} : Acts lv iss org (s.cmdResetWq c q) := h.modWq.recWq.recWqTail.wqEnd.ite h.wqEnd

theorem cmdSuspendWq (h : Acts true iss org s) {c q} : Acts true iss org (s.cmdSuspendWq c q) := h.suspendNow.wqEnd.ite h.wqEnd

theorem cmdResumeWq (h : Acts lv iss org s) {c q} : Acts lv iss org (s.cmdResumeWq c q) := h.modWq.recWq.joinRun.wqEnd.ite h.wqEnd

theorem cmdSetShaper (h : Acts lv iss org s) {c q} : Acts lv iss org (s.cmdSetShaper c q) :=
  h.wqEnd.ite (h.modWq.recWq.wqEnd.ite h.wqEnd)

theorem cmdQueryWq (h : Acts lv iss org s) {c q} : Acts lv iss org (s.cmdQueryWq c q) := h.adminEnd

theorem wqAct (h : Acts true iss org s) {op c q} : Acts true iss org (s.wqAct op c q) := by
  unfold State.wqAct
  split
  · exact h.cmdConfigWq
  · exact h.cmdEnableWq
  · exact h.cmdDisableWq
  · exact h.cmdResetWq
  · exact h.cmdSuspendWq
  · exact h.cmdResumeWq
  · exact h.cmdQueryWq
  · exact h.cmdSetShaper

theorem runWaitCmds (h : Acts true iss org s) {q} : Acts true iss org (s.runWaitCmds q) :=
  h.modWq.foldl fun _ _ h => h.dropB.wqAct.ite h.modAq.wqAct

theorem endTurn (h : Acts true iss org s) {q} : Acts true iss org (s.endTurn q) := by
  unfold State.endTurn
  split
  · exact h.wqError.runWaitCmds
  · extract_lets s1 s2 s3
    have h1 : Acts true iss org s1 := h.dropWalks.modWq fun _ => .of_ended
    have h2 : Acts true iss org s2 := h1.headWb.recWqHead.runWaitCmds
    have h3 : Acts true iss org s3 := h2.suspendNow.ite h2
    exact h3.joinRun

/-! ## Fetching and issue (Machine/Issue) -/

theorem fetchMore (h : Acts lv iss org s) {q} : Acts lv iss org (s.fetchMore q) := by
  unfold State.fetchMore
  extract_lets
  exact (h.foldl fun _ _ h => h.emit).modWq

theorem dropCopy (h : Acts lv iss org s) {q c} : Acts lv iss org (s.dropCopy q c) :=
  h.modWq fun _ => ⟨fun t ht => ⟨t, ht, rfl⟩, fun hf => List.filter_eq_nil_iff.mpr fun _ hx => absurd (hf ▸ hx) List.not_mem_nil,
    fun d hd => ⟨d, hd, rfl⟩⟩

theorem tagIssue (h : Acts lv iss org s) {q cnt engine fetch} : Acts lv iss org (s.tagIssue q cnt engine fetch) := h.ite h.update

theorem markIssued (h : Acts lv true org s) {q raw kr fetch left status} : Acts lv true org (s.markIssued q raw kr fetch left status) :=
  h.modWq_issues.pmuQ.pmuQ.pmuQ.skidTake.tagIssue

theorem waitFor (h : Acts true iss org s) {q p} : Acts true iss org (s.waitFor q p) := by
  unfold State.waitFor
  extract_lets s1
  have h1 : Acts true iss org s1 := by
    unfold s1
    split
    · exact h.pmuQ
    · exact h.latch
    · exact h.latch
    · exact h.cqHold
    · exact h
  exact h1.park.endTurn

theorem issueDone (h : Acts true true org s) {q raw fetch status} : Acts true true org (s.issueDone q raw fetch status) := by
  unfold State.issueDone
  extract_lets
  split
  · exact h.waitFor
  split
  · exact h.markIssued.finish
  · exact h.markIssued

theorem countOff (h : Acts lv iss org s) {raw} : Acts lv iss org (s.countOff raw) := h.bump.ite h

theorem sendAll (h : Acts lv iss org s) {q cnt pst nonIdem msg x} : Acts lv iss org (s.sendAll q cnt pst nonIdem msg x) := by
  unfold State.sendAll
  split
  · exact h
  · exact h.sendReq.foldl fun _ _ h => h.sendReq

theorem issueData (h : Acts true true org s) {q raw kr fetch data fail} : Acts true true org (s.issueData q raw kr fetch data fail) := by
  unfold State.issueData
  extract_lets cnt pst st l s1
  have h1 : Acts true true org s1 := h.countOff.markIssued
  split
  · exact h.issueDone.ite h.countOff.markIssued.sendAll
  · exact h.issueDone.ite h1.sendAll
  · split
    · exact h.countOff.markIssued.collIssue
    · exact h.issueDone
  · exact h.issueDone.ite h.countOff.markIssued.sendAll

theorem modTurn (h : Acts lv iss org s) {q f} (hf : ∀ t, (f t).engine = t.engine :=
  by exact fun _ => rfl) : Acts lv iss org (s.modTurn q f) :=
  h.modWq fun _ => .of_turn_map hf

theorem payloadGo (h : Acts true true org s) {q raw kr fetch got r} : Acts true true org (s.payloadGo q raw kr fetch got r) := by
  unfold State.payloadGo
  split
  · exact h.modTurn
  split
  · extract_lets
    split
    · exact h.modTurn.waitFor
    · exact h.modTurn.issueData
  · exact (h.foldl fun _ _ h => h.emit).modTurn

theorem payloadStart (h : Acts true true org s) {q raw kr fetch got} : Acts true true org (s.payloadStart q raw kr fetch got) :=
  h.xlate.payloadGo

theorem issueRecv (h : Acts lv true org s) {q raw kr fetch} : Acts lv true org (s.issueRecv q raw kr fetch) :=
  h.markIssued.recvPlace

theorem issueLock (h : Acts lv true org s) {q raw kr fetch} : Acts lv true org (s.issueLock q raw kr fetch) := by
  unfold State.issueLock
  extract_lets cnt lk p s1 x _ s2
  have h1 : Acts lv true org s1 := h.countOff.markIssued
  have h2 : Acts lv true org s2 := h1.setLck.ite h1
  exact h2.sendAll

theorem issueCfadd (h : Acts lv true org s) {q raw kr fetch} : Acts lv true org (s.issueCfadd q raw kr fetch) := by
  unfold State.issueCfadd
  extract_lets
  split <;> exact h.countOff.markIssued.sendAll

theorem issueColl (h : Acts true true org s) {q raw kr fetch} : Acts true true org (s.issueColl q raw kr fetch) := by
  unfold State.issueColl
  extract_lets
  split
  · exact h.countOff.markIssued.collIssue
  · exact h.issueDone

theorem issueAt (h : Acts true true org s) {q raw fetch} : Acts true true org (s.issueAt q raw fetch) := by
  unfold State.issueAt
  extract_lets kr o
  clear_value o
  split
  · exact h.wqError.runWaitCmds
  split
  · exact h.waitFor
  split
  · exact h.issueDone
  split
  · exact h.issueDone
  split
  · exact h.payloadStart
  split
  · exact h.issueDone
  · exact h.issueData
  · exact h.countOff.markIssued.sendAll
  · exact h.issueData
  · exact h.issueRecv
  · exact h.issueCfadd
  · exact h.issueColl
  · exact h.issueColl
  · exact h.issueLock
  · exact h.issueLock
  · exact h.issueLock
  · exact h.issueData

theorem turnAux (h : Acts true true org s) {q fuel} : Acts true true org (Machine.turnAux q fuel s) := by
  induction fuel generalizing s with
  | zero => exact h
  | succ fuel ih =>
    unfold Machine.turnAux
    extract_lets
    split
    · exact h
    split
    · exact h
    split
    · exact h.wqError.runWaitCmds
    split
    · exact h.endTurn
    split
    · exact h.wqError.runWaitCmds
    split
    · exact h.fetchMore.endTurn
    · exact h.dropCopy.fetchMore.endTurn.ite (ih h.issueAt)

theorem turnRun (h : Acts true true org s) {q} : Acts true true org (s.turnRun q) := h.turnAux

/-! ## The ends of walks (Machine/Walks) -/

theorem payloadWalked (h : Acts true true org s) {q got fail} : Acts true true org (s.payloadWalked q got fail) := by
  unfold State.payloadWalked
  extract_lets
  split
  · split
    · exact h
    · extract_lets s1
      have h1 : Acts true true org s1 := by
        unfold s1
        split
        · exact h.payloadGo.ite h.payloadStart
        split
        · exact h.payloadStart
        · exact h.payloadGo
      exact h1.turnRun
  · exact h

theorem walkGot (h : Acts true true org s) {a got} : Acts true true org (s.walkGot a got) := by
  unfold State.walkGot
  split
  · exact h.payloadWalked
  · exact h.turnGoOn fun _ h => h.perform
  · exact h.placeGet
  · exact h.turnGoOn fun _ h => h.msgPlace
  · exact h.msgCopy
  · exact h.instRun.ite h

theorem walkFailed (h : Acts true true org s) {a got kind} : Acts true true org (s.walkFailed a got kind) := by
  unfold State.walkFailed
  split
  · exact h.payloadWalked
  · exact h.turnGoOn fun _ h => h.accessFail
  · exact h.descPart
  · exact h.turnGoOn fun _ h => h.msgPlaceFailed
  · exact h.msgCopyFailed
  · exact h.instFailed

end Acts

end

end Sys2Proof.Machine

/-! # Block resets: what is asked of a block, and its registers (R580 to R582, R663) -/

namespace Sys2Proof.Machine

/-! ## The register at an offset -/

theorem RegFam.addr_of_indexOf {f : RegFam} (hf : f.name.fam = f) (hn : 0 < f.n2) {off i : Nat} (h : f.indexOf off = some i) :
    f.name.addr i = off := by
  unfold RegFam.indexOf at h
  split at h
  · cases h
  next hb =>
  extract_lets d i1 r i2 at h
  split at h
  next hd =>
    cases h
    have h2 : i2 < f.n2 := by
      unfold i2
      split
      · exact hn
      · omega
    unfold RegName.addr
    rw [hf, Nat.mul_comm i1, Nat.mul_add_div hn, Nat.div_eq_of_lt h2, Nat.mul_add_mod, Nat.mod_eq_of_lt h2, Nat.add_zero,
      Nat.mul_comm f.s1, Nat.mul_comm f.s2]
    omega
  · cases h

/-- Each family of a list stands under its name, and has instances. -/
def Named (l : List RegFam) : Prop := ∀ f ∈ l, f.name.fam = f ∧ 0 < f.n2

theorem Named.ite {p : Prop} {inst : Decidable p} {l l' : List RegFam} (h : Named l) (h' : Named l') : Named (if p then l else l') := by
  split
  · exact h
  · exact h'

theorem famsAt_named (off : Nat) : Named (famsAt off) := by
  unfold famsAt
  repeat' refine Named.ite ?_ ?_
  all_goals unfold Named; decide

theorem findReg_addr {off : Nat} {l : List RegFam} (hl : Named l) {r : RegName} {i : Nat}
    (h : findReg off l = some (r, i)) : r.addr i = off := by
  induction l with
  | nil => cases h
  | cons f t ih =>
    unfold findReg at h
    split at h
    next hi =>
      cases h
      obtain ⟨h1, h2⟩ := hl f (.head _)
      exact RegFam.addr_of_indexOf h1 h2 hi
    · exact ih (fun g hg => hl g (.tail _ hg)) h

theorem regAt_addr {off i : Nat} {r : RegName} (h : regAt off = some (r, i)) : r.addr i = off := findReg_addr (famsAt_named off) h

section
variable {s t u : State} {c : Nat}

/-! ## The registers of a block at its reset -/

/-- A change of the registers, none of which lies outside the block, and of the ticks of snapshots. -/
def RegsOf (c : Nat) (s t : State) : Prop :=
  t.Inv ∧ (∀ k, blockOfReg k ≠ some c → mget t.regs k = mget s.regs k) ∧
    ∃ regs snapAt, t = { s with regs := regs, host := { s.host with snapAt := snapAt } }

theorem RegsOf.wrRaw (h : RegsOf c s t) {r : RegName} {i v : Nat} (hr : blockOfReg (r.addr i) = some c) : RegsOf c s (t.wrRaw r i v) := by
  obtain ⟨hi, hk, regs, snapAt, rfl⟩ := h
  refine ⟨hi.wrRaw, fun k hc => (mget_wrRaw_ne hi.regs r i v fun e => hc ?_).trans (hk k hc), _, snapAt, rfl⟩
  rw [e, hr]

theorem RegsOf.setFld (h : RegsOf c s t) {f : Fld} {v i : Nat} (hr : blockOfReg (f.reg.addr i) = some c) : RegsOf c s (t.setFld f v i) :=
  h.wrRaw hr

/-- The block of a GDDR7 channel's status register. -/
theorem blockOfReg_memstat {k : Nat} (hk : k < 8) : blockOfReg (RegName.HIF_MEMSTAT.addr k) = some (0x30 + k) := by
  interval_cases k <;> rfl

/-- The block of a lane block's status register. -/
theorem blockOfReg_lbstat {b : Nat} (hb : b < 9) : blockOfReg (RegName.FLK_LBSTAT.addr b) = some (0x40 + b) := by
  interval_cases b <;> rfl

theorem RegsOf.foldl {l : List Nat} {f : State → Nat → State} (h : RegsOf c s t) (hf : ∀ t, ∀ k ∈ l, RegsOf c s t → RegsOf c s (f t k)) :
    RegsOf c s (l.foldl f t) := by
  induction l generalizing t with
  | nil => exact h
  | cons x l ih => exact ih (hf t x (.head _) h) fun t y hy => hf t y (.tail _ hy)

/-- Outside the block every field stands. -/
theorem RegsOf.fld_eq (h : RegsOf c s t) {f : Fld} {i : Nat} (hf : blockOfReg (f.reg.addr i) ≠ some c) : t.fld f i = s.fld f i := by
  obtain ⟨-, hk, -⟩ := h
  unfold State.fld State.rdRaw
  rw [hk _ hf]

/-- The reset of a block's registers, then the fields that read a present state put back (R663). -/
theorem State.Inv.blockRegs_split (h : s.Inv) (c : Nat) : ∃ t, RegsOf c s t ∧ s.blockRegs c =
    if 0x30 ≤ c ∧ c ≤ 0x37 then t.setFld .HIF_MEMSTAT_KEYED (s.fld .HIF_MEMSTAT_KEYED (c - 0x30)) (c - 0x30)
    else if 0x40 ≤ c then
      (t.setFld .FLK_LBSTAT_PLLLOCK (s.fld .FLK_LBSTAT_PLLLOCK (c - 0x40)) (c - 0x40)).setFld .FLK_LBSTAT_CAL
        (s.fld .FLK_LBSTAT_CAL (c - 0x40)) (c - 0x40)
    else t := by
  unfold State.blockRegs
  extract_lets keys s1 _ s2
  have hkeys : ∀ k ∈ keys, blockOfReg k = some c := fun k hk => eq_of_beq (List.mem_filter.mp hk).2
  have h1 : RegsOf c s s1 := by
    refine RegsOf.foldl ⟨h, fun _ _ => rfl, s.regs, s.host.snapAt, rfl⟩ fun t k hk ht => ?_
    split
    next r i hr => exact ht.wrRaw (by rw [regAt_addr hr, hkeys k hk])
    · exact ht
  have h2 : RegsOf c s s2 := by
    obtain ⟨hi, hk, regs, snapAt, e⟩ := h1
    unfold s2
    clear_value s1
    subst e
    exact ⟨hi, hk, regs, _, rfl⟩
  exact ⟨s2, h2, rfl⟩

theorem State.Inv.blockRegs_regsOf (h : s.Inv) (hc : blockCode c = true) : RegsOf c s (s.blockRegs c) := by
  obtain ⟨t, ht, e⟩ := h.blockRegs_split c
  rw [e]
  split
  next hm =>
    refine ht.setFld ?_
    rw [show Fld.HIF_MEMSTAT_KEYED.reg = .HIF_MEMSTAT from rfl, blockOfReg_memstat (by omega)]
    congr 1
    omega
  split
  next hm =>
    have hb : blockOfReg (RegName.FLK_LBSTAT.addr (c - 0x40)) = some c := by
      simp only [blockCode, Bool.or_eq_true, Bool.and_eq_true, decide_eq_true_eq] at hc
      rw [blockOfReg_lbstat (by omega)]
      congr 1
      omega
    exact (ht.setFld hb).setFld hb
  · exact ht

theorem fld_setFld_kept (h : u.Inv) (f : Fld) (i : Nat) (hf : f.lo + f.w ≤ 32) : (u.setFld f (s.fld f i) i).fld f i = s.fld f i :=
  (fld_setFld_same h.regs f _ i hf).trans (Nat.mod_eq_of_lt (bits_lt _ _ _))

theorem State.Inv.blockRegs_keyed (h : s.Inv) {k : Nat} (hk : k < 8) :
    (s.blockRegs (0x30 + k)).fld .HIF_MEMSTAT_KEYED k = s.fld .HIF_MEMSTAT_KEYED k := by
  obtain ⟨t, ht, e⟩ := h.blockRegs_split (0x30 + k)
  rw [e, if_pos (by omega), Nat.add_sub_cancel_left]
  exact fld_setFld_kept ht.1 .HIF_MEMSTAT_KEYED k (by decide)

theorem State.Inv.blockRegs_cal (h : s.Inv) (b : Nat) :
    (s.blockRegs (0x40 + b)).fld .FLK_LBSTAT_CAL b = s.fld .FLK_LBSTAT_CAL b := by
  obtain ⟨t, ht, e⟩ := h.blockRegs_split (0x40 + b)
  rw [e, if_neg (by omega), if_pos (by omega), Nat.add_sub_cancel_left]
  exact fld_setFld_kept ht.1.setFld .FLK_LBSTAT_CAL b (by decide)

theorem blockOfReg_ready : blockOfReg (RegName.GEN_READY.addr 0) = none := by decide

theorem blockOfReg_readycl : blockOfReg (RegName.GEN_READYCL.addr 0) = none := by decide

/-- The ready bits stand at the reset of a block's registers. -/
theorem RegsOf.ready_fld (h : RegsOf c s t) {f : Fld} (hf : f.reg = .GEN_READY) : t.fld f = s.fld f :=
  h.fld_eq (by rw [hf, blockOfReg_ready]; exact nofun)

theorem RegsOf.readycl_fld (h : RegsOf c s t) {f : Fld} (hf : f.reg = .GEN_READYCL) : t.fld f = s.fld f :=
  h.fld_eq (by rw [hf, blockOfReg_readycl]; exact nofun)

theorem RegsOf.ready_flag (h : RegsOf c s t) {f : Fld} (hf : f.reg = .GEN_READY) : t.flag f = s.flag f := by
  unfold State.flag
  rw [h.ready_fld hf]

end

end Sys2Proof.Machine

/-! # Block resets: the block is asked to go idle (R63, R580) -/

namespace Sys2Proof.Machine

section
variable {s u : State} {c : Nat}

/-! ## The ready bits of a block that takes no work -/

/-- The registers of the ready bits. -/
def readyKeys : List Nat := [RegName.GEN_READY.addr 0, RegName.GEN_READYCL.addr 0]

theorem ready_mem : RegName.GEN_READY.addr 0 ∈ readyKeys := .head _

theorem readycl_mem : RegName.GEN_READYCL.addr 0 ∈ readyKeys := .tail _ (.head _)

theorem State.Inv.nccReady_keepsRegs (h : u.Inv) : KeepsRegs u u.nccReady readyKeys := KeepsRegs.refl.setFld h ready_mem

theorem State.Inv.nccReady_busy (h : u.Inv) (hb : u.blockBusy 0x25 = true) : u.nccReady.ncc = false := by
  unfold State.nccReady State.ncc
  rw [hb, Bool.not_true, Bool.and_false]
  exact flag_setFld_same h false 0 (by decide) (by decide)

theorem State.Inv.nccReady_fld (h : u.Inv) {g : Fld} (hr : g.reg = .GEN_READY) (hd : g.lo + g.w ≤ 21 ∨ 22 ≤ g.lo) :
    u.nccReady.fld g = u.fld g := fld_setFld_other h.regs _ 0 (by decide) hr hd

theorem State.Inv.dstateOff_fld (h : u.Inv) {g : Fld} (hr : g.reg = .GEN_READY) (hd : g.lo + g.w ≤ 9 ∨ 10 ≤ g.lo) :
    (u.setFld .GEN_READY_DSTATE 0).fld g = u.fld g := fld_setFld_other h.regs _ 0 (by decide) hr hd

/-- A channel that is no longer ready, and DSTATE with it. -/
theorem State.Inv.memUnready (h : u.Inv) {k : Nat} (hk : k < 8) :
    let t := ((u.setBit .GEN_READY_MEMCH k false).setFld .GEN_READY_DSTATE 0).nccReady
    bitAt (t.fld .GEN_READY_MEMCH) k = false ∧ t.dstate = false ∧ KeepsRegs u t readyKeys := by
  have h1 : (u.setBit .GEN_READY_MEMCH k false).Inv := h.setBit
  have h2 : ((u.setBit .GEN_READY_MEMCH k false).setFld .GEN_READY_DSTATE 0).Inv := h1.setFld
  refine ⟨?_, ?_, ((KeepsRegs.refl.setBit h ready_mem).setFld h1 ready_mem).trans h2.nccReady_keepsRegs⟩
  · rw [h2.nccReady_fld rfl (by decide), h1.dstateOff_fld rfl (by decide)]
    exact bitAt_setBit_same h false 0 (by decide) hk
  · unfold State.dstate State.flag
    rw [h2.nccReady_fld rfl (by decide)]
    exact flag_setFld_same h1 false 0 (by decide) (by decide)

theorem State.Inv.blockUnready_keepsRegs (h : u.Inv) : KeepsRegs u (u.blockUnready c) readyKeys := by
  unfold State.blockUnready
  split
  · exact KeepsRegs.refl.setBit h readycl_mem
  split
  next hc => exact (h.memUnready (k := c - 0x30) (by omega)).2.2
  split
  · exact KeepsRegs.refl.setBit h ready_mem
  · exact h.nccReady_keepsRegs

theorem State.Inv.blockUnready_cluster (h : u.Inv) (hc : c < 18) : (u.blockUnready c).clusterReady c = false := by
  unfold State.blockUnready State.clusterReady
  rw [if_pos hc]
  exact bitAt_setBit_same h false 0 (by decide) hc

theorem State.Inv.blockUnready_mem (h : u.Inv) (h1 : 0x30 ≤ c) (h2 : c < 0x38) :
    bitAt ((u.blockUnready c).fld .GEN_READY_MEMCH) (c - 0x30) = false ∧ (u.blockUnready c).dstate = false := by
  unfold State.blockUnready
  rw [if_neg (by omega), if_pos (by omega)]
  obtain ⟨hm, hd, -⟩ := h.memUnready (k := c - 0x30) (by omega)
  exact ⟨hm, hd⟩

theorem State.Inv.blockUnready_lb (h : u.Inv) (h1 : 0x40 ≤ c) (h2 : c < 0x49) : (u.blockUnready c).lbReady (c - 0x40) = false := by
  unfold State.blockUnready State.lbReady
  rw [if_neg (by omega), if_neg (by omega), if_pos (by omega)]
  exact bitAt_setBit_same h false 0 (by decide) (by show c - 0x40 < 9; omega)

theorem State.Inv.blockUnready_ncc (h : u.Inv) (hb : u.blockBusy 0x25 = true) : (u.blockUnready 0x25).ncc = false := by
  unfold State.blockUnready
  rw [if_neg (by decide), if_neg (by decide), if_neg (by decide)]
  exact h.nccReady_busy hb

theorem State.blockUnready_eq (u : State) (c : Nat) : ∃ regs, u.blockUnready c = { u with regs := regs } := by
  unfold State.blockUnready
  split
  · exact ⟨_, rfl⟩
  split
  · exact ⟨_, rfl⟩
  split
  · exact ⟨_, rfl⟩
  · exact ⟨_, rfl⟩

/-! ## The state in which a block has been asked -/

/-- The record of a block reset that waits for idle since the present tick. -/
def State.idleSince (s : State) : BlkRst := { since := s.tick, idleWait := true, slots := [] }

/-- The reset of a block is recorded. -/
def State.noted (s : State) (c : Nat) (b : BlkRst) : State := { s with rst := { s.rst with blocks := [(c, b)] } }

/-- The block takes no more work, and the device waits for it to go idle. -/
def State.asked (s : State) (c : Nat) : State := ((s.noted c s.idleSince).blockUnready c).setFld .RST_BLKSTAT_BLOCK c

theorem State.blkBegin_eq (hb : s.rst.blocks = []) (c : Nat) (force : Bool) :
    s.blkBegin c force [] = if force = true then (s.asked c).resetReq (.block c) else s.asked c := by
  unfold State.blkBegin
  rw [hb]
  rfl

theorem State.asked_eq (s : State) (c : Nat) :
    ∃ regs, s.asked c = { s with regs := regs, rst := { s.rst with blocks := [(c, s.idleSince)] } } := by
  obtain ⟨r, e⟩ := (s.noted c s.idleSince).blockUnready_eq c
  exact ⟨_, by unfold State.asked; rw [e]; rfl⟩

theorem State.asked_rst (s : State) (c : Nat) : (s.asked c).rst = { s.rst with blocks := [(c, s.idleSince)] } := by
  obtain ⟨r, e⟩ := s.asked_eq c
  rw [e]

theorem State.asked_hostMem (s : State) (c : Nat) : (s.asked c).hostMem = s.hostMem := by
  obtain ⟨r, e⟩ := s.asked_eq c
  rw [e]

/-- The resets that wait for the end of a write pulse. -/
def State.pends (s : State) (l : List PendReset) : State := { s with rst := { s.rst with nvPending := l } }

/-- The keys that the request to a block may change. -/
def askedKeys : List Nat := [RegName.RST_BLKSTAT.addr 0, RegName.GEN_READY.addr 0, RegName.GEN_READYCL.addr 0]

theorem State.Inv.noted_unready (h : s.Inv) (c : Nat) (b : BlkRst) : ((s.noted c b).blockUnready c).Inv :=
  State.Inv.blockUnready (s := s.noted c b) h

theorem State.Inv.asked (h : s.Inv) (c : Nat) : (s.asked c).Inv := (h.noted_unready c _).setFld

theorem State.Inv.asked_keepsRegs (h : s.Inv) (c : Nat) : KeepsRegs s (s.asked c) askedKeys := by
  have h0 : KeepsRegs s ((s.noted c s.idleSince).blockUnready c) readyKeys :=
    State.Inv.blockUnready_keepsRegs (u := s.noted c s.idleSince) h
  exact (h0.mono fun k hk => .tail _ hk).setFld (h.noted_unready c _) (show RegName.RST_BLKSTAT.addr 0 ∈ askedKeys from .head _)

/-- The fields of the ready registers are those that the block's request leaves. -/
theorem State.Inv.asked_fld (h : s.Inv) (c : Nat) {f : Fld} {i : Nat} (hf : f.reg.addr i ≠ RegName.RST_BLKSTAT.addr 0) :
    (s.asked c).fld f i = ((s.noted c s.idleSince).blockUnready c).fld f i :=
  fld_setFld_ne (h.noted_unready c _).regs _ hf

theorem State.Inv.asked_block (h : s.Inv) (hc : c < 256) : (s.asked c).fld .RST_BLKSTAT_BLOCK = c :=
  (fld_setFld_same (h.noted_unready c _).regs _ _ _ (by decide)).trans (Nat.mod_eq_of_lt hc)

theorem State.Inv.asked_cluster (h : s.Inv) (hc : c < 18) : (s.asked c).clusterReady c = false := by
  unfold State.clusterReady
  rw [h.asked_fld c (by decide)]
  exact State.Inv.blockUnready_cluster (u := s.noted c s.idleSince) h hc

theorem State.Inv.asked_mem (h : s.Inv) (h1 : 0x30 ≤ c) (h2 : c < 0x38) :
    bitAt ((s.asked c).fld .GEN_READY_MEMCH) (c - 0x30) = false ∧ (s.asked c).dstate = false := by
  unfold State.dstate State.flag
  rw [h.asked_fld c (by decide), h.asked_fld c (by decide)]
  exact State.Inv.blockUnready_mem (u := s.noted c s.idleSince) h h1 h2

theorem State.Inv.asked_lb (h : s.Inv) (h1 : 0x40 ≤ c) (h2 : c < 0x49) : (s.asked c).lbReady (c - 0x40) = false := by
  unfold State.lbReady
  rw [h.asked_fld c (by decide)]
  exact State.Inv.blockUnready_lb (u := s.noted c s.idleSince) h h1 h2

theorem State.Inv.asked_ncc (h : s.Inv) : (s.asked 0x25).ncc = false := by
  unfold State.ncc State.flag
  rw [h.asked_fld 0x25 (by decide)]
  exact State.Inv.blockUnready_ncc (u := s.noted 0x25 s.idleSince) h rfl

/-! ## The rows -/

theorem State.blkRow_eq (hr : s.reaches .RST_BLKCMD 0) (hb : s.rst.blocks = []) (hc : blockCode c = true) (force : Bool) :
    s.blkRow c force = (s.blkBegin c force []).settle := by
  obtain ⟨hh, hg⟩ := hr
  unfold State.blkRow State.regRow State.blkCmd
  simp only [hh, hg, hb, hc, Bool.not_true, Bool.false_eq_true, Bool.true_eq_false, if_false, ne_eq, not_true_eq_false, or_self]

/-- Every row of a block reset is a register command with the code of its block. -/
theorem blockRows_exec {x : Nat × (Bool → Instr)} (hx : x ∈ blockRows) :
    blockCode x.1 = true ∧ ∀ force s, exec (x.2 force) s = .next (s.blkRow x.1 force) := by
  simp only [blockRows, List.mem_append, List.mem_map, List.mem_range, List.mem_cons, List.not_mem_nil, or_false] at hx
  obtain ((⟨c, hc, rfl⟩ | hx) | ⟨k, hk, rfl⟩) | ⟨b, hb, rfl⟩ := hx
  · exact ⟨by simp [blockCode, hc], fun _ _ => rfl⟩
  · obtain rfl | rfl | rfl | rfl | rfl | rfl | rfl := hx <;> exact ⟨rfl, fun _ _ => rfl⟩
  · exact ⟨by simp [blockCode]; omega, fun _ _ => rfl⟩
  · exact ⟨by simp [blockCode]; omega, fun _ _ => rfl⟩

theorem blockCode_lt (hc : blockCode c = true) : c < 0x49 := by
  simp only [blockCode, Bool.or_eq_true, Bool.and_eq_true, decide_eq_true_eq] at hc
  omega

/-- Without force, or during a nonvolatile write pulse, the block is asked and its reset waits (R580, R586). -/
theorem blockReset_waits (h : s.Inv) (hr : s.reaches .RST_BLKCMD 0) (hb : s.rst.blocks = []) {x : Nat × (Bool → Instr)} (hx : x ∈ blockRows)
    {force : Bool} (hf : force = false ∨ s.rst.nvRow.isSome = true) :
    CompletesVia State.settle (x.2 force) s (fun u =>
      mget u.rst.blocks x.1 = some { since := s.tick, idleWait := true, slots := [] } ∧ u.fld .RST_BLKSTAT_BLOCK = x.1 ∧
      u.rst.nvPending = (if force then s.rst.nvPending ++ [.block x.1] else s.rst.nvPending) ∧
      (x.1 < 18 → u.clusterReady x.1 = false) ∧ (x.1 = 0x25 → u.ncc = false) ∧
      (0x30 ≤ x.1 → x.1 < 0x38 → bitAt (u.fld .GEN_READY_MEMCH) (x.1 - 0x30) = false ∧ u.dstate = false) ∧
      (0x40 ≤ x.1 → u.lbReady (x.1 - 0x40) = false) ∧
      KeepsRegs s u [RegName.RST_BLKSTAT.addr 0, RegName.GEN_READY.addr 0, RegName.GEN_READYCL.addr 0] ∧ KeepsMem s u) := by
  obtain ⟨hc, he⟩ := blockRows_exec hx
  obtain ⟨c, row⟩ := x
  have hlt := blockCode_lt hc
  refine ⟨_, (he force s).trans (congrArg Host.Outcome.next (State.blkRow_eq hr hb hc force)), ?_⟩
  have key : s.blkBegin c force [] = (s.asked c).pends (if force then s.rst.nvPending ++ [.block c] else s.rst.nvPending) := by
    rw [State.blkBegin_eq hb]
    obtain ⟨r, e⟩ := s.asked_eq c
    obtain rfl | hn := hf
    · rw [if_neg (by decide), e]
      rfl
    · cases force
      · rw [if_neg (by decide), e]
        rfl
      · rw [if_pos rfl, State.resetReq, s.asked_rst c, if_pos hn, e]
        rfl
  have h1 : (s.asked c).rst.blocks = [(c, s.idleSince)] := by rw [State.asked_rst]
  have h2 := h.asked_block (c := c) (by omega)
  have h3 := h.asked_cluster (c := c)
  have h4 := h.asked_mem (c := c)
  have h5 := h.asked_lb (c := c)
  have h6 := h.asked_keepsRegs c
  have h7 : KeepsMem s (s.asked c) := .of_eq (s.asked_hostMem c)
  have h8 : c = 0x25 → (s.asked c).ncc = false := fun e => by rw [e]; exact h.asked_ncc
  rw [key]
  generalize s.asked c = a at *
  refine ⟨?_, h2, rfl, h3, h8, h4, fun hl => h5 hl hlt, h6, h7⟩
  show mget a.rst.blocks c = _
  rw [h1]
  exact if_pos rfl

end

end Sys2Proof.Machine

/-! # Block resets: the blocks that are out of reset at once, and those that work again later (R580, R582) -/

namespace Sys2Proof.Machine

section
variable {s u : State} {c : Nat}

/-! ## The state in which a block is held -/

/-- The record of a block that is held in reset since the present tick. -/
def State.heldSince (s : State) : BlkRst := { since := s.tick, idleWait := false, slots := [] }

/-- The reset of a block that was asked at this tick takes effect. -/
def State.held (s : State) (c : Nat) : State := { s.asked c with rst := { s.rst with blocks := [(c, s.heldSince)] } }

/-- A recorded block reset waits for idle no more. -/
def State.holds (u : State) (c : Nat) (b : BlkRst) : State :=
  { u with rst := { u.rst with blocks := mset u.rst.blocks c { b with idleWait := false } } }

theorem State.asked_holds (s : State) (c : Nat) (b : BlkRst) : (s.asked c).holds c (mgetD (s.asked c).rst.blocks c b) = s.held c := by
  obtain ⟨r, e⟩ := s.asked_eq c
  have hg : mget [(c, s.idleSince)] c = some s.idleSince := if_pos rfl
  have hs : mset [(c, s.idleSince)] c s.heldSince = [(c, s.heldSince)] := if_pos rfl
  unfold State.held State.holds mgetD
  rw [e]
  show ({ s with regs := r, rst := _ } : State) = _
  rw [hg]
  exact congrArg (fun l => ({ s with regs := r, rst := { s.rst with blocks := l } } : State)) hs

theorem State.held_eq (s : State) (c : Nat) :
    ∃ regs, s.held c = { s with regs := regs, rst := { s.rst with blocks := [(c, s.heldSince)] } } := by
  obtain ⟨r, e⟩ := s.asked_eq c
  exact ⟨r, by unfold State.held; rw [e]⟩

theorem State.held_regs (s : State) (c : Nat) : (s.held c).regs = (s.asked c).regs := rfl

theorem State.held_rst (s : State) (c : Nat) : (s.held c).rst = { s.rst with blocks := [(c, s.heldSince)] } := rfl

theorem State.held_busy (s : State) (c : Nat) : mget (s.held c).rst.blocks c = some s.heldSince := if_pos rfl

theorem State.Inv.held (h : s.Inv) (c : Nat) : (s.held c).Inv := (h.asked c).update

theorem State.Inv.held_keepsRegs (h : s.Inv) (c : Nat) : KeepsRegs s (s.held c) askedKeys := h.asked_keepsRegs c

theorem State.held_keepsMem (s : State) (c : Nat) : KeepsMem s (s.held c) := .of_eq (s.asked_hostMem c)

/-- With force and without a write pulse, the reset takes effect at once. -/
theorem State.blkBegin_forced (hb : s.rst.blocks = []) (hn : s.rst.nvRow = none) (c : Nat) :
    s.blkBegin c true [] = ((s.asked c).blockReset c).nvStart := by
  rw [State.blkBegin_eq hb, if_pos rfl, State.resetReq, State.asked_rst, hn, if_neg (by decide)]
  unfold State.doReset
  dsimp only
  rw [State.asked_rst, if_pos]
  exact congrArg Option.isSome (if_pos rfl : mget [(c, s.idleSince)] c = _)

/-- The rows with force: what the command answers is the reset's outcome, settled. -/
theorem blockReset_forced (hr : s.reaches .RST_BLKCMD 0) (hb : s.rst.blocks = []) (hn : s.rst.nvRow = none) {x : Nat × (Bool → Instr)}
    (hx : x ∈ blockRows) : exec (x.2 true) s = .next ((s.asked x.1).blockReset x.1).nvStart.settle := by
  obtain ⟨hc, he⟩ := blockRows_exec hx
  rw [he, State.blkRow_eq hr hb hc, State.blkBegin_forced hb hn]

/-! ## What the reset of each block does -/

theorem State.blockReset_cluster (s : State) (hc : c < 18) : (s.asked c).blockReset c = (s.held c).resetCluster c := by
  unfold State.blockReset
  extract_lets b _ t
  rw [if_pos hc, show t = s.held c from s.asked_holds c _]

theorem State.blockReset_mem (s : State) (h1 : 0x30 ≤ c) (h2 : c < 0x38) : (s.asked c).blockReset c = (s.held c).resetMem (c - 0x30) := by
  unfold State.blockReset
  extract_lets b _ t
  rw [if_neg (by omega), if_pos (by omega), show t = s.held c from s.asked_holds c _]

theorem State.blockReset_lanes (s : State) (h1 : 0x40 ≤ c) :
    (s.asked c).blockReset c = ((s.held c).resetLanes (c - 0x40)).blockEnd c := by
  unfold State.blockReset
  extract_lets b _ t
  rw [if_neg (by omega), if_neg (by omega), if_pos h1, show t = s.held c from s.asked_holds c _]

theorem State.blockReset_qm (s : State) : (s.asked 0x20).blockReset 0x20 = ((s.held 0x20).resetQm).blockEnd 0x20 := by
  unfold State.blockReset
  extract_lets b _ t
  rw [if_neg (by decide), if_neg (by decide), if_neg (by decide), show t = s.held 0x20 from s.asked_holds 0x20 _]
  rfl

theorem State.blockReset_xlt (s : State) : (s.asked 0x21).blockReset 0x21 = (s.held 0x21).resetXlt := by
  unfold State.blockReset
  extract_lets b _ t
  rw [if_neg (by decide), if_neg (by decide), if_neg (by decide), show t = s.held 0x21 from s.asked_holds 0x21 _]
  rfl

theorem State.blockReset_lck (s : State) : (s.asked 0x22).blockReset 0x22 = ((s.held 0x22).blockRegs 0x22).blockEnd 0x22 := by
  unfold State.blockReset
  extract_lets b _ t
  rw [if_neg (by decide), if_neg (by decide), if_neg (by decide), show t = s.held 0x22 from s.asked_holds 0x22 _]
  rfl

theorem State.blockReset_col (s : State) : (s.asked 0x23).blockReset 0x23 = ((s.held 0x23).blockRegs 0x23).blockEnd 0x23 := by
  unfold State.blockReset
  extract_lets b _ t
  rw [if_neg (by decide), if_neg (by decide), if_neg (by decide), show t = s.held 0x23 from s.asked_holds 0x23 _]
  rfl

theorem State.blockReset_mir (s : State) : (s.asked 0x24).blockReset 0x24 = ((s.held 0x24).resetMir).blockEnd 0x24 := by
  unfold State.blockReset
  extract_lets b _ t
  rw [if_neg (by decide), if_neg (by decide), if_neg (by decide), show t = s.held 0x24 from s.asked_holds 0x24 _]
  rfl

theorem State.blockReset_ncc (s : State) : (s.asked 0x25).blockReset 0x25 = ((s.held 0x25).nccEmpty.blockRegs 0x25).blockEnd 0x25 := by
  unfold State.blockReset
  extract_lets b _ t
  rw [if_neg (by decide), if_neg (by decide), if_neg (by decide), show t = s.held 0x25 from s.asked_holds 0x25 _]
  rfl

theorem State.blockReset_steward (s : State) : (s.asked 0x26).blockReset 0x26 = (s.held 0x26).resetSteward := by
  unfold State.blockReset
  extract_lets b _ t
  rw [if_neg (by decide), if_neg (by decide), if_neg (by decide), show t = s.held 0x26 from s.asked_holds 0x26 _]
  rfl

end

end Sys2Proof.Machine

/-! # Block resets with force: the small units (R580, R582) -/

namespace Sys2Proof.Machine

section
variable {s u : State} {c : Nat}

/-- A reset that empties the record of block resets. -/
theorem State.blockEnd_blocks (hb : u.rst.blocks = [(c, s.heldSince)]) : (u.blockEnd c).rst.blocks = [] := by
  unfold State.blockEnd
  show mdel u.rst.blocks c = []
  rw [hb]
  exact if_pos rfl

theorem State.Inv.held_blockRegs (h : s.Inv) (hc : blockCode c = true) :
    ∃ regs host, (s.held c).blockRegs c = { s with regs := regs, host := host, rst := { s.rst with blocks := [(c, s.heldSince)] } } := by
  obtain ⟨-, -, _, _, e⟩ := (h.held c).blockRegs_regsOf hc
  obtain ⟨_, e'⟩ := s.held_eq c
  rw [e, e']
  exact ⟨_, _, rfl⟩

theorem State.blockEnd_ncc (u : State) (c : Nat) : (u.blockEnd c).ncc = u.ncc := rfl

theorem KeepsMem.nccEmpty (h : KeepsMem s u) : KeepsMem s u.nccEmpty := h.update.setFld

theorem State.Inv.nccEmpty_ncc (h : u.Inv) (hb : u.blockBusy 0x25 = true) : u.nccEmpty.ncc = false :=
  State.Inv.nccReady_busy (u := { u with win := { u.win with frames := [], nccInit := false, cacheEpoch := u.win.cacheEpoch + 1 } }) h hb

section
variable (h : s.Inv) (hr : s.reaches .RST_BLKCMD 0) (hb : s.rst.blocks = []) (hn : s.rst.nvRow = none)
include h hr hb hn

theorem blockResetLockUnit_forced : CompletesVia (fun u => u.nvStart.settle) (.blockResetLockUnit true) s
    (fun u => u.lck = s.lck ∧ u.tgt = s.tgt ∧ u.rst.blocks = [] ∧ KeepsMem s u) := by
  have he := blockReset_forced hr hb hn (x := (0x22, .blockResetLockUnit)) (by simp [blockRows])
  refine ⟨_, he.trans (by rw [State.blockReset_lck]), ?_⟩
  obtain ⟨_, _, e⟩ := h.held_blockRegs (c := 0x22) rfl
  rw [e]
  exact ⟨rfl, rfl, State.blockEnd_blocks rfl, .of_eq rfl⟩

theorem blockResetCollectiveUnit_forced : CompletesVia (fun u => u.nvStart.settle) (.blockResetCollectiveUnit true) s
    (fun u => u.col = s.col ∧ u.tgt = s.tgt ∧ u.rst.blocks = [] ∧ KeepsMem s u) := by
  have he := blockReset_forced hr hb hn (x := (0x23, .blockResetCollectiveUnit)) (by simp [blockRows])
  refine ⟨_, he.trans (by rw [State.blockReset_col]), ?_⟩
  obtain ⟨_, _, e⟩ := h.held_blockRegs (c := 0x23) rfl
  rw [e]
  exact ⟨rfl, rfl, State.blockEnd_blocks rfl, .of_eq rfl⟩

theorem blockResetNearCache_forced : CompletesVia (fun u => u.nvStart.settle) (.blockResetNearCache true) s
    (fun u => u.win.frames = [] ∧ u.ncc = false ∧ u.rst.blocks = [] ∧ KeepsMem s u) := by
  have he := blockReset_forced hr hb hn (x := (0x25, .blockResetNearCache)) (by simp [blockRows])
  refine ⟨_, he.trans (by rw [State.blockReset_ncc]), ?_⟩
  have hi : (s.held 0x25).nccEmpty.Inv := State.Inv.nccReady (h.held 0x25).update
  have hregs := hi.blockRegs_regsOf (c := 0x25) rfl
  have hncc : (s.held 0x25).nccEmpty.ncc = false := (h.held 0x25).nccEmpty_ncc (congrArg Option.isSome (s.held_busy 0x25))
  have hk' : ((s.held 0x25).nccEmpty.blockRegs 0x25).ncc = false := (hregs.ready_flag rfl).trans hncc
  obtain ⟨-, -, _, _, e⟩ := hregs
  refine ⟨?_, (State.blockEnd_ncc _ _).trans hk', ?_, ?_⟩
  · rw [e]
    rfl
  · rw [e]
    exact State.blockEnd_blocks rfl
  · rw [e]
    exact (s.held_keepsMem 0x25).nccEmpty.update

theorem blockResetGddr7Controller_forced {k : Nat} (hk : k < 8) : CompletesVia (fun u => u.nvStart.settle) (.blockResetGddr7Controller k true) s
    (fun u => bitAt (u.fld .GEN_READY_MEMCH) k = false ∧ u.dstate = false ∧ u.fld .HIF_MEMSTAT_KEYED k = s.fld .HIF_MEMSTAT_KEYED k ∧
      KeepsMem s u) := by
  have he := blockReset_forced hr hb hn (x := (0x30 + k, fun f => .blockResetGddr7Controller k f)) (by simp [blockRows, hk])
  refine ⟨_, he.trans (by rw [State.blockReset_mem s (by omega) (by omega), Nat.add_sub_cancel_left]), ?_⟩
  unfold State.resetMem
  obtain ⟨hm, hd, hkeep⟩ := (h.held (0x30 + k)).memUnready hk
  have hi : (((s.held (0x30 + k)).setBit .GEN_READY_MEMCH k false).setFld .GEN_READY_DSTATE 0).nccReady.Inv :=
    (h.held (0x30 + k)).setBit.setFld.nccReady
  have hmem : KeepsMem s (((s.held (0x30 + k)).setBit .GEN_READY_MEMCH k false).setFld .GEN_READY_DSTATE 0).nccReady :=
    (s.held_keepsMem (0x30 + k)).setBit.setFld.setFld
  have hkeyed : (((s.held (0x30 + k)).setBit .GEN_READY_MEMCH k false).setFld .GEN_READY_DSTATE 0).nccReady.fld .HIF_MEMSTAT_KEYED k =
      s.fld .HIF_MEMSTAT_KEYED k := by
    have h1 : RegName.HIF_MEMSTAT.addr k ∉ readyKeys := by interval_cases k <;> decide
    have h2 : RegName.HIF_MEMSTAT.addr k ∉ askedKeys := by interval_cases k <;> decide
    exact (fld_of_keepsRegs hkeep h1).trans (fld_of_keepsRegs (h.held_keepsRegs (0x30 + k)) h2)
  generalize (((s.held (0x30 + k)).setBit .GEN_READY_MEMCH k false).setFld .GEN_READY_DSTATE 0).nccReady = t at *
  have hregs := hi.blockRegs_regsOf (c := 0x30 + k) (by simp [blockCode]; omega)
  refine ⟨?_, (hregs.ready_flag rfl).trans hd, (hi.blockRegs_keyed hk).trans hkeyed, ?_⟩
  · rw [hregs.ready_fld rfl]
    exact hm
  · obtain ⟨-, -, _, _, e⟩ := hregs
    rw [e]
    exact hmem.trans (.of_eq rfl)

end

end

end Sys2Proof.Machine

/-! # Block resets with force: the steward and the mirror unit (R58, R524, R582) -/

namespace Sys2Proof.Machine

section
variable {s u : State}

/-! ## The steward -/

/-- The steward restarts: what it was doing is forgotten. -/
def State.stewardStops (u : State) : State :=
  { u with rst := { u.rst with
      steward := false, nvQ := [], fw := none, fwBytes := [], fwVer := none, fwWait := [], restartAt := none } }

/-- The firmware updates in progress fail. -/
def State.updatesFail (u : State) (l : List BCmd) : State := l.foldl (fun t b => t.endB (fun x => x == b) sFwError) u

theorem State.resetSteward_eq (u : State) :
    u.resetSteward = (u.stewardStops.updatesFail (u.rst.fw.toList ++ u.rst.fwWait.map Prod.fst)).blockRegs 0x26 := rfl

theorem State.updatesFail_rst (u : State) (l : List BCmd) : (u.updatesFail l).rst = u.rst :=
  ((Acts.refl (lv := true) (iss := true) u).foldl fun _ _ h => h.endB).rst

theorem State.Inv.updatesFail (h : u.Inv) (l : List BCmd) : (u.updatesFail l).Inv := h.foldl fun _ _ h => h.endB

theorem blockResetSteward_forced (h : s.Inv) (hr : s.reaches .RST_BLKCMD 0) (hb : s.rst.blocks = []) (hn : s.rst.nvRow = none) :
    CompletesVia (fun u => u.nvStart.settle) (.blockResetSteward true) s (fun u => u.rst.steward = false ∧ u.rst.fwBytes = [] ∧ u.rst.nvQ = [] ∧
      (s.rst.fw = none → s.rst.fwWait = [] → KeepsMem s u)) := by
  have he := blockReset_forced hr hb hn (x := (0x26, .blockResetSteward)) (by simp [blockRows])
  refine ⟨_, he.trans (by rw [State.blockReset_steward]), ?_⟩
  rw [State.resetSteward_eq]
  have hi : (s.held 0x26).stewardStops.Inv := (h.held 0x26).update
  have hrst := (s.held 0x26).stewardStops.updatesFail_rst ((s.held 0x26).rst.fw.toList ++ (s.held 0x26).rst.fwWait.map Prod.fst)
  have hmem : s.rst.fw = none → s.rst.fwWait = [] → KeepsMem s
      ((s.held 0x26).stewardStops.updatesFail ((s.held 0x26).rst.fw.toList ++ (s.held 0x26).rst.fwWait.map Prod.fst)) := by
    intro h1 h2
    rw [State.held_rst, h1, h2]
    exact (s.held_keepsMem 0x26).update
  have hi' := hi.updatesFail ((s.held 0x26).rst.fw.toList ++ (s.held 0x26).rst.fwWait.map Prod.fst)
  generalize (s.held 0x26).stewardStops.updatesFail _ = t at *
  obtain ⟨-, -, _, _, e⟩ := hi'.blockRegs_regsOf (c := 0x26) rfl
  rw [e]
  refine ⟨?_, ?_, ?_, fun h1 h2 => (hmem h1 h2).update⟩
  · exact congrArg RstSt.steward hrst
  · exact congrArg RstSt.fwBytes hrst
  · exact congrArg RstSt.nvQ hrst

/-! ## The mirror unit -/

theorem State.msix_mir (u : State) (f v : Nat) : (u.msix f v).mir = u.mir := by
  unfold State.msix
  split <;> rfl

theorem State.Inv.adminDrainAux_mir {f fuel : Nat} (h : u.Inv) : (Machine.adminDrainAux f fuel u).mir = u.mir := by
  induction fuel generalizing u with
  | zero => rfl
  | succ fuel ih =>
    unfold Machine.adminDrainAux
    extract_lets q k
    split
    · rfl
    split
    · rfl
    extract_lets s1 s2
    have h1 : s1.Inv := h.write
    have h2 : s2.Inv := h1.modAq.pmu_
    have e2 : s2.mir = u.mir := by
      obtain ⟨_, _, _, _, e⟩ := (h1.modAq.counts_pmu _).eq
      unfold s2
      rw [e]
      rfl
    split
    · exact (ih h2.msix).trans ((s2.msix_mir f 0).trans e2)
    · exact (ih h2).trans e2

theorem State.Inv.endB_mir (h : u.Inv) (p : BCmd → Bool) (status r0 r1 : Nat) : (u.endB p status r0 r1).mir = u.mir := by
  unfold State.endB
  split
  next b _ =>
    unfold State.adminCpl
    split
    · exact State.Inv.adminDrainAux_mir (h.dropB (p := p)).modAq
    · rfl
  · rfl

/-- No act waits for protection, no TWIN_CONFIG for the twin's, and the link is OFF. -/
def State.MirIdle (u : State) : Prop := u.mir.waits = [] ∧ u.mir.cmdAt = none ∧ u.mir.link = 0

theorem State.MirIdle.unpaired (hw : u.mir.waits = []) :
    u.unpaired.mir.twin = .unpaired ∧ u.unpaired.mir.link = u.mir.link ∧ u.unpaired.mir.shadow = {} ∧ u.unpaired.mir.waits = [] ∧
      u.unpaired.mir.cmdAt = none := by
  unfold State.unpaired State.stopMirror
  rw [hw]
  exact ⟨rfl, rfl, rfl, rfl, rfl⟩

theorem State.setMlanes_mir (u : State) (f : Fld) (l : List Nat) (v : Nat) : (u.setMlanes f l v).mir = u.mir := by
  unfold State.setMlanes
  induction l generalizing u with
  | nil => rfl
  | cons x l ih => exact ih (u.setFld f v x)

theorem State.Inv.mirLost_idle (h : u.Inv) (hm : u.MirIdle) : u.mirLost.MirIdle := by
  unfold State.mirLost
  extract_lets s1 s2
  have h2 : s2.Inv := State.Inv.setMlanes (State.Inv.setMlanes (State.Inv.setMlanes h.setFld))
  have e2 : s2.mir = u.mir := (State.setMlanes_mir ..).trans ((State.setMlanes_mir ..).trans ((State.setMlanes_mir ..).trans rfl))
  have hm2 : s2.MirIdle := by
    unfold State.MirIdle
    rw [e2]
    exact hm
  split
  · unfold State.pairFail State.MirIdle
    obtain ⟨hw, -, hl⟩ := hm2
    rw [State.Inv.endB_mir h2.unpaired]
    obtain ⟨-, h3, -, h4, h5⟩ := State.MirIdle.unpaired hw
    exact ⟨h4, h5, h3.trans hl⟩
  · exact hm2

theorem State.Inv.mirOff_idle (h : u.Inv) (hw : u.mir.waits = []) (hc : u.mir.cmdAt = none) : u.mirOff.MirIdle := by
  unfold State.mirOff
  split
  next hl => exact ⟨hw, hc, hl⟩
  · refine State.Inv.mirLost_idle (State.Inv.setMlanes h.mirTo) ?_
    unfold State.MirIdle
    rw [State.setMlanes_mir]
    exact ⟨hw, hc, rfl⟩

theorem blockResetMirrorUnit_forced (h : s.Inv) (hr : s.reaches .RST_BLKCMD 0) (hb : s.rst.blocks = []) (hn : s.rst.nvRow = none)
    (hw : s.mir.waits = []) (hc : s.mir.cmdAt = none) :
    CompletesVia (fun v => ((if s.flag .MIR_CTL_LINKEN then v.mirEnable else v).blockEnd 0x24).nvStart.settle) (.blockResetMirrorUnit true) s
      (fun v => v.mir.twin = .unpaired ∧ v.mir.link = 0 ∧ v.mir.shadow = {}) := by
  have he := blockReset_forced hr hb hn (x := (0x24, .blockResetMirrorUnit)) (by simp [blockRows])
  have hon : (s.held 0x24).flag .MIR_CTL_LINKEN = s.flag .MIR_CTL_LINKEN := flag_of_keepsRegs (h.held_keepsRegs 0x24) (by decide)
  have hmir : (s.held 0x24).mir = s.mir := by
    obtain ⟨_, e⟩ := s.held_eq 0x24
    rw [e]
  have hidle : (s.held 0x24).mirOff.MirIdle := (h.held 0x24).mirOff_idle (by rw [hmir, hw]) (by rw [hmir, hc])
  have hres : (s.held 0x24).resetMir =
      if s.flag .MIR_CTL_LINKEN then ((s.held 0x24).mirOff.unpaired.blockRegs 0x24).mirEnable
      else (s.held 0x24).mirOff.unpaired.blockRegs 0x24 := by
    unfold State.resetMir
    extract_lets on s1 s2 s3
    have e2 : s2 = s1.unpaired := if_neg (by rw [show s1.mir.cmdAt = none from hidle.2.1]; decide)
    rw [show s3 = s1.unpaired.blockRegs 0x24 from congrArg (State.blockRegs · 0x24) e2, show on = s.flag .MIR_CTL_LINKEN from hon]
  refine ⟨_, he.trans (by rw [State.blockReset_mir, hres]), ?_⟩
  obtain ⟨h1, -, h3⟩ := hidle
  obtain ⟨h4, h5, h6, -, -⟩ := State.MirIdle.unpaired h1
  obtain ⟨-, -, _, _, e⟩ := (State.Inv.unpaired (h.held 0x24).mirOff).blockRegs_regsOf (c := 0x24) rfl
  rw [e]
  exact ⟨h4, h5.trans h3, h6⟩

end

end Sys2Proof.Machine

/-! # Block resets with force: the lane blocks (R482, R500, R582) -/

namespace Sys2Proof.Machine

section
variable {s t u : State}

/-! ## A port whose lanes end -/

/-- A change of lanes: the ports stand, and so do the lane blocks' status registers. -/
def LanesOnly (u t : State) : Prop :=
  t.Inv ∧ (∀ p, t.port p = u.port p) ∧ ∀ b, b < 9 → mget t.regs (RegName.FLK_LBSTAT.addr b) = mget u.regs (RegName.FLK_LBSTAT.addr b)

theorem lbstat_addr_lt {b : Nat} (hb : b < 9) : RegName.FLK_LBSTAT.addr b < 0xA064 := by
  have h : RegName.FLK_LBSTAT.addr b = 0xA040 + 4 * (b / 1) + 0 * (b % 1) := rfl
  omega

namespace LanesOnly

theorem refl (h : u.Inv) : LanesOnly u u := ⟨h, fun _ => rfl, fun _ _ => rfl⟩

theorem ite {a b : State} {c : Prop} {inst : Decidable c} (ha : LanesOnly u a) (hb : LanesOnly u b) : LanesOnly u (if c then a else b) := by
  split
  · exact ha
  · exact hb

theorem foldl {β : Type} {l : List β} {f : State → β → State} (h : LanesOnly u t) (hf : ∀ t x, LanesOnly u t → LanesOnly u (f t x)) :
    LanesOnly u (l.foldl f t) := by
  induction l generalizing t with
  | nil => exact h
  | cons x l ih => exact ih (hf t x h)

/-- A register of the links, whatever the number of its instance. -/
theorem setFld (h : LanesOnly u t) {f : Fld} {v i : Nat} (hf : 0xA064 ≤ f.reg.fam.base) : LanesOnly u (t.setFld f v i) := by
  obtain ⟨hi, hp, hr⟩ := h
  refine ⟨hi.setFld, hp, fun b hb => (mget_wrRaw_ne hi.regs _ _ _ ?_).trans (hr b hb)⟩
  have h1 := f.reg.base_le_addr i
  have h2 := lbstat_addr_lt hb
  omega

theorem lanestat (h : LanesOnly u t) {f : Fld} {v i : Nat} (hf : f.reg = .FLK_LANESTAT) : LanesOnly u (t.setFld f v i) :=
  h.setFld (by rw [hf]; decide)

theorem clearLanes (h : LanesOnly u t) {l : List Nat} : LanesOnly u (t.clearLanes l) :=
  h.foldl fun _ _ h => (((h.lanestat rfl).lanestat rfl).lanestat rfl).lanestat rfl

theorem clearBad (h : LanesOnly u t) {l : List Nat} : LanesOnly u (t.clearBad l) := h.foldl fun _ _ h => h.lanestat rfl

theorem modLane (h : LanesOnly u t) {l : Nat} {f : LaneSt → LaneSt} : LanesOnly u (t.modLane l f) := h

theorem trainLane (h : LanesOnly u t) {phase l ident : Nat} : LanesOnly u (t.trainLane phase l ident) := h

end LanesOnly

theorem port_modPort_ne (s : State) {p q : Nat} (f : PortSt → PortSt) (hq : q ≠ p) : (s.modPort p f).port q = s.port q :=
  congrArg (Option.getD · ({} : PortSt)) (mget_mset_ne _ _ hq)

/-- A port is DOWN without lanes; nothing else is changed but lanes and counts of the links. -/
def PortDown (p : Nat) (u t : State) : Prop :=
  t.Inv ∧ (t.port p).st = 8 ∧ (t.port p).lanes = [] ∧ (∀ q, q ≠ p → t.port q = u.port q) ∧
    ∀ b, b < 9 → mget t.regs (RegName.FLK_LBSTAT.addr b) = mget u.regs (RegName.FLK_LBSTAT.addr b)

theorem State.Inv.portLanesEnd_spec (h : u.Inv) (p : Nat) :
    ∃ t, LanesOnly u t ∧ LanesOnly (t.modPort p fun ps => { ps with lanes := [], wasLanes := [], remedy := none, retrainMine := false })
      (u.portLanesEnd p) := by
  unfold State.portLanesEnd
  extract_lets l sp s1
  have h0 : LanesOnly u ((u.clearLanes l).clearBad sp) := (LanesOnly.refl h).clearLanes.clearBad
  refine ⟨_, h0, ?_⟩
  refine (LanesOnly.refl h0.1.modPort).foldl fun t x ht => ?_
  exact ht.modLane.trainLane.ite ht

theorem State.Inv.goDown_spec (h : u.Inv) {p : Nat} (h6 : (u.port p).st ≠ 6) (h7 : (u.port p).st ≠ 7) : PortDown p u (u.goDown p) := by
  unfold State.goDown
  extract_lets old s1
  rw [if_neg (not_or.mpr ⟨h6, h7⟩)]
  obtain ⟨t, ht, he⟩ := h.portLanesEnd_spec p
  have hl : LanesOnly ((u.portLanesEnd p).portTo p 8) s1 := (LanesOnly.refl he.1.portTo).setFld (by decide)
  obtain ⟨hi, hp, hr⟩ := hl
  obtain ⟨-, hpe, hre⟩ := he
  obtain ⟨-, hpt, hrt⟩ := ht
  have hport : s1.port p = { (t.port p) with lanes := [], wasLanes := [], remedy := none, retrainMine := false, st := 8, since := (u.portLanesEnd p).tick } := by
    rw [hp, State.portTo, port_modPort_same, hpe, port_modPort_same]
  refine ⟨hi, by rw [hport], by rw [hport], fun q hq => ?_, fun b hb => (hr b hb).trans ((hre b hb).trans (hrt b hb))⟩
  rw [hp, State.portTo, port_modPort_ne _ _ hq, hpe, port_modPort_ne _ _ hq, hpt]

/-- Ports that are not UP or in RETRAIN go DOWN one after the other. -/
theorem State.Inv.foldl_goDown {l : List Nat} (h : u.Inv) (hn : l.Nodup) (hl : ∀ p ∈ l, (u.port p).st ≠ 6 ∧ (u.port p).st ≠ 7) :
    let t := l.foldl (fun t p => t.goDown p) u
    t.Inv ∧ (∀ p ∈ l, (t.port p).st = 8 ∧ (t.port p).lanes = []) ∧ (∀ q, q ∉ l → t.port q = u.port q) ∧
      ∀ b, b < 9 → mget t.regs (RegName.FLK_LBSTAT.addr b) = mget u.regs (RegName.FLK_LBSTAT.addr b) := by
  induction l generalizing u with
  | nil => exact ⟨h, fun _ hp => absurd hp List.not_mem_nil, fun _ _ => rfl, fun _ _ => rfl⟩
  | cons p l ih =>
    obtain ⟨hp, hn'⟩ := List.nodup_cons.mp hn
    obtain ⟨h6, h7⟩ := hl p (.head _)
    obtain ⟨hi, hst, hla, hq, hr⟩ := h.goDown_spec h6 h7
    have hl' : ∀ q ∈ l, ((u.goDown p).port q).st ≠ 6 ∧ ((u.goDown p).port q).st ≠ 7 := fun q hm => by
      rw [hq q fun e => hp (e ▸ hm)]
      exact hl q (.tail _ hm)
    obtain ⟨hi', hd, hq', hr'⟩ := ih hi hn' hl'
    refine ⟨hi', fun q hm => ?_, fun q hm => ?_, fun b hb => (hr' b hb).trans (hr b hb)⟩
    · obtain rfl | hm := List.mem_cons.mp hm
      · exact ⟨(congrArg PortSt.st (hq' q hp)).trans hst, (congrArg PortSt.lanes (hq' q hp)).trans hla⟩
      · exact hd q hm
    · rw [List.mem_cons, not_or] at hm
      exact (hq' q hm.2).trans (hq q hm.1)

theorem nodup_numsFrom (a n : Nat) : (numsFrom a n).Nodup := by
  induction n generalizing a with
  | zero => exact List.nodup_nil
  | succ n ih =>
    refine List.nodup_cons.mpr ⟨fun h => ?_, ih (a + 1)⟩
    have := mem_numsFrom.mp h
    omega

/-! ## The lane block -/

/-- The ports of a lane block that has been reset, before they train again. -/
def State.lanesDown (u : State) (b : Nat) : State :=
  let s1 := ((u.trainedPorts b).foldl (fun t p => t.goDown p) u).blockRegs (0x40 + b)
  s1.setBit .GEN_READY_LB b (s1.flag .FLK_LBSTAT_CAL b)

theorem State.resetLanes_eq (u : State) (b : Nat) :
    u.resetLanes b = ((u.trainedPorts b).foldl (fun t p => t.portDetect p) (u.lanesDown b)).settle.timeCheck := rfl

theorem State.Inv.lanesDown_spec (h : u.Inv) {b : Nat} (hb : b < 9)
    (hp : ∀ p, p ∈ numsFrom (8 * b) 8 → (u.port p).st ≠ 6 ∧ (u.port p).st ≠ 7) :
    (u.lanesDown b).lbReady b = u.flag .FLK_LBSTAT_CAL b ∧
      ∀ p, p ∈ u.trainedPorts b → ((u.lanesDown b).port p).st = 8 ∧ ((u.lanesDown b).port p).lanes = [] := by
  obtain ⟨hi, hd, -, hr⟩ := h.foldl_goDown (l := u.trainedPorts b) ((nodup_numsFrom _ _).filter _)
    fun p hm => hp p (List.mem_of_mem_filter hm)
  unfold State.lanesDown
  generalize (u.trainedPorts b).foldl (fun t p => t.goDown p) u = t at *
  have hregs := hi.blockRegs_regsOf (c := 0x40 + b) (by simp [blockCode]; omega)
  extract_lets s1
  have hcal : s1.flag .FLK_LBSTAT_CAL b = u.flag .FLK_LBSTAT_CAL b := by
    unfold State.flag
    rw [hi.blockRegs_cal b]
    unfold State.fld State.rdRaw
    rw [show mget t.regs (Fld.FLK_LBSTAT_CAL.reg.addr b) = mget u.regs (Fld.FLK_LBSTAT_CAL.reg.addr b) from
      hr b hb]
  refine ⟨?_, fun p hm => ?_⟩
  · rw [← hcal]
    exact bitAt_setBit_same hregs.1 _ 0 (by decide) hb
  · obtain ⟨-, -, _, _, e⟩ := hregs
    have e' : (s1.setBit .GEN_READY_LB b (s1.flag .FLK_LBSTAT_CAL b)).port p = t.port p :=
      State.port_of_lnk_eq (congrArg State.lnk e) p
    rw [e']
    exact hd p hm

theorem State.trainedPorts_of_lnk_eq (h : t.lnk = u.lnk) (b : Nat) : t.trainedPorts b = u.trainedPorts b := by
  unfold State.trainedPorts State.port
  rw [h]

theorem blockResetLaneBlock_forced (h : s.Inv) (hr : s.reaches .RST_BLKCMD 0) (hb : s.rst.blocks = []) (hn : s.rst.nvRow = none) {b : Nat}
    (hlt : b < 9) (hp : ∀ p, p ∈ numsFrom (8 * b) 8 → (s.port p).st ≠ 6 ∧ (s.port p).st ≠ 7) :
    CompletesVia (fun v => ((((s.trainedPorts b).foldl (fun t p => t.portDetect p) v).settle.timeCheck.blockEnd (0x40 + b)).nvStart).settle)
      (.blockResetLaneBlock b true) s (fun v => v.lbReady b = s.flag .FLK_LBSTAT_CAL b ∧
        ∀ p, p ∈ s.trainedPorts b → (v.port p).st = 8 ∧ (v.port p).lanes = []) := by
  have he := blockReset_forced hr hb hn (x := (0x40 + b, fun f => .blockResetLaneBlock b f)) (by simp [blockRows, hlt])
  have hlnk : (s.held (0x40 + b)).lnk = s.lnk := by
    obtain ⟨_, e⟩ := s.held_eq (0x40 + b)
    rw [e]
  have htr := State.trainedPorts_of_lnk_eq hlnk b
  have hcal : (s.held (0x40 + b)).flag .FLK_LBSTAT_CAL b = s.flag .FLK_LBSTAT_CAL b :=
    flag_of_keepsRegs (h.held_keepsRegs _) (by interval_cases b <;> decide)
  obtain ⟨hl, hd⟩ := (h.held (0x40 + b)).lanesDown_spec hlt fun p hm => by
    rw [State.port_of_lnk_eq hlnk]
    exact hp p hm
  rw [hcal] at hl
  rw [htr] at hd
  refine ⟨(s.held (0x40 + b)).lanesDown b, he.trans ?_, hl, hd⟩
  rw [State.blockReset_lanes s (by omega), Nat.add_sub_cancel_left, State.resetLanes_eq, htr]

end

end Sys2Proof.Machine

/-! # Block resets with force: the clusters (R158, R176, R580) -/

namespace Sys2Proof.Machine

section
variable {s t u : State}

/-! ## Listed keys -/

theorem mget_of_mem {α : Type} {m : AMap α} (h : mwf m) {k : Nat} {v : α} (hm : (k, v) ∈ m) : mget m k = some v := by
  induction m with
  | nil => cases hm
  | cons x m ih =>
    obtain ⟨k', v'⟩ := x
    unfold mget
    obtain e | hm := List.mem_cons.mp hm
    · cases e
      exact if_pos rfl
    · have hlt : k' < k := mwf_head_lt h _ hm
      rw [if_neg (Nat.ne_of_lt hlt), if_neg (Nat.not_lt.mpr (Nat.le_of_lt hlt))]
      exact ih (mwf_tail h) hm

theorem mem_of_mget {α : Type} {m : AMap α} {k : Nat} {v : α} (h : mget m k = some v) : (k, v) ∈ m := by
  induction m with
  | nil => cases h
  | cons x m ih =>
    obtain ⟨k', v'⟩ := x
    unfold mget at h
    split at h
    next e =>
      cases h
      rw [e]
      exact .head _
    split at h
    · cases h
    · exact .tail _ (ih h)

/-! ## What a fold establishes -/

/-- What each step of a fold establishes, and the work of the device keeps, holds in the end for every element. -/
theorem Acts.foldl_establishes {lv iss : Bool} {β : Type} {xs : List β} {f : State → β → State} {I : State → Prop} {P : β → State → Prop}
    (hf : ∀ t x, Acts lv iss t (f t x)) (hI : ∀ {t t'}, Acts lv iss t t' → I t → I t') (hP : ∀ t x, I t → P x (f t x))
    (hk : ∀ {t t'} x, Acts lv iss t t' → P x t → P x t') (hu : I u) : ∀ x ∈ xs, P x (xs.foldl f u) := by
  induction xs generalizing u with
  | nil => exact fun _ hx => absurd hx List.not_mem_nil
  | cons y xs ih =>
    intro x hx
    obtain rfl | hx := List.mem_cons.mp hx
    · exact hk x ((Acts.refl (f u x)).foldl fun t y h => h.trans (hf t y)) (hP u x hu)
    · exact ih (hI (hf u y) hu) x hx

/-! ## The end of a turn -/

theorem Acts.turn_none (h : Acts true false s t) {q : Nat} (hq : (s.wq q).turn = none) : (t.wq q).turn = none := by
  cases ht : (t.wq q).turn with
  | none => rfl
  | some x =>
    obtain ⟨y, hy, -⟩ := (h.wq rfl q).turn x ht
    rw [hq] at hy
    cases hy

theorem State.endTurn_turn (s : State) (q : Nat) : ((s.endTurn q).wq q).turn = none := by
  unfold State.endTurn
  split
  · unfold State.wqError
    extract_lets s1 s2
    have h1 : (s1.wq q).turn = none := congrArg WQ.turn (wq_modWq_same _ q _)
    have h2 : Acts true false s1 s2 := (Acts.refl s1).dropFetched.qerr.bump
    exact (h2.flushAll.headWb.recWqHead.recWq.wqEvent.runWaitCmds).turn_none h1
  · extract_lets s1 s2 s3
    have h1 : (s1.wq q).turn = none := congrArg WQ.turn (wq_modWq_same _ q _)
    have h2 : Acts true false s1 s2 := (Acts.refl s1).headWb.recWqHead.runWaitCmds
    have h3 : Acts true false s1 s3 := h2.suspendNow.ite h2
    exact h3.joinRun.turn_none h1

theorem Acts.endTarget {lv iss : Bool} {org s : State} (h : Acts lv iss org s) {t} : Acts lv iss org (s.endTarget t) := by
  unfold State.endTarget
  extract_lets mine gone _ s1 back s2
  have h1 : Acts lv iss org s1 := h.walks_of_mem (fun x hx => ⟨x, List.mem_of_mem_filter hx, rfl⟩) fun hw => mwf_filter hw _
  have hback : ∀ u r, Acts lv iss org u → Acts lv iss org (back u r) := fun _ _ h => h.update
  have h2 : Acts lv iss org s2 := by
    refine h1.foldl fun t x ht => ?_
    split
    · exact hback _ _ ht
    · exact hback _ _ ht
    · exact ht
  exact h2.unmarkBusy.enqueue

/-- No engine holds the turn of a target context whose turn has ended. -/
theorem State.endTarget_busy (hw : mwf s.tgt.busy) (k e : Nat) : (k, e) ∉ (s.endTarget k).tgt.busy := by
  unfold State.endTarget
  extract_lets mine gone _ s1 back s2
  have e2 : s2.tgt.busy = s.tgt.busy := by
    refine List.foldlRecOn gone _ (motive := fun (t : State) => t.tgt.busy = s.tgt.busy) rfl fun t ht x _ => ?_
    split
    · exact ht
    · exact ht
    · exact ht
  intro hm
  have hb : ((s2.unmarkBusy k).enqueue (.tctx k)).tgt.busy = mdel s.tgt.busy k := by
    obtain ⟨_, e⟩ := (s2.unmarkBusy k).enqueue_eq (.tctx k)
    rw [e, ← e2]
    rfl
  rw [hb] at hm
  have h1 := mget_of_mem (mwf_mdel hw k) hm
  rw [mget_mdel_same hw] at h1
  cases h1

/-! ## The queues and target contexts of a cluster -/

/-- The copies and the place of the unissued entries of a queue are dropped, and its turn ends where an engine of cluster `c` holds it. -/
def State.clusterDrops (c : Nat) (u : State) (kv : Nat × WQ) : State :=
  let t := u.modWq kv.1 (fun w => { w with fetched := [], fetching := [], failed := [], fidx := w.head })
  match kv.2.turn with
  | some x => if x.engine / 16 = c then t.endTurn kv.1 else t
  | none => t

theorem Acts.clusterDrops {iss' : Bool} {org s : State} (h : Acts true iss' org s) {c : Nat} {kv : Nat × WQ} :
    Acts true iss' org (s.clusterDrops c kv) := by
  unfold State.clusterDrops
  extract_lets t
  have h1 : Acts true iss' org t := h.modWq fun _ => .of_dropped
  split
  · exact h1.endTurn.ite h1
  · exact h1

theorem State.clusterDrops_turn (c : Nat) (u : State) (kv : Nat × WQ) {x : Turn} (hx : kv.2.turn = some x) (hc : x.engine / 16 = c) :
    ((u.clusterDrops c kv).wq kv.1).turn = none := by
  unfold State.clusterDrops
  rw [hx]
  dsimp only
  rw [if_pos hc]
  exact State.endTurn_turn _ _

theorem State.clusterDrops_fetched (c : Nat) (u : State) (kv : Nat × WQ) (hx : kv.2.turn = none) :
    ((u.clusterDrops c kv).wq kv.1).fetched = [] := by
  unfold State.clusterDrops
  rw [hx]
  exact congrArg WQ.fetched (wq_modWq_same u kv.1 _)

/-- The queues of which cluster `c` holds the turn, and those homed on it of which no engine does. -/
def heldBy (c : Nat) (kv : Nat × WQ) : Bool := match kv.2.turn with | some t => t.engine / 16 == c | none => kv.1 % 288 / 16 == c

/-- The work of a cluster in reset ends. -/
def State.clusterStops (u : State) (c : Nat) : State :=
  let s1 := (u.qmg.wq.filter (heldBy c)).foldl (State.clusterDrops c) u
  (s1.tgt.busy.filter (fun kv => kv.2 / 16 == c)).foldl (fun t kv => t.endTarget kv.1) s1

theorem State.resetCluster_eq (u : State) (c : Nat) :
    u.resetCluster c = ((u.clusterStops c).setBit .GEN_READYCL_CLUSTER c false).blockRegs c := rfl

theorem Acts.clusterStops (u : State) (c : Nat) : Acts true false u (u.clusterStops c) :=
  ((Acts.refl u).foldl fun _ _ h => h.clusterDrops).foldl fun _ _ h => h.endTarget

/-- What each of the cluster's queues has become. -/
theorem State.clusterStops_wq (u : State) (c : Nat) {q : Nat} {w : WQ} (hw : mget u.qmg.wq q = some w) (hq : heldBy c (q, w) = true) :
    (w.turn.isSome = true → ((u.clusterStops c).wq q).turn = none) ∧ (w.turn = none → ((u.clusterStops c).wq q).fetched = []) := by
  have h := Acts.foldl_establishes (xs := u.qmg.wq.filter (heldBy c)) (f := State.clusterDrops c) (u := u) (I := fun _ => True)
    (P := fun kv t => heldBy c kv = true → (kv.2.turn.isSome = true → (t.wq kv.1).turn = none) ∧ (kv.2.turn = none → (t.wq kv.1).fetched = []))
    (fun t x => (Acts.refl t).clusterDrops) (fun _ _ => trivial)
    (fun t x _ hx => ⟨fun ht => by
        obtain ⟨y, hy⟩ := Option.isSome_iff_exists.mp ht
        unfold heldBy at hx
        rw [hy] at hx
        exact t.clusterDrops_turn c x hy (eq_of_beq hx), fun ht => t.clusterDrops_fetched c x ht⟩)
    (fun x h hp hx => ⟨fun ht => h.turn_none ((hp hx).1 ht), fun ht => (h.wq rfl x.1).fetched ((hp hx).2 ht)⟩) trivial
    (q, w) (List.mem_filter.mpr ⟨mem_of_mget hw, hq⟩) hq
  have hrest : Acts true false ((u.qmg.wq.filter (heldBy c)).foldl (State.clusterDrops c) u) (u.clusterStops c) :=
    (Acts.refl _).foldl fun _ _ h => h.endTarget
  exact ⟨fun ht => hrest.turn_none (h.1 ht), fun ht => (hrest.wq rfl q).fetched (h.2 ht)⟩

theorem State.mget_of_turn {q : Nat} {t : Turn} (h : (u.wq q).turn = some t) : ∃ w, mget u.qmg.wq q = some w ∧ w = u.wq q := by
  unfold State.wq mgetD at *
  cases hm : mget u.qmg.wq q with
  | none =>
    rw [hm] at h
    cases h
  | some w => exact ⟨w, rfl, rfl⟩

theorem State.clusterStops_turn (u : State) (c q : Nat) {t : Turn} (h : ((u.clusterStops c).wq q).turn = some t) : t.engine / 16 ≠ c := by
  intro hc
  obtain ⟨t0, h0, he⟩ := ((Acts.clusterStops u c).wq rfl q).turn t h
  obtain ⟨w, hw, rfl⟩ := u.mget_of_turn h0
  have hq : heldBy c (q, u.wq q) = true := by
    unfold heldBy
    rw [h0]
    exact beq_iff_eq.mpr (he ▸ hc)
  have hn := (u.clusterStops_wq c hw hq).1 (by rw [h0]; rfl)
  rw [h] at hn
  cases hn

theorem State.clusterStops_fetched (u : State) (c : Nat) {q : Nat} (hq : q % 288 / 16 = c) (ht : (u.wq q).turn = none) :
    ((u.clusterStops c).wq q).fetched = [] := by
  cases hm : mget u.qmg.wq q with
  | none =>
    refine ((Acts.clusterStops u c).wq rfl q).fetched ?_
    unfold State.wq mgetD
    rw [hm]
    rfl
  | some w =>
    have hw : u.wq q = w := by
      unfold State.wq mgetD
      rw [hm]
      rfl
    rw [hw] at ht
    refine (u.clusterStops_wq c hm ?_).2 ht
    unfold heldBy
    rw [ht]
    exact beq_iff_eq.mpr hq

theorem State.clusterStops_busy (u : State) (c : Nat) (hw : mwf u.tgt.busy) {k e : Nat} (h : mget (u.clusterStops c).tgt.busy k = some e) :
    e / 16 ≠ c := by
  intro hc
  have h1 : Acts true false u ((u.qmg.wq.filter (heldBy c)).foldl (State.clusterDrops c) u) := (Acts.refl u).foldl fun _ _ h => h.clusterDrops
  unfold State.clusterStops at h
  extract_lets s1 at h
  have hsub : Acts true false s1 ((s1.tgt.busy.filter (fun kv => kv.2 / 16 == c)).foldl (fun t kv => t.endTarget kv.1) s1) :=
    (Acts.refl s1).foldl fun _ _ h => h.endTarget
  have hm := hsub.busy rfl _ (mem_of_mget h)
  refine Acts.foldl_establishes (lv := true) (iss := false) (xs := s1.tgt.busy.filter (fun kv => kv.2 / 16 == c)) (f := fun t kv => t.endTarget kv.1) (u := s1)
    (I := fun t => mwf t.tgt.busy) (P := fun kv t => ∀ e, (kv.1, e) ∉ t.tgt.busy) (fun t x => (Acts.refl t).endTarget)
    (fun h => h.busyWf) (fun t x hw e => t.endTarget_busy hw x.1 e) (fun x h hp e he => hp e (h.busy rfl _ he)) (h1.busyWf hw)
    (k, e) (List.mem_filter.mpr ⟨hm, beq_iff_eq.mpr hc⟩) e (mem_of_mget h)

theorem blockResetCluster_forced (h : s.Inv) (hr : s.reaches .RST_BLKCMD 0) (hb : s.rst.blocks = []) (hn : s.rst.nvRow = none) {c : Nat}
    (hc : c < 18) (hbusy : mwf s.tgt.busy) :
    CompletesVia (fun u => u.nvStart.settle) (.blockResetCluster c true) s (fun u =>
      u.clusterReady c = false ∧ (∀ q t, (u.wq q).turn = some t → t.engine / 16 ≠ c) ∧ (∀ k e, mget u.tgt.busy k = some e → e / 16 ≠ c) ∧
      (∀ q, q % 288 / 16 = c → (s.wq q).turn = none → (u.wq q).fetched = []) ∧
      mget u.rst.blocks c = some { since := s.tick, idleWait := false, slots := [] }) := by
  have he := blockReset_forced hr hb hn (x := (c, fun f => .blockResetCluster c f)) (by simp [blockRows, hc])
  refine ⟨_, he.trans (by rw [State.blockReset_cluster s hc]), ?_⟩
  rw [State.resetCluster_eq]
  have hqt : (s.held c).qmg = s.qmg ∧ (s.held c).tgt = s.tgt := by
    obtain ⟨_, e⟩ := s.held_eq c
    rw [e]
    exact ⟨rfl, rfl⟩
  obtain ⟨hq, htg⟩ := hqt
  have h1 := fun q t => (s.held c).clusterStops_turn c q (t := t)
  have h2 := fun k e => (s.held c).clusterStops_busy c (by rw [htg]; exact hbusy) (k := k) (e := e)
  have h3 := fun q (hq' : q % 288 / 16 = c) (ht : (s.wq q).turn = none) => (s.held c).clusterStops_fetched c hq' (by
    unfold State.wq at ht ⊢
    rw [hq]
    exact ht)
  have h4 : mget ((s.held c).clusterStops c).rst.blocks c = some s.heldSince := by
    rw [(Acts.clusterStops (s.held c) c).rst]
    exact s.held_busy c
  have hi : ((s.held c).clusterStops c).Inv :=
    State.Inv.foldl (State.Inv.foldl (h.held c) fun t x ht => by
      unfold State.clusterDrops
      split
      · exact ht.modWq.endTurn.ite ht.modWq
      · exact ht.modWq) fun _ _ h => h.endTarget
  generalize (s.held c).clusterStops c = t at *
  have hbit : (t.setBit .GEN_READYCL_CLUSTER c false).clusterReady c = false := bitAt_setBit_same hi false 0 (by decide) hc
  have hregs := (State.Inv.setBit hi (f := .GEN_READYCL_CLUSTER) (i := c) (on := false) (j := 0)).blockRegs_regsOf (c := c) (by simp [blockCode, hc])
  have hready : ((t.setBit .GEN_READYCL_CLUSTER c false).blockRegs c).clusterReady c = false := by
    unfold State.clusterReady at *
    rw [hregs.readycl_fld rfl]
    exact hbit
  obtain ⟨-, -, _, _, e⟩ := hregs
  rw [e] at hready ⊢
  exact ⟨hready, h1, h2, h3, h4⟩

end

end Sys2Proof.Machine

/-! # Block resets with force: the translation unit (R580) -/

namespace Sys2Proof.Machine

section
variable {lv iss : Bool} {org s t u : State}

theorem Acts.xltClear (h : Acts lv iss org s) : Acts lv iss org s.xltClear := by
  unfold State.xltClear
  extract_lets mark
  refine Acts.walks_of_mem (s := { s with xlt := { s.xlt with cache := [], wcache := [] } }) h.update (fun x hx => ?_) fun hw => ?_
  · obtain ⟨y, hy, rfl⟩ := List.mem_map.mp hx
    exact ⟨y, hy, rfl⟩
  · rw [show ∀ l : AMap Walk, mwf (l.map mark) ↔ mwf l from fun l => by unfold mwf; rw [List.map_map]; rfl]
    exact hw

/-- A walk that fails is gone, and its access ends. -/
theorem Acts.walkFails (h : Acts true true org s) {n kind level addr : Nat} {old : Walk} :
    Acts true true org (s.walkOut n (.fail kind level addr) old) :=
  Acts.walkFailed (Acts.xltFault (h.walks_of_mem (fun x hx => ⟨x, mem_mdel hx, rfl⟩) fun hw => mwf_mdel hw n))

/-! ## Walks that do not come back -/

/-- Each walk has a number of its own, below the next, and `n` numbers have been given at least. -/
def State.Numbered (n : Nat) (s : State) : Prop := mwf s.xlt.walks ∧ (∀ x ∈ s.xlt.walks, x.1 < s.xlt.next) ∧ n ≤ s.xlt.next

theorem Acts.numbered (h : Acts true true s t) {n : Nat} (hs : s.Numbered n) : t.Numbered n := by
  obtain ⟨h1, h2, h3⟩ := hs
  obtain ⟨h4, h5⟩ := h.walksWf h1 h2
  exact ⟨h4, h5, h3.trans h.next⟩

/-- No walk of number `k` is listed, and none will be. -/
def State.NoWalk (k : Nat) (s : State) : Prop := k < s.xlt.next ∧ ∀ w, (k, w) ∉ s.xlt.walks

theorem Acts.noWalk (h : Acts true true s t) {k : Nat} (hs : s.NoWalk k) : t.NoWalk k := by
  obtain ⟨h1, h2⟩ := hs
  refine ⟨Nat.lt_of_lt_of_le h1 h.next, fun w hw => ?_⟩
  obtain ⟨⟨k', w'⟩, hy, e⟩ | hn := h.walks _ hw
  · cases e
    exact h2 w' hy
  · exact absurd h1 (Nat.not_lt.mpr hn)

theorem State.NoWalk.mget {k : Nat} (hs : s.NoWalk k) : mget s.xlt.walks k = none := by
  cases h : Machine.mget s.xlt.walks k with
  | none => rfl
  | some w => exact absurd (mem_of_mget h) (hs.2 w)

/-- A walk that the reset ends. -/
def State.walkEnds (t : State) (kv : Nat × Walk) : State :=
  if (mget t.xlt.walks kv.1).isSome then t.walkOut kv.1 (.fail 1 0 0) kv.2 else t

theorem Acts.walkEnds (h : Acts true true org s) {kv : Nat × Walk} : Acts true true org (s.walkEnds kv) := h.walkFails.ite h

theorem State.walkEnds_noWalk (t : State) (kv : Nat × Walk) {n : Nat} (ht : t.Numbered n) (hk : kv.1 < n) : (t.walkEnds kv).NoWalk kv.1 := by
  obtain ⟨hw, -, hn⟩ := ht
  unfold State.walkEnds
  split
  · have h0 : State.NoWalk kv.1 { t with xlt := { t.xlt with walks := mdel t.xlt.walks kv.1 } } := by
      refine ⟨Nat.lt_of_lt_of_le hk hn, fun w hm => ?_⟩
      have h1 := mget_of_mem (mwf_mdel hw kv.1) hm
      rw [mget_mdel_same hw] at h1
      cases h1
    exact Acts.noWalk (Acts.walkFailed (Acts.xltFault (Acts.refl _))) h0
  next hs =>
    refine ⟨Nat.lt_of_lt_of_le hk hn, fun w hm => hs ?_⟩
    rw [mget_of_mem hw hm]
    rfl

/-- The translation unit with both caches empty and without the walks that it had taken. -/
def State.xltStops (u : State) : State :=
  ((u.xlt.walks.filter (fun kv => kv.2.phase != .held)).foldl State.walkEnds u.xltClear).xltClear

theorem State.resetXlt_eq (u : State) : u.resetXlt = ((u.xltStops.blockRegs 0x21).blockEnd 0x21).walksTaken := rfl

theorem State.xltStops_noWalk (u : State) (hw : mwf u.xlt.walks) (hn : ∀ k w, mget u.xlt.walks k = some w → k < u.xlt.next) {k : Nat} {w : Walk}
    (hk : mget u.xlt.walks k = some w) (hp : w.phase ≠ .held) : u.xltStops.NoWalk k := by
  have hn' : ∀ x ∈ u.xlt.walks, x.1 < u.xlt.next := fun x hx => hn x.1 x.2 (mget_of_mem hw hx)
  have hclear : Acts true true u u.xltClear := (Acts.refl u).xltClear
  have hstep : ∀ (t : State) (x : Nat × Walk), Acts true true t (t.walkEnds x) := fun t x => (Acts.refl t).walkEnds
  have h := Acts.foldl_establishes (xs := u.xlt.walks.filter (fun kv => kv.2.phase != .held)) (f := State.walkEnds) (u := u.xltClear)
    (I := State.Numbered u.xlt.next) (P := fun kv t => kv.1 < u.xlt.next → t.NoWalk kv.1) hstep (fun h ht => h.numbered ht)
    (fun t x ht hx => t.walkEnds_noWalk x ht hx) (fun x h hx hlt => h.noWalk (hx hlt))
    (hclear.numbered ⟨hw, hn', Nat.le_refl _⟩) (k, w) (List.mem_filter.mpr ⟨mem_of_mget hk, bne_iff_ne.mpr hp⟩) (hn k w hk)
  exact (Acts.refl _).xltClear.noWalk h

theorem blockResetTranslationUnit_forced (hr : s.reaches .RST_BLKCMD 0) (hb : s.rst.blocks = []) (hn : s.rst.nvRow = none)
    (hw : mwf s.xlt.walks) (hk : ∀ k w, mget s.xlt.walks k = some w → k < s.xlt.next) :
    CompletesVia (fun v => (((v.blockRegs 0x21).blockEnd 0x21).walksTaken).nvStart.settle) (.blockResetTranslationUnit true) s (fun v =>
      v.xlt.cache = [] ∧ v.xlt.wcache = [] ∧ (∀ k w, mget s.xlt.walks k = some w → w.phase ≠ .held → mget v.xlt.walks k = none)) := by
  have he := blockReset_forced hr hb hn (x := (0x21, .blockResetTranslationUnit)) (by simp [blockRows])
  have hx : (s.held 0x21).xlt = s.xlt := by
    obtain ⟨_, e⟩ := s.held_eq 0x21
    rw [e]
  refine ⟨(s.held 0x21).xltStops, he.trans (by rw [State.blockReset_xlt, State.resetXlt_eq]), rfl, rfl, fun k w hm hp => ?_⟩
  exact ((s.held 0x21).xltStops_noWalk (by rw [hx]; exact hw) (by rw [hx]; exact hk) (by rw [hx]; exact hm) hp).mget

end

end Sys2Proof.Machine

/-! # Block resets with force: the queue manager (R580, R587) -/

namespace Sys2Proof.Machine

section
variable {lv iss : Bool} {org s t u : State}

/-! ## The entries of a queue complete -/

/-- What completes leaves no record. -/
theorem State.finish_outst (s : State) (q : Nat) (d : Desc) (status d0 d1 : Nat) (peer : Option Nat) :
    ∀ d' ∈ ((s.finish q d status d0 d1 peer).wq q).outst, d'.cnt ≠ d.cnt := by
  unfold State.finish
  extract_lets s1 s2 s3 s4
  have h1 : ∀ d' ∈ (s1.wq q).outst, d'.cnt ≠ d.cnt := fun d' hd' => by
    rw [show (s1.wq q).outst = (s.wq q).outst.filter (fun x => x.cnt != d.cnt) from congrArg WQ.outst (wq_modWq_same s q _)] at hd'
    exact bne_iff_ne.mp (List.mem_filter.mp hd').2
  have h2 : Acts true false s1 s2 := (Acts.refl s1).pmuQ.ite (.refl s1)
  have h3 : Acts true false s1 s3 := h2.pmuTagDone
  have h4 : Acts true false s1 s4 := h3.postCpl.ite h3.pmuTagWrite
  intro d' hd'
  obtain ⟨d0, hd0, e⟩ := (h4.unparkQ.wq rfl q).outst d' hd'
  rw [e]
  exact h1 d0 hd0

/-- After every issued entry of a queue has completed, none is on record. -/
theorem State.foldl_finish_outst (s : State) (q : Nat) (g : State → Desc → State)
    (hg : ∀ t d, ∃ status d0 d1 peer, g t d = t.finish q d status d0 d1 peer) : (((s.wq q).outst.foldl g s).wq q).outst = [] := by
  have hact : ∀ t d, Acts true false t (g t d) := fun t d => by
    obtain ⟨_, _, _, _, e⟩ := hg t d
    rw [e]
    exact (Acts.refl t).finish
  have hdone := Acts.foldl_establishes (lv := true) (iss := false) (xs := (s.wq q).outst) (f := g) (u := s) (I := fun _ => True)
    (P := fun d t => ∀ d' ∈ (t.wq q).outst, d'.cnt ≠ d.cnt) hact (fun _ _ => trivial)
    (fun t d _ => by
      obtain ⟨_, _, _, _, e⟩ := hg t d
      rw [e]
      exact t.finish_outst q d _ _ _ _)
    (fun d h hd d' hd' => by
      obtain ⟨d0, hd0, e⟩ := (h.wq rfl q).outst d' hd'
      rw [e]
      exact hd d0 hd0) trivial
  have hall : Acts true false s ((s.wq q).outst.foldl g s) := (Acts.refl s).foldl fun t d h => h.trans (hact t d)
  refine List.eq_nil_iff_forall_not_mem.mpr fun d' hd' => ?_
  obtain ⟨d, hd, e⟩ := (hall.wq rfl q).outst d' hd'
  exact hdone d hd d' hd' e

theorem Acts.outst_nil (h : Acts true false s t) {q : Nat} (hs : (s.wq q).outst = []) : (t.wq q).outst = [] := by
  refine List.eq_nil_iff_forall_not_mem.mpr fun d' hd' => ?_
  obtain ⟨d, hd, -⟩ := (h.wq rfl q).outst d' hd'
  rw [hs] at hd
  cases hd

theorem Acts.qmFlush (h : Acts true iss org s) {q : Nat} : Acts true iss org (s.qmFlush q) := by
  unfold State.qmFlush
  extract_lets s1 s2
  have h1 : Acts true iss org s1 := h.recvAbandon.unpost.dropWaits.unpark
  have h2 : Acts true iss org s2 := h1.foldl fun _ _ h => h.finish
  exact h2.endTurn.ite h2

theorem State.qmFlush_outst (s : State) (q : Nat) : ((s.qmFlush q).wq q).outst = [] := by
  unfold State.qmFlush
  extract_lets s1 s2
  have h2 : (s2.wq q).outst = [] := s1.foldl_finish_outst q _ fun t d => ⟨_, _, _, _, rfl⟩
  split
  · exact (Acts.refl s2).endTurn.outst_nil h2
  · exact h2

/-! ## The tag table is cleared -/

/-- What the clearing of the tag table does for the owner of a tag. -/
def State.tagCleared (t : State) (kv : Nat × TagEnt) : State :=
  match kv.2.owner with
  | .desc _ _ => t
  | .cancel _ _ => t
  | .lockProbe _ _ => t
  | .grant _ => if kv.2.answered || kv.2.done || kv.2.loc then t else t.sendReq kv.2.owner kv.2.pkt true
  | .coll _ _ _ ct => if kv.2.answered || kv.2.done || kv.2.loc || ct == 2 then t else t.sendReq kv.2.owner kv.2.pkt
  | .merged k => t.modCtx k (fun c => { c with flight := [] })
  | _ => if kv.2.answered || kv.2.done then t else t.ownerUnknown kv.2

theorem Acts.tagCleared (h : Acts lv iss org s) {kv : Nat × TagEnt} : Acts lv iss org (s.tagCleared kv) := by
  unfold State.tagCleared
  cases ho : kv.2.owner with
  | desc | cancel | lockProbe => exact h
  | grant => exact h.ite h.sendReq
  | coll => exact h.ite h.sendReq
  | merged => exact h.modCtx
  | winRead | winWrite | renew | linv | pmark =>
    refine h.ite ?_
    unfold State.ownerUnknown
    rw [ho]
    exact h

/-- The tag table empty, with no request for 10,000 ticks. -/
def State.tagsEmpty (u : State) : State :=
  { u.dropOwnReqs with ini := { u.ini with
      tags := [], waiting := u.ini.waiting.filter (fun w => w.owner.queue.isNone), quietUntil := u.tick + 10000
      cc := u.ini.cc.map (fun (kv : Nat × CcCtx) => (kv.1, { kv.2 with infl := 0 })) } }

/-- The tags cleared and the queues' issued entries complete. -/
def State.qmStops (u : State) : State := u.qmg.wq.foldl (fun t kv => t.qmFlush kv.1) (u.ini.tags.foldl State.tagCleared u.tagsEmpty)

/-- The next epoch is due. -/
def State.epochDue (u : State) : State := { u with rst := { u.rst with epoch := .due } }

/-- The queue waits for a tag or for a place in a window of requests. -/
def Park.forTag : Park → Bool
  | .tag => true
  | .cwnd _ => true
  | _ => false

theorem State.resetQm_eq (u : State) :
    u.resetQm = (u.qmStops.blockRegs 0x20).epochDue.unpark Park.forTag := rfl

theorem State.epochDue_unpark (u : State) (p : Park → Bool) : (u.epochDue.unpark p).ini = u.ini ∧ (u.epochDue.unpark p).qmg.wq = u.qmg.wq ∧
    (u.epochDue.unpark p).rst = { u.rst with epoch := .due } := by
  obtain ⟨_, e⟩ := u.epochDue.unpark_eq p
  rw [e]
  exact ⟨rfl, rfl, rfl⟩

theorem Acts.qmStops (u : State) : Acts true false u.tagsEmpty u.qmStops :=
  ((Acts.refl u.tagsEmpty).foldl fun _ _ h => h.tagCleared).foldl fun _ _ h => h.qmFlush

theorem State.qmStops_outst (u : State) (q : Nat) : (u.qmStops.wq q).outst = [] := by
  cases hm : mget u.qmg.wq q with
  | none =>
    refine (Acts.qmStops u).outst_nil ?_
    show (mgetD u.qmg.wq q {}).outst = []
    unfold mgetD
    rw [hm]
    rfl
  | some w =>
    exact Acts.foldl_establishes (lv := true) (iss := false) (xs := u.qmg.wq) (f := fun t kv => t.qmFlush kv.1)
      (u := u.ini.tags.foldl State.tagCleared u.tagsEmpty) (I := fun _ => True) (P := fun kv t => (t.wq kv.1).outst = [])
      (fun t _ => (Acts.refl t).qmFlush) (fun _ _ => trivial) (fun t x _ => t.qmFlush_outst x.1) (fun _ h hx => h.outst_nil hx) trivial
      (q, w) (mem_of_mget hm)

theorem State.qmStops_tags (u : State) : u.qmStops.ini.tags = [] :=
  (Acts.qmStops u).tags rfl (Nat.lt_add_of_pos_right (n := u.tick) (by decide : 0 < 10000))

/-- The steward starts to write the row of the epoch that is due. -/
theorem State.nvStart_due (hn : u.rst.nvRow = none) (hs : u.rst.steward = true) (he : u.rst.epoch = .due) :
    u.nvStart.rst.nvRow =
      some ((u.rst.epochLast.1 + 1) % 16, epochRow (u.rst.epochLast.2.1 + 1) ((u.rst.epochLast.2.2 + 1) % 256)) := by
  unfold State.nvStart
  rw [hn, hs, if_neg (by decide), if_pos he]

theorem State.Inv.qmStops (h : u.Inv) : u.qmStops.Inv := by
  refine State.Inv.foldl (State.Inv.foldl h fun t kv ht => ?_) fun _ _ h => h.qmFlush
  unfold State.tagCleared
  split
  · exact ht
  · exact ht
  · exact ht
  · exact ht.ite ht.sendReq
  · exact ht.ite ht.sendReq
  · exact ht.modCtx
  · exact ht.ite ht.ownerUnknown

theorem blockResetQueueManager_forced (h : s.Inv) (hr : s.reaches .RST_BLKCMD 0) (hb : s.rst.blocks = []) (hn : s.rst.nvRow = none) :
    CompletesVia (fun v => ((v.blockEnd 0x20).nvStart).settle) (.blockResetQueueManager true) s (fun v =>
      v.ini.tags = [] ∧ v.ini.quietUntil = s.tick + 10000 ∧ (∀ q, (v.wq q).outst = []) ∧ v.rst.epoch = .due ∧
      (s.rst.steward = true → ((v.blockEnd 0x20).nvStart).rst.nvRow =
        some ((s.rst.epochLast.1 + 1) % 16, epochRow (s.rst.epochLast.2.1 + 1) ((s.rst.epochLast.2.2 + 1) % 256)))) := by
  have he := blockReset_forced hr hb hn (x := (0x20, .blockResetQueueManager)) (by simp [blockRows])
  refine ⟨_, he.trans (by rw [State.blockReset_qm]), ?_⟩
  rw [State.resetQm_eq]
  have htick : (s.held 0x20).tick = s.tick := by
    obtain ⟨_, e⟩ := s.held_eq 0x20
    rw [e]
    rfl
  have htags := (s.held 0x20).qmStops_tags
  have hout := (s.held 0x20).qmStops_outst
  have hq : (s.held 0x20).qmStops.ini.quietUntil = s.tick + 10000 := by
    rw [(Acts.qmStops (s.held 0x20)).quiet, ← htick]
    rfl
  have hrst : (s.held 0x20).qmStops.rst = { s.rst with blocks := [(0x20, s.heldSince)] } := (Acts.qmStops (s.held 0x20)).rst
  have hregs := (State.Inv.qmStops (h.held 0x20)).blockRegs_regsOf (c := 0x20) rfl
  generalize (s.held 0x20).qmStops = t at *
  obtain ⟨hini, hwq, hv⟩ := (t.blockRegs 0x20).epochDue_unpark Park.forTag
  obtain ⟨-, -, _, _, e⟩ := hregs
  have hrst' : (t.blockRegs 0x20).rst = t.rst := by rw [e]
  rw [hrst', hrst] at hv
  have hini' : _ = t.ini := hini.trans (by rw [e])
  have hwq' : _ = t.qmg.wq := hwq.trans (by rw [e])
  generalize (t.blockRegs 0x20).epochDue.unpark _ = v at *
  refine ⟨by rw [hini', htags], by rw [hini', hq], fun q => ?_, congrArg RstSt.epoch hv, fun hs => ?_⟩
  · rw [← hout q]
    unfold State.wq
    rw [hwq']
  · have hvr : (v.blockEnd 0x20).rst = { s.rst with blocks := mdel [(0x20, s.heldSince)] 0x20, epoch := .due } := by
      unfold State.blockEnd
      dsimp only
      rw [hv]
    have hrow := State.nvStart_due (u := v.blockEnd 0x20) (by rw [hvr]; exact hn) (by rw [hvr]; exact hs) (by rw [hvr])
    rw [hvr] at hrow
    exact hrow

end

end Sys2Proof.Machine

/-! # The rows of block resets -/

namespace Sys2Proof.Machine

/-- Settles O20: a block that is asked keeps its record, and each forced reset is the reset of its block from the state in which the block
is held; what the work that the resets end leaves alone is `Acts`. -/
theorem blockResetRowsComplete : Obligations.BlockResetRowsComplete := by
  unfold Obligations.BlockResetRowsComplete
  intro s h hr hb
  have hexec : ∀ x ∈ blockRows, ∀ force, exec (x.2 force) s = .next (s.blkBegin x.1 force []).settle := fun x hx force => by
    obtain ⟨hc, he⟩ := blockRows_exec hx
    rw [he, State.blkRow_eq hr hb hc]
  refine ⟨fun c force hc => hexec (c, fun f => .blockResetCluster c f) (by simp [blockRows, hc]) force,
    hexec (0x20, .blockResetQueueManager) (by simp [blockRows]), hexec (0x21, .blockResetTranslationUnit) (by simp [blockRows]),
    hexec (0x22, .blockResetLockUnit) (by simp [blockRows]), hexec (0x23, .blockResetCollectiveUnit) (by simp [blockRows]),
    hexec (0x24, .blockResetMirrorUnit) (by simp [blockRows]), hexec (0x25, .blockResetNearCache) (by simp [blockRows]),
    hexec (0x26, .blockResetSteward) (by simp [blockRows]),
    fun k force hk => hexec (0x30 + k, fun f => .blockResetGddr7Controller k f) (by simp [blockRows, hk]) force,
    fun b force hlt => hexec (0x40 + b, fun f => .blockResetLaneBlock b f) (by simp [blockRows, hlt]) force,
    fun x hx force hf => blockReset_waits h hr hb hx hf, fun hn => ?_⟩
  exact ⟨fun c hc _ hbusy => blockResetCluster_forced h hr hb hn hc hbusy,
    fun hw hk => blockResetTranslationUnit_forced hr hb hn hw hk,
    blockResetLockUnit_forced h hr hb hn, blockResetCollectiveUnit_forced h hr hb hn, blockResetNearCache_forced h hr hb hn,
    fun hw hc => blockResetMirrorUnit_forced h hr hb hn hw hc, blockResetSteward_forced h hr hb hn,
    fun k hk => blockResetGddr7Controller_forced h hr hb hn hk,
    fun b hlt hp => blockResetLaneBlock_forced h hr hb hn hlt hp,
    fun _ => blockResetQueueManager_forced h hr hb hn⟩

end Sys2Proof.Machine

/-! # A turn of an engine whose run list stands in a table that is not in its canonical form

`State.Inv` asks the canonical form of the register table and of host memory, not of the run lists. In a table that lists one engine
twice, a run list that becomes empty leaves the engine's other list visible, so after a TARGET_TURN that takes the only entry the run list
of the engine is not the rest of the list. An entry that is not homed on the engine can have come from nowhere else, because whatever
follows a turn lets an entry join the run list of its home engine only (`Acts.run`). -/

namespace Sys2Proof.Machine

section
variable {u v : State}

/-! ## A request that is discarded -/

/-- An atomic request of which SUB names no operation. -/
def strayAtomic : Req := { pkt := { dest := 0, ptype := 0x03, sub := 0xFF }, rx := 0, port := 0 }

/-- The atomic request waits alone on target context 0. -/
def State.Stray (u : State) : Prop := u.tgt = { tctx := [(0, [strayAtomic])] }

theorem serveTctx_of_nil (e t : Nat) (rd : ReadStatus) (n : Nat) (h : mgetD u.tgt.tctx t [] = []) : serveTctx e t rd n u = u := by
  cases n with
  | zero => rfl
  | succ n =>
    unfold serveTctx
    split
    · rfl
    · rw [h]

/-- The request is taken and discarded. -/
def State.strayTaken (u : State) : State := { u with tgt := {} }

/-- A packet whose SUB names no operation changes nothing (R197). -/
theorem targetExec_stray (u : State) (rd : ReadStatus) (e : Nat) : u.targetExec { strayAtomic with rd := rd, eng := e } = u := rfl

theorem State.Stray.takeReq (h : u.Stray) (rd : ReadStatus) (e : Nat) :
    u.takeReq 0 { strayAtomic with rd := rd, eng := e } [] = u.strayTaken := by
  unfold State.takeReq
  extract_lets _ s1 s2
  have e1 : s1 = u.strayTaken := by
    have hg : ∀ g : TgtSt, g = { tctx := [(0, [strayAtomic])] } → { g with tctx := mdel g.tctx 0 } = ({} : TgtSt) := by
      rintro _ rfl
      rfl
    exact congrArg (fun g => ({ u with tgt := g } : State)) (hg u.tgt h)
  rw [e1]
  exact (if_neg (show ¬ ([] : List Nat).contains 0 = true by decide)).trans (targetExec_stray _ rd e)

/-- Nothing is marked as held while nothing waits for a walk. -/
theorem State.strayTaken_turnHeld (u : State) (n : Nat) : u.strayTaken.turnHeld 0 n = u.strayTaken := rfl

theorem Acts.strayTaken {lv iss : Bool} (u : State) : Acts lv iss u u.strayTaken :=
  { Acts.refl u with busy := fun _ _ hx => absurd hx List.not_mem_nil, busyWf := fun _ => List.Pairwise.nil }

theorem State.Stray.serveTctx (h : u.Stray) (e : Nat) (rd : ReadStatus) (n : Nat) : Acts false true u (Machine.serveTctx e 0 rd n u) := by
  cases n with
  | zero => exact .refl u
  | succ n =>
    unfold Machine.serveTctx
    split
    · exact .refl u
    have hl : mgetD u.tgt.tctx 0 [] = [strayAtomic] := by rw [h]; rfl
    rw [hl]
    dsimp only
    split
    · exact .refl u
    · rw [h.takeReq, State.strayTaken_turnHeld, serveTctx_of_nil _ _ _ _ rfl]
      exact .strayTaken u

theorem targetHead_tctx {e c : Nat} {t : List RunEnt} (hl : u.runList e = .tctx c :: t) (hi : u.engineIdle e = true) (rd : ReadStatus) :
    u.targetHead e rd = ((u.setRun e t).turnTctx e c rd).settle := by
  unfold State.targetHead
  rw [hl]
  exact if_pos hi

/-! ## The counterexample -/

/-- An engine of a ready cluster, whose two run lists hold target context 0 and a work queue of another engine. -/
def twoLists : State :=
  { State.reset with
    regs := [(0xC, 1)]
    qmg := { run := [(0, [.tctx 0]), (0, [.wq 1])] }
    tgt := { tctx := [(0, [strayAtomic])] } }

theorem twoLists_inv : twoLists.Inv := ⟨by decide, rfl⟩

theorem twoLists_idle : twoLists.engineIdle 0 = true := by decide

/-- The work queue stays on the engine's run list after the turn. -/
theorem twoLists_after {x : State} (h : exec (.targetTurn 0 .ok) twoLists = .next x) : .wq 1 ∈ x.runList 0 := by
  have hx : exec (.targetTurn 0 .ok) twoLists = .next ((twoLists.setRun 0 []).turnTctx 0 0 .ok).settle :=
    congrArg Host.Outcome.next (targetHead_tctx rfl twoLists_idle .ok)
  obtain rfl : _ = x := Host.Outcome.next.inj (hx.symm.trans h)
  have h0 : Acts false true (twoLists.setRun 0 []) ((twoLists.setRun 0 []).pmu_ { code := 0x05, engine := some 0 }) := (Acts.refl _).pmu_
  have hs : ((twoLists.setRun 0 []).pmu_ { code := 0x05, engine := some 0 }).Stray := rfl
  have h1 : Acts false true (twoLists.setRun 0 []) (((twoLists.setRun 0 []).pmu_ { code := 0x05, engine := some 0 }).continueTctx 0 0 .ok 16) := by
    unfold State.continueTctx
    extract_lets s1
    have h2 : Acts false true (twoLists.setRun 0 []) s1 := h0.trans (hs.serveTctx 0 .ok 16)
    exact h2.ite h2.enqueue
  exact (h1.settle.run rfl 0 (.wq 1) (by decide)).mpr (by decide)

/-- Refutes O38 in its clause on TARGET_TURN: where the table of run lists names an engine twice, the turn leaves the second list. -/
theorem not_engineRowsComplete : ¬ Obligations.EngineRowsComplete := by
  unfold Obligations.EngineRowsComplete
  intro hall
  obtain ⟨-, -, hturn, -⟩ := hall twoLists twoLists_inv
  obtain ⟨v, he, htgt, hrun, -, -⟩ := hturn 0 0 [] strayAtomic [] .ok rfl twoLists_idle rfl rfl rfl nofun (fun _ => by decide)
  have hafter := twoLists_after he
  have hs : v.Stray := htgt
  have hu : serveTctx 0 0 .ok 15 ((v.takeReq 0 { strayAtomic with rd := .ok, eng := 0 } []).turnHeld 0 15) = v.strayTaken := by
    rw [hs.takeReq, State.strayTaken_turnHeld, serveTctx_of_nil _ _ _ _ rfl]
  have h1 : Acts false true v (serveTctx 0 0 .ok 15 ((v.takeReq 0 { strayAtomic with rd := .ok, eng := 0 } []).turnHeld 0 15)) := by
    rw [hu]
    exact .strayTaken v
  have hv := ((h1.ite h1.enqueue).settle.run rfl 0 (.wq 1) (by decide)).mp hafter
  rw [hrun] at hv
  cases hv

end

end Sys2Proof.Machine

/-! # A window read that asks for no data, at a home whose read of host memory fails

The model reads host memory for every window read, also for one with NODATA, so a bad read ends it with REMOTE_FAULT before it takes a
lease. The obligation has it take its lease whatever the read came to. Taking a lease leaves a mark that the work of the device does not wipe
out: while TIME is 0 none is granted and NCC_NOLEASE counts (R316), and GEN_READY does not change (`Acts.ready`, `Acts.noLease`). -/

namespace Sys2Proof.Machine

section
variable {s t : State}

/-! ## What a lease that is not granted leaves -/

theorem State.grant_of_unlocked (h : s.timeLocked = false) (al : Bool) (rkey blk who : Nat) (st : RgnState) :
    s.grant al rkey blk who st = (0, s.bump .NCC_NOLEASE_COUNT) := by
  unfold State.grant
  rw [h]
  exact if_pos (by simp)

theorem State.bump_noLease_isSome (s : State) : (mget (s.bump .NCC_NOLEASE_COUNT).regs (RegName.NCC_NOLEASE.addr 0)).isSome := by
  unfold State.bump State.setFld State.wrRaw
  dsimp only
  split
  next e => exact absurd e (s.bump_ne_zero rfl (by decide) (by decide))
  · exact Option.isSome_iff_exists.mpr ⟨_, mget_mset_same _ _ _⟩

/-- While TIME is 1 GEN_READY is listed, with its bit. -/
theorem State.ready_of_timeLocked (h : s.timeLocked = true) :
    ∃ x : BitVec 32, mget s.regs (RegName.GEN_READY.addr 0) = some x ∧ bits x.toNat 20 1 = 1 := by
  unfold State.timeLocked State.flag State.fld State.rdRaw at h
  split at h
  next x hx => exact ⟨x, hx, beq_iff_eq.mp h⟩
  · cases h

/-- After a grant asked for while TIME is 0 at the end, NCC_NOLEASE has counted. -/
theorem noLease_of_grant {al : Bool} {rkey blk who : Nat} {st : RgnState} {x : BitVec 32}
    (ht : Acts true true (s.grant al rkey blk who st).2 t) (hx : mget t.regs (RegName.GEN_READY.addr 0) = some x) (hb : bits x.toNat 20 1 = 0) :
    (mget t.regs (RegName.NCC_NOLEASE.addr 0)).isSome := by
  cases hl : s.timeLocked with
  | true =>
    obtain ⟨y, hy, hby⟩ := State.ready_of_timeLocked hl
    have e := ((Acts.refl s).grant.trans ht).ready y hy
    rw [Option.some.inj (hx.symm.trans e)] at hb
    exact absurd (hb.symm.trans hby) (by decide)
  | false =>
    rw [State.grant_of_unlocked hl] at ht
    exact ht.noLease s.bump_noLease_isSome

/-! ## The counterexample -/

/-- A home without time, of one ready cluster, with a region of every right whose page is known. -/
def leaseHome : State :=
  { State.reset with
    regs := [(0x8, 0x200), (0xC, 1), (0x10, 5), (0x4000, 1)]
    tgt := { regions := [(12, { base := 0, pages := 15, st := .valid, rights := 31, check := 0xABCD0000 })] }
    xlt := { next := 1, cache := [(0, { func := 0, asid := 0, page := 0, ps := 21, addr := 0, w := true, pkey := 0, dseen := true,
                                        at_ := 0, val := 0 })] } }

/-- The device's own request for a lease of the region's first block and for no data, of which the read ends with a completer abort. -/
def leaseRead : Req :=
  { pkt := { dest := 5, src := 6, ptype := 0x05, ext := extWin 0xABCD00000100000C 0 true true 0 }, loc := true, rx := 0, port := 72, rd := .ca }

theorem leaseHome_inv : leaseHome.Inv := ⟨by decide, rfl⟩

theorem leaseHome_takes : leaseHome.takes leaseRead 12 leaseHome := by
  unfold State.takes State.receives
  decide +kernel

theorem leaseHome_grantsKey : leaseHome.grantsKey { leaseRead with eng := 12 } := by
  unfold State.grantsKey
  decide +kernel

theorem leaseHome_known : (leaseHome.homeXlate { leaseRead with eng := 12 }).2.wait = false ∧
    (leaseHome.homeXlate { leaseRead with eng := 12 }).2.fail = none := by decide +kernel

/-- The device answers without a lease, and does not count that it gave none. -/
theorem leaseHome_after (h : exec (.wrdPacket leaseRead) leaseHome = .next t) :
    mget t.regs (RegName.GEN_READY.addr 0) = some 0x200 ∧ mget t.regs (RegName.NCC_NOLEASE.addr 0) = none := by
  have e : (match exec (.wrdPacket leaseRead) leaseHome with
      | .next u => (mget u.regs (RegName.GEN_READY.addr 0), mget u.regs (RegName.NCC_NOLEASE.addr 0))
      | _ => (none, none)) = (some 0x200, none) := by decide +kernel
  rw [h] at e
  exact ⟨congrArg Prod.fst e, congrArg Prod.snd e⟩

/-- Refutes O39 in its clause on a WRD_PACKET with NODATA: where its read of host memory is bad, the model answers REMOTE_FAULT and takes no
lease. -/
theorem not_regionRequestRowsComplete : ¬ Obligations.RegionRequestRowsComplete := by
  unfold Obligations.RegionRequestRowsComplete
  intro hall
  obtain ⟨-, -, -, hrows⟩ := hall leaseHome leaseHome leaseRead 12 leaseHome_inv
  obtain ⟨-, hgranted⟩ := hrows leaseHome_takes
  obtain ⟨-, -, -, hwrd, -⟩ := hgranted leaseHome_grantsKey
  obtain ⟨v, he, -⟩ := hwrd rfl leaseHome_known.1 leaseHome_known.2 (fun hd => absurd hd (by decide))
  obtain ⟨hready, hnone⟩ := leaseHome_after he
  exact Option.not_isSome_iff_eq_none.mpr hnone (noLease_of_grant (s := v) (Acts.refl _).answer.settle hready (by decide))

end

end Sys2Proof.Machine

/-! # The state after reset (R94, R577, R661) -/

namespace Sys2Proof.Machine

theorem State.reset_inv : State.reset.Inv := ⟨List.Pairwise.nil, rfl⟩

/-- A table of registers that lists none gives every register its reset value. -/
theorem rdRaw_of_regs_nil {s : State} (h : s.regs = []) (r : RegName) (i : Nat) : s.rdRaw r i = r.resetAt i := by
  unfold State.rdRaw
  rw [h]
  rfl

theorem flag_of_regs_nil {s : State} (h : s.regs = []) (f : Fld) : s.flag f = (bits (f.reg.resetAt 0) f.lo f.w == 1) := by
  unfold State.flag State.fld
  rw [rdRaw_of_regs_nil h]

/-- Settles O56: every table of the reset state is empty, so a read of it gives the default. -/
theorem resetStateHoldsResetValues : Obligations.ResetStateHoldsResetValues := by
  unfold Obligations.ResetStateHoldsResetValues
  have hready (f : Fld) (hf : bits (f.reg.resetAt 0) f.lo f.w = 0 := by decide) : State.reset.flag f = false := by
    rw [flag_of_regs_nil rfl, hf]
    rfl
  exact ⟨State.reset_inv, rdRaw_of_regs_nil rfl, fun _ => rfl, hready .GEN_READY_HIF, hready .GEN_READY_DSTATE, hready .GEN_READY_TIME,
    hready .GEN_READY_NCC, hready .GEN_READY_CTXPOOL, fun _ => rfl, fun _ => ⟨rfl, rfl⟩, fun _ => rfl, fun _ => rfl, fun _ => rfl,
    rfl, rfl, rfl, rfl, rfl, rfl, rfl, rfl, rfl, rfl, rfl, rfl, rfl⟩

end Sys2Proof.Machine

/-! # Answers and the timers of requests at the initiator (R97, R222, R224, R229, R231, R233, R240, R246, R260) -/

namespace Sys2Proof.Machine

section
variable {s t : State} {n : Nat} {e : TagEnt}

/-! ## Changes of listed values -/

theorem mget_mmod_same {α : Type} {m : AMap α} {k : Nat} {v : α} (f : α → α) (h : mget m k = some v) : mget (mmod m k f) k = some (f v) := by
  unfold mmod
  rw [h]
  exact mget_mset_same _ _ _

theorem mget_mmod_ne {α : Type} (m : AMap α) {k j : Nat} (f : α → α) (hj : j ≠ k) : mget (mmod m k f) j = mget m j := by
  unfold mmod
  split
  · exact mget_mset_ne _ _ hj
  · rfl

/-- A change of every value. -/
theorem mget_map {α β : Type} (m : AMap α) (f : α → β) (k : Nat) : mget (m.map (fun kv => (kv.1, f kv.2))) k = (mget m k).map f := by
  induction m with
  | nil => rfl
  | cons x m ih =>
    simp only [List.map_cons, mget]
    split
    · rfl
    · split
      · rfl
      · exact ih

/-! ## Codes of answers (R518, R674) -/

/-- What a request may be answered, its packet type may. -/
theorem answersOf_subset_typeAnswers (k : Pkt) : answersOf k ⊆ typeAnswers k.ptype := by
  unfold answersOf
  split
  case h_8 hp =>
    rw [hp]
    split <;> decide
  case h_10 hp =>
    rw [hp]
    split <;> decide
  case h_11 =>
    simp only [typeAnswers, answersOf]
    exact List.Subset.refl _
  all_goals
    next hp =>
    rw [hp]
    decide

theorem answersOf_not_reserved (k : Pkt) : ∀ c ∈ answersOf k, codeReserved c = false := by
  unfold answersOf
  split
  case h_8 => split <;> decide
  case h_10 => split <;> decide
  all_goals decide

theorem typeAnswers_not_reserved (ptype : Nat) : ∀ c ∈ typeAnswers ptype, codeReserved c = false := by
  unfold typeAnswers
  split
  · decide
  · decide
  · exact answersOf_not_reserved _

/-! ## RESP_PACKET -/

/-- A response addressed to this device is taken in by the initiator. -/
theorem respPacket_exec {p : Nat} {pkt : Pkt} (hr : pkt.isResp = true) (hl : pkt.legal = true) (hd : s.isLocal pkt.dest = true) :
    exec (.respPacket p pkt) s = .next (s.respIn p pkt).settle := by
  refine congrArg Host.Outcome.next ?_
  unfold State.response
  rw [hr, hl, hd]
  rfl

theorem State.isLocal_own (s : State) : s.isLocal s.own = true := by simp [State.isLocal]

theorem State.isLocal_of_isAlias {c : Nat} (h : s.isAlias c = true) : s.isLocal c = true := by
  simp only [State.isAlias, Bool.and_eq_true] at h
  obtain ⟨⟨h1, h2⟩, -⟩ := h
  simp [State.isLocal, h1, h2]

/-- The request in progress that a response may answer: its tag is in use, in the response's epoch (R221). -/
def State.requestOf (s : State) (pkt : Pkt) : Option TagEnt := (mget s.ini.tags pkt.tag).filter (fun e => e.pkt.epoch == pkt.epoch)

section
variable {p : Nat} {pkt : Pkt} (hd : pkt.dest = s.own) (ha : pkt.age ≤ 500000)
include hd ha

/-- A response to the own coordinate that is not too old, of no request in progress. -/
theorem respIn_own_none (h : s.requestOf pkt = none) : s.respIn p pkt = if codeReserved pkt.status then s.badCode p else s := by
  unfold State.requestOf at h
  unfold State.respIn
  rw [hd, s.isAlias_own, if_neg Bool.false_ne_true, if_neg (Nat.not_lt.mpr ha), h]

/-- A response to the own coordinate that is not too old, of a request in progress. -/
theorem respIn_own_some (h : s.requestOf pkt = some e) : s.respIn p pkt =
    if !(typeAnswers e.pkt.ptype).contains pkt.status then s.badCode p
    else if e.answered || (e.flushed && !e.loc) || !(answersOf e.pkt).contains pkt.status then s
    else if pkt.status = aBusy then s.pmuOwner 0x09 (some e.owner) e.pkt.tclass
    else (if e.done || e.flushed then s.lateAnswer pkt.tag e pkt else s.ownerAnswer pkt.tag e pkt).maybeRelease pkt.tag := by
  unfold State.requestOf at h
  unfold State.respIn
  rw [hd, s.isAlias_own, if_neg Bool.false_ne_true, if_neg (Nat.not_lt.mpr ha), h]

end

/-- A reserved code is counted at the port, whatever its epoch (R674). -/
theorem respIn_reserved {p : Nat} {pkt : Pkt} (hd : pkt.dest = s.own) (ha : pkt.age ≤ 500000) (hc : codeReserved pkt.status = true)
    (hp : p < 72) : s.respIn p pkt = s.bump .FLK_PLINK_BADPKT p := by
  have hbad : s.badCode p = s.bump .FLK_PLINK_BADPKT p := if_pos hp
  cases h : s.requestOf pkt with
  | none => rw [respIn_own_none hd ha h, hc, if_pos rfl, hbad]
  | some e =>
    have hn : (typeAnswers e.pkt.ptype).contains pkt.status = false := by
      rw [Bool.eq_false_iff, ne_eq, List.contains_iff_mem]
      intro hm
      rw [typeAnswers_not_reserved _ _ hm] at hc
      cases hc
    rw [respIn_own_some hd ha h, hn]
    exact hbad

/-- An answer of another epoch (R221). -/
theorem respIn_otherEpoch {p : Nat} {pkt : Pkt} (hd : pkt.dest = s.own) (ha : pkt.age ≤ 500000) (ht : mget s.ini.tags pkt.tag = some e)
    (he : e.pkt.epoch ≠ pkt.epoch) (hc : codeReserved pkt.status = false) : s.respIn p pkt = s := by
  have h : s.requestOf pkt = none := by
    unfold State.requestOf
    rw [ht, Option.filter_some, if_neg (by simpa using he)]
  rw [respIn_own_none hd ha h, hc]
  rfl

/-- An answer, of a code that the request has, to a request that waits for it. -/
structure Awaited (s : State) (pkt : Pkt) (e : TagEnt) : Prop where
  dest : pkt.dest = s.own
  age : pkt.age ≤ 500000
  tag : mget s.ini.tags pkt.tag = some e
  flushed : e.flushed = false
  answered : e.answered = false
  done : e.done = false
  epoch : e.pkt.epoch = pkt.epoch
  code : (answersOf e.pkt).contains pkt.status = true

theorem Awaited.respIn_eq {p : Nat} {pkt : Pkt} (h : Awaited s pkt e) :
    s.respIn p pkt = if pkt.status = aBusy then s.pmuOwner 0x09 (some e.owner) e.pkt.tclass
      else (s.ownerAnswer pkt.tag e pkt).maybeRelease pkt.tag := by
  have hty : (typeAnswers e.pkt.ptype).contains pkt.status = true :=
    List.contains_iff_mem.mpr (answersOf_subset_typeAnswers _ (List.contains_iff_mem.mp h.code))
  have hask : s.requestOf pkt = some e := by
    unfold State.requestOf
    rw [h.tag, Option.filter_some, if_pos (by simpa using h.epoch)]
  rw [respIn_own_some h.dest h.age hask, hty, h.code, h.answered, h.flushed, h.done]
  rfl

theorem State.ccWake_eq (s : State) (cell : Nat) : ∃ parked run, s.ccWake cell = { s with qmg := { s.qmg with parked := parked, run := run } } := by
  unfold State.ccWake
  extract_lets c
  split
  · obtain ⟨r, e⟩ := s.unpark_eq (fun r => r == .cwnd cell)
    exact ⟨_, r, e⟩
  · exact ⟨_, _, rfl⟩

/-- An answer marks its tag and touches no other (R233, R241). -/
theorem State.answered_tags (ht : mget s.ini.tags n = some e) (txtime residence : Nat) :
    (s.answered n txtime residence).ini.tags = mmod s.ini.tags n (fun e => { e with answered := true, infl := 0 }) := by
  unfold State.answered
  rw [ht]
  split
  case h_1 heq => cases heq
  case h_2 e' _ =>
    extract_lets s1 c c1 c2
    split
    · rfl
    · obtain ⟨_, _, h⟩ := (s1.setCc e'.cell c2).ccWake_eq e'.cell
      rw [h]
      rfl

/-- When the tag of a request that is answered is freed (R233). -/
theorem TagEnt.releaseAt_answered (hl : e.loc = false) (hf : e.flushed = false) (now infl : Nat) :
    ({ e with answered := true, infl := infl } : TagEnt).releaseAt now =
      if e.nonIdem then some (e.first + 2100000) else some (if e.attempt = 0 then now else max now (e.first + 2000000)) := by
  unfold TagEnt.releaseAt
  simp only [hl, hf, Bool.false_eq_true, if_false, Bool.true_or, if_true, and_true]
  split
  · rfl
  · split <;> rfl

theorem respPacket_desc {p q cnt : Nat} {pkt : Pkt} (hr : pkt.isResp = true) (hl : pkt.legal = true) (h : Awaited s pkt e)
    (hb : pkt.status ≠ aBusy) (ho : e.owner = .desc q cnt) (hp : e.pkt.ptype ≠ 0x02) (hloc : e.loc = false) :
    CompletesVia (fun v => (((v.tagAnswer pkt.tag q cnt).descAnswer e q cnt pkt).maybeRelease pkt.tag).settle) (.respPacket p pkt) s (fun v =>
      mget v.ini.tags pkt.tag = some { e with answered := true, infl := 0 } ∧ (∀ k, k ≠ pkt.tag → mget v.ini.tags k = mget s.ini.tags k) ∧
      v.regs = s.regs ∧ KeepsMem s v ∧
      ({ e with answered := true, infl := 0 } : TagEnt).releaseAt s.tick =
        (if e.nonIdem then some (e.first + 2100000) else some (if e.attempt = 0 then s.tick else max s.tick (e.first + 2000000)))) := by
  have hv : Frees s (s.answered pkt.tag pkt.txtime pkt.sentAgo) := Frees.refl.answered
  have ht := State.answered_tags h.tag pkt.txtime pkt.sentAgo
  have hown : s.ownerAnswer pkt.tag e pkt = ((s.answered pkt.tag pkt.txtime pkt.sentAgo).tagAnswer pkt.tag q cnt).descAnswer e q cnt pkt := by
    unfold State.ownerAnswer
    rw [ho]
    exact if_neg hp
  refine ⟨s.answered pkt.tag pkt.txtime pkt.sentAgo, ?_, ?_, fun k hk => ?_, hv.regs_eq, hv.keepsMem,
    TagEnt.releaseAt_answered hloc h.flushed _ _⟩
  · rw [respPacket_exec hr hl (h.dest ▸ s.isLocal_own), h.respIn_eq, if_neg hb, hown]
  · rw [ht, mget_mmod_same _ h.tag]
  · rw [ht, mget_mmod_ne _ _ hk]

/-! ## RETRANSMIT -/

/-- What a scheduled attempt records before it is sent. -/
def State.attempted (s : State) (n : Nat) (e : TagEnt) : State :=
  let s1 := s.modTag n (fun e => { e with sched := e.sched + 1, last := s.tick })
  if e.infl = 0 then s1 else s1.setCc e.cell { s1.cc e.cell with cwnd := 256 * s.fld .RTE_CCWMIN_CWNDMIN }

theorem State.retransmit_eq (ht : mget s.ini.tags n = some e) :
    s.retransmit n = if s.mayResend e && decide (e.nextAt ≤ s.tick) then (s.attempted n e).resendTag n else s := by
  unfold State.retransmit
  rw [ht]
  rfl

theorem State.attempted_frees (s : State) (n : Nat) (e : TagEnt) : Frees s (s.attempted n e) := Frees.refl.modTag.ite Frees.refl.modTag.setCc

theorem State.attempted_tags (s : State) (n : Nat) (e : TagEnt) :
    (s.attempted n e).ini.tags = mmod s.ini.tags n (fun e => { e with sched := e.sched + 1, last := s.tick }) := by
  unfold State.attempted
  extract_lets s1
  split <;> rfl

/-- A congestion window written as its least stays so (R243). -/
theorem State.cc_setCc_min (s : State) (cell : Nat) (c : CcCtx) :
    ((s.setCc cell { c with cwnd := 256 * s.fld .RTE_CCWMIN_CWNDMIN }).cc cell).cwnd = 256 * s.fld .RTE_CCWMIN_CWNDMIN := by
  unfold State.cc
  extract_lets c'
  have hc : c' = { c with cwnd := 256 * s.fld .RTE_CCWMIN_CWNDMIN } := congrArg (Option.getD · _) (mget_mset_same _ _ _)
  rw [hc]
  exact max_eq_left (min_le_right _ _)

theorem retransmit_due (ht : mget s.ini.tags n = some e) (hm : s.mayResend e = true) (hd : e.nextAt ≤ s.tick) :
    CompletesVia (fun v => (v.resendTag n).settle) (.retransmit n) s (fun v =>
      mget v.ini.tags n = some { e with sched := e.sched + 1, last := s.tick } ∧
      (e.infl ≠ 0 → (v.cc e.cell).cwnd = 256 * s.fld .RTE_CCWMIN_CWNDMIN) ∧ v.regs = s.regs ∧ KeepsMem s v) := by
  have hv := s.attempted_frees n e
  refine ⟨s.attempted n e, congrArg Host.Outcome.next ?_, ?_, fun hi => ?_, hv.regs_eq, hv.keepsMem⟩
  · rw [State.retransmit_eq ht, if_pos (by simp [hm, hd])]
  · rw [State.attempted_tags, mget_mmod_same _ ht]
  · unfold State.attempted
    rw [if_neg hi]
    exact State.cc_setCc_min (s.modTag n _) _ _

theorem retransmit_early (ht : mget s.ini.tags n = some e) (hd : s.tick < e.nextAt) : exec (.retransmit n) s = .next s.settle := by
  refine congrArg (fun x : State => Host.Outcome.next x.settle) ?_
  rw [State.retransmit_eq ht, if_neg (by simp [Nat.not_le.mpr hd])]

/-! ## UNKNOWN_OUTCOME -/

theorem unknownOutcome_desc {q cnt : Nat} {d : Desc} (ht : mget s.ini.tags n = some e) (ho : e.owner = .desc q cnt)
    (hd : s.desc q cnt = some d) (hop : d.op ≠ 0x30) (ha : e.answered = false) (hdn : e.done = false) (hf : e.flushed = false)
    (hl : e.loc = false) (hp : e.pkt.ptype ∉ [0x04, 0x05, 0x06]) (hdue : e.origin + 2000000 ≤ s.tick) :
    CompletesVia (fun v =>
      let o := ({ d with status := cUnknown } : Desc).outcome
      (((v.closeDesc q cnt).finish q { d with status := cUnknown } o.1 o.2.1 o.2.2).maybeRelease n).settle) (.unknownOutcome n) s
      (fun v => mget v.ini.tags n = some { e with done := true } ∧ v.regs = s.regs ∧ KeepsMem s v) := by
  refine ⟨s.modTag n (fun e => { e with done := true }), congrArg (fun x : State => Host.Outcome.next x.settle) ?_,
    mget_mmod_same _ ht, rfl, .refl⟩
  simp only [List.mem_cons, List.not_mem_nil, or_false, not_or] at hp
  obtain ⟨h4, h5, h6⟩ := hp
  unfold State.unknownTag
  rw [ht]
  dsimp only
  rw [if_neg (by simp [ha, hdn, hf, hl, h4, h5, h6, hdue])]
  have hd' : (s.modTag n (fun e => { e with done := true })).desc q cnt = some d := hd
  unfold State.ownerUnknown
  rw [ho]
  dsimp only
  rw [hd']
  exact congrArg (State.maybeRelease · n) (if_neg hop)

theorem unknownOutcome_early (ht : mget s.ini.tags n = some e) (hd : s.tick < e.origin + 2000000) :
    exec (.unknownOutcome n) s = .next s.settle := by
  refine congrArg (fun x : State => Host.Outcome.next x.settle) ?_
  unfold State.unknownTag
  rw [ht]
  exact if_pos (by simp [hd])

/-! ## TAG_RELEASE -/

theorem tagRelease_held (ht : mget s.ini.tags n = some e) (hh : s.tagHeld e = true) : exec (.tagRelease n) s = .next s.settle := by
  refine congrArg (fun x : State => Host.Outcome.next x.settle) ?_
  unfold State.maybeRelease
  rw [ht, Option.filter_some, if_neg (by simp [hh])]

theorem State.maybeRelease_eq {x : Nat} (ht : mget s.ini.tags n = some e) (hh : s.tagHeld e = false) (hx : e.releaseAt s.tick = some x) :
    s.maybeRelease n = if x ≤ s.tick then s.releaseTag n else s := by
  unfold State.maybeRelease
  rw [ht, Option.filter_some, if_pos (by simp [hh])]
  dsimp only
  rw [hx]

theorem tagRelease_due {x : Nat} (ht : mget s.ini.tags n = some e) (hx : e.releaseAt s.tick = some x) (hle : x ≤ s.tick)
    (hh : s.tagHeld e = false) (hw : mwf s.ini.tags) :
    CompletesVia (fun v => ((v.ccLeave e).wakeTags.unpark (fun r => r == .tag)).settle) (.tagRelease n) s (fun v =>
      mget v.ini.tags n = none ∧ (∀ k, k ≠ n → mget v.ini.tags k = mget s.ini.tags k) ∧ v.regs = s.regs ∧ KeepsMem s v) := by
  refine ⟨{ s with ini := { s.ini with tags := mdel s.ini.tags n } }, congrArg (fun x : State => Host.Outcome.next x.settle) ?_,
    mget_mdel_same hw n, fun k hk => mget_mdel_ne hw hk, rfl, .refl⟩
  rw [State.maybeRelease_eq ht hh hx, if_pos hle]
  unfold State.releaseTag
  rw [ht]

theorem tagRelease_early {x : Nat} (ht : mget s.ini.tags n = some e) (hx : e.releaseAt s.tick = some x) (hlt : s.tick < x) :
    exec (.tagRelease n) s = .next s.settle := by
  cases hh : s.tagHeld e with
  | true => exact tagRelease_held ht hh
  | false =>
    refine congrArg (fun x : State => Host.Outcome.next x.settle) ?_
    rw [State.maybeRelease_eq ht hh hx, if_neg (Nat.not_le.mpr hlt)]

/-! ## DUP_ENTRY_EXPIRE and CC_BASE_PERIOD -/

theorem State.dupExpire_eq {i : ReqId} {x : DupEnt} (hx : mget s.tgt.dup i.packed = some x) :
    s.dupExpire i = if x.expire ≤ s.tick then { s with tgt := { s.tgt with dup := mdel s.tgt.dup i.packed } } else s := by
  unfold State.dupExpire
  rw [hx]

/-- A context in a period (R240): as it is in its own, and without a least sample yet in a later one. -/
theorem CcCtx.rotate_eq (c : CcCtx) (p : Nat) : (c.period = p → c.rotate p = c) ∧
    (c.period ≠ p → c.rotate p = { c with period := p, base0 := none, base1 := if p = c.period + 1 then c.base0 else none }) :=
  ⟨fun h => if_pos h, fun h => if_neg h⟩

theorem ccBasePeriod_completes (s : State) : Completes .ccBasePeriod s (fun v => v.regs = s.regs ∧ KeepsMem s v ∧
    ∀ c x, mget s.ini.cc c = some x →
      (x.period = s.now / 8000000 → mget v.ini.cc c = some x) ∧
      (x.period ≠ s.now / 8000000 → mget v.ini.cc c = some { x with
        period := s.now / 8000000, base0 := none, base1 := if s.now / 8000000 = x.period + 1 then x.base0 else none })) := by
  refine ⟨s.basePeriod, rfl, rfl, .refl, fun c x hx => ?_⟩
  have hm : mget s.basePeriod.ini.cc c = some (x.rotate (s.now / 8000000)) :=
    (mget_map s.ini.cc (fun y => y.rotate s.ccPeriod) c).trans (by rw [hx]; rfl)
  obtain ⟨h1, h2⟩ := x.rotate_eq (s.now / 8000000)
  exact ⟨fun h => by rw [hm, h1 h], fun h => by rw [hm, h2 h]⟩

/-! ## SEND_DEADLINE -/

/-- The packets of a SEND that were sent over the fabric and are unanswered. -/
def State.sendOpen (s : State) (q cnt : Nat) : List (Nat × TagEnt) :=
  (s.sendTags q cnt).filter (fun kv => !kv.2.answered && !kv.2.done && !kv.2.loc)

/-- The packets of a SEND that are served on this device and are unanswered. -/
def State.sendLocal (s : State) (q cnt : Nat) : Nat := (s.sendTags q cnt).countP (fun kv => !kv.2.answered && kv.2.loc)

/-- A packet of a SEND was never sent. -/
def State.sendUnsent (s : State) (q cnt : Nat) (d : Desc) : Bool := s.ini.waiting.any (fun w => w.owner == Owner.desc q cnt) || d.unsent

/-- The record of a SEND at its deadline. -/
def State.sendEnd (s : State) (q cnt : Nat) (d : Desc) : Desc :=
  { d with status := if s.sendOpen q cnt = [] then d.status else cUnknown, unsent := s.sendUnsent q cnt d, left := s.sendLocal q cnt }

/-- No packet of a SEND waits for a tag. -/
def State.sendDropped (s : State) (q cnt : Nat) : State :=
  { s with ini := { s.ini with waiting := s.ini.waiting.filter (fun w => w.owner != .desc q cnt) } }

theorem State.sendDeadline_eq {q cnt : Nat} {d : Desc} (hd : s.desc q cnt = some d) (hop : d.op = 0x03) :
    s.sendDeadline q cnt = if s.tick < d.start + 2000000 then s
      else if s.sendLocal q cnt = 0 then ((s.sendDropped q cnt).closeTags (s.sendOpen q cnt)).finish q (s.sendEnd q cnt d)
        (s.sendEnd q cnt d).outcome.1 (s.sendEnd q cnt d).outcome.2.1 (s.sendEnd q cnt d).outcome.2.2
      else ((s.sendDropped q cnt).closeTags (s.sendOpen q cnt)).modDesc q cnt (fun _ => s.sendEnd q cnt d) := by
  unfold State.sendDeadline
  rw [hd]
  exact if_congr (or_iff_right (not_not_intro hop)) rfl rfl

/-- What a SEND comes to at its deadline (R258, R260): an unanswered packet counts before one that was never sent. -/
theorem State.sendEnd_outcome {q cnt : Nat} {d : Desc} (hop : d.op = 0x03) : (s.sendEnd q cnt d).outcome =
    (if s.sendOpen q cnt ≠ [] then cUnknown else if d.status ≠ cUnknown ∧ s.sendUnsent q cnt d = true then cReassembly else d.status,
      d.given, 0) := by
  have h3 : (s.sendEnd q cnt d).op = 0x03 := hop
  unfold Desc.outcome
  rw [if_pos (.inr (.inr h3))]
  have hg : (s.sendEnd q cnt d).given = d.given := rfl
  rw [hg]
  unfold State.sendEnd
  by_cases ho : s.sendOpen q cnt = []
  · simp [ho]
  · simp [ho]

end

/-- Settles O42: an answer goes one way through the initiator by its epoch, its code and its request, and each timer is one branch of its
condition. -/
theorem answerAndRequestTimerRowsComplete : Obligations.AnswerAndRequestTimerRowsComplete := by
  unfold Obligations.AnswerAndRequestTimerRowsComplete
  intro s hs
  refine ⟨fun p pkt hr hl ha => ?_, fun p pkt e q cnt hr hl hd hage ht hf ha hdn => ?_, fun n e ht => ?_, fun i x hx => ?_,
    ccBasePeriod_completes s, fun q cnt d hd hop => ?_⟩
  · rw [respPacket_exec hr hl (State.isLocal_of_isAlias ha)]
    unfold State.respIn
    rw [if_pos ha]
  · have hx := respPacket_exec (p := p) hr hl (hd ▸ s.isLocal_own)
    refine ⟨fun he hc => ?_, fun hc hp => ?_, fun he hc hb => ?_, fun he hc hb ho hp hloc =>
      respPacket_desc hr hl ⟨hd, hage, ht, hf, ha, hdn, he, hc⟩ hb ho hp hloc⟩
    · rw [hx, respIn_otherEpoch hd hage ht he hc]
    · rw [hx, respIn_reserved hd hage hc hp]
    · have hw : Awaited s pkt e := ⟨hd, hage, ht, hf, ha, hdn, he, hc⟩
      have hv : Counts s (s.pmuOwner 0x09 (some e.owner) e.pkt.tclass) := hs.counts_pmu _
      refine ⟨_, by rw [hx, hw.respIn_eq, if_pos hb], ?_, hv.kept, hv.keepsMem⟩
      obtain ⟨_, _, _, _, h⟩ := hv.eq
      rw [h]
  · exact ⟨retransmit_due ht, retransmit_early ht, fun q cnt d ho hd hop ha hdn hf hl hp => unknownOutcome_desc ht ho hd hop ha hdn hf hl hp,
      unknownOutcome_early ht, tagRelease_held ht, fun x hx => tagRelease_due ht hx, fun x hx => tagRelease_early ht hx⟩
  · refine ⟨fun hle hw => ⟨_, congrArg Host.Outcome.next ((State.dupExpire_eq hx).trans (if_pos hle)), mget_mdel_same hw _,
      fun k hk => mget_mdel_ne hw hk, rfl, .refl⟩,
      fun hlt => congrArg Host.Outcome.next ((State.dupExpire_eq hx).trans (if_neg (Nat.not_le.mpr hlt)))⟩
  · have he := State.sendDeadline_eq hd hop
    have ho := s.sendEnd_outcome (q := q) (cnt := cnt) hop
    refine ⟨fun hle hz => ⟨s.sendDropped q cnt, congrArg (fun x : State => Host.Outcome.next x.settle) ?_, rfl, rfl, rfl, rfl, .refl⟩,
      fun hle hz => ⟨s.sendDropped q cnt, congrArg (fun x : State => Host.Outcome.next x.settle) ?_, rfl, rfl, rfl, rfl, .refl⟩,
      fun hlt => congrArg (fun x : State => Host.Outcome.next x.settle) (he.trans (if_pos hlt))⟩
    · rw [he, if_neg (Nat.not_lt.mpr hle), if_pos (show s.sendLocal q cnt = 0 from hz), ho]
      rfl
    · rw [he, if_neg (Nat.not_lt.mpr hle), if_neg (show s.sendLocal q cnt ≠ 0 from hz)]
      rfl

end Sys2Proof.Machine

/-! # The rows of one descriptor that end before its issue (R80, R154, R157, R530) -/

namespace Sys2Proof.Machine

section
variable {q e : Nat} {s t : State} {d : Raw}

/-- What a row of a descriptor makes of its issue: every one but NOP settles. -/
def rowEnd (q : Nat) (d : Raw) (x : Instr) (t : State) : State := if x = .nop q d then t else t.settle

theorem exec_nop_rowEnd : exec (.nop q d) s = .next (rowEnd q d (.nop q d) (s.issueOne q d 0x00)) := by
  unfold rowEnd
  rw [if_pos rfl]
  rfl

theorem ne_nop_of_mem_descriptorRows {x : Nat × Instr} (hx : x ∈ descriptorRows q d) : x.2 ≠ .nop q d := by
  simp only [descriptorRows, List.mem_cons, List.not_mem_nil, or_false] at hx
  rcases hx with rfl | rfl | rfl | rfl | rfl | rfl | rfl | rfl | rfl | rfl | rfl | rfl | rfl | rfl | rfl | rfl | rfl <;>
    exact fun h => Instr.noConfusion h

/-- Each row of a descriptor is the issue of its one entry. -/
theorem exec_row {x : Nat × Instr} (hx : x ∈ (0x00, Instr.nop q d) :: descriptorRows q d) :
    exec x.2 s = .next (rowEnd q d x.2 (s.issueOne q d x.1)) := by
  rcases List.mem_cons.mp hx with rfl | hx
  · exact exec_nop_rowEnd
  · rw [exec_descriptorRow hx]
    unfold rowEnd
    rw [if_neg (ne_nop_of_mem_descriptorRows hx)]

/-! ## A mirrored queue -/

/-- The reservation of the entries of a turn, recorded for the twin (R530). -/
def State.turnReserved (s : State) (q left : Nat) : State :=
  (s.modWq q (fun w => { w with reserved := add32 w.head left, turn := w.turn.map (fun t => { t with wait := .protect }) })).recWqHead q

theorem recWqHead_eq (s : State) (q : Nat) : ∃ regs mir out, s.recWqHead q = { s with regs := regs, mir := mir, out := out } := by
  unfold State.recWqHead
  split
  · exact s.record_eq _ _
  · exact ⟨_, _, _, rfl⟩

theorem recWqHead_wq (s : State) (q n : Nat) : (s.recWqHead q).wq n = s.wq n := by
  obtain ⟨_, _, _, h⟩ := recWqHead_eq s q
  rw [h]
  rfl

theorem turnReserved_wq (s : State) (q left : Nat) : (s.turnReserved q left).wq q =
    { s.wq q with reserved := add32 (s.wq q).head left, turn := (s.wq q).turn.map (fun t => { t with wait := .protect }) } :=
  (recWqHead_wq ..).trans (wq_modWq_same ..)

theorem turnReserved_keepsMem (s : State) (q left : Nat) : KeepsMem s (s.turnReserved q left) := by
  obtain ⟨_, _, _, h⟩ := recWqHead_eq (s.modWq q _) q
  unfold State.turnReserved
  rw [h]
  exact .of_eq rfl

/-- A mirrored queue that may be served is taken, and its reservation is protected before it processes (R43, R530). -/
theorem takeTurn_mirrored {left : Nat} (hm : s.mayServe q) (hx : s.mirWq q = true) :
    s.takeTurn e q left = ((s.turnTaken e q left).turnReserved q left).whenProtected (.turn q) (fun t => t.turnGo q) := by
  obtain ⟨h1, h2, h3, h4, h5, h6⟩ := hm
  unfold State.takeTurn
  dsimp only
  rw [if_neg (by simp [h1, h2]), if_neg (fun hc => absurd (h3 hc.1) (Int.not_lt.mpr hc.2)), if_neg (by simp [h4]), if_neg (by simp [h5]),
    if_neg (by simp [h6])]
  exact if_pos hx

theorem mayServe_of_mayStart {op : Nat} (hm : s.mayStart e q d op) : s.mayServe q := by
  obtain ⟨hi, -, -, ht⟩ := hm
  simp only [State.issuable, Bool.and_eq_true, beq_iff_eq] at hi
  obtain ⟨⟨⟨⟨⟨hact, hwork⟩, -⟩, -⟩, -⟩, -⟩ := hi
  exact ⟨hact, hwork, ht⟩

theorem headTurn_turned (hs : s.Inv) {op : Nat} (hm : s.mayStart e q d op) : Turned q s (s.headTurn e q d) :=
  ((headHeld_spec hs hm).1.modWq fun w => ⟨w.fetched, _, rfl⟩).pmuQ

theorem issueOne_reserves (hs : s.Inv) {op : Nat} (hm : s.mayStart e q d op) (hx : s.mirWq q = true) :
    ∃ v : State, s.issueOne q d op = v.whenProtected (.turn q) (fun t => t.turnGo q) ∧ (v.wq q).head = (s.wq q).head ∧
      (v.wq q).reserved = add32 (s.wq q).head 1 ∧ (v.wq q).turn = some { engine := e, left := 1, wait := .protect } ∧ KeepsMem s v := by
  obtain ⟨hT, f, -, hw, -⟩ := headHeld_spec hs hm
  have hwq : (s.headTurn e q d).wq q = { s.wq q with fetched := f, turn := some { engine := e, left := 1 } } := by
    rw [headTurn_eq, turnTaken_wq hT.inv, hw]
  have hv := turnReserved_wq (s.headTurn e q d) q 1
  rw [hwq] at hv
  refine ⟨(s.headTurn e q d).turnReserved q 1, ?_, by rw [hv], by rw [hv], by rw [hv]; rfl,
    (headTurn_turned hs hm).keepsMem.trans (turnReserved_keepsMem _ q 1)⟩
  rw [issueOne_eq hm.1 hm.2.1 hm.2.2.1, takeTurn_mirrored (hT.mayServe (mayServe_of_mayStart hm)) ((hT.mirWq_eq q).trans hx), headTurn_eq]

/-! ## An entry in error, one that waits, and one that completes at once -/

theorem AtHead.outst_eq (h : AtHead q e d s t) : (t.wq q).outst = (s.wq q).outst := by
  obtain ⟨f, u, hw⟩ := h.turned.record
  rw [hw]

theorem AtHead.cq_eq (h : AtHead q e d s t) : (t.wq q).cq = (s.wq q).cq := by
  obtain ⟨f, u, hw⟩ := h.turned.record
  rw [hw]

theorem issueAt_malformed {a : Nat} (h : d.malformed (s.noPiste q d) ≠ 0) :
    s.issueAt q d a = (s.wqError q (d.malformed (s.noPiste q d)) (s.wq q).head).runWaitCmds q := if_pos h

theorem issueAt_waits {a : Nat} {p : Park} (h1 : d.malformed (s.noPiste q d) = 0) (h2 : s.issueWait q d = some p) :
    s.issueAt q d a = s.waitFor q p := by
  unfold State.issueAt
  dsimp only
  rw [if_neg (not_not.mpr h1), h2]

theorem issueWait_none_of_bad (h1 : s.entryWait q d = none) (h2 : (s.badDest d || s.badContext q d) = true) :
    s.issueWait q d = none := by
  unfold State.issueWait
  rw [h1]
  exact if_pos h2

theorem issueAt_badDest {a : Nat} (h1 : d.malformed (s.noPiste q d) = 0) (h2 : s.issueWait q d = none) (h3 : s.badDest d = true) :
    s.issueAt q d a = s.issueDone q d a cDestInvalid := by
  unfold State.issueAt
  dsimp only
  rw [if_neg (not_not.mpr h1), h2]
  exact if_pos h3

theorem issueAt_badContext {a : Nat} (h1 : d.malformed (s.noPiste q d) = 0) (h2 : s.issueWait q d = none) (h3 : s.badDest d = false)
    (h4 : s.badContext q d = true) : s.issueAt q d a = s.issueDone q d a cKeyInvalid := by
  unfold State.issueAt
  dsimp only
  rw [if_neg (not_not.mpr h1), h2]
  exact (if_neg (ne_true_of_eq_false h3)).trans (if_pos h4)

/-- What a wait counts or reports before the queue is parked. -/
def State.waitMark (s : State) (q : Nat) (p : Park) : State :=
  match p with
  | .cwnd _ => s.pmuQ 0x0A 1 q ((s.wq q).turn.map Turn.engine)
  | .batch _ => s.latch .COL_FLT_BATCHFULL
  | .waitRec => s.latch .LCK_FLT_WRFULL
  | .cqRoom n => s.cqHold n
  | _ => s

theorem waitFor_eq (s : State) (q : Nat) (p : Park) : s.waitFor q p = ((s.waitMark q p).park p q).endTurn q := rfl

theorem entryWait_ne_cqRoom (s : State) (q n : Nat) (d : Raw) : s.entryWait q d ≠ some (.cqRoom n) := by
  unfold State.entryWait
  dsimp only
  split_ifs <;> exact fun h => by cases h

theorem sendWait_ne_cqRoom (s : State) (q n : Nat) (d : Raw) : s.sendWait q d ≠ some (.cqRoom n) := by
  unfold State.sendWait
  generalize s.counterOf d = k
  cases k <;> dsimp only <;> split_ifs <;> exact fun h => by cases h

/-- No entry waits for room in its completion queue before its issue is tried (R157). -/
theorem issueWait_ne_cqRoom (s : State) (q n : Nat) (d : Raw) : s.issueWait q d ≠ some (.cqRoom n) := by
  unfold State.issueWait
  split
  next p hp => exact hp ▸ entryWait_ne_cqRoom s q n d
  next =>
    split
    · exact fun h => by cases h
    · exact sendWait_ne_cqRoom s q n d

/-- What is counted or latched as an entry waits leaves its queue and memory as they were. -/
theorem waitMark_spec (h : s.Inv) {p : Park} (hp : ∀ n, p ≠ .cqRoom n) :
    (s.waitMark q p).wq q = s.wq q ∧ KeepsMem s (s.waitMark q p) := by
  unfold State.waitMark
  split
  · have hc : Counts s (s.pmuQ 0x0A 1 q ((s.wq q).turn.map Turn.engine)) := h.counts_pmu _
    refine ⟨?_, hc.keepsMem⟩
    obtain ⟨-, -, _, _, _, _, heq⟩ := hc
    rw [heq]
    rfl
  · exact ⟨rfl, .latch .refl⟩
  · exact ⟨rfl, .latch .refl⟩
  next n => exact absurd rfl (hp n)
  · exact ⟨rfl, .refl⟩

/-- An entry that completes before any packet is sent: its issue ends it (R157). -/
theorem AtHead.issueDone_eq (h : AtHead q e d s t) (hno : ∀ x ∈ (s.wq q).outst, x.cnt ≠ (s.wq q).head)
    (hcq : s.cqReady (s.wq q).cq = true) (a st : Nat) :
    t.issueDone q d a st = (t.markIssued q d (s.wq q).kr a 0 st).finish q (s.newDesc q d 0 st e (s.wq q).kr) st := by
  obtain ⟨-, ho, -⟩ := h.issued .refl h.turned.inv (s.wq q).kr a 0 st
  have hdesc : (t.markIssued q d (s.wq q).kr a 0 st).desc q (s.wq q).head = some (s.newDesc q d 0 st e (s.wq q).kr) := by
    have hnone : (s.wq q).outst.find? (fun x => x.cnt == (s.wq q).head) = none := by simpa using hno
    unfold State.desc
    rw [ho, List.find?_append, hnone]
    simp [State.newDesc]
  have hready : ¬ ((st != 0 || d.sig) && !t.cqReady (t.wq q).cq) = true := by
    rw [h.cq_eq, h.turned.cqReady_eq, hcq]
    simp
  unfold State.issueDone
  dsimp only
  rw [if_neg hready, h.head_eq, h.kr_eq, hdesc]

section
variable (hs : s.Inv) {op : Nat}
include hs

theorem issueOne_errs (hm : s.mayStart e q d op) (hb : s.mayBoundary q) (hbad : d.malformed (s.noPiste q d) ≠ 0) :
    ∃ v : State, s.issueOne q d op = s.turnRest q ((v.wqError q (d.malformed (s.noPiste q d)) (s.wq q).head).runWaitCmds q) ∧
      (v.wq q).head = (s.wq q).head ∧ (v.wq q).outst = (s.wq q).outst ∧ KeepsMem s v := by
  obtain ⟨hh, a, heq⟩ := headTurn_spec hs hm hb
  have hbad' := hbad
  rw [← hh.turned.noPiste_eq] at hbad'
  refine ⟨s.headTurn e q d, ?_, hh.head_eq, hh.outst_eq, hh.turned.keepsMem⟩
  rw [heq, issueAt_malformed hbad', hh.turned.noPiste_eq, hh.head_eq]

theorem issueOne_waits (hm : s.mayProcess e q d op) {p : Park} (hp : s.issueWait q d = some p) :
    ∃ v : State, s.issueOne q d op = s.turnRest q (v.endTurn q) ∧
      (v.wq q).head = (s.wq q).head ∧ (v.wq q).outst = (s.wq q).outst ∧ (p, q) ∈ v.qmg.parked ∧ KeepsMem s v := by
  obtain ⟨hst, hb, -, hmal⟩ := hm
  obtain ⟨hh, a, heq⟩ := headTurn_spec hs hst hb
  obtain ⟨hw, hmem⟩ := waitMark_spec (q := q) hh.turned.inv (p := p) fun n h => issueWait_ne_cqRoom s q n d (h ▸ hp)
  have hwq : ((((s.headTurn e q d).waitMark q p).park p q).wq q) = (s.headTurn e q d).wq q := hw
  refine ⟨((s.headTurn e q d).waitMark q p).park p q, ?_, by rw [hwq, hh.head_eq], by rw [hwq, hh.outst_eq],
    List.mem_append_right _ List.mem_cons_self, hh.turned.keepsMem.trans hmem⟩
  rw [heq, issueAt_waits ((congrArg d.malformed (hh.turned.noPiste_eq d)).trans hmal) ((hh.turned.issueWait_eq d).trans hp), waitFor_eq]

theorem issueOne_badDest (hm : s.mayProcess e q d op) (he : s.entryWait q d = none) (hcq : s.cqReady (s.wq q).cq = true)
    (hd : s.badDest d = true) :
    ∃ v : State, s.issueOne q d op = s.turnRest q (v.finish q (s.newDesc q d 0 cDestInvalid e (s.wq q).kr) cDestInvalid) ∧
      s.issued q (s.newDesc q d 0 cDestInvalid e (s.wq q).kr) v := by
  obtain ⟨hst, hb, hno, hmal⟩ := hm
  obtain ⟨hh, a, heq⟩ := headTurn_spec hs hst hb
  have hw := issueWait_none_of_bad he (by rw [hd, Bool.true_or])
  refine ⟨_, ?_, hh.issued .refl hh.turned.inv (s.wq q).kr a 0 cDestInvalid⟩
  rw [heq, issueAt_badDest ((congrArg d.malformed (hh.turned.noPiste_eq d)).trans hmal) ((hh.turned.issueWait_eq d).trans hw)
    ((hh.turned.badDest_eq d).trans hd), hh.issueDone_eq hno hcq]

theorem issueOne_badContext (hm : s.mayProcess e q d op) (he : s.entryWait q d = none) (hcq : s.cqReady (s.wq q).cq = true)
    (hd : s.badDest d = false) (hc : s.badContext q d = true) :
    ∃ v : State, s.issueOne q d op = s.turnRest q (v.finish q (s.newDesc q d 0 cKeyInvalid e (s.wq q).kr) cKeyInvalid) ∧
      s.issued q (s.newDesc q d 0 cKeyInvalid e (s.wq q).kr) v := by
  obtain ⟨hst, hb, hno, hmal⟩ := hm
  obtain ⟨hh, a, heq⟩ := headTurn_spec hs hst hb
  have hw := issueWait_none_of_bad he (by rw [hc, Bool.or_true])
  refine ⟨_, ?_, hh.issued .refl hh.turned.inv (s.wq q).kr a 0 cKeyInvalid⟩
  rw [heq, issueAt_badContext ((congrArg d.malformed (hh.turned.noPiste_eq d)).trans hmal) ((hh.turned.issueWait_eq d).trans hw)
    ((hh.turned.badDest_eq d).trans hd) ((hh.turned.badContext_eq d).trans hc), hh.issueDone_eq hno hcq]

end

/-- A row whose issue is known. -/
theorem exec_row_eq {x : Nat × Instr} {u : State} (hx : x ∈ (0x00, Instr.nop q d) :: descriptorRows q d) (hu : s.issueOne q d x.1 = u) :
    exec x.2 s = .next (rowEnd q d x.2 u) := (exec_row hx).trans (congrArg (Host.Outcome.next ∘ rowEnd q d x.2) hu)

end

/-- Settles O36: the row takes the queue to its head entry, and there the entry's reservation, its error, its wait or its status is
decided as in the state before the row. -/
theorem descriptorRowsThatDoNotIssue : Obligations.DescriptorRowsThatDoNotIssue := by
  unfold Obligations.DescriptorRowsThatDoNotIssue
  intro s e q d hs kr c fin stops x hx
  refine ⟨fun hm hmir => ?_, fun hm hb hbad => ?_, fun hm p hp => ?_, fun hm he hcq => ⟨fun hd => ?_, fun hd hc => ?_⟩⟩
  · obtain ⟨v, hv, hspec⟩ := issueOne_reserves hs hm hmir
    exact ⟨v, exec_row_eq hx hv, hspec⟩
  · obtain ⟨v, hv, hspec⟩ := issueOne_errs hs hm hb hbad
    exact ⟨v, exec_row_eq hx hv, hspec⟩
  · obtain ⟨v, hv, hspec⟩ := issueOne_waits hs hm hp
    exact ⟨v, exec_row_eq hx hv, hspec⟩
  · obtain ⟨v, hv, hspec⟩ := issueOne_badDest hs hm he hcq hd
    exact ⟨v, exec_row_eq hx hv, hspec⟩
  · obtain ⟨v, hv, hspec⟩ := issueOne_badContext hs hm he hcq hd hc
    exact ⟨v, exec_row_eq hx hv, hspec⟩

end Sys2Proof.Machine

/-! # Work that leaves the queues of other numbers alone

An FLR of a virtual function clears its queues one by one (R176), and what it does to one of them may move packets, complete admin
commands and raise events. None of that gives a record to a queue that has none. `KeepsQmg s t` says that the queue manager stands,
`OnlyEq n s t` that no more than event queue `n` has changed in it, and `Blanks x s t` that every queue other than work queue `x` which has
no record in `s` has none in `t`. The lemma `R.f` says that `f` keeps the relation `R`, and its proof has the shape of `f`, as the lemmas
`State.Inv.f` have. -/

namespace Sys2Proof.Machine

/-- The queue manager of `t` is that of `s`. -/
structure KeepsQmg (s t : State) : Prop where
  qmg : t.qmg = s.qmg

section
variable {s t u : State}

namespace KeepsQmg

theorem refl : KeepsQmg s s := ⟨rfl⟩

theorem trans (h : KeepsQmg s t) (h' : KeepsQmg t u) : KeepsQmg s u := ⟨h'.qmg.trans h.qmg⟩

theorem wq_eq (h : KeepsQmg s t) (q : Nat) : t.wq q = s.wq q := congrArg (fun m : QmgSt => mgetD m.wq q {}) h.qmg

theorem cq_eq (h : KeepsQmg s t) (n : Nat) : t.cq n = s.cq n := congrArg (fun m : QmgSt => mgetD m.cq n {}) h.qmg

theorem eq_eq (h : KeepsQmg s t) (n : Nat) : t.eq n = s.eq n := congrArg (fun m : QmgSt => mgetD m.eq n {}) h.qmg

/-! ## Shapes -/

theorem update (h : KeepsQmg s t) {regs hostMem time host tgt ini msg win xlt col lck rte lnk mir rst flt pmu sec ring out free pending} :
    KeepsQmg s { regs := regs, hostMem := hostMem, time := time, host := host, qmg := t.qmg, tgt := tgt, ini := ini, msg := msg,
                 win := win, xlt := xlt, col := col, lck := lck, rte := rte, lnk := lnk, mir := mir, rst := rst, flt := flt,
                 pmu := pmu, sec := sec, ring := ring, out := out, free := free, pending := pending } := ⟨h.qmg⟩

theorem ite {a b : State} {c : Prop} {inst : Decidable c} (ha : KeepsQmg s a) (hb : KeepsQmg s b) : KeepsQmg s (if c then a else b) := by
  split
  · exact ha
  · exact hb

theorem foldl {β : Type} {l : List β} {f : State → β → State} (h : KeepsQmg s t) (hf : ∀ t x, KeepsQmg s t → KeepsQmg s (f t x)) :
    KeepsQmg s (l.foldl f t) := by
  induction l generalizing t with
  | nil => exact h
  | cons x l ih => exact ih (hf t x h)

theorem of_fst_eq {β : Type} {p : State × β} {x : β} (h : KeepsQmg s p.1) (e : p = (t, x)) : KeepsQmg s t := by
  rw [e] at h
  exact h

/-! ## Registers, counters, records and interrupts -/

theorem setFld (h : KeepsQmg s t) {f : Fld} {v i} : KeepsQmg s (t.setFld f v i) := ⟨h.qmg⟩

theorem bump (h : KeepsQmg s t) {f : Fld} {i n} : KeepsQmg s (t.bump f i n) := ⟨h.qmg⟩

theorem latch (h : KeepsQmg s t) {f : Fld} {i} : KeepsQmg s (t.latch f i) := ⟨h.qmg⟩

theorem setPmuVal (h : KeepsQmg s t) {i v} : KeepsQmg s (t.setPmuVal i v) := ⟨h.qmg⟩

theorem fresh (h : KeepsQmg s t) : KeepsQmg s t.fresh.2 := ⟨h.qmg⟩

theorem raise (h : KeepsQmg s t) {src code addr} : KeepsQmg s (t.raise src code addr) := h.trans ⟨State.raise_qmg ..⟩

theorem pmuPut (h : KeepsQmg s t) {i addr time d} : KeepsQmg s (t.pmuPut i addr time d) := by
  obtain ⟨_, _, e⟩ := pmuPut_eq t i addr time d
  rw [e]
  exact h.update

theorem pmuSample (h : KeepsQmg s t) {i e} : KeepsQmg s (t.pmuSample i e) := by
  unfold State.pmuSample
  extract_lets
  split
  · exact h.pmuPut
  · exact h.update
  · exact h.pmuPut

theorem raiseN (h : KeepsQmg s t) {src code addr n} : KeepsQmg s (t.raiseN src code addr n) :=
  KeepsQmg.update (h.foldl fun _ _ h => h.raise)

theorem pmuOverflow (h : KeepsQmg s t) {i e n} : KeepsQmg s (t.pmuOverflow i e n) := by
  unfold State.pmuOverflow
  extract_lets g s1 s2 s3
  have h1 : KeepsQmg s s1 := ⟨h.qmg⟩
  have h2 : KeepsQmg s s2 := h1.raiseN.ite h1
  have h3 : KeepsQmg s s3 := h2.setFld.ite h2
  exact h3.pmuSample.ite h3

theorem pmuOne (h : KeepsQmg s t) {i e} : KeepsQmg s (t.pmuOne i e) :=
  (h.setPmuVal.ite h.setPmuVal.pmuOverflow).ite h

theorem pmu_ (h : KeepsQmg s t) {e} : KeepsQmg s (t.pmu_ e) := (h.foldl fun _ _ h => h.pmuOne).ite h

theorem pmuTagDrop (h : KeepsQmg s t) {q} : KeepsQmg s (t.pmuTagDrop q) := by
  unfold State.pmuTagDrop
  split
  · exact h.update.ite h
  · exact h

theorem record (h : KeepsQmg s t) {rtype body} : KeepsQmg s (t.record rtype body) := by
  obtain ⟨_, _, _, e⟩ := t.record_eq rtype body
  rw [e]
  exact h.update

theorem recQctx (h : KeepsQmg s t) {isEq n} : KeepsQmg s (t.recQctx isEq n) := h.record.ite h.record

theorem recWq (h : KeepsQmg s t) {q} : KeepsQmg s (t.recWq q) := h.record.ite h

theorem recWqHead (h : KeepsQmg s t) {q} : KeepsQmg s (t.recWqHead q) := h.record.ite h

theorem recWqTail (h : KeepsQmg s t) {q} : KeepsQmg s (t.recWqTail q) := h.record.ite h

theorem msix (h : KeepsQmg s t) {f v} : KeepsQmg s (t.msix f v) := h.update.ite h.update

/-! ## Packets -/

theorem freeSlots (h : KeepsQmg s t) {key n} : KeepsQmg s (t.freeSlots key n) := h.update.ite h

theorem freeKey (h : KeepsQmg s t) {key n} : KeepsQmg s (t.freeKey key n) := by
  unfold State.freeKey
  split
  · exact h.freeSlots
  · exact h

theorem trail (h : KeepsQmg s t) {i key x} : KeepsQmg s (t.trail i key x) := by
  unfold State.trail
  split
  · exact h.update
  · exact h

theorem queuePkt (h : KeepsQmg s t) {p v i src via} : KeepsQmg s (t.queuePkt p v i src via) := ⟨h.qmg⟩

theorem commit (h : KeepsQmg s t) {i key p v k} : KeepsQmg s (t.commit i key p v k) :=
  h.queuePkt.pmu_.ite h.queuePkt

theorem toLocal (h : KeepsQmg s t) {i} : KeepsQmg s (t.toLocal i) := h.ite h.update

theorem reinject (h : KeepsQmg s t) {i k} : KeepsQmg s (t.reinject i k) := h.update.ite h.update

theorem routeOne (h : KeepsQmg s t) {i key} : KeepsQmg s (t.routeOne i key).1 := by
  unfold State.routeOne
  split
  · exact h
  split
  · split
    · exact h
    · exact h.freeKey.toLocal
  · split
    · exact h
    · extract_lets s0 s1 s2
      have h0 : KeepsQmg s s0 := h.fresh.ite h
      have h1 : KeepsQmg s s1 := h0.bump.pmu_.ite h0
      have h2 : KeepsQmg s s2 := h1.bump.ite h1
      exact h2.trail.commit
  · exact h
  · split
    · exact h
    · dsimp only
      exact h.freeKey.reinject
  · exact h.trail.freeKey.bump.latch
  · exact h.trail.freeKey.bump

theorem setInq (h : KeepsQmg s t) {key l} : KeepsQmg s (t.setInq key l) := ⟨h.qmg⟩

theorem routeKeyAux (h : KeepsQmg s t) {key fuel} : KeepsQmg s (Machine.routeKeyAux key fuel t) := by
  induction fuel generalizing t with
  | zero => exact h
  | succ fuel ih =>
    unfold Machine.routeKeyAux
    split
    · exact h
    split
    next heq => exact ih (h.routeOne.of_fst_eq heq).setInq
    · exact h

theorem routeReinj (h : KeepsQmg s t) : KeepsQmg s t.routeReinj := by
  refine KeepsQmg.foldl h.update fun t i ht => ?_
  split
  next heq => exact ht.routeOne.of_fst_eq heq
  · exact ht.update

theorem arrive (h : KeepsQmg s t) {key i} : KeepsQmg s (t.arrive key i) := h.setInq.routeKeyAux.routeReinj

theorem inject (h : KeepsQmg s t) {k tag avoid own} : KeepsQmg s (t.inject k tag avoid own) := h.pmu_.arrive

theorem injectPiste (h : KeepsQmg s t) {n k tag own} : KeepsQmg s (t.injectPiste n k tag own) :=
  h.pmu_.commit.update.ite h.pmu_.update

theorem noteFirst (h : KeepsQmg s t) {o} : KeepsQmg s (t.noteFirst o) := by
  unfold State.noteFirst
  extract_lets _ mark
  split
  · exact h.update
  · exact h.update
  · exact h

end KeepsQmg
end
end Sys2Proof.Machine
/-! # Events touch one event queue (R167 to R170) -/

namespace Sys2Proof.Machine

/-- In the queue manager, `t` differs from `s` in the record of event queue `n` alone. -/
structure OnlyEq (n : Nat) (s t : State) : Prop where
  qmg : t.qmg = { s.qmg with eq := t.qmg.eq }
  wf : mwf s.qmg.eq → mwf t.qmg.eq
  other : ∀ m, m ≠ n → t.eq m = s.eq m

section
variable {n : Nat} {s t u : State}

theorem eq_modEq_ne (s : State) {n m : Nat} (f : EQ → EQ) (h : m ≠ n) : (s.modEq n f).eq m = s.eq m :=
  congrArg (Option.getD · ({} : EQ)) (mget_mset_ne _ _ h)

namespace OnlyEq

theorem refl : OnlyEq n s s := ⟨rfl, id, fun _ _ => rfl⟩

theorem kept (h : OnlyEq n s t) (hu : KeepsQmg t u) : OnlyEq n s u := by
  refine ⟨?_, fun hw => ?_, fun m hm => ?_⟩
  · rw [hu.qmg, ← h.qmg]
  · rw [hu.qmg]
    exact h.wf hw
  · rw [← h.other m hm]
    unfold State.eq
    rw [hu.qmg]

theorem ite {a b : State} {c : Prop} {inst : Decidable c} (ha : OnlyEq n s a) (hb : OnlyEq n s b) : OnlyEq n s (if c then a else b) := by
  split
  · exact ha
  · exact hb

theorem modEq (h : OnlyEq n s t) {f} : OnlyEq n s (t.modEq n f) := by
  refine ⟨?_, fun hw => mwf_mset (h.wf hw) _ _, fun m hm => (eq_modEq_ne t f hm).trans (h.other m hm)⟩
  unfold State.modEq
  rw [h.qmg]

theorem write (h : OnlyEq n s t) {a l} : OnlyEq n s (t.write a l) := h.kept ⟨rfl⟩

theorem eqWrite (h : OnlyEq n s t) {e} : OnlyEq n s (t.eqWrite n e) := (h.write.modEq.kept KeepsQmg.refl.msix).ite h.write.modEq

theorem eqReserve (h : OnlyEq n s t) : OnlyEq n s (t.eqReserve n) := h.ite (h.modEq.kept KeepsQmg.refl.recQctx.update)

theorem evLost (h : OnlyEq n s t) : OnlyEq n s (t.evLost n) := (h.kept KeepsQmg.refl.bump).modEq

theorem eqLoss (h : OnlyEq n s t) : OnlyEq n s (t.eqLoss n) := h.ite h.modEq

theorem eqDrainAux (h : OnlyEq n s t) {fuel} : OnlyEq n s (Machine.eqDrainAux n fuel t) := by
  induction fuel generalizing t with
  | zero => exact h
  | succ fuel ih =>
    unfold Machine.eqDrainAux
    extract_lets
    split
    · exact h
    · exact h.ite (h.eqReserve.ite (ih h.modEq.eqWrite))

theorem eqDrain (h : OnlyEq n s t) : OnlyEq n s (t.eqDrain n) := h.eqLoss.eqDrainAux

end OnlyEq

/-- An event changes the record of a configured queue, and that of no other. -/
theorem eventAt_spec (s : State) (n type sub object data time : Nat) :
    KeepsQmg s (s.eventAt n type sub object data time) ∨
      ((s.eq n).configured = true ∧ OnlyEq n s (s.eventAt n type sub object data time)) := by
  unfold State.eventAt
  extract_lets e q
  split
  · exact .inl KeepsQmg.refl.bump
  next hc =>
    refine .inr ⟨by simpa using hc, ?_⟩
    exact OnlyEq.refl.evLost.ite OnlyEq.refl.eqLoss.modEq.eqDrain

end
end Sys2Proof.Machine

/-! # Queues without a record stay without one -/

namespace Sys2Proof.Machine

/-- Every queue that has no record in `s` has none in `t`, work queue `x` aside; no queue without an issued entry has come by one. -/
structure Blanks (x : Option Nat) (s t : State) : Prop where
  wqWf : mwf s.qmg.wq → mwf t.qmg.wq
  cqWf : mwf s.qmg.cq → mwf t.qmg.cq
  eqWf : mwf s.qmg.eq → mwf t.qmg.eq
  wq : ∀ q, some q ≠ x → s.wq q = {} → t.wq q = {}
  cq : ∀ n, s.cq n = {} → t.cq n = {}
  eq : ∀ n, s.eq n = {} → t.eq n = {}
  outst : ∀ q, (s.wq q).outst = [] → (t.wq q).outst = []

section
variable {x : Option Nat} {q : Nat} {s t u : State}

theorem wq_modWq_ne (s : State) {q j : Nat} (f : WQ → WQ) (h : j ≠ q) : (s.modWq q f).wq j = s.wq j :=
  congrArg (Option.getD · ({} : WQ)) (mget_mset_ne _ _ h)

theorem cq_modCq_same (s : State) (n : Nat) (f : CQ → CQ) : (s.modCq n f).cq n = f (s.cq n) :=
  congrArg (Option.getD · ({} : CQ)) (mget_mset_same _ _ _)

theorem cq_modCq_ne (s : State) {n m : Nat} (f : CQ → CQ) (h : m ≠ n) : (s.modCq n f).cq m = s.cq m :=
  congrArg (Option.getD · ({} : CQ)) (mget_mset_ne _ _ h)

namespace Blanks

theorem refl : Blanks x s s := ⟨id, id, id, fun _ _ => id, fun _ => id, fun _ => id, fun _ => id⟩

theorem trans (h : Blanks x s t) (h' : Blanks x t u) : Blanks x s u :=
  ⟨h'.wqWf ∘ h.wqWf, h'.cqWf ∘ h.cqWf, h'.eqWf ∘ h.eqWf, fun q hq => h'.wq q hq ∘ h.wq q hq, fun n => h'.cq n ∘ h.cq n,
    fun n => h'.eq n ∘ h.eq n, fun q => h'.outst q ∘ h.outst q⟩

/-! ## Shapes -/

/-- The records of queues stand. -/
theorem of_queues (h : Blanks x s t) (h1 : u.qmg.wq = t.qmg.wq) (h2 : u.qmg.cq = t.qmg.cq) (h3 : u.qmg.eq = t.qmg.eq) : Blanks x s u := by
  refine h.trans ⟨fun h => ?_, fun h => ?_, fun h => ?_, fun q _ h => ?_, fun n h => ?_, fun n h => ?_, fun q h => ?_⟩
  · rwa [h1]
  · rwa [h2]
  · rwa [h3]
  · unfold State.wq
    rwa [h1]
  · unfold State.cq
    rwa [h2]
  · unfold State.eq
    rwa [h3]
  · unfold State.wq
    rwa [h1]

theorem kept (h : Blanks x s t) (hu : KeepsQmg t u) : Blanks x s u :=
  h.of_queues (congrArg QmgSt.wq hu.qmg) (congrArg QmgSt.cq hu.qmg) (congrArg QmgSt.eq hu.qmg)

theorem ite {a b : State} {c : Prop} {inst : Decidable c} (ha : Blanks x s a) (hb : Blanks x s b) : Blanks x s (if c then a else b) := by
  split
  · exact ha
  · exact hb

theorem foldl_mem {β : Type} {l : List β} {f : State → β → State} (h : Blanks x s t)
    (hf : ∀ t y, y ∈ l → Blanks x s t → Blanks x s (f t y)) : Blanks x s (l.foldl f t) := by
  induction l generalizing t with
  | nil => exact h
  | cons y l ih => exact ih (hf t y List.mem_cons_self h) fun t z hz => hf t z (List.mem_cons_of_mem _ hz)

theorem foldl {β : Type} {l : List β} {f : State → β → State} (h : Blanks x s t) (hf : ∀ t y, Blanks x s t → Blanks x s (f t y)) :
    Blanks x s (l.foldl f t) := h.foldl_mem fun t y _ => hf t y

/-- An update of components other than the records of work, completion and event queues. -/
theorem update (h : Blanks x s t) {regs hostMem time host aq bcmds run parked tgt ini msg win xlt col lck rte lnk mir rst flt pmu sec ring out
    free pending} :
    Blanks x s { regs := regs, hostMem := hostMem, time := time, host := host,
                 qmg := { wq := t.qmg.wq, cq := t.qmg.cq, eq := t.qmg.eq, aq := aq, bcmds := bcmds, run := run, parked := parked },
                 tgt := tgt, ini := ini, msg := msg, win := win, xlt := xlt, col := col, lck := lck, rte := rte, lnk := lnk, mir := mir,
                 rst := rst, flt := flt, pmu := pmu, sec := sec, ring := ring, out := out, free := free, pending := pending } :=
  h.of_queues rfl rfl rfl

/-! ## Records -/

theorem modWq (h : Blanks (some q) s t) {f} (hf : ∀ w : WQ, w.outst = [] → (f w).outst = [] := by exact fun _ e => e) :
    Blanks (some q) s (t.modWq q f) := by
  refine h.trans ⟨fun hw => mwf_mset hw _ _, id, id, fun j hj hw => ?_, fun _ => id, fun _ => id, fun j hj => ?_⟩
  · rw [wq_modWq_ne t f fun e => hj (congrArg some e), hw]
  · by_cases e : j = q
    · subst e
      rw [wq_modWq_same]
      exact hf _ hj
    · rwa [wq_modWq_ne t f e]

theorem modCq (h : Blanks x s t) {n f} (hf : f {} = {} := by rfl) : Blanks x s (t.modCq n f) := by
  refine h.trans ⟨id, fun hw => mwf_mset hw _ _, id, fun _ _ => id, fun m hm => ?_, fun _ => id, fun _ => id⟩
  by_cases e : m = n
  · subst e
    rw [cq_modCq_same, hm, hf]
  · rw [cq_modCq_ne t f e, hm]

theorem modAq (h : Blanks x s t) {f g} : Blanks x s (t.modAq f g) := h.update

theorem eventAt (h : Blanks x s t) {n type sub object data time} : Blanks x s (t.eventAt n type sub object data time) := by
  obtain hk | ⟨hc, ho⟩ := eventAt_spec t n type sub object data time
  · exact h.kept hk
  have hwq : (t.eventAt n type sub object data time).qmg.wq = t.qmg.wq := by rw [ho.qmg]
  have hcq : (t.eventAt n type sub object data time).qmg.cq = t.qmg.cq := by rw [ho.qmg]
  refine h.trans ⟨fun h => ?_, fun h => ?_, ho.wf, fun q _ h => ?_, fun n h => ?_, fun m hm => ?_, fun q h => ?_⟩
  · rwa [hwq]
  · rwa [hcq]
  · unfold State.wq
    rwa [hwq]
  · unfold State.cq
    rwa [hcq]
  · rw [ho.other m fun e => ?_, hm]
    rw [← e, hm] at hc
    cases hc
  · unfold State.wq
    rwa [hwq]

theorem wqEvent (h : Blanks x s t) {q type sub data} : Blanks x s (t.wqEvent q type sub data) := h.eventAt

/-! ## Run lists and parked queues -/

theorem joinRun (h : Blanks x s t) {q} : Blanks x s (t.joinRun q) := by
  obtain ⟨_, e⟩ := t.joinRun_eq q
  rw [e]
  exact h.update

theorem leaveRun (h : Blanks x s t) {q} : Blanks x s (t.leaveRun q) := h.update

theorem unpark (h : Blanks x s t) {p} : Blanks x s (t.unpark p) := by
  obtain ⟨_, e⟩ := t.unpark_eq p
  rw [e]
  exact h.update

theorem cqRelease (h : Blanks x s t) {n} : Blanks x s (t.cqRelease n) := h.modCq.unpark.ite h

/-! ## Admin completions -/

theorem write (h : Blanks x s t) {a l} : Blanks x s (t.write a l) := h.of_queues rfl rfl rfl

theorem pmu_ (h : Blanks x s t) {e} : Blanks x s (t.pmu_ e) := h.kept KeepsQmg.refl.pmu_

theorem msix (h : Blanks x s t) {f v} : Blanks x s (t.msix f v) := h.kept KeepsQmg.refl.msix

theorem adminDrainAux (h : Blanks x s t) {f fuel} : Blanks x s (Machine.adminDrainAux f fuel t) := by
  induction fuel generalizing t with
  | zero => exact h
  | succ fuel ih =>
    unfold Machine.adminDrainAux
    extract_lets q k
    split
    · exact h
    split
    · exact h
    · exact ih (h.write.modAq.pmu_.msix.ite h.write.modAq.pmu_)

theorem adminDrain (h : Blanks x s t) {f} : Blanks x s (t.adminDrain f) := h.adminDrainAux

theorem adminCpl (h : Blanks x s t) {f c} : Blanks x s (t.adminCpl f c) := h.modAq.adminDrain.ite h

theorem whenProtected {now : State → State} (h : Blanks x s t) {a} (hnow : Blanks x s (now t)) : Blanks x s (t.whenProtected a now) :=
  h.update.ite hnow

theorem adminCplProt (h : Blanks x s t) {f c} : Blanks x s (t.adminCplProt f c) := h.whenProtected h.adminCpl

theorem adminEnd (h : Blanks x s t) {c status r0 r1} : Blanks x s (t.adminEnd c status r0 r1) := h.adminCpl

theorem wqEnd (h : Blanks x s t) {c q status r0 r1} : Blanks x s (t.wqEnd c q status r0 r1) := h.adminCplProt.ite h.adminEnd

theorem startB (h : Blanks x s t) {b} : Blanks x s (t.startB b) := h.update

theorem dropB (h : Blanks x s t) {p} : Blanks x s (t.dropB p) := h.update

theorem endBProt (h : Blanks x s t) {p status r0 r1} : Blanks x s (t.endBProt p status r0 r1) := by
  unfold State.endBProt
  split
  · exact h.dropB.adminCplProt
  · exact h

theorem recWq (h : Blanks x s t) {q} : Blanks x s (t.recWq q) := h.kept KeepsQmg.refl.recWq

theorem recWqHead (h : Blanks x s t) {q} : Blanks x s (t.recWqHead q) := h.kept KeepsQmg.refl.recWqHead

theorem recWqTail (h : Blanks x s t) {q} : Blanks x s (t.recWqTail q) := h.kept KeepsQmg.refl.recWqTail

/-! ## Requests -/

theorem targetWait (h : Blanks x s t) {r} : Blanks x s (t.targetWait r) := by
  unfold State.targetWait
  extract_lets n tgt s1
  obtain ⟨_, e⟩ := s1.enqueue_eq (.tctx n)
  rw [e]
  exact h.update

theorem transmit (h : Blanks x s t) {w n} : Blanks x s (t.transmit w n) := by
  unfold State.transmit
  extract_lets loc cell origin p k n e _ s1 c s2
  have h1 : Blanks x s s1 := h.kept (KeepsQmg.refl.update.noteFirst)
  have h2 : Blanks x s s2 := h1.ite (h1.kept ⟨rfl⟩)
  split
  · exact h2.targetWait
  split
  · exact h2.kept KeepsQmg.refl.injectPiste
  · exact h2.kept KeepsQmg.refl.inject

theorem mergedFill (h : Blanks x s t) {k w y} (hy : t.mergedFill k w = some y) : Blanks x s y.1 := by
  unfold State.mergedFill at hy
  extract_lets c inTime at hy
  split at hy
  · cases hy
  · cases hy
    exact (unpark h.update).kept KeepsQmg.refl.bump

theorem sendNow (h : Blanks x s t) {w n} : Blanks x s (t.sendNow w n) := by
  unfold State.sendNow
  split
  · split
    next heq => exact transmit ((h.mergedFill heq).kept KeepsQmg.refl.fresh)
    · exact h
  · exact transmit (h.kept KeepsQmg.refl.fresh)

theorem sendW (h : Blanks x s t) {w} : Blanks x s (t.sendW w) := by
  unfold State.sendW
  split
  · exact h.update
  split
  · exact h.sendNow
  · exact h.update

theorem cancelWaits (h : Blanks x s t) {q} : Blanks x s (t.cancelWaits q) := h.foldl fun _ _ h => sendW h.update

theorem freeRec (h : Blanks x s t) {n} : Blanks x s (t.freeRec n) := unpark h.update

theorem dropWaits (h : Blanks x s t) {q cancel} : Blanks x s (t.dropWaits q cancel) := by
  refine h.foldl fun t y h => ?_
  extract_lets u
  have hu : Blanks x s u := h.freeRec
  exact hu.sendW.ite hu

/-! ## Receives -/

theorem unpost (h : Blanks x s t) {q} : Blanks x s (t.unpost q) := h.update

theorem msgDiscard (h : Blanks x s t) {c} : Blanks x s (t.msgDiscard c) := h.update

/-- The receives withdrawn end no descriptor, either without a completion or for want of an issued entry. -/
theorem recvCancel (h : Blanks x s t) {q silent} (hq : silent = true ∨ (s.wq q).outst = []) : Blanks x s (t.recvCancel q silent) := by
  unfold State.recvCancel
  extract_lets mine s1 s2 s3
  have h2 : Blanks x s s2 := h.unpost.foldl fun _ _ h => h.msgDiscard
  refine Blanks.unpark (t := s3) ?_
  unfold s3
  split
  · exact h2
  next hs =>
    refine h2.foldl_mem fun t y hy h => ?_
    have hy : y.q = q := eq_of_beq (List.mem_filter.mp hy).2
    have hd : t.desc y.q y.cnt = none := by
      unfold State.desc
      rw [hy, h.outst q (hq.resolve_left hs)]
      rfl
    split
    next heq =>
      rw [hd] at heq
      cases heq
    · exact h

/-! ## A work queue's own changes (R171, R176) -/

theorem dropFetched (h : Blanks (some q) s t) : Blanks (some q) s (t.dropFetched q) := by
  unfold State.dropFetched
  extract_lets n s1 qmg s2
  have h2 : Blanks (some q) s s2 := leaveRun (update (h.modWq (f := fun w => { w with fetched := [], fetching := [], failed := [] })))
  exact h2.cqRelease.ite h2

theorem drainDone (h : Blanks (some q) s t) : Blanks (some q) s (t.drainDone q) := h.modWq.recWq.recWqTail.wqEvent.endBProt

theorem suspendNow (h : Blanks (some q) s t) : Blanks (some q) s (t.suspendNow q) := h.modWq.dropFetched.recWq.wqEvent

theorem cmdConfigWq (h : Blanks (some q) s t) {c} : Blanks (some q) s (t.cmdConfigWq c q) := by
  unfold State.cmdConfigWq
  extract_lets r w
  split
  · split
    · exact h.wqEnd
    · exact (h.modWq fun _ _ => rfl).recWq.recWqTail.recWqHead.wqEnd
  · exact h.wqEnd

theorem cmdEnableWq (h : Blanks (some q) s t) {c} : Blanks (some q) s (t.cmdEnableWq c q) := h.modWq.recWq.joinRun.wqEnd.ite h.wqEnd

theorem cmdResetWq (h : Blanks (some q) s t) {c} : Blanks (some q) s (t.cmdResetWq c q) := h.modWq.recWq.recWqTail.wqEnd.ite h.wqEnd

theorem cmdSuspendWq (h : Blanks (some q) s t) {c} : Blanks (some q) s (t.cmdSuspendWq c q) := h.suspendNow.wqEnd.ite h.wqEnd

theorem cmdResumeWq (h : Blanks (some q) s t) {c} : Blanks (some q) s (t.cmdResumeWq c q) := h.modWq.recWq.joinRun.wqEnd.ite h.wqEnd

theorem cmdSetShaper (h : Blanks (some q) s t) {c} : Blanks (some q) s (t.cmdSetShaper c q) :=
  h.wqEnd.ite (h.modWq.recWq.wqEnd.ite h.wqEnd)

section
variable (hq : (s.wq q).outst = [])
include hq

theorem disableNow (h : Blanks (some q) s t) : Blanks (some q) s (t.disableNow q) := by
  unfold State.disableNow
  extract_lets s1 s2
  have h2 : Blanks (some q) s s2 := (h.modWq.dropFetched.recvCancel (.inr hq)).cancelWaits.recWq
  exact h2.drainDone.ite h2

theorem cmdDisableWq (h : Blanks (some q) s t) {c} : Blanks (some q) s (t.cmdDisableWq c q) := (h.startB.disableNow hq).ite h.wqEnd

theorem wqAct (h : Blanks (some q) s t) {op c} : Blanks (some q) s (t.wqAct op c q) := by
  unfold State.wqAct
  split
  · exact h.cmdConfigWq
  · exact h.cmdEnableWq
  · exact h.cmdDisableWq hq
  · exact h.cmdResetWq
  · exact h.cmdSuspendWq
  · exact h.cmdResumeWq
  · exact h.adminEnd
  · exact h.cmdSetShaper

theorem runWaitCmds (h : Blanks (some q) s t) : Blanks (some q) s (t.runWaitCmds q) :=
  h.modWq.foldl fun _ _ h => (h.dropB.wqAct hq).ite (h.modAq.wqAct hq)

end

end Blanks

end
end Sys2Proof.Machine

/-! # The reset of a virtual function (R176) -/

namespace Sys2Proof.Machine

section
variable {s t : State} {f q n : Nat}

/-! ## One queue of the function -/

/-- A queue number that the table does not list has the record of a queue not configured. -/
theorem mgetD_eq_or_mem {α : Type} (m : AMap α) (k : Nat) (d : α) : mgetD m k d = d ∨ (k, mgetD m k d) ∈ m := by
  unfold mgetD
  cases h : mget m k with
  | none => exact .inl rfl
  | some v => exact .inr (mem_of_mget h)

/-- The record of work queue `q` taken out of its table. -/
def State.delWq (s : State) (q : Nat) : State := { s with qmg := { s.qmg with wq := mdel s.qmg.wq q } }

theorem delWq_wq_same (h : mwf s.qmg.wq) : (s.delWq q).wq q = {} := congrArg (Option.getD · ({} : WQ)) (mget_mdel_same h q)

theorem delWq_wq_ne (h : mwf s.qmg.wq) {j : Nat} (hj : j ≠ q) : (s.delWq q).wq j = s.wq j :=
  congrArg (Option.getD · ({} : WQ)) (mget_mdel_ne h hj)

/-- A work queue whose record goes may have been written in any way before. -/
theorem Blanks.delWq (h : Blanks (some q) s t) (hw : mwf s.qmg.wq) : Blanks none s (t.delWq q) := by
  have ht := h.wqWf hw
  have hq : ∀ j, (s.wq j).outst = [] → ((t.delWq q).wq j).outst = [] := fun j hj => by
    by_cases e : j = q
    · rw [e, delWq_wq_same ht]
    · rw [delWq_wq_ne ht e]
      exact h.outst j hj
  refine ⟨fun _ => mwf_mdel ht q, h.cqWf, h.eqWf, fun j _ hj => ?_, h.cq, h.eq, hq⟩
  by_cases e : j = q
  · rw [e]
    exact delWq_wq_same ht
  · rw [delWq_wq_ne ht e]
    exact h.wq j (fun e' => e (Option.some.inj e')) hj

/-- The FLR of a work queue leaves it without a record. -/
theorem flrWq_spec (hw : mwf s.qmg.wq) : Blanks none s (s.flrWq f q) ∧ (s.flrWq f q).wq q = {} := by
  unfold State.flrWq
  extract_lets s1 keep s2 qmg
  have h0 : Blanks (some q) s ((s.flushTags q).recvOrphan q) := Blanks.refl.of_queues rfl rfl rfl
  have h1 : Blanks (some q) s ((s1.dropFetched q).modWq q (fun _ => { waitCmds := keep })) :=
    (h0.recvCancel (.inl rfl)).dropWaits.dropFetched.modWq fun _ _ => rfl
  have h2 : Blanks (some q) s s2 :=
    h1.trans ((Blanks.refl.runWaitCmds (by rw [wq_modWq_same])).kept KeepsQmg.refl.pmuTagDrop)
  have hk : KeepsQmg (s2.delWq q) ((s2.delWq q).recWq q) := KeepsQmg.refl.recWq
  exact ⟨(h2.delWq hw).kept hk, (hk.wq_eq q).trans (delWq_wq_same (h2.wqWf hw))⟩

/-- The record of completion queue `n` taken out of its table. -/
def State.delCq (s : State) (n : Nat) : State := { s with qmg := { s.qmg with cq := mdel s.qmg.cq n } }

theorem delCq_spec (hw : mwf s.qmg.cq) : Blanks none s (s.delCq n) ∧ (s.delCq n).cq n = {} := by
  have hn : (s.delCq n).cq n = {} := congrArg (Option.getD · ({} : CQ)) (mget_mdel_same hw n)
  refine ⟨⟨id, fun _ => mwf_mdel hw n, id, fun _ _ => id, fun m hm => ?_, fun _ => id, fun _ => id⟩, hn⟩
  by_cases e : m = n
  · rw [e, hn]
  · exact (congrArg (Option.getD · ({} : CQ)) (mget_mdel_ne hw e)).trans hm

theorem flrCq_spec (hw : mwf s.qmg.cq) : Blanks none s (s.flrCq n) ∧ (s.flrCq n).cq n = {} := by
  have hk : KeepsQmg (s.delCq n) (s.flrCq n) := KeepsQmg.refl.recQctx.ite .refl
  obtain ⟨h, hn⟩ := delCq_spec (n := n) hw
  exact ⟨h.kept hk, (hk.cq_eq n).trans hn⟩

/-- The record of event queue `n` taken out of its table. -/
def State.delEq (s : State) (n : Nat) : State := { s with qmg := { s.qmg with eq := mdel s.qmg.eq n } }

theorem delEq_spec (hw : mwf s.qmg.eq) : Blanks none s (s.delEq n) ∧ (s.delEq n).eq n = {} := by
  have hn : (s.delEq n).eq n = {} := congrArg (Option.getD · ({} : EQ)) (mget_mdel_same hw n)
  refine ⟨⟨id, id, fun _ => mwf_mdel hw n, fun _ _ => id, fun _ => id, fun m hm => ?_, fun _ => id⟩, hn⟩
  by_cases e : m = n
  · rw [e, hn]
  · exact (congrArg (Option.getD · ({} : EQ)) (mget_mdel_ne hw e)).trans hm

theorem flrEq_spec (hw : mwf s.qmg.eq) : Blanks none s (s.flrEq n) ∧ (s.flrEq n).eq n = {} := by
  have hk : KeepsQmg (s.delEq n) (s.flrEq n) := KeepsQmg.refl.recQctx.ite .refl
  obtain ⟨h, hn⟩ := delEq_spec (n := n) hw
  exact ⟨h.kept hk, (hk.eq_eq n).trans hn⟩

/-! ## All queues of the function -/

/-- A fold that clears one queue after the other has cleared each: what is clear stays so. -/
theorem foldl_blanks {β : Type} {g : State → β → State} {W : State → Prop} {P : β → State → Prop}
    (hW : ∀ {s t}, Blanks none s t → W s → W t) (hg : ∀ t y, W t → Blanks none t (g t y) ∧ P y (g t y))
    (hP : ∀ {s t} y, Blanks none s t → P y s → P y t) :
    ∀ (l : List β) (s : State), W s → Blanks none s (l.foldl g s) ∧ ∀ y ∈ l, P y (l.foldl g s) := by
  intro l
  induction l with
  | nil => exact fun s _ => ⟨.refl, fun _ hy => absurd hy List.not_mem_nil⟩
  | cons z l ih =>
    intro s hs
    obtain ⟨hz, hpz⟩ := hg s z hs
    obtain ⟨hb, hp⟩ := ih (g s z) (hW hz hs)
    refine ⟨hz.trans hb, fun y hy => ?_⟩
    obtain rfl | hy := List.mem_cons.mp hy
    · exact hP y hb hpz
    · exact hp y hy

/-- The work queues of function `f` cleared. -/
def State.flrWqs (s : State) (f : Nat) : State := (s.qmg.wq.filter (fun kv => s.wqOwner kv.1 == f)).foldl (fun t kv => t.flrWq f kv.1) s

/-- The completion queues that function `f` has in `s`, cleared in `t`. -/
def State.flrCqs (s : State) (f : Nat) (t : State) : State :=
  (s.qmg.cq.filter (fun kv => s.cqOwner kv.1 == f)).foldl (fun t kv => t.flrCq kv.1) t

/-- The event queues that function `f` has in `s`, cleared in `t`. -/
def State.flrEqs (s : State) (f : Nat) (t : State) : State :=
  (s.qmg.eq.filter (fun kv => s.eqOwner kv.1 == f)).foldl (fun t kv => t.flrEq kv.1) t

/-- An FLR clears the function's queues, then its admin state, then its regions, and tells the owners (R176, R213, R431). -/
theorem flrVf_eq (s : State) (f : Nat) :
    s.flrVf f = (((s.flrEqs f (s.flrCqs f (s.flrWqs f))).flrAdmin f).flrRegions f).ownReset false f := rfl

theorem flrWqs_spec (hw : mwf s.qmg.wq) : Blanks none s (s.flrWqs f) ∧ ∀ q, s.wqOwner q = f → (s.flrWqs f).wq q = {} := by
  have hstep (t : State) (kv : Nat × WQ) (ht : mwf t.qmg.wq) : Blanks none t (t.flrWq f kv.1) ∧ (t.flrWq f kv.1).wq kv.1 = {} :=
    flrWq_spec ht
  obtain ⟨hb, hp⟩ := foldl_blanks (g := fun t (kv : Nat × WQ) => t.flrWq f kv.1) (W := fun t => mwf t.qmg.wq)
    (P := fun kv t => t.wq kv.1 = {}) (fun h => h.wqWf) hstep (fun kv h => h.wq kv.1 (Option.some_ne_none _))
    (s.qmg.wq.filter (fun kv => s.wqOwner kv.1 == f)) s hw
  refine ⟨hb, fun q hq => ?_⟩
  obtain h | h := mgetD_eq_or_mem s.qmg.wq q {}
  · exact hb.wq q (Option.some_ne_none _) h
  · exact hp _ (List.mem_filter.mpr ⟨h, beq_iff_eq.mpr hq⟩)

theorem flrCqs_spec (hw : mwf t.qmg.cq) (hst : ∀ n, s.cq n = {} → t.cq n = {}) :
    Blanks none t (s.flrCqs f t) ∧ ∀ n, s.cqOwner n = f → (s.flrCqs f t).cq n = {} := by
  obtain ⟨hb, hp⟩ := foldl_blanks (g := fun t kv => t.flrCq kv.1) (W := fun t => mwf t.qmg.cq) (P := fun kv t => t.cq kv.1 = {}) Blanks.cqWf
    (fun t kv ht => flrCq_spec ht) (fun kv h => h.cq kv.1) (s.qmg.cq.filter (fun kv => s.cqOwner kv.1 == f)) t hw
  refine ⟨hb, fun n hn => ?_⟩
  obtain h | h := mgetD_eq_or_mem s.qmg.cq n {}
  · exact hb.cq n (hst n h)
  · exact hp _ (List.mem_filter.mpr ⟨h, beq_iff_eq.mpr hn⟩)

theorem flrEqs_spec (hw : mwf t.qmg.eq) (hst : ∀ n, s.eq n = {} → t.eq n = {}) :
    Blanks none t (s.flrEqs f t) ∧ ∀ n, s.eqOwner n = f → (s.flrEqs f t).eq n = {} := by
  obtain ⟨hb, hp⟩ := foldl_blanks (g := fun t kv => t.flrEq kv.1) (W := fun t => mwf t.qmg.eq) (P := fun kv t => t.eq kv.1 = {}) Blanks.eqWf
    (fun t kv ht => flrEq_spec ht) (fun kv h => h.eq kv.1) (s.qmg.eq.filter (fun kv => s.eqOwner kv.1 == f)) t hw
  refine ⟨hb, fun n hn => ?_⟩
  obtain h | h := mgetD_eq_or_mem s.qmg.eq n {}
  · exact hb.eq n (hst n h)
  · exact hp _ (List.mem_filter.mpr ⟨h, beq_iff_eq.mpr hn⟩)

/-- The queues of the function stand without records once its admin state is cleared. -/
theorem flrQueues_spec (h1 : mwf s.qmg.wq) (h2 : mwf s.qmg.cq) (h3 : mwf s.qmg.eq) :
    let v := s.flrEqs f (s.flrCqs f (s.flrWqs f))
    (∀ q, s.wqOwner q = f → v.wq q = {}) ∧ (∀ n, s.cqOwner n = f → v.cq n = {}) ∧ (∀ n, s.eqOwner n = f → v.eq n = {}) := by
  obtain ⟨ha, hwq⟩ := flrWqs_spec (f := f) h1
  obtain ⟨hb, hcq⟩ := flrCqs_spec (s := s) (f := f) (ha.cqWf h2) ha.cq
  obtain ⟨hc, heq⟩ := flrEqs_spec (s := s) (f := f) ((ha.trans hb).eqWf h3) (ha.trans hb).eq
  exact ⟨fun q hq => (hb.trans hc).wq q (Option.some_ne_none _) (hwq q hq), fun n hn => hc.cq n (hcq n hn), heq⟩

end
end Sys2Proof.Machine

/-! # The host resets (R577, R578, R661) -/

namespace Sys2Proof.Machine

section
variable {s t u : State} {ks : List Nat}

theorem OnlyRegs.trans (h : OnlyRegs s t) (h' : OnlyRegs t u) : OnlyRegs s u := by
  obtain ⟨_, rfl⟩ := h
  obtain ⟨_, rfl⟩ := h'
  exact ⟨_, rfl⟩

theorem OnlyRegs.ite {a b : State} {c : Prop} {inst : Decidable c} (ha : OnlyRegs s a) (hb : OnlyRegs s b) : OnlyRegs s (if c then a else b) := by
  split
  · exact ha
  · exact hb

/-- Registers that a reset returns to their reset value are listed no more (R661). -/
theorem mget_resetRegs {p : Nat → Bool} {k : Nat} (hk : p k = true) : mget (s.resetRegs p).regs k = none := by
  cases hm : mget (s.resetRegs p).regs k with
  | none => rfl
  | some v =>
    have h := (List.mem_filter.mp (mem_of_mget hm)).2
    simp [hk] at h

/-- The tables that every reset of the device state clears (R577). -/
theorem clearTables_spec (s : State) : ∃ u, OnlyRegs u s.clearTables ∧ u.host = s.host ∧ u.hostMem = s.hostMem ∧ u.qmg = {} ∧
    u.tgt.regions = [] ∧ u.ini.tags = [] ∧ u.win.map = [] ∧ u.xlt.cache = [] ∧ u.col = [] ∧ u.lck = {} := by
  unfold State.clearTables
  extract_lets s0 s1 rte rst s2 s3
  have h3 : OnlyRegs s2 s3 := OnlyRegs.refl.ite OnlyRegs.refl.setFld.setFld
  exact ⟨s2, h3.setFld, rfl, rfl, rfl, rfl, rfl, rfl, rfl, rfl, rfl⟩

/-- The keys that stay written are written again for each channel that had a key (R664). -/
theorem foldl_keyed (l : List Nat) (hl : ∀ k ∈ l, RegName.HIF_MEMSTAT.addr k ∈ ks) : ∀ {t : State}, t.Inv →
    let u := l.foldl (fun t k => t.setFld .HIF_MEMSTAT_KEYED 1 k) t
    u.Inv ∧ OnlyRegs t u ∧ KeepsRegs t u ks := by
  induction l with
  | nil => exact fun h => ⟨h, .refl, .refl⟩
  | cons k l ih =>
    intro t h
    obtain ⟨hi, ho, hk⟩ := ih (fun j hj => hl j (List.mem_cons_of_mem _ hj)) (h.setFld (f := .HIF_MEMSTAT_KEYED) (v := 1) (i := k))
    exact ⟨hi, OnlyRegs.refl.setFld.trans ho, (KeepsRegs.refl.setFld h (hl k List.mem_cons_self)).trans hk⟩

/-- The ready bits that a host reset takes away (R578). -/
def State.readyOff (s : State) : State :=
  ((((s.setFld .GEN_READY_HIF 0).setFld .GEN_READY_CTXPOOL 0).setFld .GEN_READY_DSTATE 0).setFld .GEN_READY_NCC 0).setFld .GEN_READY_MIR 0

theorem State.Inv.readyOff (h : s.Inv) : s.readyOff.Inv := h.setFld.setFld.setFld.setFld.setFld

theorem readyOff_onlyRegs (s : State) : OnlyRegs s s.readyOff := OnlyRegs.refl.setFld.setFld.setFld.setFld.setFld

theorem readyOff_keepsRegs (h : s.Inv) : KeepsRegs s s.readyOff [RegName.GEN_READY.addr 0] :=
  have step {v : State} (hv : v.Inv) (hk : KeepsRegs s v [RegName.GEN_READY.addr 0]) {f : Fld} (hf : f.reg = .GEN_READY) :
      KeepsRegs s (v.setFld f 0) [RegName.GEN_READY.addr 0] := hk.setFld hv (by rw [hf]; exact List.mem_singleton_self _)
  step h.setFld.setFld.setFld.setFld (step h.setFld.setFld.setFld (step h.setFld.setFld (step h.setFld (step h .refl rfl) rfl) rfl) rfl) rfl

/-- Each of the bits stays 0 as the others are written. -/
theorem readyOff_flags (h : s.Inv) :
    s.readyOff.hif = false ∧ s.readyOff.ctxpool = false ∧ s.readyOff.dstate = false ∧ s.readyOff.ncc = false := by
  have h1 := h.setFld (f := .GEN_READY_HIF) (v := 0) (i := 0)
  have h2 := h1.setFld (f := .GEN_READY_CTXPOOL) (v := 0) (i := 0)
  have h3 := h2.setFld (f := .GEN_READY_DSTATE) (v := 0) (i := 0)
  have h4 := h3.setFld (f := .GEN_READY_NCC) (v := 0) (i := 0)
  have off {v : State} (hv : v.Inv) {f g : Fld} (h1 : f.lo + f.w ≤ 32) (h2 : g.reg = f.reg) (h3 : g.lo + g.w ≤ f.lo ∨ f.lo + f.w ≤ g.lo)
      (hg : v.flag g = false) : (v.setFld f 0).flag g = false := (flag_setFld_other hv 0 0 h1 h2 h3).trans hg
  refine ⟨?_, ?_, ?_, ?_⟩
  · exact off h4 (by decide) rfl (by decide) (off h3 (by decide) rfl (by decide) (off h2 (by decide) rfl (by decide)
      (off h1 (by decide) rfl (by decide) (flag_setFld_same h false 0 (by decide) (by decide)))))
  · exact off h4 (by decide) rfl (by decide) (off h3 (by decide) rfl (by decide) (off h2 (by decide) rfl (by decide)
      (flag_setFld_same h1 false 0 (by decide) (by decide))))
  · exact off h4 (by decide) rfl (by decide) (off h3 (by decide) rfl (by decide) (flag_setFld_same h2 false 0 (by decide) (by decide)))
  · exact off h4 (by decide) rfl (by decide) (flag_setFld_same h3 false 0 (by decide) (by decide))

end
end Sys2Proof.Machine

/-! # The rows of the host resets (R93, R176, R577, R578, R661) -/

namespace Sys2Proof.Machine

section
variable {s t : State}

/-- The registers that a host reset writes after it has returned the others to their reset values (R104, R578, R609, R664). -/
def hostResetKeys : List Nat :=
  [RegName.HIF_STATUS.addr 0, RegName.GEN_READY.addr 0, RegName.RST_CAUSE.addr 0] ++ (List.range 8).map (fun k => RegName.HIF_MEMSTAT.addr k)

theorem memstat_mem_hostResetKeys {k : Nat} (hk : k < 8) : RegName.HIF_MEMSTAT.addr k ∈ hostResetKeys :=
  List.mem_append_right _ (List.mem_map_of_mem (List.mem_range.mpr hk))

theorem linkstat_not_mem_hostResetKeys : RegName.HIF_LINKSTAT.addr 0 ∉ hostResetKeys := by decide

/-- A register of the domain that is written again is HIF_STATUS or a register of a channel's memory encryption. -/
theorem mem_hostResetKeys {k : Nat} (hk : k ∈ hostResetKeys) (hr : hostReg k = true) :
    k = RegName.HIF_STATUS.addr 0 ∨ ∃ i < 8, k = RegName.HIF_MEMSTAT.addr i := by
  simp only [hostResetKeys, List.mem_append, List.mem_cons, List.not_mem_nil, or_false, List.mem_map, List.mem_range] at hk
  obtain (rfl | rfl | rfl) | ⟨i, hi, rfl⟩ := hk
  · exact .inl rfl
  · exact absurd hr (by decide)
  · exact absurd hr (by decide)
  · exact .inr ⟨i, hi, rfl⟩

/-- The registers that a host reset writes: what the link keeps, the keyed channels, DMASTOP, the ready bits and the cause (R578). -/
def State.hostWrites (s : State) (link : Nat) (keyed : List Nat) (stop cause : Nat) : State :=
  ((keyed.foldl (fun t k => t.setFld .HIF_MEMSTAT_KEYED 1 k) (s.wrRaw .HIF_LINKSTAT 0 link)).setFld .HIF_STATUS_DMASTOP stop).readyOff.setCause
    cause

/-- A flag of GEN_READY outlasts the note of the reset's cause. -/
theorem flag_setCause_ready (hs : s.Inv) {cause : Nat} {f : Fld} (hf : f.reg = .GEN_READY) (h : s.flag f = false) :
    (s.setCause cause).flag f = false := by
  rw [← h]
  unfold State.flag State.fld State.setCause
  rw [hf, rdRaw_wrRaw_ne hs.regs _ (by decide)]

theorem hostWrites_spec (hs : s.Inv) {link : Nat} (hlink : link < 2 ^ 32) {keyed : List Nat} (hkeyed : ∀ k ∈ keyed, k < 8) (stop cause : Nat) :
    let u := s.hostWrites link keyed stop cause
    OnlyRegs s u ∧ u.rdRaw .RST_CAUSE = 2 ^ cause % 2 ^ 32 ∧ u.rdRaw .HIF_LINKSTAT = link ∧
      (u.hif = false ∧ u.ctxpool = false ∧ u.dstate = false ∧ u.ncc = false) ∧
      KeepsRegs s u (RegName.HIF_LINKSTAT.addr 0 :: hostResetKeys) := by
  have hi1 := hs.wrRaw (r := .HIF_LINKSTAT) (i := 0) (v := link)
  obtain ⟨hi2, ho2, hk2⟩ := foldl_keyed keyed (fun k hk => memstat_mem_hostResetKeys (hkeyed k hk)) hi1
  unfold State.hostWrites
  generalize keyed.foldl (fun t k => t.setFld .HIF_MEMSTAT_KEYED 1 k) (s.wrRaw .HIF_LINKSTAT 0 link) = s2 at *
  have hi3 := hi2.setFld (f := .HIF_STATUS_DMASTOP) (v := stop) (i := 0)
  have hi4 := hi3.readyOff
  obtain ⟨hhif, hctx, hdst, hncc⟩ := readyOff_flags hi3
  have hk3 := hk2.setFld (f := .HIF_STATUS_DMASTOP) (v := stop) (i := 0) hi2 (by decide)
  have hk4 := hk3.trans ((readyOff_keepsRegs hi3).mono (ls := hostResetKeys) (by decide))
  have hk5 := hk4.wrRaw (r := .RST_CAUSE) (i := 0) (v := 2 ^ cause) hi4 (by decide)
  have hl := rdRaw_of_keepsRegs hk5 linkstat_not_mem_hostResetKeys
  rw [rdRaw_wrRaw_same hs.regs, Nat.mod_eq_of_lt hlink] at hl
  have ho4 : OnlyRegs s (s2.setFld .HIF_STATUS_DMASTOP stop).readyOff := (OnlyRegs.refl.wrRaw.trans ho2).setFld.trans (readyOff_onlyRegs _)
  exact ⟨ho4.wrRaw, rdRaw_wrRaw_same hi4.regs _ _ _, hl,
    ⟨flag_setCause_ready hi4 rfl hhif, flag_setCause_ready hi4 rfl hctx, flag_setCause_ready hi4 rfl hdst, flag_setCause_ready hi4 rfl hncc⟩,
    KeepsRegs.trans (KeepsRegs.refl.wrRaw hs List.mem_cons_self) (hk5.mono fun _ => List.mem_cons_of_mem _)⟩

/-- What a host reset has done before the steward writes the boot values. -/
theorem hostReset_spec (hs : s.Inv) (cause : Nat) (flr : Bool) :
    ∃ v, s.hostReset cause flr = (if v.rst.steward then v.hostBoot else v) ∧ v.hostCleared ∧ v.rdRaw .RST_CAUSE = 2 ^ cause % 2 ^ 32 ∧
      v.rdRaw .HIF_LINKSTAT = s.rdRaw .HIF_LINKSTAT ∧ v.host.hdm = (if flr then s.host.hdm else [{}, {}, {}, {}]) ∧ v.host.dl = s.host.dl ∧
      KeepsMem s v := by
  obtain ⟨u, hu, hhost, hmem, hqmg, hrgn, htags, hmap, hcache, hcol, hlck⟩ := clearTables_spec s
  unfold State.hostReset
  extract_lets link keyed s1 s2 s3 s4 h rst s5
  have hi1 : s1.Inv := hs.clearTables.resetRegs
  have h4 := hostWrites_spec hi1 (rdRaw_lt s .HIF_LINKSTAT 0) (keyed := keyed)
    (fun k hk => List.mem_range.mp (List.mem_of_mem_filter hk)) (b2n s.flt.safe) cause
  have hs4 : s1.hostWrites link keyed (b2n s.flt.safe) cause = s4 := rfl
  dsimp only at h4
  rw [hs4] at h4
  clear_value s4
  obtain ⟨ho, hcause, hlink, ⟨hhif, hctx, hdst, hncc⟩, hk⟩ := h4
  have ho4 : OnlyRegs u s4 := (hu.trans (u := s1) ⟨_, rfl⟩).trans ho
  have hregs : ∀ k, hostReg k = true → k ≠ RegName.HIF_LINKSTAT.addr 0 → k ≠ RegName.HIF_STATUS.addr 0 →
      (∀ i, i < 8 → k ≠ RegName.HIF_MEMSTAT.addr i) → mget s4.regs k = none := by
    intro k hr hl hst hm
    refine (hk k fun hmem => ?_).trans (mget_resetRegs hr)
    obtain e | hmem := List.mem_cons.mp hmem
    · exact hl e
    obtain e | ⟨i, hi, e⟩ := mem_hostResetKeys hmem hr
    · exact hst e
    · exact hm i hi e
  refine ⟨s5, rfl, ?_⟩
  obtain ⟨r, rfl⟩ := ho4
  exact ⟨⟨hqmg, hrgn, htags, hmap, hcache, hcol, hlck, hhif, hdst, hctx, hncc, rfl, rfl, rfl, hregs⟩, hcause, hlink,
    congrArg (fun x : HostSt => if flr then x.hdm else [{}, {}, {}, {}]) hhost,
    (congrArg HostSt.dl hhost : u.host.dl = s.host.dl), .of_eq hmem⟩

/-! ## The rows -/

/-- A reset that no write pulse holds back takes effect (R586). -/
theorem resetReq_eq (h : s.rst.nvRow = none) (p : PendReset) : s.resetReq p = (s.doReset p).nvStart := by
  unfold State.resetReq
  rw [h]
  rfl

theorem hotReset_completes (hs : s.Inv) (hd : s.host.dl = true) (hn : s.rst.nvRow = none) :
    CompletesVia (fun v => (if v.rst.steward then v.hostBoot else v).nvStart.settle) .hotReset s (fun v => v.hostCleared ∧
      v.rdRaw .RST_CAUSE = 8 ∧ v.host.hdm = [{}, {}, {}, {}] ∧ v.rdRaw .HIF_LINKSTAT = s.rdRaw .HIF_LINKSTAT ∧ KeepsMem s v) := by
  obtain ⟨v, hv, hc, hcause, hlink, hhdm, -, hmem⟩ := hostReset_spec hs 3 false
  refine ⟨v, ?_, hc, hcause, hhdm, hlink, hmem⟩
  have he : exec .hotReset s = .next (s.resetReq .hot).settle := congrArg Host.Outcome.next (if_pos hd)
  rw [he, resetReq_eq hn]
  exact congrArg (fun t : State => Host.Outcome.next t.nvStart.settle) hv

/-- The state in which the link has left DL_Active, before the reset that follows (R105). -/
def State.linkDown (s : State) : State :=
  ((({ s with host := { s.host with dl := false } } : State).wrRaw .HIF_LINKSTAT 0 0).setFld .GEN_READY_HIF 0).setFld .HIF_FLT_LINKDN (b2n s.hif)

theorem dlDown_completes (hs : s.Inv) (hd : s.host.dl = true) (hn : s.rst.nvRow = none) :
    CompletesVia (fun v => ((if v.rst.steward then v.hostBoot else v).setFld .HIF_FLT_LINKDN (b2n s.hif)).nvStart.settle) .dlDown s
      (fun v => v.hostCleared ∧ v.rdRaw .RST_CAUSE = 8 ∧ v.host.dl = false ∧ v.rdRaw .HIF_LINKSTAT = 0 ∧ KeepsMem s v) := by
  have h0 : ({ s with host := { s.host with dl := false } } : State).Inv := hs.update
  have h1 := h0.wrRaw (r := .HIF_LINKSTAT) (i := 0) (v := 0)
  have h2 := h1.setFld (f := .GEN_READY_HIF) (v := 0) (i := 0)
  have hi : s.linkDown.Inv := h2.setFld
  have hlost : s.linkDown.fld .HIF_FLT_LINKDN = b2n s.hif := by
    refine (fld_setFld_same h2.regs _ _ _ (by decide)).trans (Nat.mod_eq_of_lt ?_)
    cases s.hif <;> decide
  have hzero : s.linkDown.rdRaw .HIF_LINKSTAT = 0 := by
    have hk : KeepsRegs _ s.linkDown [RegName.GEN_READY.addr 0, RegName.HIF_FLT.addr 0] :=
      (KeepsRegs.refl.setFld h1 (by decide)).setFld h2 (by decide)
    exact (rdRaw_of_keepsRegs hk (by decide)).trans (rdRaw_wrRaw_same h0.regs _ _ _)
  obtain ⟨v, hv, hc, hcause, hlink, -, hdl, hmem⟩ := hostReset_spec hi 3 false
  refine ⟨v, ?_, hc, hcause, hdl, hlink.trans hzero, hmem⟩
  have he : exec .dlDown s = .next (s.linkDown.resetReq .dl).settle := congrArg (Host.Outcome.next ∘ State.settle) (if_pos hd)
  rw [he, resetReq_eq (s := s.linkDown) hn, ← hlost]
  exact congrArg (fun t : State => Host.Outcome.next (t.setFld .HIF_FLT_LINKDN (s.linkDown.fld .HIF_FLT_LINKDN)).nvStart.settle) hv

/-- The CXL.mem accesses that wait, answered before the FLR of the PF (R577). -/
def State.cxlAnswered (s : State) : State :=
  (s.win.blk.flatMap (fun kv => kv.2.items)).foldl (fun t (i : WItem) =>
    i.mids.foldl (fun u m => if i.write then u.emit (.cxlDone m.1) else u.poison m.1) t) s

/-- The answers go out, and nothing else changes. -/
theorem cxlAnswered_eq (s : State) : ∃ o, s.cxlAnswered = { s with out := o } := by
  have sent (i : WItem) (l : List (Nat × Nat)) (t : State) : ∃ o,
      l.foldl (fun (u : State) m => if i.write then u.emit (.cxlDone m.1) else u.poison m.1) t = { t with out := o } := by
    cases i.write
    · exact emits_eq (fun m => .cxlData m.1 (zeros 64) true) l t
    · exact emits_eq (fun m => .cxlDone m.1) l t
  unfold State.cxlAnswered
  generalize s.win.blk.flatMap (fun kv => kv.2.items) = l
  induction l generalizing s with
  | nil => exact ⟨s.out, rfl⟩
  | cons i l ih =>
    obtain ⟨o, ho⟩ := sent i i.mids s
    obtain ⟨o', ho'⟩ := ih { s with out := o }
    rw [List.foldl_cons, ho]
    exact ⟨o', ho'⟩

theorem flrPf_completes (hs : s.Inv) (hd : s.host.dl = true) (hn : s.rst.nvRow = none) :
    CompletesVia (fun v => (if v.rst.steward then v.hostBoot else v).nvStart.settle) .flrPf s (fun v => v.hostCleared ∧
      v.rdRaw .RST_CAUSE = 16 ∧ v.host.hdm = s.host.hdm ∧ KeepsMem s v) := by
  obtain ⟨o, ho⟩ := cxlAnswered_eq s
  have hi : s.cxlAnswered.Inv := ho ▸ hs.update
  have hn' : s.cxlAnswered.rst.nvRow = none := ho ▸ hn
  obtain ⟨v, hv, hc, hcause, -, hhdm, -, hmem⟩ := hostReset_spec hi 4 true
  refine ⟨v, ?_, hc, hcause, hhdm.trans (by rw [ho]; rfl), KeepsMem.trans (.of_eq (by rw [ho])) hmem⟩
  have he : exec .flrPf s = .next (s.cxlAnswered.resetReq .flrPf).settle := congrArg (Host.Outcome.next ∘ State.settle) (if_pos hd)
  rw [he, resetReq_eq hn']
  exact congrArg (fun t : State => Host.Outcome.next t.nvStart.settle) hv

/-- The admin state of a function cleared leaves none of its registers, of its background commands, nor a change in a queue (R176). -/
theorem flrAdmin_spec (s : State) (f : Nat) :
    (∀ k, 2 ^ 22 * f ≤ k → k < 2 ^ 22 * (f + 1) → mget (s.flrAdmin f).regs k = none) ∧
      (∀ b ∈ (s.flrAdmin f).qmg.bcmds, b.func ≠ f) ∧
      (∀ q, (s.flrAdmin f).wq q = s.wq q) ∧ (∀ n, (s.flrAdmin f).cq n = s.cq n) ∧ (∀ n, (s.flrAdmin f).eq n = s.eq n) :=
  ⟨fun k h1 h2 => mget_resetRegs (s := s) (p := fun k => decide (2 ^ 22 * f ≤ k) && decide (k < 2 ^ 22 * (f + 1))) 
    (Bool.and_eq_true_iff.mpr ⟨decide_eq_true h1, decide_eq_true h2⟩),
    fun b hb => by simpa using (List.mem_filter.mp hb).2, fun _ => rfl, fun _ => rfl, fun _ => rfl⟩

theorem flrVf_completes (hd : s.host.dl = true) (hn : s.rst.nvRow = none) {f : Nat} (h0 : 0 < f) (hf : f ≤ s.host.vfs)
    (h1 : mwf s.qmg.wq) (h2 : mwf s.qmg.cq) (h3 : mwf s.qmg.eq) :
    CompletesVia (fun v => ((v.flrRegions f).ownReset false f).nvStart.settle) (.flrVf f) s (fun v =>
      (∀ k, 2 ^ 22 * f ≤ k → k < 2 ^ 22 * (f + 1) → mget v.regs k = none) ∧ (∀ q, s.wqOwner q = f → v.wq q = {}) ∧
      (∀ n, s.cqOwner n = f → v.cq n = {}) ∧ (∀ n, s.eqOwner n = f → v.eq n = {}) ∧ (∀ b ∈ v.qmg.bcmds, b.func ≠ f)) := by
  obtain ⟨hwq, hcq, heq⟩ := flrQueues_spec (f := f) h1 h2 h3
  obtain ⟨hregs, hb, ha⟩ := flrAdmin_spec (s.flrEqs f (s.flrCqs f (s.flrWqs f))) f
  refine ⟨_, ?_, hregs, fun q hq => (ha.1 q).trans (hwq q hq), fun n h => (ha.2.1 n).trans (hcq n h), fun n h => (ha.2.2 n).trans (heq n h), hb⟩
  have he : exec (.flrVf f) s = .next (s.resetReq (.flrVf f)).settle := congrArg Host.Outcome.next (if_pos ⟨hd, h0, hf⟩)
  rw [he, resetReq_eq hn]
  rfl

end

/-- Settles O23: a reset of the host domain clears its tables and registers before the steward boots, and an FLR of a virtual function
clears its queues one by one, none of which work for the others brings back. -/
theorem hostResetRowsComplete : Obligations.HostResetRowsComplete := by
  unfold Obligations.HostResetRowsComplete
  exact fun s hs hd hn => ⟨hotReset_completes hs hd hn, dlDown_completes hs hd hn, flrPf_completes hs hd hn,
    fun f h0 hf h1 h2 h3 => flrVf_completes hd hn h0 hf h1 h2 h3⟩

end Sys2Proof.Machine

/-! # Rejected accesses (R122, R136, R143)

A rejected access is logged and counted. `Logged s t` says that `t` is what `s` has become by that alone. -/

namespace Sys2Proof.Machine

/-- `t` is what `s` has become by rejected accesses: the access log, and what tells of them. -/
def Logged (s t : State) : Prop := KeepsRegs s t logKeys ∧ ∃ r h f, t = { s with regs := r, host := h, flt := f }

section
variable {s t u : State}

namespace Logged

theorem keepsRegs (h : Logged s t) : KeepsRegs s t logKeys := h.1

theorem keepsMem (h : Logged s t) : KeepsMem s t := by
  obtain ⟨-, _, _, _, rfl⟩ := h
  exact .of_eq rfl

theorem qmg_eq (h : Logged s t) : t.qmg = s.qmg := by
  obtain ⟨-, _, _, _, rfl⟩ := h
  rfl

theorem win_eq (h : Logged s t) : t.win = s.win := by
  obtain ⟨-, _, _, _, rfl⟩ := h
  rfl

theorem out_eq (h : Logged s t) : t.out = s.out := by
  obtain ⟨-, _, _, _, rfl⟩ := h
  rfl

theorem host (h : Logged s t) {x : HostSt} : Logged s { t with host := x } := by
  obtain ⟨hk, r, _, f, rfl⟩ := h
  exact ⟨hk, r, x, f, rfl⟩

theorem raise (h : Logged s t) {src code addr : Nat} : Logged s (t.raise src code addr) := by
  obtain ⟨m, e⟩ := t.raise_eq src code addr
  obtain ⟨hk, r, a, f, rfl⟩ := h
  rw [e]
  exact ⟨hk, r, a, _, rfl⟩

end Logged

theorem KeepsRegs.snap {ks : List Nat} {upd : State → State} (h : KeepsRegs s t ks) {seq : Fld} {i : Nat} (hm : seq.reg.addr i ∈ ks)
    (hi : (upd t).Inv) (hupd : KeepsRegs s (upd t) ks) : KeepsRegs s (t.snap seq i upd) ks := by
  unfold State.snap
  extract_lets key s1 s2
  have h2 : KeepsRegs s { s2 with host := { s2.host with snapAt := mset s2.host.snapAt key t.tick } } ks := hupd.setFld hi hm
  split
  · split
    · exact h
    · exact h2
  · exact h2

variable {kind func bar off : Nat} {write : Bool}

theorem State.Inv.accLog_keepsRegs (h : s.Inv) : KeepsRegs s (s.accLog kind write func bar off) logKeys := by
  have h0 : RegName.HIF_ACCLOG0.addr 0 ∈ logKeys := by decide
  have h1 : RegName.HIF_ACCLOG1.addr 0 ∈ logKeys := by decide
  have h2 : RegName.HIF_ACCLOG2.addr 0 ∈ logKeys := by decide
  unfold State.accLog
  extract_lets cnt s1
  have hc : cnt.reg.addr 0 ∈ logKeys := by unfold cnt; split <;> decide
  have hi : s1.Inv := h.bump
  have hs : KeepsRegs s s1 logKeys := KeepsRegs.refl.bump h hc
  clear_value s1
  refine hs.snap h0 hi.setFld.setFld.setFld.setFld.setFld.setFld ?_
  exact (((((hs.setFld hi h0).setFld hi.setFld h0).setFld hi.setFld.setFld h0).setFld hi.setFld.setFld.setFld h0).setFld
    hi.setFld.setFld.setFld.setFld h1).setFld hi.setFld.setFld.setFld.setFld.setFld h2

theorem State.accLog_eq (s : State) (kind : Nat) (write : Bool) (func bar off : Nat) :
    ∃ r a, s.accLog kind write func bar off = { s with regs := r, host := { s.host with snapAt := a } } := by
  unfold State.accLog
  exact snap_eq OnlyRegs.refl.setFld.setFld.setFld.setFld.setFld.setFld

theorem State.Inv.logged_accLog (h : s.Inv) : Logged s (s.accLog kind write func bar off) := by
  obtain ⟨r, a, e⟩ := s.accLog_eq kind write func bar off
  exact ⟨h.accLog_keepsRegs, r, _, s.flt, e⟩

theorem State.Inv.logged_busError (h : s.Inv) : Logged s (s.busError kind func bar off) := h.logged_accLog.host

theorem State.Inv.logged_lockViol (h : s.Inv) : Logged s (s.lockViol func off) := h.logged_accLog.raise

/-! ## Where an access falls (R129, R131) -/

/-- An alias of a register of the PF is the register. -/
theorem locAt_alias {r : RegName} {i o al : Nat} (hr : regAt o = some (r, i)) (ho : o < 0xE0000) : locAt 0 (al * 2 ^ 20 + o) = .reg r i al := by
  have h1 : (al * 2 ^ 20 + o) % 2 ^ 20 = o := by omega
  have h2 : (al * 2 ^ 20 + o) / 2 ^ 20 = al := by omega
  simp only [locAt, if_true, h1, h2, ho, hr]

theorem locAt_of_regAt {r : RegName} {i o : Nat} (hr : regAt o = some (r, i)) (ho : o < 0xE0000) : locAt 0 o = .reg r i 0 := by
  simpa only [Nat.zero_mul, Nat.zero_add] using locAt_alias (al := 0) hr ho

/-- The 4-byte word that an access of 4 bytes with every byte enabled addresses is enabled whole. -/
theorem be_of_word {a : RegAcc} (hs : a.size = 4) (hb : a.be = 15) (ho : a.off % 4 = 0) : RegAcc_be a (a.off / 4) = 15 := by
  have h : 4 * (a.off / 4) = a.off := by omega
  have hin (j : Nat) (hj : j < 4) : (decide (a.off ≤ a.off + j) && decide (a.off + j < a.off + 4) && bitAt 15 (a.off + j - a.off)) = bitAt 15 j := by
    rw [Nat.add_sub_cancel_left]
    simp [hj]
  unfold RegAcc_be
  rw [h, hs, hb]
  simp only [List.range, List.range.loop, List.foldl, hin 0 (by decide), hin 1 (by decide), hin 2 (by decide), hin 3 (by decide)]
  decide

/-- An aligned access of 4 bytes with every byte enabled addresses one word. -/
theorem words_of_word {a : RegAcc} (hs : a.size = 4) (hb : a.be = 15) (ho : a.off % 4 = 0) : RegAcc_words a = [a.off / 4] := by
  have h : (a.off + a.size - 1) / 4 + 1 - a.off / 4 = 1 := by omega
  simp only [RegAcc_words, h, numsFrom, List.filter_cons, be_of_word hs hb ho, List.filter_nil]
  rfl

end
end Sys2Proof.Machine

/-! # Writes of BAR0 and BAR2 that take effect, and writes that are dropped (R103, R129, R136, R138, R139, R289) -/

namespace Sys2Proof.Machine

section
variable {s t : State} {r : RegName} {i o al v : Nat}

/-! ## One 4-byte write -/

/-- A write of the PF to one whole word that is not reserved is applied to that word (R123). -/
theorem bar0Write_word0 (hh : s.hif = true) (ho : o % 4 = 0) (hl : locAt 0 o ≠ .rsvd) (hv : v < 2 ^ 32) :
    s.bar0Write (word0 o v) = s.wordWrite s 0 o v := by
  have hw : RegAcc_words (word0 o v) = [o / 4] := words_of_word rfl rfl ho
  have hb : RegAcc_be (word0 o v) (o / 4) = 15 := be_of_word rfl rfl ho
  have h4 : 4 * (o / 4) = o := by omega
  have hm : v % 4294967296 = v := Nat.mod_eq_of_lt hv
  unfold State.bar0Write
  rw [hw]
  unfold word0 at hb ⊢
  simp [hh, h4, hl, ho, hb, hm]

theorem exec_regWrite_of_regAt (hh : s.hif = true) (hr : regAt o = some (r, i)) (ho : o < 0xE0000) (h4 : o % 4 = 0) (hv : v < 2 ^ 32) :
    exec (.regWrite (word0 (al * 2 ^ 20 + o) v)) s = .next (s.regWrite 0 (al * 2 ^ 20 + o) r i al v) := by
  have hl : locAt 0 (al * 2 ^ 20 + o) = .reg r i al := locAt_alias hr ho
  have he : s.wordWrite s 0 (al * 2 ^ 20 + o) v = s.regWrite 0 (al * 2 ^ 20 + o) r i al v := by
    rw [State.wordWrite, hl]
    rfl
  exact congrArg Host.Outcome.next ((bar0Write_word0 hh (by omega) (by rw [hl]; nofun) hv).trans he)

/-- A write that a rule refuses is dropped and logged. -/
theorem State.Inv.logged_regWrite (h : s.Inv) (hr : s.refusesWrite al r i v) : Logged s (s.regWrite 0 o r i al v) := by
  have hf : s.rdF 0 r i = s.rdRaw r i := rfl
  unfold State.regWrite State.regWriteAt
  extract_lets old n
  split
  · exact h.logged_accLog
  next hheld =>
  split
  · exact h.logged_lockViol
  next hlock =>
  have hbad : s.badValue r i n = true := (hr.resolve_left hheld).resolve_left hlock
  rw [if_pos (by rw [hbad, Bool.or_true])]
  exact h.logged_accLog

/-! ## The backup registers -/

theorem regAt_bkp (hi : i < 16) : regAt (0xE040 + 4 * i) = some (.RST_BKP, i) := by
  have h : ∀ i < 16, regAt (0xE040 + 4 * i) = some (.RST_BKP, i) := by decide
  exact h i hi

/-- A backup register belongs to no block that can be held in reset. -/
theorem regHeld_bkp (hi : i < 16) : s.regHeld (RegName.RST_BKP.addr i) = false := by
  have h : ∀ i < 16, blockOfReg (RegName.RST_BKP.addr i) = none := by decide
  unfold State.regHeld
  rw [h i hi]

/-- A backup register is one RW field: through each alias it takes what R129 gives that field. -/
theorem regAfter_bkp {stuck old : Nat} (ho : old < 2 ^ 32) (hv : v < 2 ^ 32) :
    regAfter al .RST_BKP i stuck old v = fieldAfter al .rw (bits stuck 0 32) old v % 2 ^ 32 := by
  have hb {x : Nat} (hx : x < 2 ^ 32) : bits x 0 32 = x := Nat.mod_eq_of_lt hx
  have hp (x : Nat) : putBits old 0 32 x % 2 ^ 32 = x % 2 ^ 32 := bits_putBits_same old 0 32 x
  show putBits old 0 32 (fieldAfter al .rw (bits stuck 0 32) (bits old 0 32) (bits v 0 32)) % 2 ^ 32 = _
  rw [hp, hb ho, hb hv]

theorem regWrite_bkp (hi : i < 16) : s.regWrite 0 o .RST_BKP i al v =
    s.wrRaw .RST_BKP i (regAfter al .RST_BKP i 0 (s.rdRaw .RST_BKP i) v) := by
  have hact : s.badAct .RST_BKP al v = false := Bool.and_false _
  have hlock : s.lockedBits 0 .RST_BKP i = 0 := rfl
  unfold State.regWrite State.regWriteAt
  extract_lets old n
  rw [if_neg (by simp [regHeld_bkp hi]), if_neg (by simp [hlock]), hact]
  rfl

/-- A write to a backup register stores what the alias makes of its value and the written one, and nothing else. -/
theorem bkpWrite_completes (h : s.Inv) (hh : s.hif = true) (hi : i < 16) (hv : v < 2 ^ 32) {x : Nat}
    (hx : fieldAfter al .rw 0 (s.rdRaw .RST_BKP i) v = x) (hlt : x < 2 ^ 32) :
    Completes (.regWrite (word0 (al * 2 ^ 20 + (0xE040 + 4 * i)) v)) s (fun t =>
      t.rdRaw .RST_BKP i = x ∧ KeepsRegs s t [RegName.RST_BKP.addr i] ∧ KeepsMem s t) := by
  refine .of_next (exec_regWrite_of_regAt hh (regAt_bkp hi) (by omega) (by omega) hv) ?_
  rw [regWrite_bkp hi]
  refine ⟨?_, KeepsRegs.refl.wrRaw h (.head _), KeepsMem.refl.wrRaw⟩
  rw [rdRaw_wrRaw_same h.regs, regAfter_bkp (rdRaw_lt _ _ _) hv, Nat.mod_mod]
  exact (congrArg (· % 2 ^ 32) hx).trans (Nat.mod_eq_of_lt hlt)

end

/-- Settles O11: a backup register is one RW field of 32 bits in no block, so each alias's rule for a field is the register's. -/
theorem registerWriteByAlias : Obligations.RegisterWriteByAlias := by
  unfold Obligations.RegisterWriteByAlias
  intro s i v h hh hi hv
  have ho : s.rdRaw .RST_BKP i < 2 ^ 32 := rdRaw_lt _ _ _
  refine ⟨?_, ?_, ?_, ?_⟩
  · rw [show 0xE040 + 4 * i = 0 * 2 ^ 20 + (0xE040 + 4 * i) by omega]
    exact bkpWrite_completes h hh hi hv rfl hv
  · rw [show 0x10E040 + 4 * i = 1 * 2 ^ 20 + (0xE040 + 4 * i) by omega]
    exact bkpWrite_completes h hh hi hv rfl (Nat.or_lt_two_pow ho hv)
  · rw [show 0x20E040 + 4 * i = 2 * 2 ^ 20 + (0xE040 + 4 * i) by omega]
    exact bkpWrite_completes h hh hi hv rfl (Nat.lt_of_le_of_lt (Nat.sub_le _ _) ho)
  · rw [show 0x30E040 + 4 * i = 3 * 2 ^ 20 + (0xE040 + 4 * i) by omega]
    exact bkpWrite_completes h hh hi hv rfl (Nat.xor_lt_two_pow ho hv)

/-- Settles O12: whichever rule refuses the write, it is logged and nothing is written. -/
theorem refusedRegisterWriteIsDroppedWhole : Obligations.RefusedRegisterWriteIsDroppedWhole := by
  unfold Obligations.RefusedRegisterWriteIsDroppedWhole
  intro s r off i al v h hh hr ho h4 _ hv hw
  have hl : Logged s (s.regWrite 0 (al * 2 ^ 20 + off) r i al v) := h.logged_regWrite hw
  exact .of_next (exec_regWrite_of_regAt hh hr ho h4 hv) ⟨hl.keepsRegs, hl.keepsMem, hl.qmg_eq, hl.win_eq⟩

/-- Settles O2: the write reaches the register of a disabled window, which locks nothing, and fails the check. -/
theorem windowEnableDroppedUnlessItsCheckPasses : Obligations.WindowEnableDroppedUnlessItsCheckPasses := by
  unfold Obligations.WindowEnableDroppedUnlessItsCheckPasses
  intro s d g ⟨hh, hr⟩ hd hbad
  have hw : s.windowEnable d g = s.accLog 4 true 0 0 (RegName.GWN_WCFG.addr d) := by
    unfold State.windowEnable
    rw [hd, if_neg (by simp), if_pos (by simpa [or_assoc] using hbad)]
  show Host.Outcome.next (s.regRow .GWN_WCFG d _) = _
  simp [State.regRow, hh, hr, hw]

section
variable {s : State}

/-! ## While GEN_READY.HIF is 0 (R103, R122) -/

theorem State.Inv.logged_bar0Write (h : s.Inv) (hh : s.hif = false) {a : RegAcc} (hf : s.funcOn a.func) : Logged s (s.bar0Write a) := by
  have hon : ¬ (a.func ≠ 0 ∧ s.host.vfs < a.func) := fun ⟨h0, hlt⟩ => hf.elim h0 (Nat.not_le_of_lt hlt)
  unfold State.bar0Write
  rw [if_neg hon, if_pos (by rw [hh]; rfl)]
  exact h.logged_busError

theorem State.Inv.logged_bar2Write (h : s.Inv) (hh : s.hif = false) {w : Bar2Write} (hf : s.funcOn w.func) : Logged s (s.bar2Write w) := by
  have hon : ¬ (w.func ≠ 0 ∧ s.host.vfs < w.func) := fun ⟨h0, hlt⟩ => hf.elim h0 (Nat.not_le_of_lt hlt)
  unfold State.bar2Write
  rw [if_neg hon, if_pos (by rw [hh]; rfl)]
  exact h.logged_busError

theorem State.Inv.logged_regRow (h : s.Inv) (hh : s.hif = false) {r : RegName} {i : Nat} {op : State → State} :
    Logged s (s.regRow r i op) := by
  unfold State.regRow
  rw [if_pos (by rw [hh]; rfl)]
  exact h.logged_busError

theorem completes_of_logged {c : Instr} {t : State} (e : exec c s = .next t) (h : Logged s t) :
    Completes c s (fun t => KeepsRegs s t logKeys ∧ KeepsMem s t ∧ t.qmg = s.qmg) :=
  .of_next e ⟨h.keepsRegs, h.keepsMem, h.qmg_eq⟩

end

/-- Settles O13: each row asks GEN_READY.HIF first, and answers a bus error while it is 0. -/
theorem hostInterfaceNotReadyRefusesWrites : Obligations.HostInterfaceNotReadyRefusesWrites := by
  unfold Obligations.HostInterfaceNotReadyRefusesWrites
  intro s h hh
  refine ⟨fun a hf => completes_of_logged rfl (h.logged_bar0Write hh hf), fun w hf => completes_of_logged rfl (h.logged_bar2Write hh hf), fun p c hc => ?_⟩
  have hrow {r : RegName} {i : Nat} {op : State → State} (e : exec c s = .next (s.regRow r i op)) := completes_of_logged e (h.logged_regRow hh)
  simp only [List.mem_cons, List.not_mem_nil, or_false] at hc
  rcases hc with rfl | rfl | rfl | rfl | rfl | rfl | rfl | rfl <;> exact hrow rfl

end Sys2Proof.Machine

/-! # The CXL mailbox and CDAT (R100, R101, R117, R119, R553) -/

namespace Sys2Proof.Machine

/-- After an answer of the mailbox comes its interrupt, where `s` enables it (R119). -/
def State.mailSignal (s t : State) : State := if s.host.mailIrq then t.msix 0 2 else t

section
variable {s : State}

/-- While GEN_READY.HIF is 1 an access to the mailbox is answered, and a command leaves the interrupt enable as it was. -/
theorem mailbox_of_hif (hh : s.hif = true) {go : State → State} (hi : (go s).host.mailIrq = s.host.mailIrq) :
    s.mailbox go = s.mailSignal (go s) := by
  rw [State.mailbox, if_pos hh]
  dsimp only
  rw [hi]
  rfl

/-- A mailbox command that leaves the interrupt enable completes with its answer and the interrupt. -/
theorem mailbox_completes (hh : s.hif = true) {c : Instr} {go : State → State} (e : exec c s = .next (s.mailbox go))
    (hi : (go s).host.mailIrq = s.host.mailIrq) : exec c s = .next (s.mailSignal (go s)) :=
  e.trans (congrArg Host.Outcome.next (mailbox_of_hif hh hi))

/-- A mailbox command whose payload the CXL specification fixes. -/
theorem mailOpen_completes (hh : s.hif = true) {c : Instr} {what : Nat} (e : exec c s = .next (s.mailbox (fun t => t.mailOpen what))) :
    ∃ l, exec c s = .next (s.mailSignal { s with out := s.out ++ [.cxlMail .success l], free := s.free + 1 }) :=
  ⟨_, mailbox_completes hh e rfl⟩

theorem cxlIdentifyMemoryDevice_completes (hh : s.hif = true) : ∃ l, exec .cxlIdentifyMemoryDevice s =
    .next (s.mailSignal { s with out := s.out ++ [.cxlIdentity s.host.winCap l], free := s.free + 1 }) :=
  ⟨_, mailbox_completes (go := fun t => t.fresh.2.emit (.cxlIdentity t.host.winCap (Config.cxlPayload 0 t.free))) hh rfl rfl⟩

theorem cxlGetLog_completes (hh : s.hif = true) (uuid offset n : Nat) : ∃ c l, exec (.cxlGetLog uuid offset n) s =
    .next (s.mailSignal { s with out := s.out ++ [.cxlMail c l], free := s.free + 1 }) ∧ l.length ≤ n :=
  ⟨.open_ (Config.cxlCode uuid s.free), ((Config.cxlPayload 2 s.free).drop offset).take n, mailbox_completes (go := fun t => t.fresh.2.emit
    (.cxlMail (.open_ (Config.cxlCode uuid t.free)) (((Config.cxlPayload 2 t.free).drop offset).take n))) hh rfl rfl, List.length_take_le _ _⟩

theorem cxlClearEventRecords_completes (hh : s.hif = true) (hw : mwf s.host.cxlEvents) (k : Nat) (hs : List Nat) :
    CompletesVia s.mailSignal (.cxlClearEventRecords k hs) s (fun t => t.out = s.out ++ [.cxlMail .success []] ∧
      (∀ h ∈ hs, h ∉ mgetD t.host.cxlEvents k []) ∧ t.regs = s.regs ∧ KeepsMem s t) := by
  refine ⟨_, mailbox_completes hh rfl rfl, rfl, fun h hm => ?_, rfl, .of_eq rfl⟩
  show h ∉ mgetD (if (mgetD s.host.cxlEvents k []).filter (fun h => !hs.contains h) = [] then mdel s.host.cxlEvents k
    else mset s.host.cxlEvents k ((mgetD s.host.cxlEvents k []).filter (fun h => !hs.contains h))) k []
  split
  · rw [mgetD, mget_mdel_same hw]
    exact List.not_mem_nil
  · rw [mgetD, mget_mset_same]
    intro hf
    simpa [hm] using (List.mem_filter.mp hf).2

theorem cxlSetTimestamp_of_not_grandmaster (hh : s.hif = true) (hg : s.timeSelect.flag .TIM_STAT_GM = false) (v : Nat) :
    exec (.cxlSetTimestamp v) s = .next (s.mailSignal { s with out := s.out ++ [.cxlMail .success []] }) := by
  have hgo : (if s.timeSelect.flag .TIM_STAT_GM then s.timeSelect.stepTime v else s) = s := by rw [hg, if_neg Bool.false_ne_true]
  refine (mailbox_completes hh rfl ?_).trans ?_
  · dsimp only
    rw [hgo]
    rfl
  · dsimp only
    rw [hgo]
    rfl

end

/-- Settles O17: each command's answer, sent while GEN_READY.HIF is 1. -/
theorem mailboxRowsAnswer : Obligations.MailboxRowsAnswer := by
  unfold Obligations.MailboxRowsAnswer
  intro s hh irq
  exact ⟨cxlIdentifyMemoryDevice_completes hh, mailOpen_completes (what := 1) hh rfl,
    cxlGetLog_completes hh, fun k => mailOpen_completes (what := 16 + k) hh rfl,
    fun k hs hw => cxlClearEventRecords_completes hh hw k hs, mailOpen_completes (what := 4) hh rfl,
    mailbox_completes (go := fun t => t.emit (.cxlMail .success (leBytes 8 t.now))) hh rfl rfl,
    fun v hg => cxlSetTimestamp_of_not_grandmaster hh hg v,
    fun o => mailbox_completes (go := fun t => t.emit (.cxlMail .unsupported [])) hh rfl rfl,
    fun h hd => ⟨_, congrArg Host.Outcome.next (if_pos hd)⟩⟩

/-! # The host's link and configuration (R102 to R104, R110, R118, R121, R578) -/

section
variable {s : State}

/-- The link of an awake device has come up at 16 or 32 GT/s: HIF_LINKSTAT tells how. -/
def State.linked (s : State) (rate width : Nat) (mem : Bool) : State :=
  ({ s with host := { s.host with dl := true } } : State).wrRaw .HIF_LINKSTAT 0
    (rate + 2 ^ 3 * width + 2 ^ 8 * width + 2 ^ 14 * b2n mem + 2 ^ 15 * b2n (decide (width < 4)))

/-- A host reset that was in progress has ended, and GEN_READY.HIF is 1 (R578). -/
def State.hostReady (s : State) : State := ({ s with rst := { s.rst with hostReset := false } } : State).setFld .GEN_READY_HIF 1

theorem hostReady_hif (h : s.Inv) : s.hostReady.hif = true :=
  flag_setFld_same (s := { s with rst := { s.rst with hostReset := false } }) h true 0 (by decide) (by decide)

theorem KeepsRegs.hostReady {t : State} {ks : List Nat} (h : KeepsRegs s t ks) (ht : t.Inv) (hm : RegName.GEN_READY.addr 0 ∈ ks) :
    KeepsRegs s t.hostReady ks := h.update.setFld ht.update hm

theorem KeepsMem.hostReady {t : State} (h : KeepsMem s t) : KeepsMem s t.hostReady := h.update.setFld

section
variable {rate width : Nat} {mem : Bool}

theorem State.Inv.linked (h : s.Inv) : (s.linked rate width mem).Inv := h.update.wrRaw

theorem linked_keepsRegs (h : s.Inv) : KeepsRegs s (s.linked rate width mem) [RegName.HIF_LINKSTAT.addr 0] :=
  KeepsRegs.refl.update.wrRaw h.update (.head _)

theorem linked_keepsMem : KeepsMem s (s.linked rate width mem) := KeepsMem.refl.update.wrRaw

theorem linked_bootDone (h : s.Inv) : (s.linked rate width mem).bootDone = s.bootDone := by
  unfold State.bootDone
  rw [fld_of_keepsRegs (linked_keepsRegs h) (by decide)]
  rfl

theorem linked_linkstat (h : s.Inv) (hr : rate < 8) (hw : width < 32) :
    (s.linked rate width mem).fld .HIF_LINKSTAT_RATE = rate ∧ (s.linked rate width mem).fld .HIF_LINKSTAT_WIDTH = width := by
  have hb (b : Bool) : b2n b ≤ 1 := by cases b <;> decide
  have h1 := hb mem
  have h2 := hb (decide (width < 4))
  have hv : (s.linked rate width mem).rdRaw .HIF_LINKSTAT 0 = _ := rdRaw_wrRaw_same h.update.regs _ _ _
  constructor
  · show bits ((s.linked rate width mem).rdRaw .HIF_LINKSTAT 0) 0 3 = rate
    rw [hv, bits, Nat.shiftRight_eq_div_pow]
    omega
  · show bits ((s.linked rate width mem).rdRaw .HIF_LINKSTAT 0) 3 5 = width
    rw [hv, bits, Nat.shiftRight_eq_div_pow]
    omega

/-- HOST_LINK_UP on an awake device whose link is down, at a rate that STRAP1 does not limit (R103, R650). -/
theorem hostLinkUp_eq (ha : s.awake = true) (hp : s.rst.pcieOff = false) (hd : s.host.dl = false) (h4 : 4 ≤ rate) (h5 : rate ≤ 5)
    (hw : width ∈ [1, 2, 4, 8, 16]) (flit : Bool) : s.hostLinkUp rate width flit mem =
      if width < 4 then (s.linked rate width mem).latch .HIF_FLT_BELOWMIN
      else if (s.linked rate width mem).bootDone then (s.linked rate width mem).hostReady else s.linked rate width mem := by
  have hm : min rate (if bitAt s.rst.straps 1 then 5 else 6) = rate := by
    split <;> omega
  have h0 : ¬ (!s.awake || s.rst.pcieOff || s.host.dl || rate == 0 || !([1, 2, 4, 8, 16] : List Nat).contains width) = true := by
    have hc : ([1, 2, 4, 8, 16] : List Nat).contains width = true := List.contains_iff_mem.mpr hw
    have hr : (rate == 0) = false := beq_eq_false_iff_ne.mpr (by omega)
    rw [ha, hp, hd, hr, hc]
    decide
  have hl : (decide (rate < 4) || decide (width < 4)) = decide (width < 4) := by
    rw [decide_eq_false (by omega : ¬ rate < 4), Bool.false_or]
  have hf : (flit && rate == 6) = false := by rw [beq_eq_false_iff_ne.mpr (by omega), Bool.and_false]
  unfold State.hostLinkUp
  rw [if_neg h0]
  simp only [hm, hl, hf]
  by_cases hlow : width < 4
  · simp [hlow, State.linked, b2n]
  · simp [hlow, State.linked, b2n, State.hostReady]

/-- A link that meets the minimum makes the host interface ready (R103). -/
theorem hostLinkUp_completes (h : s.Inv) (ha : s.awake = true) (hp : s.rst.pcieOff = false) (hd : s.host.dl = false) (h4 : 4 ≤ rate)
    (h5 : rate ≤ 5) (hw : width ∈ [4, 8, 16]) (hb : s.bootDone = true) (flit : Bool) :
    Completes (.hostLinkUp rate width flit mem) s (fun t => t.host.dl = true ∧ t.hif = true ∧ t.fld .HIF_LINKSTAT_RATE = rate ∧
      t.fld .HIF_LINKSTAT_WIDTH = width ∧ KeepsRegs s t [RegName.HIF_LINKSTAT.addr 0, RegName.GEN_READY.addr 0] ∧ KeepsMem s t) := by
  have hlow : 4 ≤ width ∧ width ≤ 16 := by
    simp only [List.mem_cons, List.not_mem_nil, or_false] at hw
    omega
  have he : s.hostLinkUp rate width flit mem = (s.linked rate width mem).hostReady := by
    rw [hostLinkUp_eq ha hp hd h4 h5 (.tail _ (.tail _ hw)), if_neg (by omega), linked_bootDone h, if_pos hb]
  have hi : (s.linked rate width mem).Inv := h.linked
  have hk : KeepsRegs (s.linked rate width mem) (s.linked rate width mem).hostReady [RegName.GEN_READY.addr 0] :=
    KeepsRegs.refl.hostReady hi (.head _)
  obtain ⟨hrate, hwidth⟩ := linked_linkstat (mem := mem) h (rate := rate) (width := width) (by omega) (by omega)
  refine ⟨_, congrArg Host.Outcome.next he, rfl, hostReady_hif hi, ?_, ?_, ?_, linked_keepsMem.hostReady⟩
  · rw [fld_of_keepsRegs hk (by decide), hrate]
  · rw [fld_of_keepsRegs hk (by decide), hwidth]
  · exact ((linked_keepsRegs h).mono (by simp)).hostReady hi (.tail _ (.head _))

/-- A link below the minimum latches BELOWMIN, and leaves the host interface as it was (R103). -/
theorem hostLinkUp_belowMin (h : s.Inv) (ha : s.awake = true) (hp : s.rst.pcieOff = false) (hd : s.host.dl = false) (hw : width ∈ [1, 2])
    (flit : Bool) : Completes (.hostLinkUp 5 width flit mem) s (fun t => t.host.dl = true ∧ t.hif = s.hif ∧
      t.flag .HIF_FLT_BELOWMIN = true) := by
  have hlow : width < 4 ∧ width ∈ [1, 2, 4, 8, 16] := by
    simp only [List.mem_cons, List.not_mem_nil, or_false] at hw ⊢
    omega
  have he : s.hostLinkUp 5 width flit mem = (s.linked 5 width mem).latch .HIF_FLT_BELOWMIN := by
    rw [hostLinkUp_eq ha hp hd (by decide) (by decide) hlow.2, if_pos hlow.1]
  have hi : (s.linked 5 width mem).Inv := h.linked
  refine ⟨_, congrArg Host.Outcome.next he, rfl, ?_, flag_latch_same hi.regs _ 0 (by decide) (by decide)⟩
  exact (flag_setFld_ne hi 1 (by decide)).trans (flag_of_keepsRegs (linked_keepsRegs h) (by decide))

end

theorem hostResetComplete_completes (h : s.Inv) (hr : s.rst.hostReset = true) (hd : s.host.dl = true) (hl : s.linkOk = true)
    (hb : s.bootDone = true) : Completes .hostResetComplete s (fun t => t.hif = true ∧ t.rst.hostReset = false ∧
      KeepsRegs s t [RegName.GEN_READY.addr 0] ∧ KeepsMem s t) :=
  ⟨s.hostReady, congrArg Host.Outcome.next (if_pos (by rw [hr, hd, hl, hb]; rfl)), hostReady_hif h, rfl,
    KeepsRegs.refl.hostReady h (.head _), KeepsMem.refl.hostReady⟩

/-- A change of the active width leaves the rate and GEN_READY as they were (R104). -/
theorem l0pWidthChange_completes (h : s.Inv) (hd : s.host.dl = true) {w : Nat} (hw : w ∈ [4, 8, 16]) (hle : w ≤ s.fld .HIF_LINKSTAT_WIDTH) :
    Completes (.l0pWidthChange w) s (fun t => t.fld .HIF_LINKSTAT_ACTW = w ∧ t.hif = s.hif ∧
      KeepsRegs s t [RegName.HIF_LINKSTAT.addr 0] ∧ KeepsMem s t) := by
  have hlt : w < 2 ^ 5 := Nat.lt_of_le_of_lt hle (bits_lt _ _ _)
  have hc : (s.host.dl && ([4, 8, 16] : List Nat).contains w && decide (w ≤ s.fld .HIF_LINKSTAT_WIDTH)) = true := by
    rw [hd, List.contains_iff_mem.mpr hw, decide_eq_true hle]
    rfl
  exact ⟨s.setFld .HIF_LINKSTAT_ACTW w, congrArg Host.Outcome.next (if_pos hc),
    (fld_setFld_same h.regs _ w 0 (by decide)).trans (Nat.mod_eq_of_lt hlt), flag_setFld_ne h w (by decide),
    KeepsRegs.refl.setFld h (.head _), KeepsMem.refl.setFld⟩

theorem getElem?_setAt {α : Type} {x : α} {l : List α} {i : Nat} (h : i < l.length) : (setAt l i x)[i]? = some x := by
  induction l generalizing i with
  | nil => exact absurd h (Nat.not_lt_zero i)
  | cons y l ih =>
    cases i with
    | zero => rfl
    | succ i => exact ih (Nat.lt_of_succ_lt_succ h)

/-- Decoder `d`, which holds `h`, after an attempt to commit it (R118). -/
def State.hdmAfter (s : State) (d base size ways : Nat) (h : Hdm) : Hdm :=
  if (s.host.hdm.take d).all (fun x => x.committed) && size % 2 ^ 28 == 0 && ways == 1 &&
      decide (((s.host.hdm.take d).map (fun x => x.size)).sum + size ≤ s.host.winCap)
    then { committed := true, err := false, base := base, size := size } else { h with err := true }

/-- A decoder commits after the lower ones, in whole units of 256 MiB, without interleave and within the capacity; else it shows the error
(R118). -/
theorem hdmDecoderCommit_completes (hh : s.hif = true) {d : Nat} {h : Hdm} (hd : s.host.hdm[d]? = some h) (hc : h.committed = false)
    (base size ways : Nat) : Completes (.hdmDecoderCommit d base size ways) s (fun t =>
      (if (s.host.hdm.take d).all (fun x => x.committed) = true ∧ size % 2 ^ 28 = 0 ∧ ways = 1 ∧
          ((s.host.hdm.take d).map (fun x => x.size)).sum + size ≤ s.host.winCap
        then t.host.hdm[d]? = some { committed := true, err := false, base := base, size := size }
        else t.host.hdm[d]? = some { h with err := true }) ∧ t.regs = s.regs ∧ KeepsMem s t) := by
  have hlt : d < s.host.hdm.length := (List.getElem?_eq_some_iff.mp hd).1
  have he : s.hdmCommit d base size ways = { s with host := { s.host with hdm := setAt s.host.hdm d (s.hdmAfter d base size ways h) } } := by
    unfold State.hdmCommit
    rw [hh, hd]
    show (if h.committed then s else _) = _
    rw [hc]
    rfl
  refine ⟨_, congrArg Host.Outcome.next he, ?_, rfl, .of_eq rfl⟩
  dsimp only
  rw [getElem?_setAt hlt, State.hdmAfter]
  split
  next hok => rw [if_pos (by simpa [and_assoc] using hok)]
  next hbad => rw [if_neg (by simpa [and_assoc] using hbad)]

theorem msixUnmask_completes (hd : s.host.dl = true) (hh : s.hif = true) (f v : Nat) :
    CompletesVia State.msixFlush (.msixUnmask f v) s (fun u => (mget u.host.msixOpen (vecKey f v)).isSome = true ∧
      u.regs = s.regs ∧ KeepsMem s u) := by
  refine ⟨{ s with host := { s.host with msixOpen := mset s.host.msixOpen (vecKey f v) () } }, ?_, ?_, rfl, .of_eq rfl⟩
  · exact congrArg Host.Outcome.next ((if_neg (by simp [hd])).trans (if_neg (by simp [hh])))
  · exact Option.isSome_iff_exists.mpr ⟨(), mget_mset_same _ _ _⟩

theorem atomicOpEnable_completes (h : s.Inv) (hd : s.host.dl = true) (on : Bool) :
    Completes (.configurationWrite (.atomicOpEnable on)) s (fun t => t.host.atomicOp = on ∧ t.flag .HIF_STATUS_ATOMEN = on ∧
      KeepsRegs s t [RegName.HIF_STATUS.addr 0] ∧ KeepsMem s t) :=
  ⟨_, congrArg Host.Outcome.next (if_pos hd), rfl,
    flag_setFld_same (s := { s with host := { s.host with atomicOp := on } }) h on 0 (by decide) (by decide),
    KeepsRegs.refl.update.setFld h.update (.head _), KeepsMem.refl.update.setFld⟩

theorem vfEnable_completes (h : s.Inv) (hd : s.host.dl = true) (hv : s.host.vfs = 0) {n : Nat} (h0 : 0 < n) (hn : n < 64) :
    Completes (.vfEnable n) s (fun t => t.host.vfs = n ∧ t.fld .HIF_STATUS_NUMVF = n ∧ t.flag .HIF_STATUS_VFEN = true ∧
      KeepsRegs s t [RegName.HIF_STATUS.addr 0] ∧ KeepsMem s t) := by
  have hi : ({ s with host := { s.host with vfs := n } } : State).Inv := h.update
  refine ⟨_, congrArg Host.Outcome.next (if_pos (by rw [hd, hv, decide_eq_true h0, decide_eq_true hn]; rfl)), rfl, ?_,
    flag_latch_same hi.setFld.regs _ 0 (by decide) (by decide), ?_, KeepsMem.refl.update.setFld.setFld⟩
  · rw [fld_setFld_other (f := .HIF_STATUS_VFEN) (g := .HIF_STATUS_NUMVF) hi.setFld.regs 1 0 (by decide) rfl (by decide),
      fld_setFld_same hi.regs .HIF_STATUS_NUMVF n 0 (by decide)]
    exact Nat.mod_eq_of_lt hn
  · exact (KeepsRegs.refl.update.setFld hi (.head _)).setFld hi.setFld (.head _)

end

/-- Settles O18, row by row. -/
theorem hostLinkAndConfigurationRowsComplete : Obligations.HostLinkAndConfigurationRowsComplete := by
  unfold Obligations.HostLinkAndConfigurationRowsComplete
  intro s h
  exact ⟨fun _ _ flit _ ha hp hd h4 h5 hw hb => hostLinkUp_completes h ha hp hd h4 h5 hw hb flit,
    fun _ flit _ ha hp hd hw => hostLinkUp_belowMin h ha hp hd hw flit, fun _ hd hw hle => l0pWidthChange_completes h hd hw hle,
    hostResetComplete_completes h, fun _ base size ways _ hh hd hc => hdmDecoderCommit_completes hh hd hc base size ways,
    fun f v hd hh => msixUnmask_completes hd hh f v, fun on hd => atomicOpEnable_completes h hd on,
    fun _ hd hv h0 hn => vfEnable_completes h hd hv h0 hn⟩

end Sys2Proof.Machine

/-! # Reads of BAR0 by the host (R122, R123, R131, R314) -/

namespace Sys2Proof.Machine

section
variable {s : State} {o : Nat}

/-! ## One 4-byte read -/

theorem readWords_read0 (ho : o % 4 = 0) : readWords (read0 o) = [o / 4] := words_of_word rfl rfl ho

theorem readWhole_read0 (ho : o % 4 = 0) : readWhole (read0 o) = true := by
  have hb : readBe (read0 o) (o / 4) = 15 := be_of_word rfl rfl ho
  unfold readWhole
  rw [readWords_read0 ho]
  simp [read0] at hb ⊢
  exact ⟨ho, hb⟩

theorem exec_fenceRead_read0 (hd : s.host.dl = true) : exec (.fenceRead (read0 o)) s = .next (s.bar0Read (read0 o)) :=
  congrArg Host.Outcome.next (if_neg (by simp [hd, read0]))

/-- A read of a reserved word ends in Completer Abort (R122). -/
theorem bar0Read_of_rsvd (hh : s.hif = true) (ho : o % 4 = 0) (hl : locAt 0 o = .rsvd) :
    s.bar0Read (read0 o) = s.readError 1 (read0 o) := by
  have h4 : 4 * (o / 4) = o := by omega
  have hr : (readWords (read0 o)).any (fun d => locAt (read0 o).func (4 * d) == .rsvd) = true := by
    rw [readWords_read0 ho, List.any_cons, h4]
    show (locAt 0 o == .rsvd || _) = true
    rw [hl]
    rfl
  unfold State.bar0Read
  rw [if_neg (by simp [hh]), if_pos hr]

/-- A read of a word that is not reserved is served: it waits where it covers a fence, and else samples the word (R123). -/
theorem bar0Read_of_served (hh : s.hif = true) (ho : o % 4 = 0) (hl : locAt 0 o ≠ .rsvd) :
    s.bar0Read (read0 o) = if readFences (read0 o) ≠ [] then s.fenceWait (readFences (read0 o))
      else s.fresh.2.emit (.pcieRead (some (s.wordRead 0 o s.free))) := by
  have h4 : 4 * (o / 4) = o := by omega
  have hr : ¬ (readWords (read0 o)).any (fun d => locAt (read0 o).func (4 * d) == .rsvd) = true := by
    rw [readWords_read0 ho, List.any_cons, h4]
    simpa [read0] using hl
  have hsum : ((readWords (read0 o)).map (fun d => 2 ^ (8 * (4 * d - (read0 o).off)) * s.wordRead (read0 o).func (4 * d) s.free)).sum =
      s.wordRead 0 o s.free := by
    rw [readWords_read0 ho]
    simp [read0, h4]
  unfold State.bar0Read
  rw [if_neg (by simp [hh]), if_neg hr, if_neg (by simp [readWhole_read0 ho])]
  dsimp only [State.fresh]
  rw [hsum]

theorem readFences_of_fence {w : Nat} (ho : o % 4 = 0) (hl : locAt 0 o = .reg .GWN_FENCE w 0) : readFences (read0 o) = [(0, w)] := by
  have h4 : 4 * (o / 4) = o := by omega
  unfold readFences
  rw [readWords_read0 ho]
  simp [read0, h4, hl]

theorem readFences_of_ne {r : RegName} {i : Nat} (ho : o % 4 = 0) (hl : locAt 0 o = .reg r i 0) (hr : r ≠ .GWN_FENCE) :
    readFences (read0 o) = [] := by
  have h4 : 4 * (o / 4) = o := by omega
  unfold readFences
  rw [readWords_read0 ho]
  rw [List.filterMap_cons_none, List.filterMap_nil]
  simp only [read0, h4, hl]
  split
  next heq =>
    cases heq
    exact absurd rfl hr
  · rfl

/-! ## Fences (R314) -/

/-- While every waiting fence still waits for some write, one that joins them is served at once where it waits for none. -/
theorem fenceRun_of_joined (hf : ∀ f ∈ s.win.fences, f.ids ≠ []) (x : Fence) :
    ({ s with win := { s.win with fences := s.win.fences ++ [x] } } : State).fenceRun =
      if x.ids = [] then s.emit (.pcieRead (some ((x.regs.map (fun y => 2 ^ y.1 * s.rdRaw .GWN_FENCE y.2)).sum)))
      else { s with win := { s.win with fences := s.win.fences ++ [x] } } := by
  have h1 : s.win.fences.filter (fun f => f.ids.isEmpty) = [] := List.filter_eq_nil_iff.mpr fun f hm => by simpa using hf f hm
  have h2 : s.win.fences.filter (fun f => !f.ids.isEmpty) = s.win.fences := List.filter_eq_self.mpr fun f hm => by simpa using hf f hm
  unfold State.fenceRun
  dsimp only
  rw [List.filter_append, List.filter_append, h1, h2]
  split
  next hx =>
    have h3 : [x].filter (fun f => f.ids.isEmpty) = [x] := List.filter_cons_of_pos (by rw [hx]; rfl)
    have h4 : [x].filter (fun f => !f.ids.isEmpty) = [] := List.filter_cons_of_neg (by rw [hx]; decide)
    rw [h3, h4, List.append_nil]
    rfl
  next hx =>
    have h3 : [x].filter (fun f => f.ids.isEmpty) = [] := List.filter_cons_of_neg (by simpa using hx)
    have h4 : [x].filter (fun f => !f.ids.isEmpty) = [x] := List.filter_cons_of_pos (by simpa using hx)
    rw [h3, h4]
    rfl

theorem fenceWait_eq (hf : ∀ f ∈ s.win.fences, f.ids ≠ []) (w : Nat) : s.fenceWait [(0, w)] =
    if s.windowWrites w = [] then s.emit (.pcieRead (some (s.rdRaw .GWN_FENCE w)))
    else { s with win := { s.win with fences := s.win.fences ++ [{ regs := [(0, w)], ids := s.windowWrites w }] } } := by
  have hids : (s.win.blk.flatMap fun kv =>
      (kv.2.items.filter (fun i => i.write && !i.expired && [(0, w)].any (fun x => x.2 == i.d))).map WItem.id) = s.windowWrites w := by
    simp only [List.any_cons, List.any_nil, Bool.or_false]
    rfl
  unfold State.fenceWait
  rw [hids, fenceRun_of_joined hf]
  simp

theorem fenceRead_completes (hd : s.host.dl = true) (hh : s.hif = true) {w : Nat} (hw : w < 4) (hf : ∀ f ∈ s.win.fences, f.ids ≠ []) :
    (s.windowWrites w = [] → exec (.fenceRead (read0 (RegName.GWN_FENCE.addr w))) s =
      .next { s with out := s.out ++ [.pcieRead (some (s.rdRaw .GWN_FENCE w))] }) ∧
    (s.windowWrites w ≠ [] → exec (.fenceRead (read0 (RegName.GWN_FENCE.addr w))) s =
      .next { s with win := { s.win with fences := s.win.fences ++ [{ regs := [(0, w)], ids := s.windowWrites w }] } }) := by
  have hat : ∀ w < 4, RegName.GWN_FENCE.addr w % 4 = 0 ∧ locAt 0 (RegName.GWN_FENCE.addr w) = .reg .GWN_FENCE w 0 := by decide
  obtain ⟨ho, hl⟩ := hat w hw
  have he : s.bar0Read (read0 (RegName.GWN_FENCE.addr w)) = s.fenceWait [(0, w)] := by
    rw [bar0Read_of_served hh ho (by rw [hl]; nofun), readFences_of_fence ho hl, if_pos (List.cons_ne_nil _ _)]
  rw [exec_fenceRead_read0 hd, he, fenceWait_eq hf]
  exact ⟨fun h0 => by rw [if_pos h0]; rfl, fun h0 => by rw [if_neg h0]⟩

theorem fenceRead_of_reg (hd : s.host.dl = true) (hh : s.hif = true) {r : RegName} {i : Nat} (hr : regAt o = some (r, i)) (hlt : o < 0xE0000)
    (ho : o % 4 = 0) (hne : r ≠ .GWN_FENCE) : exec (.fenceRead (read0 o)) s =
      .next { s with out := s.out ++ [.pcieRead (some (s.regRead 0 r i))], free := s.free + 1 } := by
  have hl : locAt 0 o = .reg r i 0 := locAt_of_regAt hr hlt
  have hw : s.wordRead 0 o s.free = s.regRead 0 r i := by
    unfold State.wordRead
    rw [hl]
  rw [exec_fenceRead_read0 hd, bar0Read_of_served hh ho (by rw [hl]; nofun), readFences_of_ne ho hl hne, if_neg (by simp), hw]
  rfl

theorem fenceRead_of_rsvd (h : s.Inv) (hd : s.host.dl = true) (hh : s.hif = true) (ho : o % 4 = 0) (hl : locAt 0 o = .rsvd) :
    Completes (.fenceRead (read0 o)) s (fun t => t.out = s.out ++ [.pcieRead none] ∧ KeepsRegs s t logKeys ∧ KeepsMem s t ∧ t.win = s.win) := by
  have hg : Logged s (s.accLog 1 false 0 0 o) := h.logged_accLog
  refine .of_next ((exec_fenceRead_read0 hd).trans (congrArg Host.Outcome.next (bar0Read_of_rsvd hh ho hl))) ⟨?_, hg.keepsRegs.emit,
    hg.keepsMem.update, hg.win_eq⟩
  exact congrArg (· ++ [Emit.pcieRead none]) hg.out_eq

end

/-! # Loads and stores of the Global Window (R298, R307 to R311) -/

section
variable {s : State}

/-- An access reaches window `d` at the offset of its address (R116). -/
theorem cxlAccess_eq {hpa d : Nat} (hd : s.host.dl = true) (hm : s.flag .HIF_LINKSTAT_CXLMEM = true) (hc : s.decoderOf hpa = some d)
    (go : Nat → Nat → State) : s.cxlAccess hpa go = go d (s.bar4 d hpa) := by
  rw [State.cxlAccess, hd, hm, hc]
  rfl

/-! ## Accesses join their lease block (R48) -/

theorem State.wakeBlk_eq (s : State) (b : Nat) : ∃ r, s.wakeBlk b = { s with qmg := { s.qmg with run := r } } := by
  unfold State.wakeBlk
  extract_lets w
  split
  · exact s.enqueue_eq _
  · exact ⟨_, rfl⟩

theorem setBlk_of_items {w : WBlk} (hw : w.items ≠ []) (b : Nat) :
    s.setBlk b w = { s with win := { s.win with blk := mset s.win.blk b w } } := by
  rw [State.setBlk, if_neg fun hc => hw hc.1]

theorem State.addItem_eq (s : State) (b : Nat) (i : WItem) : ∃ n q r, s.addItem b i = { s with
    win := { s.win with blk := mset s.win.blk b { s.wblk b with items := (s.wblk b).items ++ [i] }, nextId := n, winq := q },
    qmg := { s.qmg with run := r } } := by
  unfold State.addItem
  extract_lets w s1 q
  have h1 : s1 = { s with win := { s.win with blk := mset s.win.blk b { w with items := w.items ++ [i] } } } := setBlk_of_items (by simp) b
  clear_value s1
  subst h1
  obtain ⟨r, hr⟩ := State.wakeBlk_eq _ b
  exact ⟨_, _, r, hr⟩

theorem addItem_items (s : State) (b : Nat) (i : WItem) : ((s.addItem b i).wblk b).items = (s.wblk b).items ++ [i] := by
  obtain ⟨n, q, r, e⟩ := s.addItem_eq b i
  rw [e]
  simp only [State.wblk, mgetD, mget_mset_same, Option.getD_some]

theorem addItem_out (s : State) (b : Nat) (i : WItem) : (s.addItem b i).out = s.out := by
  obtain ⟨n, q, r, e⟩ := s.addItem_eq b i
  rw [e]

theorem addItem_regs (s : State) (b : Nat) (i : WItem) : (s.addItem b i).regs = s.regs := by
  obtain ⟨n, q, r, e⟩ := s.addItem_eq b i
  rw [e]

theorem addItem_keepsMem (s : State) (b : Nat) (i : WItem) : KeepsMem s (s.addItem b i) := by
  obtain ⟨n, q, r, e⟩ := s.addItem_eq b i
  rw [e]
  exact .of_eq rfl

/-! ## Loads (R298) -/

section
variable {d a : Nat} {e : WEnt} (mid : Nat)

/-- A load of a line that stands in a usable frame is served from the near-cache. -/
theorem winLoad_of_hit (hw : s.winRefused = 0) (he : s.winEntry d a = some e) (hc : e.nocache = false) (hl : s.isLocal e.coord = false)
    (hn : s.ncc = true) (hs : (s.wblk (a / 4096)).settle = none) {x : Frame} (hf : mget s.win.frames (e.block (s.regionOff d a e)) = some x)
    (hu : s.frameUsable x = true) {b : List Byte} (hb : mget x.lines (s.regionOff d a e % 4096 / 64) = some b) :
    ∃ u : State, s.winLoad mid d a = u.emit (.cxlData mid b false) := by
  unfold State.winLoad
  rw [if_neg (by rw [hw]; decide), he]
  simp only [hf, hb, hc, hl, hn, hu, hs]
  exact ⟨_, rfl⟩

/-- A load that the near-cache may not hold joins its lease block as a read. -/
def State.loadItem (s : State) (mid d a : Nat) (e : WEnt) : WItem :=
  { id := s.win.nextId, d := d, a := a, off := s.regionOff d a e, write := false, mids := [(mid, s.regionOff d a e % 4096 / 64)], ent := e,
    entNo := s.entryNo d a }

theorem winLoad_of_nocache (hw : s.winRefused = 0) (he : s.winEntry d a = some e) (hc : e.nocache = true) :
    s.winLoad mid d a = s.addItem (a / 4096) (s.loadItem mid d a e) := by
  unfold State.winLoad
  rw [if_neg (by rw [hw]; decide), he]
  simp only [hc]
  split <;> rfl

/-! ## Stores (R307 to R311) -/

/-- A write that is accepted marks reads, and leaves every block its accesses in their order. -/
theorem State.storeMark_eq (s : State) (e : WEnt) (off : Nat) : ∃ i f, s.storeMark e off = { s with
    ini := i, win := { s.win with blk := s.win.blk.map (fun kv => (kv.1, { kv.2 with items := kv.2.items.map f })) } } :=
  ⟨_, _, rfl⟩

/-- The state in which a store of the line has been marked. -/
def State.stored (s : State) (d a mask : Nat) (e : WEnt) : State :=
  (match mget s.win.frames (e.block (s.regionOff d a e)) with
    | some x => if mask % 2 ^ 64 = 0 then s
      else s.setFrame (e.block (s.regionOff d a e)) { x with lines := mdel x.lines (s.regionOff d a e % 4096 / 64) }
    | none => s).storeMark e (s.regionOff d a e)

theorem State.stored_eq (s : State) (d a mask : Nat) (e : WEnt) : ∃ i f fr, s.stored d a mask e = { s with
    ini := i, win := { s.win with frames := fr, blk := s.win.blk.map (fun kv => (kv.1, { kv.2 with items := kv.2.items.map f })) } } := by
  unfold State.stored
  split
  · split
    · obtain ⟨i, f, h⟩ := s.storeMark_eq e (s.regionOff d a e)
      exact ⟨i, f, _, h⟩
    · exact ⟨_, _, _, rfl⟩
  · obtain ⟨i, f, h⟩ := s.storeMark_eq e (s.regionOff d a e)
    exact ⟨i, f, _, h⟩

/-- A block keeps its accesses, marked, in their order. -/
theorem stored_items (s : State) (d a mask : Nat) (e : WEnt) (b : Nat) :
    ∃ f, ((s.stored d a mask e).wblk b).items = ((s.wblk b).items).map f := by
  obtain ⟨i, f, fr, h⟩ := s.stored_eq d a mask e
  refine ⟨f, ?_⟩
  have hm := mget_map s.win.blk (fun w : WBlk => { w with items := w.items.map f }) b
  unfold State.wblk mgetD
  rw [h]
  refine (congrArg (fun o : Option WBlk => (o.getD {}).items) hm).trans ?_
  cases mget s.win.blk b <;> rfl

theorem stored_out (s : State) (d a mask : Nat) (e : WEnt) : (s.stored d a mask e).out = s.out := by
  obtain ⟨i, f, fr, h⟩ := s.stored_eq d a mask e
  rw [h]

theorem stored_regs (s : State) (d a mask : Nat) (e : WEnt) : (s.stored d a mask e).regs = s.regs := by
  obtain ⟨i, f, fr, h⟩ := s.stored_eq d a mask e
  rw [h]

theorem stored_keepsMem (s : State) (d a mask : Nat) (e : WEnt) : KeepsMem s (s.stored d a mask e) := by
  obtain ⟨i, f, fr, h⟩ := s.stored_eq d a mask e
  rw [h]
  exact .of_eq rfl

/-- A store without an enabled byte needs no packet. -/
theorem winStore_of_empty (hw : s.winRefused = 0) (he : s.winEntry d a = some e) (data : List Byte) {mask : Nat} (hm : mask % 2 ^ 64 = 0) :
    s.winStore mid d a data mask = (s.stored d a mask e).emit (.cxlDone mid) := by
  unfold State.winStore
  rw [if_neg (by rw [hw]; decide), he]
  dsimp only
  rw [if_pos hm, if_pos (Or.inr hm)]
  rfl

/-- The write that a store to a block with nothing waiting becomes. -/
def State.storeItem (s : State) (mid d a : Nat) (data : List Byte) (mask : Nat) (e : WEnt) (id : Nat) : WItem :=
  { id := id, d := d, a := a, off := s.regionOff d a e, write := true, mids := if e.fast then [] else [(mid, a % 4096 / 64)],
    bytes := storeBytes a mask data [], ent := e, entNo := s.entryNo d a }

/-- A store to a block with nothing waiting joins it as a write, and in FAST mode is completed at once (R309). -/
theorem winStore_of_idle (hw : s.winRefused = 0) (he : s.winEntry d a = some e) (data : List Byte) {mask : Nat} (hm : mask % 2 ^ 64 ≠ 0)
    (hi : (s.wblk (a / 4096)).items = []) : ∃ id, s.winStore mid d a data mask =
      (if e.fast then (s.stored d a mask e).emit (.cxlDone mid) else s.stored d a mask e).addItem (a / 4096)
        (s.storeItem mid d a data mask e id) := by
  have h0 (u : State) (hu : u = if e.fast then (s.stored d a mask e).emit (.cxlDone mid) else s.stored d a mask e) :
      (u.wblk (a / 4096)).items = [] := by
    obtain ⟨f, hf⟩ := stored_items s d a mask e (a / 4096)
    have hs : ((s.stored d a mask e).wblk (a / 4096)).items = [] := by rw [hf, hi, List.map_nil]
    subst hu
    split <;> exact hs
  have hor : (e.fast = true ∨ mask % 2 ^ 64 = 0) ↔ e.fast = true := or_iff_left hm
  unfold State.winStore
  rw [if_neg (by rw [hw]; decide), he]
  dsimp only
  simp only [hor]
  rw [if_neg hm]
  split
  next heq => exact nomatch (congrArg List.getLast? (h0 _ rfl)).symm.trans heq
  · exact ⟨_, rfl⟩

/-! ## The rows -/

variable {hpa : Nat}

theorem cxlMemRead_hits (hx : ∀ go, s.cxlAccess hpa go = go d a) (hw : s.winRefused = 0) (he : s.winEntry d a = some e)
    (hc : e.nocache = false) (hl : s.isLocal e.coord = false) (hn : s.ncc = true) (hs : (s.wblk (a / 4096)).settle = none) {x : Frame}
    (hf : mget s.win.frames (e.block (s.regionOff d a e)) = some x) (hu : s.frameUsable x = true) {b : List Byte}
    (hb : mget x.lines (s.regionOff d a e % 4096 / 64) = some b) :
    Completes (.cxlMemRead mid hpa) s (fun t => t.out.getLast? = some (.cxlData mid b false)) := by
  obtain ⟨u, h⟩ := winLoad_of_hit mid hw he hc hl hn hs hf hu hb
  exact .of_next (congrArg Host.Outcome.next ((hx _).trans h)) List.getLast?_concat

theorem cxlMemRead_joins (hx : ∀ go, s.cxlAccess hpa go = go d a) (hw : s.winRefused = 0) (he : s.winEntry d a = some e)
    (hc : e.nocache = true) : Completes (.cxlMemRead mid hpa) s (fun t =>
      (∃ i, (t.wblk (a / 4096)).items = (s.wblk (a / 4096)).items ++ [i] ∧ i.write = false ∧ i.a = a ∧ i.ent = e ∧ i.issued = false ∧
        i.mids = [(mid, s.regionOff d a e % 4096 / 64)]) ∧ t.regs = s.regs ∧ KeepsMem s t) :=
  .of_next (congrArg Host.Outcome.next ((hx _).trans (winLoad_of_nocache mid hw he hc)))
    ⟨⟨s.loadItem mid d a e, addItem_items s _ _, rfl, rfl, rfl, rfl, rfl⟩, addItem_regs s _ _, addItem_keepsMem s _ _⟩

theorem cxlMemWrite_of_empty (hx : ∀ go, s.cxlAccess hpa go = go d a) (hw : s.winRefused = 0) (he : s.winEntry d a = some e)
    (data : List Byte) {mask : Nat} (hm : mask % 2 ^ 64 = 0) : Completes (.cxlMemWrite mid hpa data mask) s (fun t =>
      t.out = s.out ++ [.cxlDone mid] ∧ (t.wblk (a / 4096)).items.length = (s.wblk (a / 4096)).items.length ∧ t.regs = s.regs ∧
        KeepsMem s t) := by
  refine .of_next (congrArg Host.Outcome.next ((hx _).trans (winStore_of_empty mid hw he data hm))) ⟨?_, ?_, stored_regs s d a mask e,
    (stored_keepsMem s d a mask e).update⟩
  · exact congrArg (· ++ [Emit.cxlDone mid]) (stored_out s d a mask e)
  · obtain ⟨f, hf⟩ := stored_items s d a mask e (a / 4096)
    exact (congrArg List.length hf).trans (List.length_map f)

theorem cxlMemWrite_joins (hx : ∀ go, s.cxlAccess hpa go = go d a) (hw : s.winRefused = 0) (he : s.winEntry d a = some e)
    (data : List Byte) {mask : Nat} (hm : mask % 2 ^ 64 ≠ 0) (hi : (s.wblk (a / 4096)).items = []) :
    Completes (.cxlMemWrite mid hpa data mask) s (fun t =>
      (∃ i, (t.wblk (a / 4096)).items = [i] ∧ i.write = true ∧ i.bytes = storeBytes a mask data [] ∧ i.ent = e ∧
        i.mids = if e.fast then [] else [(mid, a % 4096 / 64)]) ∧
      t.out = (if e.fast then s.out ++ [.cxlDone mid] else s.out) ∧ KeepsMem s t) := by
  obtain ⟨id, h⟩ := winStore_of_idle mid hw he data hm hi
  obtain ⟨f, hf⟩ := stored_items s d a mask e (a / 4096)
  have h0 : ((s.stored d a mask e).wblk (a / 4096)).items = [] := by rw [hf, hi, List.map_nil]
  have hk : KeepsMem s (s.stored d a mask e) := stored_keepsMem s d a mask e
  have ho : (s.stored d a mask e).out = s.out := stored_out s d a mask e
  refine .of_next (congrArg Host.Outcome.next ((hx _).trans h)) ⟨⟨s.storeItem mid d a data mask e id, ?_, rfl, rfl, rfl, rfl⟩, ?_, ?_⟩
  · rw [addItem_items]
    split
    · exact congrArg (· ++ [_]) h0
    · exact congrArg (· ++ [_]) h0
  · rw [addItem_out]
    split
    · exact congrArg (· ++ [Emit.cxlDone mid]) ho
    · exact ho
  · refine .trans ?_ (addItem_keepsMem _ _ _)
    split
    · exact hk.update
    · exact hk

end
end

/-- Settles O16: loads and stores reach their window entry and are served or join their lease block, and reads of BAR0 are answered word
by word, but for a fence, which waits for the accepted writes of its window. -/
theorem windowAccessesComplete : Obligations.WindowAccessesComplete := by
  unfold Obligations.WindowAccessesComplete
  refine ⟨fun s mid hpa d e hd hm hc hw he => ?_, fun s h hd hh => ⟨fun w hw hf => fenceRead_completes hd hh hw hf, ?_, ?_⟩⟩
  · have hx := cxlAccess_eq hd hm hc
    exact ⟨fun x b h1 h2 h3 h4 h5 h6 h7 => cxlMemRead_hits mid hx hw he h1 h2 h3 h4 h5 h6 h7, fun h1 => cxlMemRead_joins mid hx hw he h1,
      fun data mask h1 => cxlMemWrite_of_empty mid hx hw he data h1, fun data mask h1 h2 => cxlMemWrite_joins mid hx hw he data h1 h2⟩
  · exact fun r o i hr hlt ho hne => fenceRead_of_reg hd hh hr hlt ho hne
  · exact fun o ho hl => fenceRead_of_rsvd h hd hh ho hl

end Sys2Proof.Machine

/-! # Admin commands on queues and regions (R110, R204 to R217)

The clause on REVOKE_COMPLETE keeps every register. While the pair mirrors its changes the region's change is a mirror record (R528), and
a record that is sent counts in MIR_TXREC. -/

namespace Sys2Proof.Machine

section
variable {t : State}

/-- A paired device with the mirror link ACTIVE, whose region 0 is at the end of its revocation: its flush waits for no access. -/
def pairedRevoke : State :=
  { State.reset with
    mir := { twin := .paired, link := 5 }
    tgt := { regions := [(0, { st := .revoking, flush := some 0 })] } }

theorem pairedRevoke_inv : pairedRevoke.Inv := ⟨by decide, rfl⟩

theorem pairedRevoke_xltWaits : pairedRevoke.xltWaits 0 = false := by decide +kernel

/-- The revocation sends its mirror record, which MIR_TXREC counts. -/
theorem pairedRevoke_txrec (h : exec (.revokeComplete 0) pairedRevoke = .next t) : t.fld .MIR_TXREC_COUNT ≠ pairedRevoke.fld .MIR_TXREC_COUNT := by
  have e : (match exec (.revokeComplete 0) pairedRevoke with
      | .next u => u.fld .MIR_TXREC_COUNT
      | _ => 0) = 1 := by decide +kernel
  have e0 : pairedRevoke.fld .MIR_TXREC_COUNT = 0 := by decide +kernel
  rw [h] at e
  change t.fld .MIR_TXREC_COUNT = 1 at e
  rw [e, e0]
  decide

/-- Refutes O50 in its clause on REVOKE_COMPLETE: where the pair mirrors its changes, the region that is made FREE goes to the twin as a
mirror record, and MIR_TXREC counts it (R528), so not every register is kept. -/
theorem not_queueAndRegionCommandRowsComplete : ¬ Obligations.QueueAndRegionCommandRowsComplete := by
  unfold Obligations.QueueAndRegionCommandRowsComplete
  intro hall
  obtain ⟨-, -, -, -, -, hrevoke, -⟩ := hall pairedRevoke { func := 0, raw := 0 } pairedRevoke_inv
  obtain ⟨-, -, hflush⟩ := hrevoke 0 rfl
  obtain ⟨hdone, -⟩ := hflush 0 rfl
  obtain ⟨v, he, -, -, hregs, -⟩ := hdone pairedRevoke_xltWaits
  exact pairedRevoke_txrec he (fld_of_regs_eq hregs .MIR_TXREC_COUNT 0)

end
end Sys2Proof.Machine

/-! # Doorbells and key rights (R111 to R113, R150, R164, R361)

A change of a mirrored queue leaves a record for the twin (R528), and a queue with work joins its run list (R36): neither touches the
queues' records or host memory. -/

namespace Sys2Proof.Machine

section
variable {s t : State} {q n o v tail : Nat}

/-! ## Records and run lists -/

theorem KeepsMem.record (h : KeepsMem s t) {rtype body} : KeepsMem s (t.record rtype body) := by
  obtain ⟨_, _, _, e⟩ := t.record_eq rtype body
  rw [e]
  exact h.update

theorem KeepsMem.ite {a b : State} {c : Prop} {inst : Decidable c} (ha : KeepsMem s a) (hb : KeepsMem s b) :
    KeepsMem s (if c then a else b) := by
  split
  · exact ha
  · exact hb

theorem KeepsMem.modWq (h : KeepsMem s t) {q f} : KeepsMem s (t.modWq q f) := h.update

theorem KeepsMem.recWq (h : KeepsMem s t) {q} : KeepsMem s (t.recWq q) := h.record.ite h

theorem KeepsMem.recWqTail (h : KeepsMem s t) {q} : KeepsMem s (t.recWqTail q) := h.record.ite h

theorem KeepsMem.recWqHead (h : KeepsMem s t) {q} : KeepsMem s (t.recWqHead q) := h.record.ite h

theorem KeepsMem.joinRun (h : KeepsMem s t) {q} : KeepsMem s (t.joinRun q) := by
  obtain ⟨_, e⟩ := t.joinRun_eq q
  rw [e]
  exact h.update

theorem joinRun_wq (s : State) (q n : Nat) : (s.joinRun q).wq n = s.wq n := by
  obtain ⟨_, e⟩ := s.joinRun_eq q
  rw [e]
  rfl

/-- What the host stores changes host memory alone. -/
theorem hostStores_eq (s : State) (l : List Host.Cell) : ∃ m, s.hostStores l = { s with hostMem := m } := by
  induction l generalizing s with
  | nil => exact ⟨_, rfl⟩
  | cons c l ih => exact ih { s with hostMem := memPut s.hostMem (c.1 % 2 ^ 64) c.2 }

/-! ## A write of one 8-byte word of BAR2 (R113, R665) -/

/-- A write of 8 bytes with every byte enabled covers its word whole. -/
theorem bar2_be_word2 (ho : o % 8 = 0) : Bar2_be (word2 o v) (o / 8) = 255 := by
  have h : 8 * (o / 8) = o := by omega
  have hin (j : Nat) (hj : j < 8) : (decide (o ≤ o + j) && decide (o + j < o + 8) && bitAt 255 (o + j - o)) = bitAt 255 j := by
    rw [Nat.add_sub_cancel_left]
    simp [hj]
  unfold Bar2_be word2
  dsimp only
  rw [h]
  simp only [List.range, List.range.loop, List.foldl, hin 0 (by decide), hin 1 (by decide), hin 2 (by decide), hin 3 (by decide),
    hin 4 (by decide), hin 5 (by decide), hin 6 (by decide), hin 7 (by decide)]
  decide

theorem bar2_words_word2 (ho : o % 8 = 0) : Bar2_words (word2 o v) = [o / 8] := by
  have h : (o + 8 - 1) / 8 + 1 - o / 8 = 1 := by omega
  have hn : numsFrom ((word2 o v).off / 8) (((word2 o v).off + (word2 o v).len - 1) / 8 + 1 - (word2 o v).off / 8) = [o / 8] := by
    show numsFrom (o / 8) ((o + 8 - 1) / 8 + 1 - o / 8) = _
    rw [h]
    rfl
  unfold Bar2_words
  rw [hn, List.filter_cons, bar2_be_word2 ho]
  rfl

/-- A write of the PF to one word of the layout is applied to that word, after which the packets inside the device move. -/
theorem bar2Write_word2 (hh : s.hif = true) (ho : o % 8 = 0) (hl : slotAt 0 o ≠ none) :
    s.bar2Write (word2 o v) = (s.slotWrite 0 o (v % 2 ^ 64)).settle := by
  have h : 8 * (o / 8) = o := by omega
  have hv : v / 2 ^ (8 * (o - o)) = v := by simp
  have hs : (slotAt 0 o).isNone = false := by
    rw [Option.isNone_eq_false_iff, ← Option.ne_none_iff_isSome]
    exact hl
  unfold State.bar2Write
  dsimp only
  rw [bar2_words_word2 ho]
  simp only [List.any_cons, List.any_nil, List.foldl_cons, List.foldl_nil, bar2_be_word2 ho, h, Bool.or_false]
  unfold word2
  simp only [hs, hh, hv, ne_eq, not_true_eq_false, false_and, if_false, bne_self_eq_false, Bool.not_true, Bool.false_eq_true]

/-! ## The layout of BAR2 (R111) -/

theorem slotAt_tail (hq : q < 262144) : slotAt 0 (16 * q) = some (.tail q) := by
  have h1 : 16 * q < 0x400000 := by omega
  have h2 : 16 * q % 16 < 8 := by omega
  have h3 : 16 * q / 16 = q := by omega
  simp only [slotAt, if_true, h1, h2, h3]

theorem slotAt_rights (hq : q < 262144) : slotAt 0 (16 * q + 8) = some (.rights q) := by
  have h1 : 16 * q + 8 < 0x400000 := by omega
  have h2 : ¬ (16 * q + 8) % 16 < 8 := by omega
  have h3 : (16 * q + 8) / 16 = q := by omega
  simp only [slotAt, if_true, h1, if_neg h2, h3]

theorem slotAt_cqHead (hq : q < 65536) : slotAt 0 (0x400000 + 8 * q) = some (.cqHead q) := by
  have h1 : ¬ 0x400000 + 8 * q < 0x400000 := by omega
  have h2 : 0x400000 + 8 * q < 0x480000 := by omega
  have h3 : (0x400000 + 8 * q - 0x400000) / 8 = q := by omega
  simp only [slotAt, if_true, if_neg h1, if_pos h2, h3]

theorem slotAt_eqHead (hq : q < 2048) : slotAt 0 (0x480000 + 8 * q) = some (.eqHead q) := by
  have h1 : ¬ 0x480000 + 8 * q < 0x400000 := by omega
  have h2 : ¬ 0x480000 + 8 * q < 0x480000 := by omega
  have h3 : 0x480000 + 8 * q < 0x484000 := by omega
  have h4 : (0x480000 + 8 * q - 0x480000) / 8 = q := by omega
  simp only [slotAt, if_true, if_neg h1, if_neg h2, if_pos h3, h4]

/-- The PF names a queue that no VF owns by its global number (R109). -/
theorem globalNum_pf {base cnt : Fld} {limit : Nat} (hn : n < limit) (ho : s.ownerBy base cnt n = 0) :
    s.globalNum base cnt limit 0 n = some n := (if_pos rfl).trans (if_pos ⟨hn, ho⟩)

section
variable (hh : s.hif = true)
include hh

theorem bar2Write_tail (hq : q < 262144) (ho : s.wqOwner q = 0) :
    s.bar2Write (word2 (16 * q) v) = (s.tailBell q (v % 2 ^ 32)).settle := by
  have hw : s.wqOf 0 q = some q := globalNum_pf hq ho
  have hv : v % 2 ^ 64 % 2 ^ 32 = v % 2 ^ 32 := by omega
  rw [bar2Write_word2 hh (by omega) (by rw [slotAt_tail hq]; nofun)]
  unfold State.slotWrite
  dsimp only
  rw [slotAt_tail hq]
  dsimp only
  rw [hw, hv]

theorem bar2Write_rights (hq : q < 262144) (ho : s.wqOwner q = 0) :
    s.bar2Write (word2 (16 * q + 8) v) = (s.rightsWrite q (v % 2 ^ 64)).settle := by
  have hw : s.wqOf 0 q = some q := globalNum_pf hq ho
  rw [bar2Write_word2 hh (by omega) (by rw [slotAt_rights hq]; nofun)]
  unfold State.slotWrite
  dsimp only
  rw [slotAt_rights hq]
  dsimp only
  rw [hw]

theorem bar2Write_cqHead (hq : q < 65536) (ho : s.cqOwner q = 0) :
    s.bar2Write (word2 (0x400000 + 8 * q) v) = (s.cqBell q (v % 2 ^ 64)).settle := by
  have hw : s.cqOf 0 q = some q := globalNum_pf hq ho
  rw [bar2Write_word2 hh (by omega) (by rw [slotAt_cqHead hq]; nofun)]
  unfold State.slotWrite
  dsimp only
  rw [slotAt_cqHead hq]
  dsimp only
  rw [hw]

theorem bar2Write_eqHead (hq : q < 2048) (ho : s.eqOwner q = 0) :
    s.bar2Write (word2 (0x480000 + 8 * q) v) = (s.eqBell q (v % 2 ^ 64)).settle := by
  have hw : s.eqOf 0 q = some q := globalNum_pf hq ho
  rw [bar2Write_word2 hh (by omega) (by rw [slotAt_eqHead hq]; nofun)]
  unfold State.slotWrite
  dsimp only
  rw [slotAt_eqHead hq]
  dsimp only
  rw [hw]

end

/-! ## What each word records -/

/-- A tail doorbell that is neither stale nor beyond the ring is recorded (R150, R151). -/
theorem tailBell_records (hst : (s.wq q).st = .active) (h1 : sub32 tail (s.wq q).tail < 2 ^ 31)
    (h2 : sub32 tail (s.wq q).head ≤ 2 ^ (s.wq q).log2) :
    (s.tailBell q tail).wq q = { s.wq q with tail := tail, tails := (s.wq q).tails ++ [(tail, s.tick)] } ∧
      KeepsMem s (s.tailBell q tail) := by
  have he : s.tailBell q tail =
      ((s.modWq q (fun w => { w with tail := tail, tails := w.tails ++ [(tail, s.tick)] })).recWqTail q).joinRun q := by
    unfold State.tailBell
    dsimp only
    rw [if_neg (fun h => h.1 hst), if_neg (Nat.not_le.mpr h1), if_neg (Nat.not_lt.mpr h2)]
  rw [he]
  refine ⟨?_, KeepsMem.refl.modWq.recWqTail.joinRun⟩
  rw [joinRun_wq, KeepsQmg.refl.recWqTail.wq_eq, wq_modWq_same]

theorem rightsWrite_records (s : State) (q v : Nat) :
    (s.rightsWrite q v).wq q = { s.wq q with kr := v } ∧ KeepsMem s (s.rightsWrite q v) := by
  unfold State.rightsWrite
  refine ⟨?_, KeepsMem.refl.modWq.recWqTail⟩
  rw [KeepsQmg.refl.recWqTail.wq_eq, wq_modWq_same]

/-- HEAD and ARM lie in the word's low 33 bits (R164). -/
theorem headWord_mod (v : Nat) : v % 2 ^ 64 % 2 ^ 32 = v % 2 ^ 32 ∧ bitAt (v % 2 ^ 64) 32 = bitAt v 32 := by
  refine ⟨by omega, ?_⟩
  unfold bitAt
  rw [Nat.testBit_mod_two_pow]
  rfl

end

/-- Settles O14: a whole word of BAR2 reaches the queue that its offset names, and the write's own effect is on that queue's record. -/
theorem doorbellRowsComplete : Obligations.DoorbellRowsComplete := by
  unfold Obligations.DoorbellRowsComplete
  intro s q v hh
  obtain ⟨hhead, harm⟩ := headWord_mod v
  refine ⟨fun st hq ho hst h1 h2 => ?_, fun hq ho => ?_, fun hq ho hc => ?_, fun hq ho hc => ?_⟩
  · obtain ⟨m, hm⟩ := hostStores_eq s st
    have hbell := tailBell_records (s := { s with hostMem := m }) hst h1 h2
    rw [hm]
    obtain ⟨hwq, hmem⟩ := hbell
    refine ⟨_, congrArg Host.Outcome.next ((congrArg (State.bar2Write · _) hm).trans (bar2Write_tail hh hq ho)), ?_, ?_, ?_, hmem⟩ <;> rw [hwq]
    · exact hst
    · rfl
  · obtain ⟨hwq, hmem⟩ := rightsWrite_records s q (v % 2 ^ 64)
    refine ⟨_, congrArg Host.Outcome.next (bar2Write_rights hh hq ho), ?_, ?_, hmem⟩ <;> rw [hwq]
  · have he : s.cqBell q (v % 2 ^ 64) = _ := if_pos hc
    rw [hhead, harm] at he
    refine ⟨s.modCq q (fun x => { x with head := v % 2 ^ 32, armed := bitAt v 32 }),
      congrArg Host.Outcome.next ((bar2Write_cqHead hh hq ho).trans (congrArg State.settle he)), ?_, ?_, rfl, .of_eq rfl⟩ <;> rw [cq_modCq_same]
  · have he : s.eqBell q (v % 2 ^ 64) = _ := if_pos hc
    rw [hhead, harm] at he
    refine ⟨s.modEq q (fun x => { x with head := v % 2 ^ 32, armed := bitAt v 32 }),
      congrArg Host.Outcome.next ((bar2Write_eqHead hh hq ho).trans (congrArg State.settle he)), ?_, ?_, rfl, .of_eq rfl⟩ <;>
      rw [State.modEq_eq_same]

end Sys2Proof.Machine

/-! # The admin queue's registers (R164, R179, R191) -/

namespace Sys2Proof.Machine

section
variable {s t : State} {f v : Nat} {r r' : RegName} {g : Fld} {ks : List Nat}

/-! ## A register of one function's admin queue -/

theorem rdAq_lt (s : State) (f : Nat) (r : RegName) : s.rdAq f r < 2 ^ 32 := by
  unfold State.rdAq
  split
  · exact BitVec.isLt _
  · exact resetAt_lt r 0

/-- A value written to an admin queue register is read back, cut to 32 bits. -/
theorem rdAq_wrAq_same (h : s.Inv) : (s.wrAq f r v).rdAq f r = v % 2 ^ 32 := by
  unfold State.rdAq State.wrAq
  dsimp only
  by_cases hv : v % 2 ^ 32 = r.resetAt 0
  · rw [if_pos hv, mget_mdel_same h.regs]
    exact hv.symm
  · rw [if_neg hv, mget_mset_same]
    exact BitVec.toNat_ofNat ..

/-- A write to an admin queue register leaves the value at every other key alone. -/
theorem mget_wrAq_ne (h : s.Inv) {k : Nat} (hk : k ≠ aqKey f r) : mget (s.wrAq f r v).regs k = mget s.regs k := by
  unfold State.wrAq
  dsimp only
  split
  · exact mget_mdel_ne h.regs hk
  · exact mget_mset_ne _ _ hk

theorem rdAq_wrAq_ne (h : s.Inv) (hk : aqKey f r' ≠ aqKey f r) : (s.wrAq f r v).rdAq f r' = s.rdAq f r' := by
  unfold State.rdAq
  rw [mget_wrAq_ne h hk]

theorem fldAq_wrAq_ne (h : s.Inv) (hk : aqKey f g.reg ≠ aqKey f r) : (s.wrAq f r v).fldAq f g = s.fldAq f g := by
  unfold State.fldAq
  rw [rdAq_wrAq_ne h hk]

theorem fldAq_setFldAq_same (h : s.Inv) (hg : g.lo + g.w ≤ 32) : (s.setFldAq f g v).fldAq f g = v % 2 ^ g.w := by
  unfold State.fldAq State.setFldAq
  rw [rdAq_wrAq_same h, Nat.mod_eq_of_lt (putBits_lt v (rdAq_lt s f g.reg) hg), bits_putBits_same]

theorem KeepsRegs.wrAq (h : KeepsRegs s t ks) (ht : t.Inv) (hm : aqKey f r ∈ ks) : KeepsRegs s (t.wrAq f r v) ks :=
  fun k hk => (mget_wrAq_ne ht fun e : k = _ => hk (e ▸ hm)).trans (h k hk)

/-- Each function's copies of two admin queue registers stand at two keys. -/
theorem aqKey_ne (f : Nat) (hr : 0x2040 ≤ r.addr 0) (hr' : 0x2040 ≤ r'.addr 0) (h : r.addr 0 ≠ r'.addr 0) : aqKey f r ≠ aqKey f r' := by
  unfold aqKey
  split <;> omega

/-! ## The rows -/

/-- A function that may access the device reaches its admin queue registers while GEN_READY.HIF is 1 (R103). -/
theorem aqRow_eq (hh : s.hif = true) (hf : s.funcOn f) (op : State → State) : s.aqRow f r op = op s := by
  have h : ¬ (f ≠ 0 ∧ s.host.vfs < f) := by
    rcases hf with h | h <;> omega
  unfold State.aqRow
  rw [if_neg h, if_neg (by simp [hh])]

/-- An admin queue enabled, its counts zero, before its tail and head are. -/
def State.adminZeroed (s : State) (f : Nat) : State := (s.setFldAq f .QMG_AQCFG_EN 1).modAq f (fun q => { blocked := q.blocked })

theorem adminOn_eq (he : s.aqEn f = false) : s.adminOn f = ((s.adminZeroed f).wrAq f .QMG_AQTAIL 0).wrAq f .QMG_AQHEAD 0 :=
  if_neg (ne_true_of_eq_false he)

theorem adminZeroed_aqEn (h : s.Inv) : (s.adminZeroed f).aqEn f = true := by
  have hen : (s.setFldAq f .QMG_AQCFG_EN 1).fldAq f .QMG_AQCFG_EN = 1 := fldAq_setFldAq_same h (by decide)
  have ha : (s.setFldAq f .QMG_AQCFG_EN 1).aqEn f = true := by
    unfold State.aqEn
    rw [hen]
    rfl
  exact ha

theorem aqEn_wrAq_ne (h : s.Inv) (hk : aqKey f .QMG_AQCFG ≠ aqKey f r) : (s.wrAq f r v).aqEn f = s.aqEn f := by
  unfold State.aqEn
  rw [fldAq_wrAq_ne h (g := .QMG_AQCFG_EN) hk]

theorem adminOn_spec (h : s.Inv) (he : s.aqEn f = false) :
    (s.adminOn f).aqEn f = true ∧ (s.adminOn f).rdAq f .QMG_AQTAIL = 0 ∧ (s.adminOn f).rdAq f .QMG_AQHEAD = 0 ∧
      (s.adminOn f).aq f = { blocked := (s.aq f).blocked } ∧
      KeepsRegs s (s.adminOn f) [aqKey f .QMG_AQCFG, aqKey f .QMG_AQTAIL, aqKey f .QMG_AQHEAD] ∧ KeepsMem s (s.adminOn f) := by
  have h1 : (s.adminZeroed f).Inv := h.setFldAq.modAq
  have h2 : ((s.adminZeroed f).wrAq f .QMG_AQTAIL 0).Inv := h1.wrAq
  have ht : aqKey f .QMG_AQTAIL ≠ aqKey f .QMG_AQHEAD := aqKey_ne f (by decide) (by decide) (by decide)
  have hct : aqKey f .QMG_AQCFG ≠ aqKey f .QMG_AQTAIL := aqKey_ne f (by decide) (by decide) (by decide)
  have hch : aqKey f .QMG_AQCFG ≠ aqKey f .QMG_AQHEAD := aqKey_ne f (by decide) (by decide) (by decide)
  have hk : KeepsRegs s (s.adminZeroed f) [aqKey f .QMG_AQCFG, aqKey f .QMG_AQTAIL, aqKey f .QMG_AQHEAD] :=
    KeepsRegs.wrAq .refl h (.head _)
  have haq : (s.adminZeroed f).aq f = { blocked := (s.aq f).blocked } := State.modAq_aq_same (s.setFldAq f .QMG_AQCFG_EN 1) f _
  rw [adminOn_eq he]
  refine ⟨?_, ?_, ?_, haq, (hk.wrAq h1 (.tail _ (.head _))).wrAq h2 (.tail _ (.tail _ (.head _))), .of_eq rfl⟩
  · rw [aqEn_wrAq_ne h2 hch, aqEn_wrAq_ne h1 hct, adminZeroed_aqEn h]
  · rw [rdAq_wrAq_ne h2 ht, rdAq_wrAq_same h1, Nat.zero_mod]
  · rw [rdAq_wrAq_same h2, Nat.zero_mod]

theorem adminOff_spec (h : s.Inv) (he : s.aqEn f = true) :
    (s.adminOff f).aqEn f = false ∧ KeepsRegs s (s.adminOff f) [aqKey f .QMG_AQCFG] ∧ (s.adminOff f).qmg = s.qmg ∧
      KeepsMem s (s.adminOff f) := by
  have hoff : s.adminOff f = s.setFldAq f .QMG_AQCFG_EN 0 := if_pos he
  rw [hoff]
  refine ⟨?_, KeepsRegs.wrAq .refl h (.head _), rfl, .of_eq rfl⟩
  unfold State.aqEn
  rw [fldAq_setFldAq_same h (by decide)]
  rfl

end

/-- Settles O15: each row reaches the register of its function, whose write is the row's own effect. -/
theorem adminQueueRegisterRowsComplete : Obligations.AdminQueueRegisterRowsComplete := by
  unfold Obligations.AdminQueueRegisterRowsComplete
  intro s f n h hh hf _
  refine ⟨fun st rd => ?_, ?_, fun he => ⟨_, congrArg Host.Outcome.next (aqRow_eq hh hf _), adminOn_spec h he⟩,
    fun he => ⟨_, congrArg Host.Outcome.next (aqRow_eq hh hf _), adminOff_spec h he⟩⟩
  · have hst : (s.hostStores st).Inv := h.hostStores
    obtain ⟨m, hm⟩ := hostStores_eq s st
    have hregs : (s.hostStores st).regs = s.regs := by rw [hm]
    have hh' : (s.hostStores st).hif = true := (flag_of_regs_eq hregs _ _).trans hh
    have hf' : (s.hostStores st).funcOn f := by
      rw [hm]
      exact hf
    exact ⟨(s.hostStores st).wrAq f .QMG_AQTAIL n, congrArg Host.Outcome.next (aqRow_eq hh' hf' _), rdAq_wrAq_same hst,
      KeepsRegs.wrAq (.of_eq hregs) hst (.head _)⟩
  · exact ⟨s.wrAq f .QMG_AQHEAD n, congrArg Host.Outcome.next (aqRow_eq hh hf _), rdAq_wrAq_same h,
      KeepsRegs.wrAq .refl h (.head _), .of_eq rfl⟩

end Sys2Proof.Machine

/-! # Admin commands on work queues (R171, R183, R185, R188, R528) -/

namespace Sys2Proof.Machine

section
variable {s t : State} {c : AdminCmd} {q j n op e : Nat} {x : RunEnt} {l : List RunEnt}

/-! ## Commands that the admin engine takes (R41, R177 to R182) -/

theorem adminTake_eq {pf ready : Bool} {used : List (Nat × Nat)} (h : s.adminOk c pf ready used) (go : State → State) :
    s.adminTake c go = go s := by
  obtain ⟨hsafe, hblocked, -⟩ := h
  exact if_neg (by simp [hsafe, hblocked])

theorem preCheck_none {ready : Bool} {used : List (Nat × Nat)} (h : s.adminOk c false ready used) : preCheck c false ready used = none := by
  obtain ⟨-, -, -, hready, hbytes⟩ := h
  unfold preCheck
  rw [if_neg (by simp), if_neg (by simp [hready]), if_neg (by simp [hbytes])]

/-- A queue command that meets no turn and no command in progress acts at once. -/
theorem wqCommand_eq (h : s.wqTakes op c q) : s.wqCommand op c = s.wqAct op c q := by
  obtain ⟨hok, hq, hstore, hbusy, hturn⟩ := h
  have ht : ¬ (op ≠ 7 ∧ (s.wq q).turn.isSome = true) := fun ⟨h7, hs⟩ => by
    rw [hturn.resolve_left h7] at hs
    cases hs
  unfold State.wqCommand
  rw [preCheck_none hok, hq]
  dsimp only
  rw [if_neg (by simp [hstore]), if_neg (ne_true_of_eq_false hbusy), if_neg ht]

theorem adminTake_wqCommand (h : s.wqTakes op c q) (go : State → State) :
    s.adminTake c (fun t => go (t.wqCommand op c)) = go (s.wqAct op c q) := by
  rw [adminTake_eq h.1, wqCommand_eq h]

/-! ## Run lists (R36, R37) -/

theorem runList_setRun_same (s : State) (e : Nat) (hl : l ≠ []) : (s.setRun e l).runList e = l := by
  unfold State.setRun State.runList mgetD
  rw [if_neg hl, mget_mset_same]
  rfl

theorem runList_setRun_ne (s : State) (hl : l ≠ []) (he : j ≠ e) : (s.setRun e l).runList j = s.runList j := by
  unfold State.setRun State.runList mgetD
  rw [if_neg hl, mget_mset_ne _ _ he]

/-- A queue that leaves the run lists is taken out of its home engine's. -/
theorem runList_leaveRun (hr : mwf s.qmg.run) (q : Nat) :
    (s.leaveRun q).runList (q % 288) = (s.runList (q % 288)).filter (fun x => x != .wq q) := by
  by_cases hl : (s.runList (q % 288)).filter (fun x => x != .wq q) = []
  · unfold State.leaveRun
    dsimp only
    rw [hl]
    exact congrArg (Option.getD · []) (mget_mdel_same hr _)
  · exact runList_setRun_same s _ hl

theorem mem_runList_enqueue (s : State) (x : RunEnt) : x ∈ (s.enqueue x).runList x.home := by
  unfold State.enqueue
  extract_lets l
  split
  next h => exact h
  · rw [runList_setRun_same _ _ (by simp)]
    exact List.mem_append_right _ List.mem_cons_self

/-- An ACTIVE queue with work, without a turn and parked nowhere, joins its home run list. -/
theorem mem_runList_joinRun (h1 : (s.wq q).st = .active) (h2 : (s.wq q).hasWork = true) (h3 : (s.wq q).turn = none)
    (h4 : s.qmg.parked.all (fun x => x.2 != q) = true) : RunEnt.wq q ∈ (s.joinRun q).runList (q % 288) := by
  have he : s.joinRun q = s.enqueue (.wq q) := if_pos ⟨h1, h2, h3, h4⟩
  rw [he]
  exact mem_runList_enqueue s (.wq q)

/-- Work queue `q` is parked nowhere and stands on no run list. -/
structure OffRun (q : Nat) (t : State) : Prop where
  parked : ∀ x ∈ t.qmg.parked, x.2 ≠ q
  run : RunEnt.wq q ∉ t.runList (q % 288)

namespace OffRun

theorem ite {a b : State} {p : Prop} {inst : Decidable p} (ha : OffRun q a) (hb : OffRun q b) : OffRun q (if p then a else b) := by
  split
  · exact ha
  · exact hb

theorem enqueue (h : OffRun q t) (hx : x ≠ .wq q) : OffRun q (t.enqueue x) := by
  unfold State.enqueue
  extract_lets l
  refine h.ite ⟨h.parked, ?_⟩
  have hl : l ++ [x] ≠ [] := by simp
  by_cases he : q % 288 = x.home
  · rw [he, runList_setRun_same _ _ hl, List.mem_append, not_or, List.mem_singleton]
    exact ⟨fun hm => h.run (by rw [he]; exact hm), hx.symm⟩
  · rw [runList_setRun_ne _ hl he]
    exact h.run

theorem joinRun (h : OffRun q t) (hj : j ≠ q) : OffRun q (t.joinRun j) :=
  (h.enqueue fun e => hj (RunEnt.wq.inj e)).ite h

/-- Other queues return from their parks. -/
theorem unpark (h : OffRun q t) {p : Park → Bool} : OffRun q (t.unpark p) := by
  have key (l : List (Park × Nat)) : (∀ x ∈ l, x.2 ≠ q) → ∀ u, OffRun q u → OffRun q (l.foldl (fun t x => t.joinRun x.2) u) := by
    induction l with
    | nil => exact fun _ u hu => hu
    | cons y l ih =>
      intro hl u hu
      exact ih (fun x hx => hl x (List.mem_cons_of_mem _ hx)) _ (hu.joinRun (hl y List.mem_cons_self))
  exact key _ (fun x hx => h.parked x (List.mem_of_mem_filter hx)) _ ⟨fun x hx => h.parked x (List.mem_of_mem_filter hx), h.run⟩

theorem cqRelease (h : OffRun q t) {n} : OffRun q (t.cqRelease n) := by
  have h1 : OffRun q (t.modCq n (fun q => { q with stalled := false })) := ⟨h.parked, h.run⟩
  exact h1.unpark.ite h

end OffRun

/-- The end of a stall changes completion queues, parks and run lists alone. -/
theorem cqRelease_eq (s : State) (n : Nat) :
    ∃ m p r, s.cqRelease n = { s with qmg := { s.qmg with cq := m, parked := p, run := r } } := by
  unfold State.cqRelease
  extract_lets x
  split
  · obtain ⟨r, hr⟩ := (s.modCq n (fun q => { q with stalled := false })).unpark_eq (fun r => r == .cqFull n || r == .cqRoom n)
    exact ⟨_, _, r, hr⟩
  · exact ⟨_, _, _, rfl⟩

/-! ## A queue leaves ACTIVE (R171) -/

/-- A queue waits nowhere. -/
def State.unparkAll (s : State) (q : Nat) : State := { s with qmg := { s.qmg with parked := s.qmg.parked.filter (fun x => x.2 != q) } }

/-- A queue's unissued copies discarded, before the queues that waited with it for room go on. -/
def State.takenOff (s : State) (q : Nat) : State :=
  (s.modWq q (fun w => { w with fetched := [], fetching := [], failed := [] })).unparkAll q |>.leaveRun q

theorem takenOff_offRun (hr : mwf s.qmg.run) : OffRun q (s.takenOff q) := by
  refine ⟨fun x hx => ?_, ?_⟩
  · simpa using (List.mem_filter.mp hx).2
  · unfold State.takenOff
    rw [runList_leaveRun (by exact hr)]
    simp

theorem dropFetched_eq (s : State) (q : Nat) : ∃ m p r, s.dropFetched q =
    { s.takenOff q with qmg := { (s.takenOff q).qmg with cq := m, parked := p, run := r } } := by
  have h : s.dropFetched q = if s.qmg.parked.contains (.cqRoom (s.wq q).cq, q) then (s.takenOff q).cqRelease (s.wq q).cq else s.takenOff q := rfl
  rw [h]
  split
  · exact cqRelease_eq _ _
  · exact ⟨_, _, _, rfl⟩

theorem dropFetched_offRun (hr : mwf s.qmg.run) : OffRun q (s.dropFetched q) :=
  (takenOff_offRun hr).cqRelease.ite (takenOff_offRun hr)

theorem dropFetched_wq (s : State) (q : Nat) : (s.dropFetched q).wq q = { s.wq q with fetched := [], fetching := [], failed := [] } := by
  obtain ⟨_, _, _, h⟩ := dropFetched_eq s q
  rw [h]
  exact wq_modWq_same s q (fun w => { w with fetched := [], fetching := [], failed := [] })

theorem dropFetched_bcmds (s : State) (q : Nat) : (s.dropFetched q).qmg.bcmds = s.qmg.bcmds := by
  obtain ⟨_, _, _, h⟩ := dropFetched_eq s q
  rw [h]
  rfl

theorem dropFetched_regs (s : State) (q : Nat) : (s.dropFetched q).regs = s.regs := by
  obtain ⟨_, _, _, h⟩ := dropFetched_eq s q
  rw [h]
  rfl

theorem dropFetched_keepsMem (s : State) (q : Nat) : KeepsMem s (s.dropFetched q) := by
  obtain ⟨_, _, _, h⟩ := dropFetched_eq s q
  rw [h]
  exact .of_eq rfl

/-! ## What each command does -/

/-- The context that CONFIG_WQ writes (R183). -/
def wqConfig (r : Raw) (cq eq : Nat) : WQ :=
  { configured := true, base := r.at_ 8 8, log2 := r.at_ 16 1, turnq := r.at_ 17 1, asid := r.at_ 18 2, cq := cq, eq := eq,
    headwb := r.at_ 26 1 == 1, hwaddr := r.at_ 32 8, rate := r.at_ 40 2, burst := r.at_ 42 2, start := r.at_ 28 4, head := r.at_ 28 4,
    fidx := r.at_ 28 4, tail := r.at_ 28 4, reserved := r.at_ 28 4 }

theorem cmdConfigWq_writes {cq eq : Nat} (hcq : s.cqOf c.func (c.raw.at_ 20 2) = some cq) (heq : s.eqOf c.func (c.raw.at_ 24 2) = some eq)
    (hp : wqParamsOk c.raw = true) (hst : (s.wq q).st = .disabled) (h1 : (s.cq cq).configured = true) (h2 : (s.eq eq).configured = true)
    (h3 : s.queueReady q cq eq = true) (h4 : s.meetsTwin TwinParams.wqBase TwinParams.wqCount q 1 = false) :
    ∃ v : State, s.cmdConfigWq c q = v.wqEnd c q 0 ∧ v.wq q = wqConfig c.raw cq eq ∧ KeepsMem s v := by
  refine ⟨(((s.modWq q (fun _ => wqConfig c.raw cq eq)).recWq q).recWqTail q).recWqHead q, ?_, ?_,
    KeepsMem.refl.modWq.recWq.recWqTail.recWqHead⟩
  · unfold State.cmdConfigWq
    dsimp only
    rw [hcq, heq]
    dsimp only
    have hf : firstFail [(!wqParamsOk c.raw, sInvalidField), ((s.wq q).st != .disabled, sStateConflict),
        (!(s.cq cq).configured || !(s.eq eq).configured, sStateConflict), (!s.queueReady q cq eq, sStateConflict),
        (s.meetsTwin TwinParams.wqBase TwinParams.wqCount q 1, sStateConflict)] = none := by
      simp [firstFail, hp, hst, h1, h2, h3, h4]
    rw [hf]
    rfl
  · rw [KeepsQmg.refl.recWq.recWqTail.recWqHead.wq_eq, wq_modWq_same]

/-- A queue made ACTIVE: recorded for the twin, it joins its run list where it has work. -/
def State.activated (s : State) (q : Nat) : State := ((s.modWq q (fun w => { w with st := .active })).recWq q).joinRun q

theorem activated_spec (s : State) (q : Nat) : (s.activated q).wq q = { s.wq q with st := .active } ∧
    ((s.wq q).hasWork = true → (s.wq q).turn = none → s.qmg.parked.all (fun x => x.2 != q) = true →
      RunEnt.wq q ∈ (s.activated q).runList (q % 288)) ∧ KeepsMem s (s.activated q) := by
  have hk : KeepsQmg (s.modWq q (fun w => { w with st := .active })) ((s.modWq q (fun w => { w with st := .active })).recWq q) :=
    KeepsQmg.refl.recWq
  have hw : ((s.modWq q (fun w => { w with st := .active })).recWq q).wq q = { s.wq q with st := .active } := by
    rw [hk.wq_eq, wq_modWq_same]
  refine ⟨(joinRun_wq ..).trans hw, fun h1 h2 h3 => ?_, KeepsMem.refl.modWq.recWq.joinRun⟩
  refine mem_runList_joinRun ?_ ?_ ?_ ?_
  · rw [hw]
  · rw [hw]
    exact h1
  · rw [hw]
    exact h2
  · rw [hk.qmg]
    exact h3

theorem cmdEnableWq_activates (h1 : (s.wq q).st = .disabled) (h2 : (s.wq q).configured = true)
    (h3 : s.queueReady q (s.wq q).cq (s.wq q).eq = true) : s.cmdEnableWq c q = (s.activated q).wqEnd c q 0 := if_pos ⟨h1, h2, h3⟩

theorem cmdResumeWq_activates (h : (s.wq q).st = .suspended) : s.cmdResumeWq c q = (s.activated q).wqEnd c q 0 := if_pos h

/-- A DRAINING queue with nothing fetched, DISABLE_WQ in progress. -/
def State.drainBegun (s : State) (c : AdminCmd) (q : Nat) : State :=
  ((s.startB { s.bcmdOf c 3 q with raw := c.raw }).modWq q (fun w => { w with st := .draining, suspendDue := false })).dropFetched q

theorem cmdDisableWq_drains (h : (s.wq q).st = .active ∨ (s.wq q).st = .suspended) :
    s.cmdDisableWq c q =
      let u := (((s.drainBegun c q).recvCancel q false).cancelWaits q).recWq q
      if u.allDone q then u.drainDone q else u := if_pos h

theorem drainBegun_spec (hr : mwf s.qmg.run) (c : AdminCmd) : (s.drainBegun c q).wq q =
      { s.wq q with st := .draining, suspendDue := false, fetched := [], fetching := [], failed := [] } ∧
    (s.drainBegun c q).qmg.bcmds = s.qmg.bcmds ++ [{ s.bcmdOf c 3 q with raw := c.raw }] ∧ OffRun q (s.drainBegun c q) ∧
    (s.drainBegun c q).regs = s.regs ∧ KeepsMem s (s.drainBegun c q) := by
  refine ⟨?_, dropFetched_bcmds .., dropFetched_offRun hr, dropFetched_regs .., (KeepsMem.of_eq (s := s) rfl).trans (dropFetched_keepsMem _ _)⟩
  unfold State.drainBegun
  rw [dropFetched_wq, wq_modWq_same]
  rfl

/-- A SUSPENDED queue with nothing fetched. -/
def State.suspended (s : State) (q : Nat) : State :=
  (s.modWq q (fun w => { w with st := .suspended, suspendDue := false, fidx := w.head })).dropFetched q

theorem suspended_spec (hr : mwf s.qmg.run) : (s.suspended q).wq q =
      { s.wq q with st := .suspended, suspendDue := false, fidx := (s.wq q).head, fetched := [], fetching := [], failed := [] } ∧
    OffRun q (s.suspended q) ∧ (s.suspended q).regs = s.regs ∧ KeepsMem s (s.suspended q) := by
  refine ⟨?_, dropFetched_offRun hr, dropFetched_regs .., (KeepsMem.of_eq (s := s) rfl).trans (dropFetched_keepsMem _ _)⟩
  unfold State.suspended
  rw [dropFetched_wq, wq_modWq_same]

theorem cmdSuspendWq_suspends (hr : mwf s.qmg.run) (h : (s.wq q).st = .active) :
    s.cmdSuspendWq c q = (((s.suspended q).recWq q).wqEvent q 0x06 0 (s.wq q).head).wqEnd c q 0 := by
  have hh : ((s.suspended q).wq q).head = (s.wq q).head := by rw [(suspended_spec hr).1]
  have he : s.cmdSuspendWq c q = (((s.suspended q).recWq q).wqEvent q 0x06 0 ((s.suspended q).wq q).head).wqEnd c q 0 := if_pos h
  rw [he, hh]

/-- A drained queue: DISABLED, its tail and its fetch index at the published head (R171). -/
def State.drained (s : State) (q : Nat) : State :=
  s.modWq q (fun w => { w with st := .disabled, tail := w.head, fidx := w.head, tails := [] })

theorem drained_wq (s : State) (q : Nat) :
    (s.drained q).wq q = { s.wq q with st := .disabled, tail := (s.wq q).head, fidx := (s.wq q).head, tails := [] } := wq_modWq_same ..

theorem drainDone_eq (s : State) (q : Nat) : s.drainDone q =
    ((((s.drained q).recWq q).recWqTail q).wqEvent q 0x03 0 (s.wq q).head).endBProt (fun b => b.op == 3 && b.obj == q) 0 := by
  have hh : ((s.drained q).wq q).head = (s.wq q).head := by rw [drained_wq]
  rw [← hh]
  rfl

theorem cmdResetWq_disables (h : (s.wq q).st = .error) : ∃ v : State, s.cmdResetWq c q = v.wqEnd c q 0 ∧
    v.wq q = { s.wq q with st := .disabled, errKind := 0, tail := (s.wq q).head, fidx := (s.wq q).head, tails := [] } ∧ KeepsMem s v := by
  refine ⟨_, if_pos h, ?_, KeepsMem.refl.modWq.recWq.recWqTail⟩
  rw [KeepsQmg.refl.recWq.recWqTail.wq_eq, wq_modWq_same]

theorem cmdSetShaper_keeps (h1 : c.raw.at_ 8 2 ≤ c.raw.at_ 10 2) (h2 : (s.wq q).configured = true) :
    s.cmdSetShaper c q =
      ((s.modWq q (fun w => { w with newShape := some (c.raw.at_ 8 2, c.raw.at_ 10 2) })).recWq q).wqEnd c q 0 :=
  (if_neg (Nat.not_lt.mpr h1)).trans (if_pos h2)

end

/-- Settles O49: the admin engine takes each command for its queue at once, and the command's own change is to the queue's record, its
run list and its parks. -/
theorem workQueueCommandRowsComplete : Obligations.WorkQueueCommandRowsComplete := by
  unfold Obligations.WorkQueueCommandRowsComplete
  intro s c q _
  have take {op : Nat} (h : s.wqTakes op c q) (go : State → State) {u : State} (hu : s.wqAct op c q = u) :
      Host.Outcome.next (s.adminTake c (fun t => go (t.wqCommand op c))) = (.next (go u) : Host.Outcome State Fault Refusal) := by
    rw [adminTake_wqCommand h, hu]
  refine ⟨fun cq eq ht hcq heq hp hst h1 h2 h3 h4 => ?_, fun ht h1 h2 h3 => ?_, fun ht hst hr => ?_, fun hst hd => ?_, fun hn => ?_,
    fun ht hst => ?_, fun ht hst hr => ?_, fun ht hst => ?_, fun ht => ?_, fun ht h1 h2 => ?_⟩
  · obtain ⟨v, hv, hw, hmem⟩ := cmdConfigWq_writes hcq heq hp hst h1 h2 h3 h4
    exact ⟨v, take ht State.settle hv, hmem, hw⟩
  · exact ⟨_, take ht State.settle (cmdEnableWq_activates h1 h2 h3), activated_spec s q⟩
  · obtain ⟨hw, hb, hoff, hregs, hmem⟩ := drainBegun_spec (q := q) hr c
    exact ⟨_, take ht State.settle (cmdDisableWq_drains hst), hw, hb, hoff.parked, hoff.run, hregs, hmem⟩
  · exact ⟨s.drained q, congrArg Host.Outcome.next ((if_pos ⟨hst, hd⟩).trans (drainDone_eq s q)), drained_wq s q, rfl, .of_eq rfl⟩
  · exact congrArg Host.Outcome.next (if_neg fun h => hn.elim (fun h' => h' h.1) (fun h' => by rw [h.2] at h'; cases h'))
  · obtain ⟨v, hv, hspec⟩ := cmdResetWq_disables hst
    exact ⟨v, take ht State.settle hv, hspec⟩
  · obtain ⟨hw, hoff, hregs, hmem⟩ := suspended_spec (q := q) hr
    exact ⟨_, take ht State.settle (cmdSuspendWq_suspends hr hst), hw, hoff.parked, hoff.run, hregs, hmem⟩
  · exact ⟨_, take ht State.settle (cmdResumeWq_activates hst), activated_spec s q⟩
  · exact take ht id rfl
  · exact ⟨_, take ht State.settle (cmdSetShaper_keeps h1 h2), wq_modWq_same .., rfl, .of_eq rfl⟩

end Sys2Proof.Machine

/-! # What the outcome of a translation depends on (R334, R348) -/

namespace Sys2Proof.Machine

/-- What the outcome of a translation depends on is in `t` as in `s`: the translation unit, the registers but those that a translation
itself writes, the ranges of bus addresses that are placed, the blocks in reset, and time. -/
structure SameXlt (s t : State) : Prop where
  regs : ∀ k, lookReg k = false → mget t.regs k = mget s.regs k
  xlt : t.xlt = s.xlt
  time : t.time = s.time
  rst : t.rst = s.rst
  host : ∃ a, t.host = { s.host with snapAt := a }

/-- One page of an access that no translation already obtained covers: a cached leaf, or a walk (R348). -/
def State.xltStep (s : State) (w : Walk) : State × WOut :=
  if s.blockBusy 0x21 then (s, .wait { w with phase := .held })
  else if !s.flag .XLT_CTL_EN then (s, .fail xNotEnabled 7 0)
  else match s.xltLookup w.func w.asid w.va with
    | some (_, e) => (s.bump .XLT_HIT_COUNT).leafChecks w e 0
    | none => (((s.bump .XLT_MISS_COUNT).pmu_
        { code := 0x0D, func := some w.func, engine := some (s.accEngine w.acc), addr := some w.va }).fresh.2).walkBegin w

/-- What an access comes to after the step of one page. -/
def xlateThen (q : Walk) (fuel va n : Nat) (got : List XEnt) (segs : List (Nat × Nat)) (x : State × WOut) : State × XRes :=
  match x with
  | (s1, .got _ e) => xlateAux q fuel (va + min n (2 ^ e.ps - va % 2 ^ e.ps)) (n - min n (2 ^ e.ps - va % 2 ^ e.ps)) (got ++ [e])
      (segs ++ [(e.bus va, min n (2 ^ e.ps - va % 2 ^ e.ps))]) s1
  | (s1, .fail kind level addr) => (s1.xltFault { q with va := va, got := got } kind level addr, { segs := segs, fail := some kind })
  | (s1, .wait w1) =>
    ({ s1 with xlt := { s1.xlt with walks := mset s1.xlt.walks s1.xlt.next w1, next := s1.xlt.next + 1 } }, { segs := segs, wait := true })

section
variable {s t u : State} {w q : Walk} {fuel va n : Nat} {got : List XEnt} {segs : List (Nat × Nat)}

theorem xlateAux_held {e : XEnt} (hn : n ≠ 0) (hg : got.find? (fun e => e.covers va && s.young e.at_) = some e) :
    xlateAux q (fuel + 1) va n got segs s = xlateAux q fuel (va + min n (2 ^ e.ps - va % 2 ^ e.ps))
      (n - min n (2 ^ e.ps - va % 2 ^ e.ps)) got (segs ++ [(e.bus va, min n (2 ^ e.ps - va % 2 ^ e.ps))]) s := by
  conv_lhs => unfold xlateAux
  rw [if_neg hn]
  dsimp only
  rw [hg]

theorem xlateAux_step (hn : n ≠ 0) (hg : got.find? (fun e => e.covers va && s.young e.at_) = none) :
    xlateAux q (fuel + 1) va n got segs s = xlateThen q fuel va n got segs (s.xltStep { q with va := va, got := got }) := by
  conv_lhs => unfold xlateAux
  rw [if_neg hn]
  dsimp only
  rw [hg]
  rfl

namespace SameXlt

theorem symm (h : SameXlt s t) : SameXlt t s := by
  obtain ⟨a, ha⟩ := h.host
  exact ⟨fun k hk => (h.regs k hk).symm, h.xlt.symm, h.time.symm, h.rst.symm, s.host.snapAt, by rw [ha]⟩

theorem trans (h : SameXlt s t) (h' : SameXlt t u) : SameXlt s u := by
  obtain ⟨a, ha⟩ := h.host
  obtain ⟨b, hb⟩ := h'.host
  exact ⟨fun k hk => (h'.regs k hk).trans (h.regs k hk), h'.xlt.trans h.xlt, h'.time.trans h.time, h'.rst.trans h.rst, b, by rw [hb, ha]⟩

/-- A step of a translation that leaves the translation unit's tables as they are. -/
theorem of_looks (h : Looks s t) (hx : t.xlt = s.xlt) : SameXlt s t := by
  obtain ⟨-, hr, _, a, _, _, _, _, _, rfl⟩ := h
  exact ⟨hr, hx, rfl, rfl, a, rfl⟩

/-- Such steps made in both states. -/
theorem step {s' t' : State} (h : SameXlt s t) (hs : SameXlt s s') (ht : SameXlt t t') : SameXlt s' t' := (hs.symm.trans h).trans ht

theorem rdRaw_eq (h : SameXlt s t) {r : RegName} {i : Nat} (hr : lookReg (r.addr i) = false) : t.rdRaw r i = s.rdRaw r i := by
  unfold State.rdRaw
  rw [h.regs _ hr]

theorem fld_eq (h : SameXlt s t) {f : Fld} {i : Nat} (hf : lookReg (f.reg.addr i) = false) : t.fld f i = s.fld f i := by
  unfold State.fld
  rw [h.rdRaw_eq hf]

theorem flag_eq (h : SameXlt s t) {f : Fld} {i : Nat} (hf : lookReg (f.reg.addr i) = false) : t.flag f i = s.flag f i := by
  unfold State.flag
  rw [h.fld_eq hf]

theorem young_eq (h : SameXlt s t) (a : Nat) : t.young a = s.young a := by
  unfold State.young State.tick
  rw [h.fld_eq (by decide), h.time]

/-- The registers of the excluded ranges lie apart from those that a translation writes. -/
theorem lookReg_excl {r : RegName} {i : Nat} (hi : i < r.fam.n1 * r.fam.n2) (h : 0x4040 ≤ r.fam.base) (h' : r.fam.last < 0x21000) :
    lookReg (r.addr i) = false := by
  have ha := r.base_le_addr i
  have hb := RegName.addr_le_last hi
  have hne : r.addr i ≠ 0x1008 := by omega
  simp only [lookReg, Bool.or_eq_false_iff, Bool.and_eq_false_iff, decide_eq_false_iff_not, beq_eq_false_iff_ne]
  omega

theorem excluded_eq (h : SameXlt s t) (lo hi : Nat) : t.excluded lo hi = s.excluded lo hi := by
  have hbl (i : Nat) (hi : i < 8) : t.rdRaw .XLT_EXCLBL i = s.rdRaw .XLT_EXCLBL i := h.rdRaw_eq (lookReg_excl hi (by decide) (by decide))
  have hbh (i : Nat) (hi : i < 8) : t.rdRaw .XLT_EXCLBH i = s.rdRaw .XLT_EXCLBH i := h.rdRaw_eq (lookReg_excl hi (by decide) (by decide))
  have hll (i : Nat) (hi : i < 8) : t.rdRaw .XLT_EXCLLL i = s.rdRaw .XLT_EXCLLL i := h.rdRaw_eq (lookReg_excl hi (by decide) (by decide))
  have hlh (i : Nat) (hi : i < 8) : t.rdRaw .XLT_EXCLLH i = s.rdRaw .XLT_EXCLLH i := h.rdRaw_eq (lookReg_excl hi (by decide) (by decide))
  obtain ⟨a, ha⟩ := h.host
  unfold State.excluded
  rw [ha]
  congr 1
  rw [Bool.eq_iff_iff, List.any_eq_true, List.any_eq_true]
  refine exists_congr fun i => and_congr_right fun hi => ?_
  have h8 : i < 8 := List.mem_range.mp hi
  unfold State.exclBase State.exclLimit
  rw [hbl i h8, hbh i h8, hll i h8, hlh i h8]

theorem xltLookup_eq (h : SameXlt s t) (f a va : Nat) : t.xltLookup f a va = s.xltLookup f a va := by
  unfold State.xltLookup
  simp only [h.xlt, h.young_eq]

theorem wcLookup_eq (h : SameXlt s t) (f a level va : Nat) : t.wcLookup f a level va = s.wcLookup f a level va := by
  unfold State.wcLookup
  simp only [h.xlt, h.young_eq]

/-! ## The steps of a walk come to the same -/

theorem walkRead_snd (h : SameXlt s t) (w : Walk) (func addr level : Nat) :
    (t.walkRead w func addr level).2 = (s.walkRead w func addr level).2 := by
  unfold State.walkRead
  rw [h.excluded_eq]
  split <;> rfl

theorem descend_snd (h : SameXlt s t) (l : Nat) : ∀ (w : Walk) (table : Nat), (descend w l table t).2 = (descend w l table s).2 := by
  induction l with
  | zero => exact fun w table => h.walkRead_snd ..
  | succ l ih =>
    intro w table
    unfold descend
    rw [h.wcLookup_eq]
    split
    · exact ih ..
    · exact h.walkRead_snd ..

theorem fromRoot_snd (h : SameXlt s t) (w : Walk) (root top : Nat) : (t.fromRoot w root top).2 = (s.fromRoot w root top).2 := by
  unfold State.fromRoot
  split
  · rfl
  · exact h.descend_snd ..

theorem walkBegin_snd (h : SameXlt s t) (w : Walk) : (t.walkBegin w).2 = (s.walkBegin w).2 := by
  unfold State.walkBegin
  rw [h.wcLookup_eq, h.fld_eq (f := .XLT_ASIDLO_BASE) (by decide), h.fld_eq (f := .XLT_ASIDHI_BASE) (by decide)]
  split
  · exact h.fromRoot_snd ..
  · exact h.walkRead_snd ..

theorem leafChecks_snd (h : SameXlt s t) (w : Walk) (e : XEnt) (tries : Nat) : (t.leafChecks w e tries).2 = (s.leafChecks w e tries).2 := by
  have hd : t.dmaStop = s.dmaStop := h.flag_eq (by decide)
  have ha : t.host.atomicOp = s.host.atomicOp := by
    obtain ⟨a, ha⟩ := h.host
    rw [ha]
  unfold State.leafChecks
  simp only [h.excluded_eq, h.flag_eq (f := .XLT_CTL_ADSET) (i := 0) (by decide), hd, ha]
  split_ifs <;> rfl

end SameXlt

/-! ## A step leaves the unit's tables as they are -/

theorem walkRead_xlt (s : State) (w : Walk) (func addr level : Nat) : (s.walkRead w func addr level).1.xlt = s.xlt := by
  unfold State.walkRead
  split <;> rfl

theorem descend_xlt (s : State) (l : Nat) : ∀ (w : Walk) (table : Nat), (descend w l table s).1.xlt = s.xlt := by
  induction l with
  | zero => exact fun w table => walkRead_xlt ..
  | succ l ih =>
    intro w table
    unfold descend
    split
    · exact ih ..
    · exact walkRead_xlt ..

theorem walkBegin_xlt (s : State) (w : Walk) : (s.walkBegin w).1.xlt = s.xlt := by
  unfold State.walkBegin State.fromRoot
  split
  · split
    · rfl
    · exact descend_xlt ..
  · exact walkRead_xlt ..

theorem leafChecks_xlt (s : State) (w : Walk) (e : XEnt) (tries : Nat) : (s.leafChecks w e tries).1.xlt = s.xlt := by
  unfold State.leafChecks
  extract_lets
  split_ifs <;> rfl

/-- The state in which a walk begins: the miss is counted. -/
def State.missed (s : State) (w : Walk) : State :=
  ((s.bump .XLT_MISS_COUNT).pmu_
    { code := 0x0D, func := some w.func, engine := some (s.accEngine w.acc), addr := some w.va }).fresh.2

theorem missed_same (h : s.Inv) (w : Walk) : Looks s (s.missed w) ∧ (s.missed w).xlt = s.xlt := by
  have hc : Counts (s.bump .XLT_MISS_COUNT) ((s.bump .XLT_MISS_COUNT).pmu_
      { code := 0x0D, func := some w.func, engine := some (s.accEngine w.acc), addr := some w.va }) := h.bump.counts_pmu _
  refine ⟨((Looks.refl h).bump (by decide)).pmu_.fresh, ?_⟩
  obtain ⟨-, -, _, _, _, _, e⟩ := hc
  have hx := congrArg State.xlt e
  exact hx

theorem xltStep_looks (h : s.Inv) (w : Walk) : Looks s (s.xltStep w).1 ∧ (s.xltStep w).1.xlt = s.xlt := by
  have hm := missed_same h w
  unfold State.xltStep
  split
  · exact ⟨.refl h, rfl⟩
  split
  · exact ⟨.refl h, rfl⟩
  split
  · exact ⟨((Looks.refl h).bump (by decide)).leafChecks, leafChecks_xlt ..⟩
  · exact ⟨hm.1.walkBegin, (walkBegin_xlt (s.missed w) w).trans hm.2⟩

theorem SameXlt.xltStep_snd (h : SameXlt s t) (hs : s.Inv) (ht : t.Inv) (w : Walk) : (t.xltStep w).2 = (s.xltStep w).2 := by
  have hhit (u : State) (hu : u.Inv) : SameXlt u (u.bump .XLT_HIT_COUNT) := .of_looks ((Looks.refl hu).bump (by decide)) rfl
  have hmiss (u : State) (hu : u.Inv) : SameXlt u (u.missed w) := .of_looks (missed_same hu w).1 (missed_same hu w).2
  have hb : t.blockBusy 0x21 = s.blockBusy 0x21 := by
    unfold State.blockBusy
    rw [h.rst]
  unfold State.xltStep
  rw [hb, h.flag_eq (f := .XLT_CTL_EN) (by decide), h.xltLookup_eq]
  split
  · rfl
  split
  · rfl
  split
  · exact (h.step (hhit s hs) (hhit t ht)).leafChecks_snd ..
  · exact (h.step (hmiss s hs) (hmiss t ht)).walkBegin_snd ..

/-! ## The whole access comes to the same -/

theorem SameXlt.xlateAux_snd (h : SameXlt s t) (hs : s.Inv) (ht : t.Inv) :
    (xlateAux q fuel va n got segs t).2 = (xlateAux q fuel va n got segs s).2 := by
  induction fuel generalizing s t va n got segs with
  | zero => rfl
  | succ fuel ih =>
    by_cases hn : n = 0
    · unfold xlateAux
      rw [if_pos hn, if_pos hn]
    have hy : (fun e : XEnt => e.covers va && t.young e.at_) = fun e => e.covers va && s.young e.at_ := by
      funext e
      rw [h.young_eq]
    cases hg : got.find? (fun e => e.covers va && s.young e.at_) with
    | some e =>
      rw [xlateAux_held hn hg, xlateAux_held hn (hy ▸ hg)]
      exact ih h hs ht
    | none =>
      rw [xlateAux_step hn hg, xlateAux_step hn (hy ▸ hg)]
      have ho := h.xltStep_snd hs ht { q with va := va, got := got }
      obtain ⟨hls, hxs⟩ := xltStep_looks hs { q with va := va, got := got }
      obtain ⟨hlt, hxt⟩ := xltStep_looks ht { q with va := va, got := got }
      generalize s.xltStep { q with va := va, got := got } = x at *
      generalize t.xltStep { q with va := va, got := got } = y at *
      obtain ⟨s1, o⟩ := x
      obtain ⟨t1, o'⟩ := y
      dsimp only at ho hls hxs hlt hxt
      subst ho
      cases o' with
      | got w e => exact ih (h.step (.of_looks hls hxs) (.of_looks hlt hxt)) hls.inv hlt.inv
      | fail kind level addr => rfl
      | wait w => rfl

theorem SameXlt.xlate_snd (h : SameXlt s t) (hs : s.Inv) (ht : t.Inv) (acc : Acc) (func asid va n : Nat) (write target : Bool) (kr : Nat)
    (got : List XEnt) : (t.xlate acc func asid va n write target kr got).2 = (s.xlate acc func asid va n write target kr got).2 :=
  h.xlateAux_snd hs ht

end
end Sys2Proof.Machine

/-! # The end of a payload's read (R157, R158, R162, R350, R361) -/

namespace Sys2Proof.Machine

/-- A turn whose payload has come. -/
def Turn.woken (u : Turn) : Turn := { u with wait := .none, segs := [], fail := none, inv := [] }

/-- The state in which the payload of a queue's turn has come. -/
def State.payloadBack (s : State) (q : Nat) : State := s.modTurn q Turn.woken

/-- The status that a translation's end leaves with an entry (R350). -/
def failStatus (fail : Option Nat) : Nat := match fail with | some k => localStatus k | none => 0

section
variable {q a : Nat} {s t : State} {d : Raw} {u : Turn} {rd : ReadStatus}

theorem payloadBack_turned (h : s.Inv) (q : Nat) : Turned q s (s.payloadBack q) := (Turned.refl h).modWq fun w => ⟨w.fetched, _, rfl⟩

theorem payloadBack_turn (ht : (s.wq q).turn = some u) : ((s.payloadBack q).wq q).turn = some u.woken := by
  unfold State.payloadBack
  rw [wq_modTurn_same, ht]
  rfl

/-! ## What a turn that has only begun or gone on leaves of its queue -/

theorem Turned.head_eq (h : Turned q s t) : (t.wq q).head = (s.wq q).head := by
  obtain ⟨_, _, hw⟩ := h.record
  rw [hw]

theorem Turned.kr_eq (h : Turned q s t) : (t.wq q).kr = (s.wq q).kr := by
  obtain ⟨_, _, hw⟩ := h.record
  rw [hw]

theorem Turned.cq_eq (h : Turned q s t) : (t.wq q).cq = (s.wq q).cq := by
  obtain ⟨_, _, hw⟩ := h.record
  rw [hw]

theorem Turned.asid_eq (h : Turned q s t) : (t.wq q).asid = (s.wq q).asid := by
  obtain ⟨_, _, hw⟩ := h.record
  rw [hw]

theorem Turned.outst_eq (h : Turned q s t) : (t.wq q).outst = (s.wq q).outst := by
  obtain ⟨_, _, hw⟩ := h.record
  rw [hw]

/-- The entry at the head is issued in any turn, whatever registers changed with it (R158). -/
theorem Turned.issued {v : State} (h : Turned q s t) (hu : (t.wq q).turn = some u) (hv : OnlyRegs t v) (hi : v.Inv) (kr a n st : Nat) :
    s.issued q (s.newDesc q d n st u.engine kr) (v.markIssued q d kr a n st) := by
  obtain ⟨hhead, hout, hmem⟩ := markIssued_spec hi (d := d) (q := q) kr a n st
  obtain ⟨r, rfl⟩ := hv
  have hx : ({ t with regs := r } : State).issuedDesc q d kr n st = s.newDesc q d n st u.engine kr := by
    unfold State.issuedDesc State.newDesc
    rw [← h.head_eq, ← h.tick_eq]
    congr 1
    change (match (t.wq q).turn with | some t => t.engine | none => q % 288) = _
    rw [hu]
  refine ⟨hhead.trans (congrArg (add32 · 1) h.head_eq), hout.trans ?_, h.keepsMem.trans (KeepsMem.trans (.of_eq rfl) hmem)⟩
  rw [hx]
  exact congrArg (· ++ _) h.outst_eq

theorem Turned.issuedOff (h : Turned q s t) (hu : (t.wq q).turn = some u) (kr a n st : Nat) :
    s.issued q (s.newDesc q d n st u.engine kr) ((t.countOff d).markIssued q d kr a n st) :=
  h.issued hu (countOff_onlyRegs t d) h.inv.countOff kr a n st

/-- An entry that completes before any packet is sent: its issue ends it (R157). -/
theorem Turned.issueDone_eq (h : Turned q s t) (hu : (t.wq q).turn = some u) (hno : ∀ x ∈ (s.wq q).outst, x.cnt ≠ (s.wq q).head)
    (hcq : s.cqReady (s.wq q).cq = true) (a st : Nat) :
    t.issueDone q d a st = (t.markIssued q d (s.wq q).kr a 0 st).finish q (s.newDesc q d 0 st u.engine (s.wq q).kr) st := by
  obtain ⟨-, ho, -⟩ := h.issued (d := d) hu .refl h.inv (s.wq q).kr a 0 st
  have hdesc : (t.markIssued q d (s.wq q).kr a 0 st).desc q (s.wq q).head = some (s.newDesc q d 0 st u.engine (s.wq q).kr) := by
    have hnone : (s.wq q).outst.find? (fun x => x.cnt == (s.wq q).head) = none := by simpa using hno
    unfold State.desc
    rw [ho, List.find?_append, hnone]
    simp [State.newDesc]
  have hready : ¬ ((st != 0 || d.sig) && !t.cqReady (t.wq q).cq) = true := by
    rw [h.cq_eq, h.cqReady_eq, hcq]
    simp
  unfold State.issueDone
  dsimp only
  rw [if_neg hready, h.head_eq, h.kr_eq, hdesc]

/-! ## What an entry with its data sends (R157, R350) -/

section
variable {kr : Nat} {data : List Byte} {fail : Option Nat}

theorem issueData_putAll (ho : d.opcode = 0x01) (hl : putPackets d kr data ≠ []) :
    s.issueData q d kr a data fail = ((s.countOff d).markIssued q d kr a (putPackets d kr data).length (failStatus fail)).sendAll q
      (s.wq q).head (s.pisteFor d) false false (putPackets d kr data) := by
  unfold State.issueData
  rw [ho]
  exact if_neg hl

theorem issueData_sendAll (ho : d.opcode = 0x03) (hl : ∀ m, sendPackets d m data ≠ []) :
    s.issueData q d kr a data fail =
      ((s.countOff d).markIssued q d kr a (sendPackets d 0 data).length (failStatus fail)).sendAll q (s.wq q).head (s.pisteFor d) false true
        (sendPackets d (((s.countOff d).markIssued q d kr a (sendPackets d 0 data).length (failStatus fail)).freeTag.getD 0) data) := by
  unfold State.issueData
  rw [ho]
  exact if_neg (hl _)

theorem issueData_cas128 (ho : d.opcode = 0x16) :
    s.issueData q d kr a data none = ((s.countOff d).markIssued q d kr a 1 0).sendAll q (s.wq q).head (s.pisteFor d) true true
      [atomicPacket d kr data] := by
  unfold State.issueData
  rw [ho]
  rfl

theorem issueData_reduce {k : Nat} (ho : d.opcode = 0x20) (hk : s.collFor q d = some k) :
    s.issueData q d kr a data none = ((s.countOff d).markIssued q d kr a 1 0).collIssue k q (s.wq q).head { value := data } := by
  unfold State.issueData
  rw [ho, hk]
  rfl

end

/-! ## A read that returned with poison (R102) -/

theorem poisonRx_onlyRegs (s : State) (rd : ReadStatus) : OnlyRegs s (s.poisonRx rd) := by
  unfold State.poisonRx
  split
  · exact OnlyRegs.refl.setFld
  · exact .refl

theorem poisonRx_fld (h : s.Inv) {f : Fld} {i : Nat} (hk : f.reg.addr i ≠ 0x1008) : (s.poisonRx rd).fld f i = s.fld f i := by
  unfold State.poisonRx
  split
  · exact fld_setFld_ne h.regs 1 hk
  · rfl

theorem poisonRx_flag (h : s.Inv) {f : Fld} {i : Nat} (hk : f.reg.addr i ≠ 0x1008) : (s.poisonRx rd).flag f i = s.flag f i := by
  unfold State.flag
  rw [poisonRx_fld h hk]

theorem poisonRx_wqOwner (h : s.Inv) (n : Nat) : (s.poisonRx rd).wqOwner n = s.wqOwner n := by
  have hb (v : Nat) : RegName.addr .QMG_VFWQ v ≠ 0x1008 := by
    have hle := RegName.base_le_addr .QMG_VFWQ v
    have h0 : 0x1008 < (RegName.fam .QMG_VFWQ).base := by decide
    omega
  unfold State.wqOwner State.ownerBy
  rw [List.find?_congr fun v _ => by rw [poisonRx_fld h (hb v), poisonRx_fld h (hb v)]]

theorem poisonRx_entryWait (h : s.Inv) : (s.poisonRx rd).entryWait q d = s.entryWait q d := by
  have hd : (s.poisonRx rd).dstate = s.dstate := poisonRx_flag h (by decide)
  have ho : (s.poisonRx rd).own = s.own := poisonRx_fld h (by decide)
  have hw := poisonRx_wqOwner (rd := rd) h q
  obtain ⟨_, e⟩ := poisonRx_onlyRegs s rd
  unfold State.entryWait State.needsDstate State.counterOf
  rw [hd, ho, hw, e]
  rfl

theorem poisonRx_cqReady (h : s.Inv) (n : Nat) : (s.poisonRx rd).cqReady n = s.cqReady n := by
  have hd : (s.poisonRx rd).dmaStop = s.dmaStop := poisonRx_flag h (by decide)
  obtain ⟨_, e⟩ := poisonRx_onlyRegs s rd
  unfold State.cqReady
  rw [hd, e]
  rfl

/-! ## PAYLOAD_READ_DONE -/

section
variable (hs : s.Inv) (hu : (s.wq q).turn = some u) (hw : u.wait = .payload) (hc : (s.wq q).copy (s.wq q).head = some (d, a))
include hs hu hw hc

/-- The payload has come while nothing holds the issue back: it is issued with the key rights that it was judged with, or judged again
with those of this moment (R361, R376). -/
theorem payloadDone_ok (hq : s.issueWait q d = none) :
    s.payloadDone q .ok = ((if (s.wq q).kr ≠ u.kr ∧ u.fail ≠ some xWalkBus then (s.payloadBack q).payloadStart q d (s.wq q).kr a []
      else (s.payloadBack q).issueData q d u.kr a (s.readSegs u.segs) u.fail).turnRun q).settle := by
  have hq' : (s.payloadBack q).issueWait q d = none := ((payloadBack_turned hs q).issueWait_eq d).trans hq
  unfold State.payloadDone
  dsimp only
  rw [hu, hc]
  dsimp only
  rw [if_neg (not_not.mpr hw), if_pos rfl]
  change State.settle (State.turnRun (match (s.payloadBack q).issueWait q d with | some p => _ | none => _) q) = _
  rw [hq']
  dsimp only
  rw [if_neg (not_not.mpr rfl)]
  rfl

theorem payloadDone_issues (hq : s.issueWait q d = none) (hk : (s.wq q).kr = u.kr ∨ u.fail = some xWalkBus) :
    s.payloadDone q .ok = (((s.payloadBack q).issueData q d u.kr a (s.readSegs u.segs) u.fail).turnRun q).settle := by
  rw [payloadDone_ok hs hu hw hc hq, if_neg fun ⟨h1, h2⟩ => hk.elim h1 h2]

theorem payloadDone_restarts (hq : s.issueWait q d = none) (h1 : (s.wq q).kr ≠ u.kr) (h2 : u.fail ≠ some xWalkBus) :
    s.payloadDone q .ok = (((s.payloadBack q).payloadStart q d (s.wq q).kr a []).turnRun q).settle := by
  rw [payloadDone_ok hs hu hw hc hq, if_pos ⟨h1, h2⟩]

/-- The read failed (R162). -/
theorem payloadDone_fails (hr : rd ≠ .ok) (he : s.entryWait q d = none) :
    s.payloadDone q rd = ((((s.poisonRx rd).payloadBack q).issueDone q d a cLocalDma).turnRun q).settle := by
  have he' : ((s.poisonRx rd).payloadBack q).entryWait q d = none :=
    ((payloadBack_turned hs.poisonRx q).entryWait_eq d).trans ((poisonRx_entryWait hs).trans he)
  unfold State.payloadDone
  dsimp only
  rw [hu, hc]
  dsimp only
  rw [if_neg (not_not.mpr hw), if_neg hr]
  change State.settle (State.turnRun (match ((s.poisonRx rd).payloadBack q).entryWait q d with | some p => _ | none => _) q) = _
  rw [he']
  dsimp only
  rw [if_pos hr]
  rfl

/-- The payload translated again is read again, where some page of it is known (R361). -/
theorem payloadDone_rereads (hq : s.issueWait q d = none) (h1 : (s.wq q).kr ≠ u.kr) (h2 : u.fail ≠ some xWalkBus) {r : XRes}
    (hr : (s.xlate (.payload q) (s.wqOwner q) (s.wq q).asid d.laddr (payloadLen d) false false (s.wq q).kr []).2 = r)
    (hwait : r.wait = false) (hsegs : r.segs ≠ []) :
    CompletesVia (fun v => (v.turnRun q).settle) (.payloadReadDone q .ok) s (fun v => (v.wq q).head = (s.wq q).head ∧ KeepsMem s v ∧
      ∃ x, (v.wq q).turn = some x ∧ x.wait = .payload ∧ x.kr = (s.wq q).kr ∧ x.segs = r.segs ∧ x.fail = r.fail) := by
  have hT := payloadBack_turned hs q
  let x := (s.payloadBack q).xlate (.payload q) (s.wqOwner q) (s.wq q).asid d.laddr (payloadLen d) false false (s.wq q).kr []
  have hx2 : x.2 = r := by
    have hsame : SameXlt s (s.payloadBack q) := ⟨fun _ _ => rfl, rfl, rfl, rfl, _, rfl⟩
    exact (hsame.xlate_snd hs hT.inv ..).trans hr
  have hl : Looks (s.payloadBack q) x.1 := (Looks.refl hT.inv).xlate
  have hgo : (s.payloadBack q).payloadStart q d (s.wq q).kr a [] = x.1.payloadGo q d (s.wq q).kr a [] r := by
    unfold State.payloadStart
    rw [hT.wqOwner_eq, hT.asid_eq]
    change x.1.payloadGo q d (s.wq q).kr a [] x.2 = _
    rw [hx2]
  obtain ⟨o, ho⟩ := emits_eq (fun y => .hostRead (x.1.wqOwner q) y.1 y.2) r.segs x.1
  let f (y : Turn) : Turn := { y with wait := .payload, kr := (s.wq q).kr, segs := r.segs, fail := r.fail, inv := [] }
  have hreads : x.1.payloadGo q d (s.wq q).kr a [] r = ({ x.1 with out := o } : State).modTurn q f := by
    unfold State.payloadGo
    rw [if_neg (ne_true_of_eq_false hwait), if_neg hsegs, ho]
    rfl
  have hxw : ({ x.1 with out := o } : State).wq q = (s.payloadBack q).wq q := congrArg (fun m : QmgSt => mgetD m.wq q {}) hl.qmg_eq
  have hwq := wq_modTurn_same { x.1 with out := o } q f
  rw [hxw, payloadBack_turn hu] at hwq
  refine ⟨_, congrArg Host.Outcome.next ((payloadDone_restarts hs hu hw hc hq h1 h2).trans
    (congrArg (fun v => (State.turnRun v q).settle) (hgo.trans hreads))), ?_, hT.keepsMem.trans (hl.keepsMem.trans (.of_eq rfl)), _,
    congrArg WQ.turn hwq, rfl, rfl, rfl, rfl⟩
  rw [hwq]
  exact hT.head_eq

/-- The entry whose payload could not be read is issued and ends with LOCAL_DMA (R162). -/
theorem payloadDone_localDma (hr : rd ≠ .ok) (he : s.entryWait q d = none) (hcq : s.cqReady (s.wq q).cq = true)
    (hno : ∀ x ∈ (s.wq q).outst, x.cnt ≠ (s.wq q).head) :
    CompletesVia (fun v => ((v.finish q (s.newDesc q d 0 cLocalDma u.engine (s.wq q).kr) cLocalDma).turnRun q).settle)
      (.payloadReadDone q rd) s (s.issued q (s.newDesc q d 0 cLocalDma u.engine (s.wq q).kr)) := by
  have hdone := payloadDone_fails hs hu hw hc hr he
  have hT := payloadBack_turned (hs.poisonRx (rd := rd)) q
  have hcq' := (poisonRx_cqReady (rd := rd) hs (s.wq q).cq).trans hcq
  obtain ⟨r, e⟩ := poisonRx_onlyRegs s rd
  rw [e] at hdone hT hcq'
  have hturn : ((({ s with regs := r } : State).payloadBack q).wq q).turn = some u.woken := payloadBack_turn hu
  rw [hT.issueDone_eq hturn hno hcq'] at hdone
  exact ⟨_, congrArg Host.Outcome.next hdone, hT.issued hturn .refl hT.inv (s.wq q).kr a 0 cLocalDma⟩

end

end

/-- Settles O37: a payload that has come changes its turn alone, so the tests of the issue answer as before, and the entry is issued with
its data, read again under the new key rights, or ended. -/
theorem payloadReadDoneIssues : Obligations.PayloadReadDoneIssues := by
  unfold Obligations.PayloadReadDoneIssues
  intro s q u d a rd hs hu hw hc hno c data st
  have hT := payloadBack_turned hs q
  have hturn := payloadBack_turn hu
  refine ⟨fun hr hq hk => ?_, fun hr hq h1 h2 => ?_, fun hr he hcq => payloadDone_localDma hs hu hw hc hr he hcq hno⟩
  · subst hr
    have issues {v : State} (hv : (s.payloadBack q).issueData q d u.kr a data u.fail = v) :
        exec (.payloadReadDone q .ok) s = .next (v.turnRun q).settle :=
      congrArg Host.Outcome.next ((payloadDone_issues hs hu hw hc hq hk).trans (congrArg (fun v => (State.turnRun v q).settle) hv))
    have hhead := hT.head_eq
    have hpiste := hT.pisteFor_eq d
    refine ⟨fun ho hl => ?_, fun ho hl => ?_, fun ho hf => ?_, fun k ho hf hk => ?_⟩
    · have hv := issueData_putAll (s := s.payloadBack q) (q := q) (a := a) (fail := u.fail) ho hl
      rw [hhead, hpiste] at hv
      exact ⟨_, issues hv, hT.issuedOff hturn u.kr a _ _⟩
    · have hv := issueData_sendAll (s := s.payloadBack q) (q := q) (a := a) (kr := u.kr) (fail := u.fail) ho hl
      rw [hhead, hpiste] at hv
      exact ⟨_, issues hv, hT.issuedOff hturn u.kr a _ _⟩
    · have hv := issueData_cas128 (s := s.payloadBack q) (q := q) (a := a) (kr := u.kr) (data := data) ho
      rw [hhead, hpiste, ← hf] at hv
      exact ⟨_, issues hv, hT.issuedOff hturn u.kr a _ _⟩
    · have hv := issueData_reduce (s := s.payloadBack q) (q := q) (a := a) (kr := u.kr) (data := data) ho ((hT.collFor_eq d).trans hk)
      rw [hhead, ← hf] at hv
      exact ⟨_, issues hv, hT.issuedOff hturn u.kr a _ _⟩
  · subst hr
    exact fun hwait hsegs => payloadDone_rereads hs hu hw hc hq h1 h2 rfl hwait hsegs

end Sys2Proof.Machine

/-! # Request packets that are executed at once (R46, R227)

An engine that takes a request of a target context counts its turn and leaves everything that the checks of R227 ask of the state as it
was. `Serves s r` says that the checks every type of request shares pass in the state `s` in which the engine serves it. -/

namespace Sys2Proof.Machine

section
variable {s0 s : State} {r0 r : Req} {e : Nat}

/-- The server of a target context is the state itself, or the state with the steal and the turn counted. -/
theorem turnServer_turned (h : s.Inv) (q : Nat) {k : Nat} {u : State} (hk : k < 288) (hs : s.turnServer k = some (e, u)) :
    Turned q s u := by
  obtain ⟨⟨a, t⟩, ht, hx⟩ := Option.map_eq_some_iff.mp hs
  have hT : Turned q s t := serverOf_turned h hk ht
  obtain ⟨-, rfl⟩ := Prod.mk.inj hx
  have h1 : Turned q s (if a = k then t else t.pmu_ { code := 0x06, engine := some a }) := hT.ite (hT.counts (hT.inv.counts_pmu _))
  exact h1.counts (h1.inv.counts_pmu _)

/-- Nothing that every type of request asks keeps the state from executing the request (R227, R580). -/
structure Serves (s : State) (r : Req) : Prop where
  inv : s.Inv
  unit : s.unitReset r.pkt.ptype = false
  age : s.tooOld r = false
  ready : s.targetReady = true

theorem Turned.targetReady_eq {q : Nat} (h : Turned q s0 s) : s.targetReady = s0.targetReady := by
  unfold State.targetReady State.anyCluster
  rw [h.dstate_eq, h.fld_eq (by decide)]

theorem Turned.tooOld_eq {q : Nat} (h : Turned q s0 s) (r : Req) : s.tooOld r = s0.tooOld r := by
  unfold State.tooOld State.residence
  rw [h.tick_eq]

theorem Turned.unitReset_eq {q : Nat} (h : Turned q s0 s) (n : Nat) : s.unitReset n = s0.unitReset n := by
  obtain ⟨-, -, -, _, _, _, _, _, _, _, rfl⟩ := h
  rfl

theorem serves_of_takes (h : s0.Inv) (ht : s0.takes r0 e s) : Serves s { r0 with eng := e } := by
  obtain ⟨-, -, -, -, -, hunit, hage, hready, hserver⟩ := ht
  have hT : Turned 0 s0 s := turnServer_turned h 0 (Nat.mod_lt _ (by decide)) hserver
  exact ⟨hT.inv, (hT.unitReset_eq _).trans hunit, (hT.tooOld_eq _).trans hage, hT.targetReady_eq.trans hready⟩

/-- A request that an engine takes is executed by its type (R46). -/
theorem request_of_takes (ht : s0.takes r0 e s) : s0.request true r0 = (s.targetExec { r0 with eng := e }).settle := by
  obtain ⟨⟨hlegal, hlocal, hrx⟩, hexec, hbusy, hempty, hfull, -, -, hready, hserver⟩ := ht
  have hcl : s0.anyCluster = true := (Bool.and_eq_true_iff.mp hready).2
  have hroom : (!r0.loc && s0.respFull) = false := by
    rcases hfull with h | h <;> simp [h]
  unfold State.request
  rw [hlocal, hlegal, decide_eq_false (Nat.not_lt.mpr hrx)]
  simp only [hexec, hbusy, hempty, hroom, hcl, hserver, Bool.not_true, Bool.or_self, bne_self_eq_false, Bool.false_eq_true, if_false]

theorem exec_of_takes {c : Instr} {b : Bool} (ht : s0.takes r0 e s) (hc : exec c s0 = .next (s0.request b r0)) (hb : b = true) :
    exec c s0 = .next (s.targetExec { r0 with eng := e }).settle := by
  rw [hc, hb, request_of_takes ht]

/-- A command whose request comes to `g v`, where `P` holds of `v`. -/
theorem completesVia_of_exec {c : Instr} {g : State → State} {P : State → Prop} (hc : exec c s0 = .next (s.targetExec r).settle)
    (hv : ∃ v, s.targetExec r = g v ∧ P v) : CompletesVia (fun v => (g v).settle) c s0 P := by
  obtain ⟨v, hg, hP⟩ := hv
  exact ⟨v, by rw [hc, hg], hP⟩

namespace Serves

theorem targetExec_send (h : Serves s r) (hp : r.pkt.ptype = 0x04) : s.targetExec r = s.msgExec r := by
  unfold State.targetExec
  dsimp only
  rw [h.unit, hp]
  rfl

theorem targetExec_linv (h : Serves s r) (hp : r.pkt.ptype = 0x07) : s.targetExec r = s.linvExec r := by
  unfold State.targetExec
  dsimp only
  rw [h.unit, hp]
  rfl

theorem targetExec_lgrant (h : Serves s r) (hp : r.pkt.ptype = 0x09) : s.targetExec r = s.grantExec r := by
  unfold State.targetExec
  dsimp only
  rw [h.unit, hp]
  rfl

/-- A request that may be repeated passes the shared checks whatever came before it (R227). -/
theorem admitReq_repeatable (h : Serves s r) (go : State → State) : s.admitReq r false go = go s := by
  unfold State.admitReq
  simp only [h.age, h.ready, Bool.false_and, Bool.not_true, Bool.false_eq_true, if_false]

/-- A first copy passes the shared checks (R229, R232). -/
theorem admitReq_first (h : Serves s r) (hf : s.firstCopy r) (nonIdem : Bool) (go : State → State) : s.admitReq r nonIdem go = go s := by
  obtain ⟨hstart, hdup, -⟩ := hf
  unfold State.admitReq
  simp only [h.age, h.ready, hstart, hdup, ite_self, Bool.and_false, Bool.not_true, Bool.false_eq_true, if_false]

end Serves
end
end Sys2Proof.Machine

/-! # The first packet of a message (R264, R265, R267, R273) -/

namespace Sys2Proof.Machine

section
variable {s t u : State} {r : Req}

/-! ## Bytes written through bus segments -/

/-- A write through bus segments changes host memory alone, by the segments and the bytes. -/
theorem writeSegs_eq (l : List (Nat × Nat)) :
    ∀ (b : List Byte) (s : State), writeSegs l b s = { s with hostMem := (writeSegs l b s).hostMem } := by
  induction l with
  | nil => exact fun b s => rfl
  | cons x l ih => exact fun b s => ih (b.drop x.2) (s.write x.1 (b.take x.2))

theorem writeSegs_msg (l : List (Nat × Nat)) (b : List Byte) (s : State) : (writeSegs l b s).msg = s.msg := by
  rw [writeSegs_eq]

theorem writeSegs_hostMem_congr (l : List (Nat × Nat)) :
    ∀ (b : List Byte) {s t : State}, t.hostMem = s.hostMem → (writeSegs l b t).hostMem = (writeSegs l b s).hostMem := by
  induction l with
  | nil => exact fun b _ _ h => h
  | cons x l ih => exact fun b s t h => ih (b.drop x.2) (congrArg (fun m => memWrite m x.1 (b.take x.2)) h)

/-! ## The context of a new message -/

/-- The receive that a new message takes: the first of its queue that it matches (R264). -/
def State.recvHit (s : State) (r : Req) : Option Recv :=
  s.msg.posted.find? (fun x => x.q == rqOf r.pkt.mtag && x.matches_ r.pkt.mtag r.pkt.src)

/-- The context of a new message before its first packet joins it (R264, R265). -/
def State.newMsg (s : State) (r : Req) : MsgCtx :=
  { key := s.msg.next, id := r.pkt.mid, q := rqOf r.pkt.mtag, tag := r.pkt.mtag, recv := s.recvHit r, deadline := r.expire,
    tclass := r.pkt.tclass }

/-- A context that the packet of a message has joined (R270). -/
def MsgCtx.joined (c : MsgCtx) (k : Pkt) : MsgCtx :=
  { c with set := insertAsc c.set k.index, total := if k.last then some k.total else c.total }

/-- `t` is `s` with the context of the new message of `r`, whose first packet has not been placed. -/
structure MsgOpened (s : State) (r : Req) (t : State) : Prop where
  inv : t.Inv
  ctxs : t.msg.ctxs = s.msg.ctxs ++ [s.newMsg r]
  mem : t.hostMem = s.hostMem
  xlt : SameXlt s t

theorem SameXlt.of_counts (h : s.Inv) (hu : Counts s u) : SameXlt s u := by
  refine .of_looks ((Looks.refl h).counts hu) ?_
  obtain ⟨-, -, _, _, _, _, rfl⟩ := hu
  rfl

theorem MsgOpened.counts (h : MsgOpened s r t) (hu : Counts t u) : MsgOpened s r u := by
  have hx : SameXlt s u := h.xlt.trans (.of_counts h.inv hu)
  obtain ⟨hi, -, _, _, _, _, rfl⟩ := hu
  exact ⟨hi, h.ctxs, h.mem, hx⟩

/-- The first packet of a message is placed in a new context, when an unexpected message finds a header (R264, R265, R274). -/
theorem msgNew_opens (hs : s.Inv) (hfull : s.dupFull = false) (hroom : s.recvHit r = none → s.headersUsed < 262144) :
    ∃ t, MsgOpened s r t ∧ s.msgNew r = t.msgPlace r [] := by
  have hhead : ((s.recvHit r).isNone && decide (262144 ≤ s.headersUsed)) = false := by
    cases h : s.recvHit r with
    | none => simpa using hroom h
    | some x => rfl
  unfold State.msgNew
  extract_lets k q hit c posted msg s1 s2 s3
  have h1 : MsgOpened s r s1 := ⟨hs.update, rfl, rfl, fun _ _ => rfl, rfl, rfl, rfl, s.host.snapAt, rfl⟩
  have h2 : MsgOpened s r s2 := by
    unfold s2
    split
    · exact h1
    · exact ⟨hs.update, rfl, rfl, fun _ _ => rfl, rfl, rfl, rfl, s.host.snapAt, rfl⟩
  have h3 : MsgOpened s r s3 := by
    unfold s3
    split
    · exact h2.counts (h2.inv.counts_pmu _)
    · exact h2
  refine ⟨s3, h3, ?_⟩
  rw [hfull, Bool.and_false, if_neg Bool.false_ne_true]
  exact if_neg (by rw [show (hit.isNone && decide (262144 ≤ s.headersUsed)) = false from hhead]; exact Bool.false_ne_true)

/-- A first packet is the start of a new message (R273). -/
theorem Serves.msgExec_first (h : Serves s r) (hf : s.firstMessage r) : s.msgExec r = s.msgNew r := by
  obtain ⟨hstart, hdup, -, hctx, -, hq⟩ := hf
  have hst : ¬ ((s.wq (rqOf r.pkt.mtag)).st ≠ .active ∧ (s.wq (rqOf r.pkt.mtag)).st ≠ .suspended) := fun ⟨h1, h2⟩ => hq.elim h1 h2
  unfold State.msgExec
  simp only [h.age, h.ready, hstart, hdup, hctx, Option.filter_none, ite_self, Option.isSome_none, Bool.not_true, Bool.false_eq_true, if_false]
  exact if_neg hst

/-- The message's packets join the new context (R273). -/
theorem MsgOpened.msgCtx_eq (h : MsgOpened s r t) (hf : s.firstMessage r) : t.msgCtx r.pkt.mid = some (s.newMsg r) := by
  obtain ⟨-, -, -, hctx, hlive, -⟩ := hf
  have ht : t.tick = s.tick := congrArg TimeSt.elapsed h.xlt.time
  unfold State.msgCtx
  rw [h.ctxs, ht, List.find?_append, show s.msg.ctxs.find? _ = none from hctx]
  simp [State.newMsg, MsgCtx.complete, hlive]

theorem MsgOpened.slotsUsed_eq (h : MsgOpened s r t) : t.slotsUsed = s.slotsUsed := by
  unfold State.slotsUsed
  rw [h.ctxs, List.map_append, List.sum_append]
  rfl

/-! ## The place of a message's first packet -/

theorem mem_modMsg {c : MsgCtx} (hc : c ∈ t.msg.ctxs) (f : MsgCtx → MsgCtx) : f c ∈ (t.modMsg c.key f).msg.ctxs :=
  List.mem_map.mpr ⟨c, hc, if_pos (beq_self_eq_true c.key)⟩

section
variable {c : MsgCtx} (hc : t.msgCtx r.pkt.mid = some c) (htot : c.total = none) (hset : c.set = [])
include hc htot hset

/-- A packet of an unexpected message is kept in the unexpected store under its index (R265). -/
theorem msgPlace_stored (hr : c.recv = none) (hslots : t.slotsUsed < 524288) : t.msgPlace r [] =
    ((t.modMsg c.key (fun c => { c.joined r.pkt with store := mset c.store r.pkt.index r.pkt.payload })).answer r 0).msgSettle c.key := by
  unfold State.msgPlace
  simp only [hc, htot, hset, hr, List.contains_nil, Bool.false_eq_true, if_false]
  exact if_neg (Nat.not_le.mpr hslots)

/-- A packet of a matched message goes to its place in the receive's buffer (R267). -/
theorem msgPlace_matched {x : Recv} (hr : c.recv = some x) (hfailed : c.failed = false) {p : State × XRes}
    (hp : t.placeMsg (.message r) x r.pkt.index r.pkt.payload [] = p) (hw : p.2.wait = false) (hf : p.2.fail = none) :
    t.msgPlace r [] = ((p.1.modMsg c.key (fun c => c.joined r.pkt)).answer r 0).msgSettle c.key := by
  unfold State.msgPlace
  simp only [hc, htot, hset, hr, hfailed, hp, hw, hf, List.contains_nil, Option.isSome_none, Bool.false_eq_true, if_false]
  rfl

end

theorem placeMsg_beyond {acc : Acc} {x : Recv} {i : Nat} {l : List Byte} {got : List XEnt} (hb : kept x.cap i l = []) :
    s.placeMsg acc x i l got = (s, {}) := if_pos hb

theorem placeMsg_placed {acc : Acc} {x : Recv} {i : Nat} {l : List Byte} {got : List XEnt} {p : State × XRes} (hb : kept x.cap i l ≠ [])
    (hd : s.dmaStop = false) (hp : s.xlate acc x.func x.asid (x.laddr + 512 * i) (kept x.cap i l).length true false x.kr got = p)
    (hw : p.2.wait = false) (hf : p.2.fail = none) : s.placeMsg acc x i l got = (writeSegs p.2.segs (kept x.cap i l) p.1, p.2) := by
  have h : s.placeMsg acc x i l got = if p.2.wait = true ∨ p.2.fail.isSome = true then p
      else (writeSegs p.2.segs (kept x.cap i l) p.1, p.2) := by
    rw [← hp]
    exact (if_neg hb).trans (if_neg (by rw [hd]; exact Bool.false_ne_true))
  rw [h, hw, hf]
  exact if_neg (by simp)

/-- What the placing of a message's first packet in the buffer of the receive `y` leaves, where the packet's bytes below the receive's
capacity translate to `x` (R267). -/
theorem MsgOpened.placed (h : MsgOpened s r t) {y : Recv} (hd : s.dmaStop = false) {b : List Byte} {x : XRes}
    (hb : kept y.cap r.pkt.index r.pkt.payload = b)
    (hx : (s.xlate (.message r) y.func y.asid (y.laddr + 512 * r.pkt.index) b.length true false y.kr []).2 = x) (hs : s.Inv)
    (hknown : b ≠ [] → x.wait = false ∧ x.fail = none) :
    ∃ p, t.placeMsg (.message r) y r.pkt.index r.pkt.payload [] = p ∧ p.2.wait = false ∧ p.2.fail = none ∧ p.1.msg = t.msg ∧
      ∀ i, p.1.byte i = (if b = [] then s else writeSegs x.segs b s).byte i := by
  by_cases hnil : b = []
  · exact ⟨_, placeMsg_beyond (hb.trans hnil), rfl, rfl, rfl, fun i => by rw [if_pos hnil]; exact KeepsMem.of_eq h.mem i⟩
  · obtain ⟨hw, hf⟩ := hknown hnil
    have hdt : t.dmaStop = false := (h.xlt.flag_eq (by decide)).trans hd
    have hsnd := (h.xlt.xlate_snd hs h.inv (.message r) y.func y.asid (y.laddr + 512 * r.pkt.index) b.length true false y.kr []).trans hx
    have hlook : Looks t (t.xlate (.message r) y.func y.asid (y.laddr + 512 * r.pkt.index) b.length true false y.kr []).1 :=
      (Looks.refl h.inv).xlate
    subst hb
    generalize hq : t.xlate (.message r) y.func y.asid (y.laddr + 512 * r.pkt.index) _ true false y.kr [] = q at hsnd hlook
    subst hsnd
    obtain ⟨-, -, _, _, _, _, _, _, _, e⟩ := hlook
    refine ⟨_, placeMsg_placed hnil hdt hq hw hf, hw, hf, ?_, fun i => ?_⟩
    · rw [writeSegs_msg, e]
    · rw [if_neg hnil]
      refine KeepsMem.of_eq (writeSegs_hostMem_congr _ _ ?_) i
      rw [e]
      exact h.mem

/-! ## SEND_PACKET -/

/-- The first packet of a message that no receive matches (R265). -/
theorem Serves.send_stored (h : Serves s r) (hp : r.pkt.ptype = 0x04) (hf : s.firstMessage r) (hhit : s.recvHit r = none)
    (hheaders : s.headersUsed < 262144) (hslots : s.slotsUsed < 524288) :
    ∃ v : State, s.targetExec r = (v.answer r 0).msgSettle s.msg.next ∧
      (∃ c ∈ v.msg.ctxs, c.id = r.pkt.mid ∧ c.set = [r.pkt.index] ∧ c.store = [(r.pkt.index, r.pkt.payload)] ∧ c.recv = none ∧
        c.total = (if r.pkt.last then some r.pkt.total else none) ∧ c.deadline = r.expire) ∧ KeepsMem s v := by
  obtain ⟨-, -, hfull, -⟩ := id hf
  obtain ⟨t, ht, hnew⟩ := msgNew_opens (r := r) h.inv hfull fun _ => hheaders
  have hmem : s.newMsg r ∈ t.msg.ctxs := by rw [ht.ctxs]; exact List.mem_append_right _ (.head _)
  refine ⟨_, ?_, ⟨_, mem_modMsg hmem (fun c => { c.joined r.pkt with store := mset c.store r.pkt.index r.pkt.payload }),
    rfl, rfl, rfl, hhit, rfl, rfl⟩, .of_eq ht.mem⟩
  rw [h.targetExec_send hp, h.msgExec_first hf, hnew]
  exact msgPlace_stored (ht.msgCtx_eq hf) rfl rfl hhit (ht.slotsUsed_eq ▸ hslots)

/-- The first packet of a message that takes a receive (R264, R267). -/
theorem Serves.send_placed (h : Serves s r) (hp : r.pkt.ptype = 0x04) (hf : s.firstMessage r) {y : Recv} (hhit : s.recvHit r = some y)
    (hd : s.dmaStop = false) {b : List Byte} {x : XRes} (hb : kept y.cap r.pkt.index r.pkt.payload = b)
    (hx : (s.xlate (.message r) y.func y.asid (y.laddr + 512 * r.pkt.index) b.length true false y.kr []).2 = x)
    (hknown : b ≠ [] → x.wait = false ∧ x.fail = none) :
    ∃ v : State, s.targetExec r = (v.answer r 0).msgSettle s.msg.next ∧
      (∃ c ∈ v.msg.ctxs, c.id = r.pkt.mid ∧ c.set = [r.pkt.index] ∧ c.recv = some y ∧
        c.total = (if r.pkt.last then some r.pkt.total else none) ∧ c.deadline = r.expire) ∧
      ∀ i, v.byte i = (if b = [] then s else writeSegs x.segs b s).byte i := by
  obtain ⟨-, -, hfull, -⟩ := id hf
  obtain ⟨t, ht, hnew⟩ := msgNew_opens (r := r) h.inv hfull fun he => absurd (he.symm.trans hhit) (by simp)
  obtain ⟨p, hplace, hw, hfail, hmsg, hbytes⟩ := ht.placed hd hb hx h.inv hknown
  have hmem : s.newMsg r ∈ p.1.msg.ctxs := by rw [hmsg, ht.ctxs]; exact List.mem_append_right _ (.head _)
  refine ⟨_, ?_, ⟨_, mem_modMsg hmem (fun c => c.joined r.pkt), rfl, rfl, hhit, rfl, rfl⟩, hbytes⟩
  rw [h.targetExec_send hp, h.msgExec_first hf, hnew]
  exact msgPlace_matched (ht.msgCtx_eq hf) rfl rfl hhit rfl hplace hw hfail

end
end Sys2Proof.Machine

/-! # Invalidations, lock operations and grants at their target (R319, R420, R423, R425, R429) -/

namespace Sys2Proof.Machine

section
variable {s0 s t : State} {r0 r : Req} {e : Nat}

/-! ## LINV_PACKET (R319) -/

/-- A lease invalidation names this read or renewal: its block at a home of the sender's cell (R319). -/
def linvMeets (k p : Pkt) : Bool :=
  sameCell p.dest k.src && p.key % 2 ^ 32 == k.invIndex + 2 ^ 24 * k.invGen && p.offset / 4096 == k.invBlock

/-- What a LINV_PACKET does before it is answered (R319). -/
def State.invalidated (s : State) (k : Pkt) : State :=
  (({ s with win := { s.win with frames := s.win.frames.filter (fun f =>
        !(f.1 % 2 ^ 68 == gblock 0 k.invIndex k.invGen k.invBlock && f.2.home == k.src)) } } : State).markReads
    (linvMeets k) (fun x => { x with inv := k.src :: x.inv })).bump .NCC_INVRX_COUNT

theorem Serves.targetExec_linv_eq (h : Serves s r) (hp : r.pkt.ptype = 0x07) : s.targetExec r = (s.invalidated r.pkt).answer r 0 := by
  rw [h.targetExec_linv hp]
  unfold State.linvExec
  exact h.admitReq_repeatable _

theorem invalidated_frames (s : State) (k : Pkt) :
    ∀ f ∈ (s.invalidated k).win.frames, ¬ (f.1 % 2 ^ 68 = gblock 0 k.invIndex k.invGen k.invBlock ∧ f.2.home = k.src) := by
  rintro f hf ⟨hblock, hhome⟩
  have hne := (List.mem_filter.mp hf).2
  rw [beq_iff_eq.mpr hblock, beq_iff_eq.mpr hhome] at hne
  cases hne

theorem invalidated_tag {k : Pkt} {n : Nat} {y : TagEnt} (hy : mget s.ini.tags n = some y) (hp : y.pkt.ptype = 0x05)
    (hk : linvMeets k y.pkt = true) : mget (s.invalidated k).ini.tags n = some { y with inv := k.src :: y.inv } := by
  refine (mget_map s.ini.tags
    (fun x => if x.pkt.ptype == 0x05 && linvMeets k x.pkt then { x with inv := k.src :: x.inv } else x) n).trans ?_
  rw [hy]
  simp [hp, hk]

theorem invalidated_count (h : s.Inv) (k : Pkt) :
    (s.invalidated k).fld .NCC_INVRX_COUNT = min (2 ^ 32 - 1) (s.fld .NCC_INVRX_COUNT + 1) :=
  fld_bump_same h.regs .NCC_INVRX_COUNT 0 1 (by decide)

theorem invalidated_keepsRegs (h : s.Inv) (k : Pkt) : KeepsRegs s (s.invalidated k) [RegName.NCC_INVRX.addr 0] :=
  .bump (KeepsRegs.update .refl) h.update (.head _)

theorem invalidated_keepsMem (s : State) (k : Pkt) : KeepsMem s (s.invalidated k) := .bump (KeepsMem.update .refl)

/-! ## The meaning of a lock operation -/

/-- The lock operation of a SUB (R419). -/
def lockOp (r : Req) : Nat → State → Nat → Lock → State
  | 0 => fun s k l => s.lockTake r k l false
  | 1 => fun s k l => s.lockTake r k l true
  | 2 => fun s k l => s.lockGive r k l
  | 3 => fun s k l => s.lockCancel r k l
  | _ => fun s _ l => s.lockProbe r l

/-- The rows of lock operations, each with its SUB. -/
def lockRows (r : Req) : List (Nat × Instr) :=
  [(0, .lockopAcquire r), (1, .lockopTry r), (2, .lockopRelease r), (3, .lockopCancel r), (4, .lockopProbe r)]

/-- The lock that a lock operation names. -/
def lockKey (s : State) (r : Req) : Nat := tableKey (s.reqAlias r) r.pkt.lock

theorem Serves.targetExec_lockExec (h : Serves s r) (hp : r.pkt.ptype = 0x08) (hsub : r.pkt.sub < 5) :
    s.targetExec r = s.lockExec r (lockOp r r.pkt.sub) := by
  unfold State.targetExec
  dsimp only
  rw [h.unit, hp]
  generalize r.pkt.sub = n at *
  match n with
  | 0 | 1 | 2 | 3 | 4 => rfl

/-- A lock operation on a word that is DISABLED, and on any other (R419). -/
theorem Serves.lockExec_eq (h : Serves s r) (hf : s.firstCopy r) (op : State → Nat → Lock → State) :
    s.lockExec r op = if (s.lock (lockKey s r)).st = .disabled then s.lockAnswer r false cKeyInvalid 0 false
      else op s (lockKey s r) (s.lock (lockKey s r)) := by
  obtain ⟨-, -, hfull⟩ := id hf
  unfold State.lockExec
  dsimp only
  rw [h.admitReq_first hf, hfull, Bool.and_false, if_neg Bool.false_ne_true]
  rfl

/-- A lock operation on a word that is not DISABLED does what its SUB says. -/
theorem Serves.targetExec_lockOp (h : Serves s r) (hp : r.pkt.ptype = 0x08) (hf : s.firstCopy r) {n : Nat} (hn : n < 5) (hsub : r.pkt.sub = n)
    (hl : (s.lock (lockKey s r)).st ≠ .disabled) : s.targetExec r = lockOp r n s (lockKey s r) (s.lock (lockKey s r)) := by
  subst hsub
  exact (h.targetExec_lockExec hp hn).trans ((h.lockExec_eq hf _).trans (if_neg hl))

theorem Serves.targetExec_disabled (h : Serves s r) (hp : r.pkt.ptype = 0x08) (hf : s.firstCopy r) (hsub : r.pkt.sub < 5)
    (hl : (s.lock (lockKey s r)).st = .disabled) : s.targetExec r = s.lockAnswer r false cKeyInvalid 0 false :=
  (h.targetExec_lockExec hp hsub).trans ((h.lockExec_eq hf _).trans (if_pos hl))

theorem lockRow_lt {x : Nat × Instr} (hx : x ∈ lockRows r0) : x.1 < 5 := by
  simp only [lockRows, List.mem_cons, List.not_mem_nil, or_false] at hx
  rcases hx with rfl | rfl | rfl | rfl | rfl <;> simp

section
variable (hs0 : s0.Inv) (ht : s0.takes r0 e s) (hp : r0.pkt.ptype = 0x08) {x : Nat × Instr} (hx : x ∈ lockRows r0) (hsub : r0.pkt.sub = x.1)
include ht hp hx hsub

/-- The row of a lock operation is executed by the engine that takes its request. -/
theorem exec_lockRow : exec x.2 s0 = .next (s.targetExec { r0 with eng := e }).settle := by
  have hc : exec x.2 s0 = .next (s0.request (isLockop r0 x.1) r0) := by
    simp only [lockRows, List.mem_cons, List.not_mem_nil, or_false] at hx
    rcases hx with rfl | rfl | rfl | rfl | rfl <;> rfl
  exact exec_of_takes ht hc (by simp [isLockop, hp, hsub])

variable (hf : s.firstCopy { r0 with eng := e })
include hs0 hf

/-- A row whose operation leaves nothing to be said between its effect and its answer. -/
theorem lockRow_next {u : State} (hl : (s.lock (lockKey s { r0 with eng := e })).st ≠ .disabled)
    (hu : lockOp { r0 with eng := e } x.1 s (lockKey s { r0 with eng := e }) (s.lock (lockKey s { r0 with eng := e })) = u) :
    exec x.2 s0 = .next u.settle := by
  rw [exec_lockRow ht hp hx hsub, ← hu]
  exact congrArg (fun v : State => Host.Outcome.next v.settle) ((serves_of_takes hs0 ht).targetExec_lockOp hp hf (lockRow_lt hx) hsub hl)

/-- A row whose operation comes to `g v`, where `P` holds of `v`. -/
theorem lockRow_completes {g : State → State} {P : State → Prop} (hl : (s.lock (lockKey s { r0 with eng := e })).st ≠ .disabled)
    (hv : ∃ v, lockOp { r0 with eng := e } x.1 s (lockKey s { r0 with eng := e }) (s.lock (lockKey s { r0 with eng := e })) = g v ∧ P v) :
    CompletesVia (fun v => (g v).settle) x.2 s0 P := by
  obtain ⟨v, hg, hP⟩ := hv
  exact ⟨v, lockRow_next hs0 ht hp hx hsub hf hl hg, hP⟩

end

/-- ACQUIRE and TRY take the lock in one way but for the wait. -/
theorem lockTake_of_mem {x : Nat × Instr} (hx : x ∈ [(0, Instr.lockopAcquire r0), (1, .lockopTry r0)]) :
    x ∈ lockRows r0 ∧ ∃ b, ∀ s k l, lockOp r x.1 s k l = s.lockTake r k l b := by
  simp only [List.mem_cons, List.not_mem_nil, or_false] at hx
  rcases hx with rfl | rfl
  · exact ⟨.head _, false, fun _ _ _ => rfl⟩
  · exact ⟨.tail _ (.head _), true, fun _ _ _ => rfl⟩

/-! ## What each lock operation does (R420, R429) -/

section
variable {k : Nat} {l : Lock}

theorem lockTake_free (hl : l.st = .free) (b : Bool) : ∃ v : State, s.lockTake r k l b =
      v.lockAnswer r true aGranted (2 * b2n l.aband + 4 * b2n l.forced + 2 ^ 32 * add32 l.gseq 1) true ∧
    v.lock k = { l with st := .held, aband := false, forced := false, owner := (waiterOf r.pkt).coord, func := (waiterOf r.pkt).func,
                        wq := (waiterOf r.pkt).wq, gseq := add32 l.gseq 1 } ∧ KeepsMem s v :=
  ⟨_, if_pos hl, State.lock_setLock_same .., (keepsMem_setLock .refl).bump⟩

theorem lockTake_own (hl : l.st = .held) (ho : l.ownedBy (waiterOf r.pkt) = true) (b : Bool) :
    s.lockTake r k l b = s.lockAnswer r true aGranted (8 + 2 ^ 32 * l.gseq) true :=
  (if_neg (by rw [hl]; decide)).trans (if_pos ho)

theorem lockTake_busy (hl : l.st = .held) (ho : l.ownedBy (waiterOf r.pkt) = false) :
    s.lockTake r k l true = s.lockAnswer r true cLockBusy 0 false :=
  (if_neg (by rw [hl]; decide)).trans ((if_neg (by rw [ho]; decide)).trans (if_pos (Bool.true_or _)))

theorem Counts.lock_eq (h : Counts s t) (k : Nat) : t.lock k = s.lock k := by
  obtain ⟨-, -, _, _, _, _, rfl⟩ := h
  rfl

/-- A lock whose lift line a waiter has joined, with the record and the count of it (R420). -/
def State.lineJoined (s : State) (k : Nat) (l : Lock) (w : Waiter) : State :=
  ((s.recLine k 1 w).setLock k { l with line := l.line ++ [w] }).bump .LCK_WAIT_COUNT

theorem lineJoined_lock (s : State) (k : Nat) (l : Lock) (w : Waiter) : (s.lineJoined k l w).lock k = { l with line := l.line ++ [w] } :=
  State.lock_setLock_same ..

theorem lineJoined_keepsMem (s : State) (k : Nat) (l : Lock) (w : Waiter) : KeepsMem s (s.lineJoined k l w) :=
  (keepsMem_setLock (keepsMem_recLine .refl)).bump

theorem State.Inv.lineJoined (hs : s.Inv) (k : Nat) (l : Lock) (w : Waiter) : (s.lineJoined k l w).Inv := hs.recLine.setLock.bump

theorem lockTake_queued (hs : s.Inv) (hl : l.st = .held) (ho : l.ownedBy (waiterOf r.pkt) = false)
    (hline : l.line.any (fun x => x.same (waiterOf r.pkt)) = false) (hroom : s.lineUsed < 1048576) :
    ∃ v : State, s.lockTake r k l false = v.lockAnswer r true aQueued 0 false ∧
      v.lock k = { l with line := l.line ++ [waiterOf r.pkt] } ∧ KeepsMem s v := by
  have hc := (hs.lineJoined k l (waiterOf r.pkt)).counts_pmu { code := 0x13 }
  refine ⟨_, ?_, (hc.lock_eq k).trans (lineJoined_lock ..), KeepsMem.trans (lineJoined_keepsMem s k l _) hc.keepsMem⟩
  exact (if_neg (by rw [hl]; decide)).trans ((if_neg (by rw [ho]; decide)).trans
    ((if_neg (by rw [hline]; decide)).trans (if_neg (Nat.not_le.mpr hroom))))

/-- A RELEASE by the owner frees a lock with an empty line; a grant under way is not sent again (R420, R425). -/
theorem lockGive_frees (hs : s.Inv) (hl : l.st = .held ∨ l.st = .granting) (ho : l.ownedBy (waiterOf r.pkt) = true) (hline : l.line = []) :
    ∃ v : State, s.lockGive r k l = v.lockAnswer r true 0 0 false ∧ v.lock k = l.freed ∧ KeepsMem s v := by
  refine ⟨_, (if_pos ⟨hl, ho⟩).trans (by rw [lockPass_nil hline]), State.lock_setLock_same .., ?_⟩
  exact keepsMem_setLock (Sends.refl hs).cancelReqs.keepsMem

/-- A RELEASE by the owner grants the lock to the head of its line (R425). -/
theorem lockGive_passes (hs : s.Inv) (hl : l.st = .held ∨ l.st = .granting) (ho : l.ownedBy (waiterOf r.pkt) = true) {y : Waiter}
    {rest : List Waiter} (hline : l.line = y :: rest) :
    ∃ v : State, s.lockGive r k l = (v.whenProtected (.grant k (add32 l.gseq 1) (1 + 2 * b2n l.aband + 4 * b2n l.forced)) (fun u =>
        u.sendGrant k (1 + 2 * b2n l.aband + 4 * b2n l.forced))).lockAnswer r true 0 0 false ∧
      v.lock k = l.passed y rest ∧ KeepsMem s v := by
  refine ⟨_, (if_pos ⟨hl, ho⟩).trans (by rw [lockPass_cons hline]), passTo_lock .., ?_⟩
  exact (keepsMem_setLock (keepsMem_recLine (Sends.refl hs).cancelReqs.keepsMem)).bump

theorem lockGive_other (hl : l.st = .free ∨ l.ownedBy (waiterOf r.pkt) = false) :
    s.lockGive r k l = (s.bump .LCK_NOTOWNER_COUNT).lockAnswer r true cNotOwner 0 false := by
  refine if_neg fun ⟨hst, ho⟩ => ?_
  rcases hl with hl | hl
  · rcases hst with h | h <;> exact absurd (hl.symm.trans h) (by decide)
  · exact Bool.false_ne_true (hl.symm.trans ho)

theorem lockCancel_waiting (hl : l.line.contains (waiterOf r.pkt) = true) :
    ∃ v : State, s.lockCancel r k l = v.lockAnswer r false 0 0 false ∧
      v.lock k = { l with line := l.line.filter (· != waiterOf r.pkt) } ∧ KeepsMem s v := by
  refine ⟨_, congrArg (fun v : State => v.lockAnswer r false 0 0 false) (if_pos hl), State.lock_setLock_same .., ?_⟩
  exact keepsMem_setLock (keepsMem_recLine .refl)

theorem lockProbe_waiting (hl : l.line.contains (waiterOf r.pkt) = true) :
    s.lockProbe r l = s.lockAnswer r false aWaiting 0 false :=
  congrArg (fun a => s.lockAnswer r false a 0 false) (if_pos hl)

end

/-! ## LGRANT_PACKET (R423) -/

/-- The waiting record that a grant meets (R423). -/
def State.grantHit (s : State) (k : Pkt) : Option (Nat × WaitRec) :=
  s.lck.recs.find? (fun kv => kv.2.home == k.lhome && kv.2.lock == k.lock && kv.2.accepted.isNone && kv.2.q == k.lwq && kv.2.cnt == k.lidx)

/-- No record has been accepted with this grant already. -/
def State.newGrant (s : State) (k : Pkt) : Prop :=
  ∀ x ∈ s.lck.recs, x.2.home = k.lhome → x.2.lock = k.lock → ∀ t, x.2.accepted ≠ some (t, k.gseq)

/-- What a grant does with the waiting record that it meets (R423). -/
def State.grantMeets (s : State) (r : Req) : Option (Nat × WaitRec) → State
  | some (n, x) =>
    if (s.wq r.pkt.lwq).st = .active ∨ (s.wq r.pkt.lwq).st = .suspended then
      ((s.remember r false aAccepted).acquired n x (r.pkt.gflags + 2 ^ 32 * r.pkt.gseq)).answer r aAccepted
    else (s.remember r false aDeclined).answer r aDeclined
  | none => (s.remember r false aDeclined).answer r aDeclined

theorem Serves.grantExec_new (h : Serves s r) (hf : s.firstCopy r) (hn : s.newGrant r.pkt) :
    s.grantExec r = s.grantMeets r (s.grantHit r.pkt) := by
  obtain ⟨-, -, hfull⟩ := id hf
  unfold State.grantExec
  dsimp only
  rw [h.admitReq_first hf, hfull, Bool.and_false, if_neg Bool.false_ne_true]
  refine (if_neg fun hany => ?_).trans ?_
  · obtain ⟨kv, hkv, hc⟩ := List.any_eq_true.mp hany
    obtain ⟨hsame, hg⟩ := Bool.and_eq_true_iff.mp hc
    obtain ⟨hhome, hlock⟩ := Bool.and_eq_true_iff.mp hsame
    have hne := hn kv hkv (beq_iff_eq.mp hhome) (beq_iff_eq.mp hlock)
    cases ha : kv.2.accepted with
    | none => rw [ha] at hg; cases hg
    | some a =>
      rw [ha] at hg
      exact hne a.1 (by rw [ha, ← beq_iff_eq.mp hg])
  · unfold State.grantHit State.grantMeets
    rfl

/-- The state in which a waiting record is accepted with a grant, and its acquire has not completed (R422, R423). -/
def State.grantTaken (s : State) (r : Req) (n : Nat) : State :=
  (s.remember r false aAccepted).modRec n (fun x => { x with accepted := some (s.tick, (r.pkt.gflags + 2 ^ 32 * r.pkt.gseq) / 2 ^ 32) })

/-- A remembered answer changes the target's tables alone. -/
theorem State.remember_eq (s : State) (r : Req) (pending : Bool) (status d0 d1 : Nat) :
    ∃ g, s.remember r pending status d0 d1 = { s with tgt := g } := by
  unfold State.remember
  split <;> exact ⟨_, rfl⟩

theorem grantTaken_rec {n : Nat} {x : WaitRec} (hx : mget s.lck.recs n = some x) : mget (s.grantTaken r n).lck.recs n =
    some { x with accepted := some (s.tick, (r.pkt.gflags + 2 ^ 32 * r.pkt.gseq) / 2 ^ 32) } := by
  obtain ⟨_, e⟩ := s.remember_eq r false aAccepted 0 0
  unfold State.grantTaken
  rw [e]
  exact mget_mmod_same _ hx

theorem grantTaken_keepsMem (s : State) (r : Req) (n : Nat) : KeepsMem s (s.grantTaken r n) := by
  obtain ⟨_, e⟩ := s.remember_eq r false aAccepted 0 0
  unfold State.grantTaken
  rw [e]
  exact .of_eq rfl

/-- A waiting acquire completes with a grant, when its descriptor is still outstanding (R418). -/
def acquireDone (x : WaitRec) (d0 : Nat) (v : State) : State :=
  match v.desc x.q x.cnt with
  | some d => v.finish x.q d 0 d0 0
  | none => v

theorem Serves.grantExec_accepted (h : Serves s r) (hf : s.firstCopy r) (hn : s.newGrant r.pkt) {n : Nat} {x : WaitRec}
    (hhit : s.grantHit r.pkt = some (n, x)) (hq : (s.wq r.pkt.lwq).st = .active ∨ (s.wq r.pkt.lwq).st = .suspended) :
    s.grantExec r = (acquireDone x (r.pkt.gflags + 2 ^ 32 * r.pkt.gseq) (s.grantTaken r n)).answer r aAccepted := by
  rw [h.grantExec_new hf hn, hhit]
  refine (if_pos hq).trans ?_
  obtain ⟨_, e⟩ := s.remember_eq r false aAccepted 0 0
  unfold State.grantTaken
  rw [e]
  rfl

theorem Serves.grantExec_declined (h : Serves s r) (hf : s.firstCopy r) (hn : s.newGrant r.pkt) (hhit : s.grantHit r.pkt = none) :
    s.grantExec r = (s.remember r false aDeclined).answer r aDeclined := by
  rw [h.grantExec_new hf hn, hhit]
  rfl

end

/-- Settles O40: the engine that takes the request leaves what its checks ask as it was, so the packet reaches its type's meaning, which is one
branch of the message's context, of the lock word or of the waiting record. -/
theorem messageAndLockRequestRowsComplete : Obligations.MessageAndLockRequestRowsComplete := by
  unfold Obligations.MessageAndLockRequestRowsComplete
  intro s0 s r0 e hs0 ht r
  have h : Serves s r := serves_of_takes hs0 ht
  refine ⟨fun hp hf => ?_, fun hp => ?_, fun hp hf => ?_, fun hp hf hn => ?_⟩
  · have hx : exec (.sendPacket r0) s0 = .next (s.targetExec r).settle := exec_of_takes ht rfl (beq_iff_eq.mpr hp)
    exact ⟨fun hhit hheaders hslots => completesVia_of_exec hx (h.send_stored hp hf hhit hheaders hslots),
      fun y hhit hd hknown => completesVia_of_exec hx (h.send_placed hp hf hhit hd rfl rfl hknown)⟩
  · have hx : exec (.linvPacket r0) s0 = .next (s.targetExec r).settle := exec_of_takes ht rfl (beq_iff_eq.mpr hp)
    refine ⟨s.invalidated r.pkt, by rw [hx, h.targetExec_linv_eq hp], invalidated_frames s r.pkt, fun n y hy hy5 hcell hkey hblk => ?_,
      invalidated_count h.inv r.pkt, invalidated_keepsRegs h.inv r.pkt, invalidated_keepsMem s r.pkt⟩
    exact invalidated_tag hy hy5 (by unfold linvMeets; rw [hcell, hkey, hblk]; simp)
  · intro k l w
    have next {x : Nat × Instr} (hx : x ∈ lockRows r0) (hsub : r.pkt.sub = x.1) (hl : l.st ≠ .disabled) {u : State}
        (hu : lockOp r x.1 s k l = u) : exec x.2 s0 = .next u.settle := lockRow_next hs0 ht hp hx hsub hf hl hu
    have completes {x : Nat × Instr} (hx : x ∈ lockRows r0) (hsub : r.pkt.sub = x.1) (hl : l.st ≠ .disabled) {g : State → State}
        {P : State → Prop} (hv : ∃ v, lockOp r x.1 s k l = g v ∧ P v) : CompletesVia (fun v => (g v).settle) x.2 s0 P :=
      lockRow_completes hs0 ht hp hx hsub hf hl hv
    have hacq : (0, Instr.lockopAcquire r0) ∈ lockRows r0 := .head _
    have htry : (1, Instr.lockopTry r0) ∈ lockRows r0 := .tail _ (.head _)
    have hrel : (2, Instr.lockopRelease r0) ∈ lockRows r0 := .tail _ (.tail _ (.head _))
    have hcan : (3, Instr.lockopCancel r0) ∈ lockRows r0 := .tail _ (.tail _ (.tail _ (.head _)))
    have hprb : (4, Instr.lockopProbe r0) ∈ lockRows r0 := .tail _ (.tail _ (.tail _ (.tail _ (.head _))))
    have hfree (hl : l.st = .free) : l.st ≠ .disabled := by rw [hl]; decide
    have hheld (hl : l.st = .held) : l.st ≠ .disabled := by rw [hl]; decide
    have howned (hl : l.st = .held ∨ l.st = .granting) : l.st ≠ .disabled := by rcases hl with hl | hl <;> rw [hl] <;> decide
    refine ⟨fun x hx hsub hl => ?_, fun x hx hsub hl => ?_, fun x hx hsub hl ho => ?_,
      fun hsub hl ho => next htry hsub (hheld hl) (lockTake_busy hl ho),
      fun hsub hl ho hline hroom => completes hacq hsub (hheld hl) (lockTake_queued h.inv hl ho hline hroom),
      fun hsub hl ho hline => completes hrel hsub (howned hl) (lockGive_frees h.inv hl ho hline),
      fun y rest hsub hl ho hline => completes hrel hsub (howned hl) ?_,
      fun hsub hl ho => completes hrel hsub hl ⟨_, lockGive_other ho, rfl, fld_bump_same h.inv.regs .LCK_NOTOWNER_COUNT 0 1 (by decide),
        .bump .refl h.inv (.head _), .bump .refl⟩,
      fun hsub hl hw => completes hcan hsub hl (lockCancel_waiting hw),
      fun hsub hl hw => next hprb hsub hl (lockProbe_waiting hw)⟩
    · rw [exec_lockRow ht hp hx hsub]
      exact congrArg (fun v : State => Host.Outcome.next v.settle) (h.targetExec_disabled hp hf (hsub ▸ lockRow_lt hx) hl)
    · obtain ⟨hrow, b, htake⟩ := lockTake_of_mem (r := r) hx
      exact completes hrow hsub (hfree hl) (htake s k l ▸ lockTake_free hl b)
    · obtain ⟨hrow, b, htake⟩ := lockTake_of_mem (r := r) hx
      exact next hrow hsub (hheld hl) ((htake s k l).trans (lockTake_own hl ho b))
    · obtain ⟨v, hv, hlock, hmem⟩ := lockGive_passes (r := r) (k := k) h.inv hl ho hline
      refine ⟨v, hv, ?_⟩
      rw [hlock]
      exact ⟨rfl, rfl, rfl, rfl, rfl, rfl, hmem⟩
  · have hx : exec (.lgrantPacket r0) s0 = .next (s.targetExec r).settle := exec_of_takes ht rfl (beq_iff_eq.mpr hp)
    refine ⟨fun n x hhit hrec hq => ?_, fun hhit => ?_⟩
    · have he := (h.targetExec_lgrant hp).trans (h.grantExec_accepted hf hn hhit hq)
      exact ⟨s.grantTaken r n, hx.trans (congrArg (fun v : State => Host.Outcome.next v.settle) he), grantTaken_rec hrec,
        grantTaken_keepsMem s r n⟩
    · rw [hx, h.targetExec_lgrant hp, h.grantExec_declined hf hn hhit]

end Sys2Proof.Machine

/-! # Timers of messages and collectives (R278, R397, R405, R407) -/

namespace Sys2Proof.Machine

section
variable {s t : State}

/-! ## REASSEMBLY_TIMEOUT (R278) -/

/-- A message context and the suppression entry that its first packet reserved, discarded (R274, R278). -/
def State.msgGone (s : State) (c : MsgCtx) : State :=
  { s.dropMsg c.key with tgt := { s.tgt with dup := s.tgt.dup.filter (fun kv => !(kv.1 == c.id.packed && kv.2.expire == c.deadline)) } }

theorem msgTimeout_unmatched {c : MsgCtx} (hr : c.recv = none) :
    s.msgTimeout c = (s.msgGone c).pmuQ 0x12 1 c.q none none (some c.tclass) := by
  unfold State.msgTimeout
  rw [hr]
  rfl

theorem msgTimeout_matched {c : MsgCtx} {x : Recv} (hr : c.recv = some x) :
    s.msgTimeout c = (s.msgGone c).recvEnd c x (if c.failed then cLocalFault else cReassembly) := by
  unfold State.msgTimeout
  rw [hr]
  rfl

theorem msgAt_dropMsg_same (s : State) (n : Nat) : (s.dropMsg n).msgAt n = none := by
  refine List.find?_eq_none.mpr fun c hc => ?_
  have hne : (c.key != n) = true := (List.mem_filter.mp hc).2
  simpa using hne

theorem msgAt_dropMsg_ne (s : State) {n k : Nat} (hk : k ≠ n) : (s.dropMsg n).msgAt k = s.msgAt k := by
  refine (List.find?_filter ..).trans (List.find?_congr fun c _ => ?_)
  by_cases h : c.key = k
  · simp [h, hk]
  · simp [h]

/-- What the end of a message at its deadline leaves: its context and its suppression entry are gone. -/
structure MsgEnded (s : State) (c : MsgCtx) (t : State) : Prop where
  ctx : t.msgAt c.key = none
  others : ∀ n, n ≠ c.key → t.msgAt n = s.msgAt n
  dup : ∀ d, mget t.tgt.dup c.id.packed = some d → d.expire ≠ c.deadline
  regs : KeepsCounted s t []
  mem : KeepsMem s t

theorem msgGone_ended (c : MsgCtx) : MsgEnded s c (s.msgGone c) where
  ctx := msgAt_dropMsg_same s c.key
  others _ hn := msgAt_dropMsg_ne s hn
  dup d hd he := by
    have hk := (List.mem_filter.mp (mem_of_mget hd)).2
    simp [he] at hk
  regs := .refl
  mem := .of_eq rfl

theorem MsgEnded.counts {c : MsgCtx} {u : State} (h : MsgEnded s c t) (hu : Counts t u) : MsgEnded s c u := by
  have hm := hu.keepsMem
  obtain ⟨-, hk, _, _, _, _, rfl⟩ := hu
  exact ⟨h.ctx, h.others, h.dup, h.regs.trans hk, h.mem.trans hm⟩

theorem reassemblyTimeout_due {i : ReqId} {c : MsgCtx} (hc : s.msg.ctxs.find? (fun c => c.id == i && !c.complete) = some c)
    (hd : c.deadline ≤ s.tick) : exec (.reassemblyTimeout i) s = .next (s.msgTimeout c) := by
  refine congrArg Host.Outcome.next (?_ : s.reassemblyLate i = _)
  unfold State.reassemblyLate
  rw [hc]
  exact if_pos hd

theorem reassemblyTimeout_early {i : ReqId} {c : MsgCtx} (hc : s.msg.ctxs.find? (fun c => c.id == i && !c.complete) = some c)
    (hd : s.tick < c.deadline) : exec (.reassemblyTimeout i) s = .next s := by
  refine congrArg Host.Outcome.next (?_ : s.reassemblyLate i = _)
  unfold State.reassemblyLate
  rw [hc]
  exact if_neg (Nat.not_le.mpr hd)

theorem reassemblyTimeout_complete {i : ReqId} (h : ∀ c ∈ s.msg.ctxs, c.id = i → c.complete = true) :
    exec (.reassemblyTimeout i) s = .next s := by
  refine congrArg Host.Outcome.next (?_ : s.reassemblyLate i = _)
  have hc : s.msg.ctxs.find? (fun c => c.id == i && !c.complete) = none :=
    List.find?_eq_none.mpr fun c hm he => by
      obtain ⟨hid, hopen⟩ := Bool.and_eq_true_iff.mp he
      rw [h c hm (beq_iff_eq.mp hid)] at hopen
      cases hopen
  unfold State.reassemblyLate
  rw [hc]

/-! ## COLL_PROBE_TIMER (R397) -/

section
variable {k peer since : Nat} (ha : s.awaits k peer = some since)
include ha

theorem collProbeTimer_idle
    (h : s.dstate = false ∨ s.tick < max since (mgetD (s.ctx k).probeAt peer 0) + s.fld .COL_PROBEINT_INT) :
    exec (.collProbeTimer k peer) s = .next s := by
  refine congrArg Host.Outcome.next (?_ : s.collProbeDue k peer = s)
  unfold State.collProbeDue
  rw [ha]
  refine if_neg fun ⟨hd, hle⟩ => ?_
  rcases h with h | h
  · exact Bool.false_ne_true (h.symm.trans hd)
  · exact Nat.not_le.mpr h hle

theorem collProbeTimer_due (hd : s.dstate = true)
    (hle : max since (mgetD (s.ctx k).probeAt peer 0) + s.fld .COL_PROBEINT_INT ≤ s.tick) :
    CompletesVia (fun v => (v.sendColl k peer 2 (s.ctx k).completed false {}).settle) (.collProbeTimer k peer) s (fun v =>
      mget (v.ctx k).probeAt peer = some s.tick ∧ (v.ctx k).insts = (s.ctx k).insts ∧ v.regs = s.regs ∧ KeepsMem s v) := by
  refine ⟨s.modCtx k (fun c => { c with probeAt := mset c.probeAt peer s.tick }), congrArg Host.Outcome.next ?_, ?_, ?_, rfl, .of_eq rfl⟩
  · unfold State.collProbeDue
    rw [ha]
    exact if_pos ⟨hd, hle⟩
  · rw [State.modCtx_ctx_same]
    exact mget_mset_same ..
  · rw [State.modCtx_ctx_same]

end

/-! ## COUNTER_BATCH_SEND and CONSTITUENT_EXPIRE (R405, R407) -/

/-- The constituents of a context's batch that have waited 1.5 ms (R407). -/
def State.lateBatch (s : State) (k : Nat) : List Constit := (s.ctx k).batch.filter (fun x => decide (x.origin + 1500000 ≤ s.tick))

/-- The constituents of a context's batch that may still leave (R407). -/
def State.liveBatch (s : State) (k : Nat) : List Constit := (s.ctx k).batch.filter (fun x => decide (s.tick < x.origin + 1500000))

/-- The late constituents taken out of their batch, and not yet answered. -/
def State.batchCut (s : State) (k : Nat) : State := s.modCtx k (fun c => { c with batch := s.liveBatch k })

theorem constitExpire_eq (s : State) (k : Nat) : s.constitExpire k =
    ((s.lateBatch k).foldl (fun t x => t.constitAnswer x cUnknown 0 x.req.pkt.age) (s.batchCut k)).unpark (fun r => r == .batch k) := by
  unfold State.constitExpire State.batchCut State.liveBatch State.lateBatch State.modCtx
  simp only [← decide_not, Nat.not_le]

theorem batchCut_ctx (s : State) (k : Nat) : (s.batchCut k).ctx k = { s.ctx k with batch := s.liveBatch k } := s.modCtx_ctx_same k _

theorem counterBatchSend_idle {k : Nat}
    (h : (s.ctx k).flight ≠ [] ∨ s.tick < (s.ctx k).batchAt + s.fld .COL_CWIN_WIN ∨ s.dstate = false) :
    exec (.counterBatchSend k) s = .next s := by
  refine congrArg Host.Outcome.next (?_ : s.batchDue k = s)
  refine if_neg fun ⟨_, hflight, _, hle, hd⟩ => ?_
  rcases h with h | h | h
  · exact h hflight
  · exact Nat.not_le.mpr h hle
  · exact Bool.false_ne_true (h.symm.trans hd)

theorem counterBatchSend_due {k : Nat} (hst : (s.ctx k).st = .set) (hflight : (s.ctx k).flight = []) (hbatch : (s.ctx k).batch ≠ [])
    (hle : (s.ctx k).batchAt + s.fld .COL_CWIN_WIN ≤ s.tick) (hd : s.dstate = true) :
    exec (.counterBatchSend k) s = .next (s.batchSend k).settle :=
  congrArg Host.Outcome.next (if_pos ⟨hst, hflight, hbatch, hle, hd⟩ : s.batchDue k = _)

theorem ctx_unpark (s : State) (p : Park → Bool) (k : Nat) : (s.unpark p).ctx k = s.ctx k := by
  obtain ⟨_, e⟩ := s.unpark_eq p
  rw [e]
  rfl

/-- A merged request takes the constituents of the moment with it as it takes its tag (R405, R668). -/
theorem mergedFill_eq {k : Nat} {x : Constit} {l : List Constit} (h : s.liveBatch k = x :: l) (w : TagWait) :
    ∃ s1 w1, s.mergedFill k w = some (s1, w1) ∧ s1.ctx k = { s.ctx k with batch := s.lateBatch k, flight := s.liveBatch k } ∧
      w1.origin = some (l.foldl (fun a (y : Constit) => min a y.origin) x.origin) ∧
      w1.pkt = { w.pkt with dest := if (s.ctx k).parentLost then (s.ctx k).root else (s.ctx k).parent, tclass := (s.ctx k).tclass,
                            ext := extColl k 3 false 0 (s.ctx k).setupId 0 0 0,
                            payload := leBytes 8 (((s.liveBatch k).map Constit.addend).sum % 2 ^ 64) } := by
  have hlate (y : Constit) : (!decide (s.tick < y.origin + 1500000)) = decide (y.origin + 1500000 ≤ s.tick) := by
    rw [← decide_not, decide_eq_decide]
    exact Nat.not_lt
  unfold State.mergedFill
  dsimp only
  rw [show (s.ctx k).batch.filter (fun y => decide (s.tick < y.origin + 1500000)) = x :: l from h]
  refine ⟨_, _, rfl, ?_, rfl, ?_⟩
  · simp only [hlate, h]
    exact (ctx_unpark ..).trans (s.modCtx_ctx_same k _)
  · rw [h]

end

/-- Settles O44: a message's timer drops its context and its suppression entry before its receive ends, and a batch's timers take the late
constituents out before they are answered. -/
theorem messageAndCollectiveTimerRowsComplete : Obligations.MessageAndCollectiveTimerRowsComplete := by
  unfold Obligations.MessageAndCollectiveTimerRowsComplete
  intro s hs
  refine ⟨fun i => ⟨fun c hc => ?_, reassemblyTimeout_complete⟩,
    fun k peer since ha => ⟨fun hd => collProbeTimer_idle ha (.inl hd), fun hle hd => collProbeTimer_due ha hd hle,
      fun hlt => collProbeTimer_idle ha (.inr hlt)⟩,
    fun k => ⟨fun hst hflight hbatch hle hd => ?_, fun w x l h => mergedFill_eq h w, counterBatchSend_idle, ?_⟩⟩
  · obtain ⟨hid, -⟩ := Bool.and_eq_true_iff.mp (List.find?_some (p := fun c : MsgCtx => c.id == i && !c.complete) hc)
    obtain rfl := beq_iff_eq.mp hid
    refine ⟨fun hd _ => ⟨fun hr => ?_, fun x hr => ?_⟩, reassemblyTimeout_early hc⟩
    · obtain ⟨hctx, hothers, hdup, hregs, hmem⟩ := (msgGone_ended c).counts (State.Inv.counts_pmu (s := s.msgGone c) hs _)
      exact ⟨_, (reassemblyTimeout_due hc hd).trans (congrArg _ (msgTimeout_unmatched hr)), hctx, hothers, hdup, hregs, hmem⟩
    · obtain ⟨hctx, hothers, hdup, hregs, hmem⟩ := msgGone_ended (s := s) c
      exact ⟨_, (reassemblyTimeout_due hc hd).trans (congrArg _ (msgTimeout_matched hr)), hctx, hothers, hdup, hregs, hmem⟩
  · refine ⟨s.batchCut k, (counterBatchSend_due hst hflight hbatch hle hd).trans ?_, batchCut_ctx s k, rfl, .of_eq rfl⟩
    unfold State.batchSend
    rw [constitExpire_eq]
    rfl
  · refine ⟨s.batchCut k, ?_, batchCut_ctx s k, rfl, .of_eq rfl⟩
    exact congrArg (fun v : State => Host.Outcome.next v.settle) (constitExpire_eq s k)

end Sys2Proof.Machine
